-- ==== Sys2Proof/Word.lean ====
section
/-! DEFINITION.  The machine's words: bytes, 32-bit registers and 64-bit values, and the plainest
arithmetic on bit ranges of a natural number. -/

namespace Sys2Proof

/-- A byte of pool memory. -/
abbrev Byte := BitVec 8

/-- A setup register (R12: registers are 32 bits wide and little-endian). -/
abbrev Word := BitVec 32

/-- A 64-bit value: scalar registers of a program, counters, sequence numbers. -/
abbrev DWord := BitVec 64

/-- Bits `hi` down to `lo` of `x`. -/
def getBits (x hi lo : Nat) : Nat := x / 2 ^ lo % 2 ^ (hi + 1 - lo)

/-- `x` with bits `hi` down to `lo` replaced by the low bits of `v`. -/
def setBits (x hi lo v : Nat) : Nat :=
  x / 2 ^ (hi + 1) * 2 ^ (hi + 1) + v % 2 ^ (hi + 1 - lo) * 2 ^ lo + x % 2 ^ lo

/-- `x + n`, held at `2^w - 1` (a counter that saturates). -/
def satAdd (w x n : Nat) : Nat := min (x + n) (2 ^ w - 1)

/-- The `n` bytes of `v`, least significant first (R12: little-endian). -/
def leBytes : Nat → Nat → List Byte
  | 0, _ => []
  | n + 1, v => BitVec.ofNat 8 v :: leBytes n (v / 256)

/-- The value of a little-endian byte string. -/
def ofLeBytes : List Byte → Nat
  | [] => 0
  | b :: bs => b.toNat + 256 * ofLeBytes bs

/-- `xs` cut or filled with `d` to exactly `n` entries. -/
def fitTo {α : Type} (d : α) : Nat → List α → List α
  | 0, _ => []
  | n + 1, [] => d :: fitTo d n []
  | n + 1, x :: xs => x :: fitTo d n xs

end Sys2Proof
end

