-- ==== Sys2Proof/Types.lean ====
section
/-! DEFINITION.  The operand types of the commands: who acts, and what a command names. -/

namespace Sys2Proof

/-- An MCTP path (R521): I3C, or PCI Express vendor-defined messages of a host port. -/
inductive MctpPath where
  | i3c
  | vdm (port : Fin 16)
  deriving DecidableEq, Repr

/-- A management function (R33, R135): the FM-owned logical device of a host port, the MCTP path, or a
logical device, numbered port × 16 + logical device. -/
inductive Fn where
  | fm (port : Fin 16)
  | mctp (p : MctpPath)
  | ld (n : Fin 256)
  deriving DecidableEq, Repr

/-- Who owns a mailbox channel or sends to it: a management function or a Pefin node (R139). -/
inductive Sender where
  | fn (f : Fn)
  | node (n : BitVec 20)
  deriving DecidableEq, Repr

/-- Where an access to a line comes from: a host logical device, a Pefin node, an engine working for
a partition, or the module itself. -/
inductive Requester where
  | host (fn : Nat)
  | node (n : Nat)
  | engine (ptn : Nat)
  | firmware
  deriving DecidableEq, Repr

/-- The source of a memory error record (SOURCE of Table 6-5). -/
inductive RecSource where
  | demand | turner | copyIn | patrol | resync
  deriving DecidableEq, Repr

/-- The code of a source in Table 6-5. -/
def RecSource.code : RecSource → Nat
  | .demand => 1
  | .turner => 2
  | .copyIn => 3
  | .patrol => 4
  | .resync => 5

/-- Who receives an error or gate record (R189, R270). -/
inductive Recipient where
  | fm
  | ld (fn : Nat)
  | node (n : Nat)
  | group (g : Nat)
  deriving DecidableEq, Repr

/-- What identifies a record for coalescing: KIND and SOURCE of Table 6-5, or KIND, PORT, LD and SPID of
Table 9-3, or KIND of Table 13-9 with its link; `address` is the record of an access to a DPA in neither range (R11),
whose KIND code the spec does not give. -/
inductive RecKey where
  | mem (kind : Nat) (source : RecSource)
  | address (source : RecSource)
  | gate (kind port ld spid : Nat)
  | link (kind link : Nat)
  deriving DecidableEq, Repr

/-- Who writes a register that starts an action: firmware, or a management function. -/
inductive Actor where
  | firmware
  | fn (f : Fn)
  deriving DecidableEq, Repr

/-- A CXL.mem request: a read or a write of one line, and what the host may hold of it afterwards: 0 nothing, 1 a
shared copy, 2 an exclusive copy (R277).  A write sends the masked bytes of 64, or poison. -/
inductive HostOp where
  | read (keep : Fin 3)
  | write (keep : Fin 3) (mask : BitVec 64) (data : BitVec 512) (poison : Bool)
  deriving DecidableEq, Repr

/-- A path of the SPDM responder (R476): the DOE mailbox of a logical device or of the FM-owned logical device of a port,
or MCTP. -/
inductive SpdmPath where
  | doe (fn : Fin 256)
  | doeFm (port : Fin 16)
  | mctp (p : MctpPath)
  deriving DecidableEq, Repr

/-- An SRAM array that takes a double-bit error (Table 6-6), with what it names there; the router's buffer pool has a row of
its own. -/
inductive SramArray where
  | cacheData (dpa : BitVec 52)
  | cacheTag
  | engine (core : Fin 324)
  | streamOrWatch
  | translations
  | helm (die : Fin 4)
  deriving DecidableEq, Repr

/-- Where a corrected single-bit error lies (R190, R430): in a way of a slice's set group, in a slot of the router's buffer
pool (by its number over the four dies), or elsewhere. -/
inductive SramWord where
  | way (slice : Fin 36) (group : BitVec 8) (way : Fin 16)
  | slot (slot : BitVec 19)
  | other
  deriving DecidableEq, Repr

/-- What an almanac word belongs to (R191): the slot of RBT_FW_PREF that holds its latest value, or the other; a
configuration copy (true is B); the training and repair data of a stack; a health counter (RAS_SINGLE_COUNT, RAS_DOUBLE_COUNT,
RAS_LOST_LINES, RAS_DIE_LOSS_COUNT0–3). -/
inductive AlmRegion where
  | rwp (latest : Bool)
  | copy (b : Bool)
  | training (stack : Fin 18)
  | health (counter : Fin 7)
  deriving DecidableEq, Repr

/-- A unit with a crossing buffer (Table 2-11). -/
inductive CrossUnit where
  | pc (stack : Fin 18) (pc : Fin 64)
  | link (l : Fin 96)
  | port (p : Fin 16)
  | cave (ch : Fin 32)
  | binnacle
  deriving DecidableEq, Repr

/-- A step of an entry's way through a crossing buffer (Table 2-12): the filling side writes its data and sets its flag;
the taking side sees the flag, takes the data and clears it; the cleared flag is back at the filling side. -/
inductive CrossStep where
  | fill (data : List Byte)
  | take
  | free
  deriving DecidableEq, Repr

/-- A whole slot image (R88, R494): what its signatures and digests are found to be (R89), the vendor key slot whose
digests its two public keys match, its security version, the slot its manifest names to revoke, and the digests of its
manifest and of its helm, binnacle, Bexa microcode and PHY images. -/
structure FwImage where
  mldsaOk : Bool
  ecdsaOk : Bool
  digestsOk : Bool
  key : Option (Fin 4)
  svn : BitVec 8
  revoke : Option (Fin 4)
  digests : List (BitVec 384)
  deriving DecidableEq, Repr

/-- What the timings of Table 5-2 allow in one command slot: the requests they forbid (a turner read is named 2^32 + its place
in the order of entry), those older than AGE_MAX, whether a refresh of the next bank fits, how many nanoseconds the slot takes. -/
structure SlotTiming where
  blocked : List Nat := []
  aged : List Nat := []
  shut : List Nat := []
  refreshFits : Bool := true
  ns : Nat := 0
  deriving DecidableEq, Repr

/-- What a REQ message of the rose ring asks for (Table 9-5): a shared copy, the line owned, its current data without a copy,
ownership of a line held shared, a write from a port stop, an operation on a synchronisation object. -/
inductive RoseOp where
  | shared
  | own
  | current
  | upgrade
  | write
  | sync
  deriving DecidableEq, Repr

/-- Where a writeback is (R285): sent by its stop, in its buffer at the home stop, acknowledged. -/
inductive RoseStep where
  | sent
  | arrives
  | acknowledged
  deriving DecidableEq, Repr

/-- How a flash page was read (Table 7-7): clean, corrected by the code, or only after read retry. -/
inductive FlashRead where
  | clean
  | corrected
  | retried
  deriving DecidableEq, Repr

/-- What makes an automatic capture fall due (Table 18-4): a ring without a completion for HANG_MS, a transaction of the rose
ring open for as long, or an OFF bit stuck on a link. -/
inductive HangCause where
  | ring (r : Fin 4096)
  | rose (line : BitVec 52)
  | off (link : Fin 96)
  deriving DecidableEq, Repr

end Sys2Proof
end

