-- ==== Sys2Proof/Syntax.lean ====
section
/-! DEFINITION.  The commands of the block: one constructor per row of spec/opcode_table.json, in the
table's order, with the row's operands. -/

namespace Sys2Proof

/-- A command (spec/opcode_table.json). -/
inductive Instr where
  /-- REGISTER_WRITE (R15) -/
  | registerWrite (f : Fn) (addr : BitVec 24) (value : BitVec 32)
  /-- LO_HALF_READ (R13) -/
  | loHalfRead (f : Fn) (addr : BitVec 24)
  /-- BAD_REGISTER_ACCESS (R32) -/
  | badRegisterAccess (f : Fn) (off : BitVec 24) (width : BitVec 4)
  /-- SETUP_LOCK_SET (R35) -/
  | setupLockSet (by_ : Actor)
  /-- POWER_ON (R46) -/
  | powerOn
  /-- MAIN_STAGES_START (R46) -/
  | mainStagesStart
  /-- UNDERVOLTAGE_SHUTDOWN (R46) -/
  | undervoltageShutdown
  /-- OVERVOLTAGE_SHUTDOWN (R46) -/
  | overvoltageShutdown
  /-- INPUT_LOW (R46) -/
  | inputLow (on : Bool)
  /-- INPUT_HIGH (R46) -/
  | inputHigh (on : Bool)
  /-- PEAK_POWER_LIMIT (R47) -/
  | peakPowerLimit
  /-- POWER_EXCURSION_TIMEOUT (R47) -/
  | powerExcursionTimeout (unmet : Bool)
  /-- SET_POWER_LIMIT (R47) -/
  | setPowerLimit (watts : BitVec 16)
  /-- POWER_STAGE_FAIL (R48) -/
  | powerStageFail (die : Fin 4) (stage : Fin 2)
  /-- PWR_FAIL_ASSERT (R50) -/
  | pwrFailAssert
  /-- FLUSH_COMPLETE (R128) -/
  | flushComplete
  /-- PWR_FAIL_RELEASE (R52) -/
  | pwrFailRelease
  /-- PWR_FAIL_RESUME (R52) -/
  | pwrFailResume
  /-- PWR_FAIL_STUCK (R53) -/
  | pwrFailStuck
  /-- VCORE_DROOP (R56) -/
  | vcoreDroop (die : Fin 4)
  /-- THERMAL_SAMPLE (R57) -/
  | thermalSample (tj : BitVec 32) (tcase : BitVec 144)
  /-- THROTTLE_STEP (R57) -/
  | throttleStep (die : Fin 4)
  /-- VCORE_RAISE_STEP (R67) -/
  | vcoreRaiseStep (die : Fin 4) (setPoint : Option (BitVec 10) := none) (within : Bool := false)
  /-- BN_XIN_LOSS (R63) -/
  | bnXinLoss
  /-- CROSSING_INBOUND (R69) -/
  | crossingInbound (unit : CrossUnit) (cross : CrossStep)
  /-- CROSSING_OUTBOUND (R69) -/
  | crossingOutbound (unit : CrossUnit) (cross : CrossStep)
  /-- BEAT_RATE_UPDATE (R35) -/
  | beatRateUpdate (rates : BitVec 64)
  /-- PLDM_SENSOR_READ (R521) -/
  | pldmSensorRead
  /-- RST_N_ASSERT (R72) -/
  | rstNAssert
  /-- RESET_CMD_COLD (R101) -/
  | resetCmdCold (by_ : Actor) (target : BitVec 7)
  /-- COLD_ARM_EXPIRY (R101) -/
  | coldArmExpiry
  /-- RESET_CMD_WARM (R72) -/
  | resetCmdWarm (by_ : Actor) (target : BitVec 7)
  /-- RESET_CMD_DIE (R81) -/
  | resetCmdDie (by_ : Actor) (target : BitVec 7)
  /-- RESET_CMD_CLUSTER (R72) -/
  | resetCmdCluster (by_ : Actor) (target : BitVec 7) (forced : Bool := false)
  /-- RESET_CMD_PORT (R81) -/
  | resetCmdPort (by_ : Actor) (target : BitVec 7)
  /-- RESET_CMD_LINK (R408) -/
  | resetCmdLink (by_ : Actor) (target : BitVec 7)
  /-- BINNACLE_WATCHDOG (R72) -/
  | binnacleWatchdog
  /-- HELM_WATCHDOG (R72) -/
  | helmWatchdog (die : Fin 4)
  /-- TRIAL_BOOT_EXPIRY (R91) -/
  | trialBootExpiry
  /-- HP_PERST_ASSERT (R81) -/
  | hpPerstAssert (port : Fin 16)
  /-- CXL_HOT_RESET (R81) -/
  | cxlHotReset (port : Fin 16)
  /-- RESET_ENTRY_DONE (R78) -/
  | resetEntryDone (forced : BitVec 4 := 0)
  /-- RAIL_OFF_END (R78) -/
  | railOffEnd
  /-- BINNACLE_RELEASE (R75) -/
  | binnacleRelease
  /-- BACKUP_DOMAIN_CHECK (R83) -/
  | backupDomainCheck (samples : BitVec 128)
  /-- CONFIG_SELECT (R98) -/
  | configSelect (bchA : Bool) (bchB : Bool) (aOk : Bool) (bOk : Bool)
  /-- FIRMWARE_VERIFY (R90) -/
  | firmwareVerify
  /-- HELM_RELEASE (R79) -/
  | helmRelease (failed : BitVec 4) (claims : List (BitVec 20) := [])
  /-- DRAM_TRAIN (R163) -/
  | dramTrain (lanes : List (Fin 18 × Fin 64 × Fin 39)) (banks : List (Fin 18 × Fin 64)) (whole : BitVec 18) (repairs : List (Fin 18 × Fin 64 × Fin 64 × BitVec 15))
  /-- DRAM_RETRAIN (R164) -/
  | dramRetrain (failed : List (Fin 18 × Fin 64)) (repairs : List (Fin 18 × Fin 64 × Fin 64 × BitVec 15))
  /-- POOL_DIE_RELEASE (R79) -/
  | poolDieRelease (dies : BitVec 4) (found : List (Fin 4 × Fin 4)) (clusters : BitVec 36) (cores : List (Fin 324)) (ways : List (Fin 36 × BitVec 8 × Fin 16)) (channels : List (Fin 32 × BitVec 8)) (rawGib : BitVec 32)
  /-- LOGBOOK_REPLAY (R132) -/
  | logbookReplay (silent : List (Fin 32)) (pieces : List (Fin 32 × Bool × BitVec 16 × List (BitVec 8) × List (BitVec 8)))
      (headers : List (Fin 4096 × BitVec 64 × List (BitVec 8) × List (BitVec 8)) := [])
  /-- PORTS_RELEASE (R79) -/
  | portsRelease
  /-- THERMAL_HOLD_CLEAR (R80) -/
  | thermalHoldClear
  /-- FIRMWARE_UPDATE_HELD (R90) -/
  | firmwareUpdateHeld (slot : Bool) (image : FwImage)
  /-- TRIAL_CONFIRM (R496) -/
  | trialConfirm
  /-- RWP_WRITE (R94) -/
  | rwpWrite (by_ : Actor) (slot : Bool)
  /-- RWP_PERSIST (R94) -/
  | rwpPersist
  /-- ALM_COMMIT_GO (R99) -/
  | almCommitGo (by_ : Actor)
  /-- ALM_COMMIT_DONE (R99) -/
  | almCommitDone (ok : Bool)
  /-- ALM_RECHECK (R98) -/
  | almRecheck (aOk : Bool) (bOk : Bool)
  /-- ALM_SCRUB (R191) -/
  | almScrub (region : AlmRegion) (lost : Bool)
  /-- WATCH_HIT (R108) -/
  | watchHit (dpa : BitVec 52)
  /-- RING_SERVICE (R109) -/
  | ringService (ring : Fin 4096)
  /-- DESCRIPTOR_REREAD (R114) -/
  | descriptorReread (ring : Fin 4096)
  /-- SEQ_STUCK_TIMEOUT (R114) -/
  | seqStuckTimeout (ring : Fin 4096)
  /-- CHECK_RETRY_TIMEOUT (R114) -/
  | checkRetryTimeout (ring : Fin 4096)
  /-- LOGBOOK_WAIT_RESUME (R115) -/
  | logbookWaitResume
  /-- ACCEPT_DESCRIPTOR (R116) -/
  | acceptDescriptor (ring : Fin 4096)
  /-- DESCRIPTOR_DONE (R123) -/
  | descriptorDone (ring : Fin 4096) (seq : BitVec 64)
  /-- COMPLETION_WRITE (R123) -/
  | completionWrite (ring : Fin 4096)
  /-- RUN_LIMIT_EXPIRY (R124) -/
  | runLimitExpiry (ring : Fin 4096) (seq : BitVec 64)
  /-- COMMIT_UNIT_BEGIN (R127) -/
  | commitUnitBegin (ring : Fin 4096) (seq : BitVec 64)
  /-- COMMIT_UNIT_END (R127) -/
  | commitUnitEnd (ring : Fin 4096) (seq : BitVec 64)
  /-- RESUME_RING (R134) -/
  | resumeRing (by_ : Actor) (ring : Fin 4096)
  /-- RESTART_RING (R109) -/
  | restartRing (by_ : Actor) (ring : Fin 4096)
  /-- DISABLE_FN (R136) -/
  | disableFn (by_ : Actor) (fn : BitVec 12)
  /-- ENABLE_FN (R137) -/
  | enableFn (by_ : Actor) (fn : BitVec 12)
  /-- FN_DISABLE_DONE (R136) -/
  | fnDisableDone (fn : Fin 512)
  /-- CXL_FLR (R135) -/
  | cxlFlr (fn : Fin 256)
  /-- RING_ENABLE (R138) -/
  | ringEnable (by_ : Actor) (ring : Fin 4096)
  /-- RING_DISABLE (R138) -/
  | ringDisable (by_ : Actor) (ring : Fin 4096)
  /-- LOGBOOK_LIMIT_UPDATE (R119) -/
  | logbookLimitUpdate
  /-- MBX_ALLOC_READ (R140) -/
  | mbxAllocRead (who : Sender)
  /-- MBX_OPEN (R140) -/
  | mbxOpen (who : Sender) (ch : Fin 1024)
  /-- MBX_CLOSE (R140) -/
  | mbxClose (who : Sender) (ch : Fin 1024)
  /-- MBX_FORCE_CLOSE (R140) -/
  | mbxForceClose (by_ : Actor) (ch : Fin 1024)
  /-- MBX_SEND (R143) -/
  | mbxSend (who : Sender) (ch : Fin 1024)
  /-- MBX_TAKE (R143) -/
  | mbxTake (ch : Fin 1024)
  /-- MBX_CANCEL (R143) -/
  | mbxCancel (who : Sender) (ch : Fin 1024)
  /-- MBX_REPLY (R143) -/
  | mbxReply (ch : Fin 1024) (status : BitVec 4) (payload : List Word)
  /-- MBX_REPLY_CLEAR (R143) -/
  | mbxReplyClear (who : Sender) (ch : Fin 1024)
  /-- MBX_EVENT (R141) -/
  | mbxEvent (ch : Fin 1024) (tag : BitVec 16) (payload : List Word)
  /-- ECHO (R142) -/
  | echo (ch : Fin 1024)
  /-- RING_QUERY (R142) -/
  | ringQuery (ch : Fin 1024)
  /-- FN_DISABLE (R142) -/
  | fnDisable (ch : Fin 1024)
  /-- FN_ENABLE (R142) -/
  | fnEnable (ch : Fin 1024)
  /-- DRAM_REQUEST_ENQUEUE (R152) -/
  | dramRequestEnqueue (id : Nat) (q : Requester) (dpa : BitVec 52) (write : Bool) (stream : Option (BitVec 14)) (mask : List Bool) (bytes : List Byte) (poison : Bool)
  /-- SCHED_SLOT (R154) -/
  | schedSlot (stack : Fin 18) (pc : Fin 64) (t : SlotTiming)
  /-- ERROR_RECORD_WINDOW_CLOSE (R189) -/
  | errorRecordWindowClose (key : RecKey) (recipient : Recipient)
  /-- REFRESH_TICK (R157) -/
  | refreshTick (stack : Fin 18) (pc : Fin 64)
  /-- SELF_REFRESH_ENTER (R159) -/
  | selfRefreshEnter (stack : Fin 18)
  /-- SELF_REFRESH_EXIT (R159) -/
  | selfRefreshExit (stack : Fin 18) (bank : List (BitVec 14))
  /-- PANIC_RAISE (R161) -/
  | panicRaise (stream : BitVec 14)
  /-- PANIC_CLEAR (R161) -/
  | panicClear (stream : BitVec 14)
  /-- PANIC_WINDOW_ROLL (R161) -/
  | panicWindowRoll (stack : Fin 18) (pc : Fin 64)
  /-- RECAL_TRIGGER (R165) -/
  | recalTrigger (stack : Fin 18) (pc : Fin 64) (period : Bool)
  /-- RECAL_SLICE_START (R165) -/
  | recalSliceStart (stack : Fin 18) (pc : Fin 64) (deferred : Bool) (afterRefresh : Bool)
  /-- RECAL_SLICE_END (R165) -/
  | recalSliceEnd (stack : Fin 18) (pc : Fin 64) (badLanes : Fin 39)
  /-- INTERFACE_PARITY_ERROR (R167) -/
  | interfaceParityError (stack : Fin 18) (second : Bool)
  /-- PPR_SOFT (R168) -/
  | pprSoft (by_ : Actor) (stack : Fin 18) (pc : Fin 64) (bank : Fin 64) (row : BitVec 15)
  /-- PPR_DONE (R168) -/
  | pprDone (stack : Fin 18)
  /-- HARDEN_ALL (R169) -/
  | hardenAll (by_ : Actor) (stack : Fin 18)
  /-- MOVE_TO_ALT (R170) -/
  | moveToAlt (by_ : Actor) (stack : Fin 18)
  /-- MOVE_TO_PRI (R172) -/
  | moveToPri (by_ : Actor) (stack : Fin 18)
  /-- HOME_MOVE_COMPLETE (R170) -/
  | homeMoveComplete (stack : Fin 18) (ok : Bool)
  /-- BASE_DIE_SELF_REFRESH (R171) -/
  | baseDieSelfRefresh (stack : Fin 18)
  /-- SPARE_FILL_DONE (R173) -/
  | spareFillDone (spare : Fin 2)
  /-- REPLACE (R174) -/
  | replace (by_ : Actor) (stack : Fin 16)
  /-- SPARE_SWITCH_DONE (R175) -/
  | spareSwitchDone (spare : Fin 2) (ok : Bool)
  /-- COPY_IN_STEP (R175) -/
  | copyInStep (spare : Fin 2) (t : SlotTiming := {})
  /-- DEMAND_FILL (R175) -/
  | demandFill (q : Requester) (dpa : BitVec 52)
  /-- COPY_IN_DONE (R176) -/
  | copyInDone (spare : Fin 2)
  /-- SRAM_SINGLE_ERROR (R190) -/
  | sramSingleError (place : SramWord := .other)
  /-- SRAM_DOUBLE_ERROR (R190) -/
  | sramDoubleError (array : SramArray)
  /-- WAY_RETIRE (R216) -/
  | wayRetire (slice : Fin 36) (group : BitVec 8) (way : Fin 16)
  /-- TURNER_ROW_READ (R194) -/
  | turnerRowRead (stack : Fin 18) (pc : Fin 64) (early : Bool := false)
  /-- TURNER_LAG (R196) -/
  | turnerLag (stack : Fin 18) (pc : Fin 64)
  /-- CE_LOG_CLEAR (R198) -/
  | ceLogClear (by_ : Actor) (stack : Fin 18)
  /-- INJECT_ARM (R209) -/
  | injectArm (by_ : Actor) (mode : BitVec 2) (pos : BitVec 7) (count : BitVec 3) (value : BitVec 8)
  /-- TWIN_WRITE (R202) -/
  | twinWrite (q : Requester) (dpa : BitVec 52) (bytes : List Byte) (poison : Bool)
  /-- TWIN_ENABLE (R201) -/
  | twinEnable (by_ : Actor) (t : Fin 256)
  /-- TWIN_DISABLE (R206) -/
  | twinDisable (by_ : Actor) (t : Fin 256)
  /-- TWIN_WALK_STEP (R207) -/
  | twinWalkStep (t : Fin 256)
  /-- TWIN_WALK_DONE (R206) -/
  | twinWalkDone (t : Fin 256)
  /-- TWIN_COPY_UNREADABLE (R206) -/
  | twinCopyUnreadable (t : Fin 256) (copyB : Bool)
  /-- TWIN_STACK_RETURN (R206) -/
  | twinStackReturn (t : Fin 256) (copyB : Bool)
  /-- TWIN_PATROL_READ (R205) -/
  | twinPatrolRead (t : Fin 256)
  /-- TWIN_PATROL_PASS_END (R205) -/
  | twinPatrolPassEnd (t : Fin 256)
  /-- CACHE_LOOKUP (R215) -/
  | cacheLookup (q : Requester) (dpa : BitVec 52) (write : Bool) (mask : List Bool) (bytes : List Byte) (poison : Bool)
  /-- FLUSH_PTN (R214) -/
  | flushPtn (by_ : Actor) (ptn : Fin 32)
  /-- FLUSH_ALL (R214) -/
  | flushAll (by_ : Actor)
  /-- PREFETCH_ISSUE (R217) -/
  | prefetchIssue (core : Fin 324) (p : Fin 8)
  /-- PREFETCH_LINE_ARRIVE (R218) -/
  | prefetchLineArrive (core : Fin 324) (p : Fin 8)
  /-- PREFETCH_DEPTH_DOUBLE (R218) -/
  | prefetchDepthDouble (core : Fin 324) (p : Fin 8)
  /-- PREFETCH_DEPTH_HALVE (R218) -/
  | prefetchDepthHalve (core : Fin 324) (p : Fin 8)
  /-- BLOCK_SET (R221) -/
  | blockSet (by_ : Actor) (cls : BitVec 4) (mode : BitVec 2)
  /-- EXTENT_ENABLE (R225) -/
  | extentEnable (by_ : Actor) (x : Fin 1024)
  /-- EXTENT_PIN_DONE (R225) -/
  | extentPinDone (x : Fin 1024)
  /-- EXTENT_DISABLE (R229) -/
  | extentDisable (by_ : Actor) (x : Fin 1024)
  /-- CAVE_ACCESS (R227) -/
  | caveAccess (q : Requester) (ptn : Fin 32) (dpa : BitVec 52) (write : Bool) (mask : List Bool) (bytes : List Byte) (poison : Bool)
  /-- CAVE_PAGE_STAGED (R227) -/
  | cavePageStaged (page : BitVec 36) (how : FlashRead := .clean)
  /-- FRAME_WAIT_RESUME (R227) -/
  | frameWaitResume
  /-- CAVE_CLEAN (R228) -/
  | caveClean (frame : BitVec 20) (page : Fin 512)
  /-- SYNC_PTN (R228) -/
  | syncPtn (by_ : Actor) (ptn : Fin 32)
  /-- FRAME_EVICT (R229) -/
  | frameEvict (ptn : Fin 32)
  /-- CAVE_WEAR_LIMIT (R231) -/
  | caveWearLimit (pct : BitVec 8)
  /-- FLASH_TIMEOUT (R232) -/
  | flashTimeout (ch : Fin 32) (target : Fin 8) (second : Bool)
  /-- FLASH_READ_UNCORRECTABLE (R232) -/
  | flashReadUncorrectable (page : BitVec 36) (rebuilt : Bool)
  /-- FLASH_PROGRAM_FAIL (R232) -/
  | flashProgramFail (ch : Fin 32)
  /-- FLASH_ERASE_FAIL (R232) -/
  | flashEraseFail (ch : Fin 32)
  /-- CHANNEL_FAIL (R232) -/
  | channelFail (ch : Fin 32)
  /-- CHANNEL_REBUILD_DONE (R232) -/
  | channelRebuildDone (ch : Fin 32)
  /-- FLUSH_REGION_ERASE (R233) -/
  | flushRegionErase
  /-- TRANSLATION_WALK (R247) -/
  | translationWalk (ctx : Fin 4096) (ca : BitVec 48) (acc : BitVec 3) (priv : Bool)
  /-- TRANSLATION_FAULT (R254) -/
  | translationFault (ring : Fin 4096) (seq : BitVec 64) (idx : BitVec 16) (ca : BitVec 48) (acc : BitVec 3)
  /-- FAULT_RECORD_WAIT_RESUME (R255) -/
  | faultRecordWaitResume
  /-- FAULT_QUEUE_WRITE (R256) -/
  | faultQueueWrite (ptn : Fin 32)
  /-- FAULT_QUEUE_SPACE (R256) -/
  | faultQueueSpace (ptn : Fin 32)
  /-- FAULT_LIMIT_EXPIRY (R258) -/
  | faultLimitExpiry (id : Fin 4096)
  /-- XLT_CTX_ENABLE (R245) -/
  | xltCtxEnable (by_ : Actor) (ctx : Fin 4096)
  /-- XLT_CTX_DISABLE (R258) -/
  | xltCtxDisable (by_ : Actor) (ctx : Fin 4096)
  /-- XLT_FQ_ENABLE (R256) -/
  | xltFqEnable (by_ : Actor) (ptn : Fin 32)
  /-- XLT_FQ_DISABLE (R258) -/
  | xltFqDisable (by_ : Actor) (ptn : Fin 32)
  /-- XLT_INVAL_NONE (R251) -/
  | xltInvalNone (ring : Fin 4096) (seq : BitVec 64)
  /-- XLT_INVAL_PAGES (R252) -/
  | xltInvalPages (ring : Fin 4096) (seq : BitVec 64)
  /-- XLT_INVAL_SEGMENT (R252) -/
  | xltInvalSegment (ring : Fin 4096) (seq : BitVec 64)
  /-- XLT_INVAL_CONTEXT (R252) -/
  | xltInvalContext (ring : Fin 4096) (seq : BitVec 64)
  /-- XLT_INVAL_DRAINED (R252) -/
  | xltInvalDrained (ctx : Fin 4096)
  /-- DRAIN_WARN (R252) -/
  | drainWarn (ctx : Fin 4096)
  /-- CXL_MEM_REQUEST (R269) -/
  | cxlMemRequest (fn : Fin 256) (spid : Option (BitVec 12)) (tag : BitVec 16) (dpa : BitVec 52) (op : HostOp)
  /-- CXL_MEM_COMPLETE (R273) -/
  | cxlMemComplete (fn : Fin 256) (tag : BitVec 16)
  /-- GATE_ENABLE (R271) -/
  | gateEnable (by_ : Actor) (gate : Fin 4096)
  /-- GATE_DISABLE (R271) -/
  | gateDisable (by_ : Actor) (gate : Fin 4096)
  /-- INITIATE_DYNAMIC_CAPACITY_ADD (R274) -/
  | initiateDynamicCapacityAdd (fn : Fin 256) (ptn : Fin 32) (base : BitVec 52) (blocks : BitVec 28) (tag : BitVec 128) (read : Bool) (write : Bool) (coherent : Bool)
  /-- ADD_DYNAMIC_CAPACITY_RESPONSE (R275) -/
  | addDynamicCapacityResponse (fn : Fin 256) (gate : Fin 4096)
  /-- EXTENT_OFFER_EXPIRY (R275) -/
  | extentOfferExpiry (gate : Fin 4096)
  /-- RELEASE_DYNAMIC_CAPACITY (R276) -/
  | releaseDynamicCapacity (fn : Fin 256) (gate : Fin 4096)
  /-- INITIATE_DYNAMIC_CAPACITY_RELEASE (R276) -/
  | initiateDynamicCapacityRelease (gate : Fin 4096) (forced : Bool)
  /-- EXTENT_CLOSED (R276) -/
  | extentClosed (gate : Fin 4096)
  /-- EXTENT_SCRUB_DONE (R276) -/
  | extentScrubDone (gate : Fin 4096)
  /-- IDENTIFY_MEMORY_DEVICE (R264) -/
  | identifyMemoryDevice (fn : Fin 256)
  /-- GET_EVENT_RECORDS (R264) -/
  | getEventRecords (fn : Fin 256)
  /-- CLEAR_EVENT_RECORDS (R264) -/
  | clearEventRecords (fn : Fin 256) (count : BitVec 16)
  /-- GET_DYNAMIC_CAPACITY_CONFIGURATION (R264) -/
  | getDynamicCapacityConfiguration (fn : Fin 256)
  /-- GET_DYNAMIC_CAPACITY_EXTENT_LIST (R264) -/
  | getDynamicCapacityExtentList (fn : Fin 256)
  /-- GET_LD_INFO (R264) -/
  | getLdInfo (port : Fin 16)
  /-- GET_LD_ALLOCATIONS (R264) -/
  | getLdAllocations (port : Fin 16)
  /-- SET_LD_ALLOCATIONS (R264) -/
  | setLdAllocations (port : Fin 16) (count : Fin 17)
  /-- UNSUPPORTED_CXL_COMMAND (R264) -/
  | unsupportedCxlCommand (fn : Option (Fin 256))
  /-- IDE_KM_KEY_PROG (R263) -/
  | ideKmKeyProg (port : Fin 16) (key : BitVec 256) (skid : Bool)
  /-- HOST_LINK_TRAIN (R265) -/
  | hostLinkTrain (port : Fin 16) (speed : Fin 6) (width : Fin 5) (flit : Fin 3) (mem : Bool)
  /-- BISNP_SEND (R277) -/
  | bisnpSend (dpa : BitVec 52) (fn : Fin 256) (invalidate : Bool)
  /-- BIRSP (R277) -/
  | birsp (dpa : BitVec 52) (fn : Fin 256) (data : Option (BitVec 512 × Bool)) (keepShared : Bool)
  /-- BISNP_TIMEOUT (R278) -/
  | bisnpTimeout (dpa : BitVec 52) (fn : Fin 256)
  /-- HOST_LOST (R279) -/
  | hostLost (port : Fin 16) (ld : Option (Fin 16))
  /-- ROSE_REQUEST (R285) -/
  | roseRequest (dpa : BitVec 52) (stop : Fin 40) (op : RoseOp) (beat : List (BitVec 52 × Fin 40 × Option RoseOp) := [])
  /-- ROSE_RETRY (R286) -/
  | roseRetry (dpa : BitVec 52) (stop : Fin 40)
  /-- ROSE_SNOOP (R284) -/
  | roseSnoop (dpa : BitVec 52) (stop : Fin 40)
  /-- ROSE_SNOOP_DONE (R284) -/
  | roseSnoopDone (dpa : BitVec 52)
  /-- ROSE_WRITEBACK (R285) -/
  | roseWriteback (dpa : BitVec 52) (stop : Fin 40) (at_ : RoseStep)
  /-- SLOT_REHOME (R283) -/
  | slotRehome (die : Fin 4) (slot : Fin 64) (cluster : Fin 9)
  /-- COMMONS_ENABLE (R287) -/
  | commonsEnable (by_ : Actor) (region : Fin 64)
  /-- PUBLISH (R289) -/
  | publish (ring : Fin 4096) (seq : BitVec 64)
  /-- PUBLISH_COPY_DONE (R289) -/
  | publishCopyDone (region : Fin 64)
  /-- PUBLISH_DRAIN_DONE (R289) -/
  | publishDrainDone (region : Fin 64)
  /-- BAR2_READ (R352) -/
  | bar2Read (fn : Fin 256) (obj : BitVec 16) (half : Option Bool) (other : Bool := false)
  /-- BAR2_WRITE (R352) -/
  | bar2Write (fn : Fin 256) (obj : BitVec 16)
  /-- BAR2_FETCHADD (R352) -/
  | bar2Fetchadd (fn : Fin 256) (obj : BitVec 16) (wide : Bool) (operand : BitVec 64) (other : Bool := false)
  /-- BAR2_SWAP (R352) -/
  | bar2Swap (fn : Fin 256) (obj : BitVec 16) (wide : Bool) (operand : BitVec 64) (other : Bool := false)
  /-- BAR2_CAS (R352) -/
  | bar2Cas (fn : Fin 256) (obj : BitVec 16) (wide : Bool) (operand : BitVec 64) (compare : BitVec 64) (other : Bool := false)
  /-- TASK_DISPATCH (R314) -/
  | taskDispatch (ring : Fin 4096) (seq : BitVec 64) (idx : BitVec 16) (cluster : Fin 36)
  /-- ARB_GRANT (R320) -/
  | arbGrant (core : Fin 324)
  /-- TILE_BOUNDARY (R321) -/
  | tileBoundary (core : Fin 324)
  /-- BACKOFF_EXPIRY (R322) -/
  | backoffExpiry (core : Fin 324) (slot : Fin 16)
  /-- QUOTA_WINDOW_ROLL (R323) -/
  | quotaWindowRoll
  /-- HOLD_MAX_CUTOFF (R324) -/
  | holdMaxCutoff (core : Fin 324)
  /-- CORE_FAIL (R316) -/
  | coreFail (core : Fin 324)
  /-- STREAM_ENABLE (R319) -/
  | streamEnable (by_ : Actor) (stream : BitVec 14)
  /-- STREAM_DISABLE (R319) -/
  | streamDisable (by_ : Actor) (stream : BitVec 14)
  /-- NOP (R112) -/
  | nop (ring : Fin 4096) (seq : BitVec 64)
  /-- GATHER_REDUCE (R330) -/
  | gatherReduce (ring : Fin 4096) (seq : BitVec 64)
  /-- ATTN_DECODE (R332) -/
  | attnDecode (ring : Fin 4096) (seq : BitVec 64)
  /-- ATTN_MAX_COMBINED (R334) -/
  | attnMaxCombined (ring : Fin 4096) (seq : BitVec 64) (head : BitVec 8)
  /-- LOGIT_SLOT_FREE (R334) -/
  | logitSlotFree (core : Fin 324) (slot : Fin 16)
  /-- KV_APPEND (R336) -/
  | kvAppend (ring : Fin 4096) (seq : BitVec 64)
  /-- BURST_IDLE_TIMEOUT (R339) -/
  | burstIdleTimeout (source : BitVec 20) (tag : BitVec 16)
  /-- PRESS (R341) -/
  | press (ring : Fin 4096) (seq : BitVec 64)
  /-- UNPRESS (R341) -/
  | unpress (ring : Fin 4096) (seq : BitVec 64)
  /-- TOPK (R342) -/
  | topk (ring : Fin 4096) (seq : BitVec 64)
  /-- REDUCE (R343) -/
  | reduce (ring : Fin 4096) (seq : BitVec 64)
  /-- BROADCAST (R344) -/
  | broadcast (ring : Fin 4096) (seq : BitVec 64)
  /-- COPY (R345) -/
  | copy (ring : Fin 4096) (seq : BitVec 64)
  /-- FILL_PATTERN (R345) -/
  | fillPattern (ring : Fin 4096) (seq : BitVec 64)
  /-- FILL_POISON (R345) -/
  | fillPoison (ring : Fin 4096) (seq : BitVec 64)
  /-- BEXA_RUN (R356) -/
  | bexaRun (ring : Fin 4096) (seq : BitVec 64) (cluster : Fin 36)
  /-- SYNC_OP_INIT (R348) -/
  | syncOpInit (ring : Fin 4096) (seq : BitVec 64)
  /-- SYNC_OP_READ (R348) -/
  | syncOpRead (ring : Fin 4096) (seq : BitVec 64)
  /-- SYNC_OP_ADD (R348) -/
  | syncOpAdd (ring : Fin 4096) (seq : BitVec 64)
  /-- SYNC_OP_SWAP (R348) -/
  | syncOpSwap (ring : Fin 4096) (seq : BitVec 64)
  /-- SYNC_OP_CAS (R348) -/
  | syncOpCas (ring : Fin 4096) (seq : BitVec 64)
  /-- SYNC_OP_SIGNAL (R348) -/
  | syncOpSignal (ring : Fin 4096) (seq : BitVec 64)
  /-- SYNC_OP_ACQUIRE (R348) -/
  | syncOpAcquire (ring : Fin 4096) (seq : BitVec 64)
  /-- ACQUIRE_WAKE (R348) -/
  | acquireWake (ring : Fin 4096) (seq : BitVec 64)
  /-- WAIT_MET (R349) -/
  | waitMet
  /-- SYNC_BLOCK_DISABLE (R347) -/
  | syncBlockDisable (by_ : Actor) (block : Fin 256)
  /-- ALU_ADD (R365) -/
  | aluAdd (ring : Fin 4096) (seq : BitVec 64) (idx : BitVec 16)
  /-- ALU_SUB (R365) -/
  | aluSub (ring : Fin 4096) (seq : BitVec 64) (idx : BitVec 16)
  /-- ALU_AND (R365) -/
  | aluAnd (ring : Fin 4096) (seq : BitVec 64) (idx : BitVec 16)
  /-- ALU_OR (R365) -/
  | aluOr (ring : Fin 4096) (seq : BitVec 64) (idx : BitVec 16)
  /-- ALU_XOR (R365) -/
  | aluXor (ring : Fin 4096) (seq : BitVec 64) (idx : BitVec 16)
  /-- ALU_SLL (R365) -/
  | aluSll (ring : Fin 4096) (seq : BitVec 64) (idx : BitVec 16)
  /-- ALU_SRL (R365) -/
  | aluSrl (ring : Fin 4096) (seq : BitVec 64) (idx : BitVec 16)
  /-- ALU_SRA (R365) -/
  | aluSra (ring : Fin 4096) (seq : BitVec 64) (idx : BitVec 16)
  /-- ALU_SLT (R365) -/
  | aluSlt (ring : Fin 4096) (seq : BitVec 64) (idx : BitVec 16)
  /-- ALU_SLTU (R365) -/
  | aluSltu (ring : Fin 4096) (seq : BitVec 64) (idx : BitVec 16)
  /-- ALU_MUL (R365) -/
  | aluMul (ring : Fin 4096) (seq : BitVec 64) (idx : BitVec 16)
  /-- ALU_MULHU (R365) -/
  | aluMulhu (ring : Fin 4096) (seq : BitVec 64) (idx : BitVec 16)
  /-- ALU_DIVU (R362) -/
  | aluDivu (ring : Fin 4096) (seq : BitVec 64) (idx : BitVec 16)
  /-- ALU_REMU (R362) -/
  | aluRemu (ring : Fin 4096) (seq : BitVec 64) (idx : BitVec 16)
  /-- ALU_MIN (R365) -/
  | aluMin (ring : Fin 4096) (seq : BitVec 64) (idx : BitVec 16)
  /-- ALU_MAX (R365) -/
  | aluMax (ring : Fin 4096) (seq : BitVec 64) (idx : BitVec 16)
  /-- ADDI (R365) -/
  | addi (ring : Fin 4096) (seq : BitVec 64) (idx : BitVec 16)
  /-- ANDI (R365) -/
  | andi (ring : Fin 4096) (seq : BitVec 64) (idx : BitVec 16)
  /-- ORI (R365) -/
  | ori (ring : Fin 4096) (seq : BitVec 64) (idx : BitVec 16)
  /-- XORI (R365) -/
  | xori (ring : Fin 4096) (seq : BitVec 64) (idx : BitVec 16)
  /-- SHI_SLL (R365) -/
  | shiSll (ring : Fin 4096) (seq : BitVec 64) (idx : BitVec 16)
  /-- SHI_SRL (R365) -/
  | shiSrl (ring : Fin 4096) (seq : BitVec 64) (idx : BitVec 16)
  /-- SHI_SRA (R365) -/
  | shiSra (ring : Fin 4096) (seq : BitVec 64) (idx : BitVec 16)
  /-- LUI (R365) -/
  | lui (ring : Fin 4096) (seq : BitVec 64) (idx : BitVec 16)
  /-- LDB (R367) -/
  | ldb (ring : Fin 4096) (seq : BitVec 64) (idx : BitVec 16)
  /-- LDH (R367) -/
  | ldh (ring : Fin 4096) (seq : BitVec 64) (idx : BitVec 16)
  /-- LDW (R367) -/
  | ldw (ring : Fin 4096) (seq : BitVec 64) (idx : BitVec 16)
  /-- LDD (R367) -/
  | ldd (ring : Fin 4096) (seq : BitVec 64) (idx : BitVec 16)
  /-- STB (R367) -/
  | stb (ring : Fin 4096) (seq : BitVec 64) (idx : BitVec 16)
  /-- STH (R367) -/
  | sth (ring : Fin 4096) (seq : BitVec 64) (idx : BitVec 16)
  /-- STW (R367) -/
  | stw (ring : Fin 4096) (seq : BitVec 64) (idx : BitVec 16)
  /-- STD (R367) -/
  | std (ring : Fin 4096) (seq : BitVec 64) (idx : BitVec 16)
  /-- LDS (R367) -/
  | lds (ring : Fin 4096) (seq : BitVec 64) (idx : BitVec 16)
  /-- STS (R367) -/
  | sts (ring : Fin 4096) (seq : BitVec 64) (idx : BitVec 16)
  /-- BEQ (R364) -/
  | beq (ring : Fin 4096) (seq : BitVec 64) (idx : BitVec 16)
  /-- BNE (R364) -/
  | bne (ring : Fin 4096) (seq : BitVec 64) (idx : BitVec 16)
  /-- BLT (R364) -/
  | blt (ring : Fin 4096) (seq : BitVec 64) (idx : BitVec 16)
  /-- BGE (R364) -/
  | bge (ring : Fin 4096) (seq : BitVec 64) (idx : BitVec 16)
  /-- BLTU (R364) -/
  | bltu (ring : Fin 4096) (seq : BitVec 64) (idx : BitVec 16)
  /-- BGEU (R364) -/
  | bgeu (ring : Fin 4096) (seq : BitVec 64) (idx : BitVec 16)
  /-- JAL (R365) -/
  | jal (ring : Fin 4096) (seq : BitVec 64) (idx : BitVec 16)
  /-- JR (R365) -/
  | jr (ring : Fin 4096) (seq : BitVec 64) (idx : BitVec 16)
  /-- CSR_READ (R366) -/
  | csrRead (ring : Fin 4096) (seq : BitVec 64) (idx : BitVec 16)
  /-- CSR_WRITE (R366) -/
  | csrWrite (ring : Fin 4096) (seq : BitVec 64) (idx : BitVec 16)
  /-- TILE (R376) -/
  | tile (ring : Fin 4096) (seq : BitVec 64) (idx : BitVec 16)
  /-- EXIT (R360) -/
  | exit (ring : Fin 4096) (seq : BitVec 64) (idx : BitVec 16)
  /-- ABORT (R378) -/
  | abort (ring : Fin 4096) (seq : BitVec 64) (idx : BitVec 16)
  /-- UNIT (R375) -/
  | unit (ring : Fin 4096) (seq : BitVec 64) (idx : BitVec 16)
  /-- CMT (R375) -/
  | cmt (ring : Fin 4096) (seq : BitVec 64) (idx : BitVec 16)
  /-- SYS_FENCE (R367) -/
  | sysFence (ring : Fin 4096) (seq : BitVec 64) (idx : BitVec 16)
  /-- SYNC_READ (R374) -/
  | syncRead (ring : Fin 4096) (seq : BitVec 64) (idx : BitVec 16)
  /-- SYNC_ADD (R374) -/
  | syncAdd (ring : Fin 4096) (seq : BitVec 64) (idx : BitVec 16)
  /-- SYNC_SWAP (R374) -/
  | syncSwap (ring : Fin 4096) (seq : BitVec 64) (idx : BitVec 16)
  /-- SYNC_CAS (R374) -/
  | syncCas (ring : Fin 4096) (seq : BitVec 64) (idx : BitVec 16)
  /-- SYNC_SIGNAL (R374) -/
  | syncSignal (ring : Fin 4096) (seq : BitVec 64) (idx : BitVec 16)
  /-- SWAIT (R374) -/
  | swait (ring : Fin 4096) (seq : BitVec 64) (idx : BitVec 16)
  /-- PFSET (R368) -/
  | pfset (ring : Fin 4096) (seq : BitVec 64) (idx : BitVec 16)
  /-- VLD (R368) -/
  | vld (ring : Fin 4096) (seq : BitVec 64) (idx : BitVec 16)
  /-- VLDS (R365) -/
  | vlds (ring : Fin 4096) (seq : BitVec 64) (idx : BitVec 16)
  /-- VSTS (R365) -/
  | vsts (ring : Fin 4096) (seq : BitVec 64) (idx : BitVec 16)
  /-- VST_ELEMENTS (R365) -/
  | vstElements (ring : Fin 4096) (seq : BitVec 64) (idx : BitVec 16)
  /-- VST_SCALES (R365) -/
  | vstScales (ring : Fin 4096) (seq : BitVec 64) (idx : BitVec 16)
  /-- VADDF (R370) -/
  | vaddf (ring : Fin 4096) (seq : BitVec 64) (idx : BitVec 16)
  /-- VSUBF (R370) -/
  | vsubf (ring : Fin 4096) (seq : BitVec 64) (idx : BitVec 16)
  /-- VMULF (R370) -/
  | vmulf (ring : Fin 4096) (seq : BitVec 64) (idx : BitVec 16)
  /-- VMAXF (R370) -/
  | vmaxf (ring : Fin 4096) (seq : BitVec 64) (idx : BitVec 16)
  /-- VMINF (R370) -/
  | vminf (ring : Fin 4096) (seq : BitVec 64) (idx : BitVec 16)
  /-- VADDI (R370) -/
  | vaddi (ring : Fin 4096) (seq : BitVec 64) (idx : BitVec 16)
  /-- VSUBI (R370) -/
  | vsubi (ring : Fin 4096) (seq : BitVec 64) (idx : BitVec 16)
  /-- VAND (R370) -/
  | vand (ring : Fin 4096) (seq : BitVec 64) (idx : BitVec 16)
  /-- VOR (R370) -/
  | vor (ring : Fin 4096) (seq : BitVec 64) (idx : BitVec 16)
  /-- VXOR (R370) -/
  | vxor (ring : Fin 4096) (seq : BitVec 64) (idx : BitVec 16)
  /-- VSHL (R370) -/
  | vshl (ring : Fin 4096) (seq : BitVec 64) (idx : BitVec 16)
  /-- VSHR (R370) -/
  | vshr (ring : Fin 4096) (seq : BitVec 64) (idx : BitVec 16)
  /-- VFUN_EXP2 (R307) -/
  | vfunExp2 (ring : Fin 4096) (seq : BitVec 64) (idx : BitVec 16)
  /-- VFUN_LOG2 (R307) -/
  | vfunLog2 (ring : Fin 4096) (seq : BitVec 64) (idx : BitVec 16)
  /-- VFUN_RCP (R307) -/
  | vfunRcp (ring : Fin 4096) (seq : BitVec 64) (idx : BitVec 16)
  /-- VFUN_RSQRT (R307) -/
  | vfunRsqrt (ring : Fin 4096) (seq : BitVec 64) (idx : BitVec 16)
  /-- VFUN_TANH (R307) -/
  | vfunTanh (ring : Fin 4096) (seq : BitVec 64) (idx : BitVec 16)
  /-- SPLAT (R365) -/
  | splat (ring : Fin 4096) (seq : BitVec 64) (idx : BitVec 16)
  /-- VCVT (R370) -/
  | vcvt (ring : Fin 4096) (seq : BitVec 64) (idx : BitVec 16)
  /-- ADOT (R371) -/
  | adot (ring : Fin 4096) (seq : BitVec 64) (idx : BitVec 16)
  /-- AADD (R371) -/
  | aadd (ring : Fin 4096) (seq : BitVec 64) (idx : BitVec 16)
  /-- AOP_CLEAR (R372) -/
  | aopClear (ring : Fin 4096) (seq : BitVec 64) (idx : BitVec 16)
  /-- AOP_MERGE (R372) -/
  | aopMerge (ring : Fin 4096) (seq : BitVec 64) (idx : BitVec 16)
  /-- AOP_SAVE (R372) -/
  | aopSave (ring : Fin 4096) (seq : BitVec 64) (idx : BitVec 16)
  /-- AOP_LOAD (R372) -/
  | aopLoad (ring : Fin 4096) (seq : BitVec 64) (idx : BitVec 16)
  /-- AOP_ROUND (R372) -/
  | aopRound (ring : Fin 4096) (seq : BitVec 64) (idx : BitVec 16)
  /-- AOP_DIV (R308) -/
  | aopDiv (ring : Fin 4096) (seq : BitVec 64) (idx : BitVec 16)
  /-- AOP_ADDS (R372) -/
  | aopAdds (ring : Fin 4096) (seq : BitVec 64) (idx : BitVec 16)
  /-- ARNDMX (R372) -/
  | arndmx (ring : Fin 4096) (seq : BitVec 64) (idx : BitVec 16)
  /-- PROGRAM_TRAP (R378) -/
  | programTrap (ring : Fin 4096) (seq : BitVec 64) (idx : BitVec 16)
  /-- LINK_SLOT (R400) -/
  | linkSlot (link : Fin 96)
  /-- CODEWORD_RECEIVE (R386) -/
  | codewordReceive (link : Fin 96) (lanes : List (List (BitVec 2)))
  /-- NAK_REPEAT (R399) -/
  | nakRepeat (link : Fin 96)
  /-- REPLAY_TIMER_EXPIRY (R399) -/
  | replayTimerExpiry (link : Fin 96)
  /-- TRAINING_FRAME_RECEIVE (R394) -/
  | trainingFrameReceive (link : Fin 96) (lane : Fin 5) (word : BitVec 32)
  /-- TRAIN_DETECT (R393) -/
  | trainDetect (link : Fin 96)
  /-- TRAIN_CDR_LOCK (R393) -/
  | trainCdrLock (link : Fin 96)
  /-- TRAIN_FFE_DONE (R393) -/
  | trainFfeDone (link : Fin 96)
  /-- TRAIN_ADAPT_DONE (R395) -/
  | trainAdaptDone (link : Fin 96) (failed : BitVec 5) (eyes : List (BitVec 8))
  /-- TRAIN_ALIGN_DONE (R393) -/
  | trainAlignDone (link : Fin 96)
  /-- TRAIN_CODEWORD_CHECK_DONE (R393) -/
  | trainCodewordCheckDone (link : Fin 96)
  /-- TRAIN_STEP_TIMEOUT (R393) -/
  | trainStepTimeout (link : Fin 96)
  /-- SESSION_EXCHANGE_DONE (R406) -/
  | sessionExchangeDone (link : Fin 96) (rtt : BitVec 16)
  /-- SESSION_TIMEOUT (R409) -/
  | sessionTimeout (link : Fin 96)
  /-- RETRAIN_DONE (R393) -/
  | retrainDone (link : Fin 96) (failed : BitVec 5) (eyes : List (BitVec 8))
  /-- RETRAIN_TIMEOUT (R401) -/
  | retrainTimeout (link : Fin 96)
  /-- LANE_DEGRADED (R395) -/
  | laneDegraded (link : Fin 96) (lane : Fin 5) (symbols : Bool)
  /-- OFF_STUCK (R403) -/
  | offStuck (link : Fin 96) (cls : Fin 4) (sent : Bool)
  /-- PARTNER_LOSS_SIGNAL (R404) -/
  | partnerLossSignal (link : Fin 96)
  /-- PARTNER_LOSS_DECODE (R404) -/
  | partnerLossDecode (link : Fin 96)
  /-- DOWN_RETRY_EXPIRY (R405) -/
  | downRetryExpiry (link : Fin 96)
  /-- PFL_FENCE_WRITE (R407) -/
  | pflFenceWrite (by_ : Actor) (link : Fin 96) (mask : BitVec 32)
  /-- PFL_RETRAIN (R409) -/
  | pflRetrain (by_ : Actor) (link : Fin 96)
  /-- PFL_DOWN (R409) -/
  | pflDown (by_ : Actor) (link : Fin 96)
  /-- PFL_UP (R409) -/
  | pflUp (by_ : Actor) (link : Fin 96)
  /-- LINK_ENABLE (R409) -/
  | linkEnable (by_ : Actor) (link : Fin 96)
  /-- LINK_DISABLE (R409) -/
  | linkDisable (by_ : Actor) (link : Fin 96)
  /-- CELL_FORWARD (R423) -/
  | cellForward (port : Fin 96) (cls : Fin 4)
  /-- PARKED_RELEASE (R424) -/
  | parkedRelease (port : Fin 96)
  /-- CELL_READ (R415) -/
  | cellRead (port : Fin 96)
  /-- CELL_WRITE (R418) -/
  | cellWrite (port : Fin 96)
  /-- CELL_WDATA (R418) -/
  | cellWdata (port : Fin 96)
  /-- WRITE_REASSEMBLY_TIMEOUT (R418) -/
  | writeReassemblyTimeout (src : BitVec 20) (tag : BitVec 12)
  /-- WRITE_SHORT (R415) -/
  | writeShort (port : Fin 96)
  /-- ATOMIC_READ (R352) -/
  | atomicRead (port : Fin 96)
  /-- ATOMIC_ADD (R352) -/
  | atomicAdd (port : Fin 96)
  /-- ATOMIC_SWAP (R352) -/
  | atomicSwap (port : Fin 96)
  /-- ATOMIC_CAS (R352) -/
  | atomicCas (port : Fin 96)
  /-- ATOMIC_SIGNAL (R352) -/
  | atomicSignal (port : Fin 96)
  /-- LAUNCH (R317) -/
  | launch (port : Fin 96)
  /-- BURST (R338) -/
  | burst (port : Fin 96)
  /-- NOTIFY (R419) -/
  | notify (port : Fin 96) (full : Bool)
  /-- MGMT_REG_READ (R415) -/
  | mgmtRegRead (port : Fin 96)
  /-- MGMT_REG_WRITE (R415) -/
  | mgmtRegWrite (port : Fin 96)
  /-- FABRIC_RESET (R480) -/
  | fabricReset (port : Fin 96)
  /-- FABRIC_STATE (R480) -/
  | fabricState (port : Fin 96)
  /-- TIME (R433) -/
  | time (port : Fin 96) (ok : Bool)
  /-- RDATA (R417) -/
  | rdata (port : Fin 96)
  /-- RSP (R417) -/
  | rsp (port : Fin 96)
  /-- REQUEST_TIMEOUT (R417) -/
  | requestTimeout (dst : BitVec 20) (tag : BitVec 12)
  /-- QUARANTINE_EXPIRY (R417) -/
  | quarantineExpiry (dst : BitVec 20) (tag : BitVec 12)
  /-- BUSY_LEDGER_SEND (R428) -/
  | busyLedgerSend (die : Fin 4)
  /-- OWED_RSP_SEND (R428) -/
  | owedRspSend (die : Fin 4)
  /-- ROUTE_TABLE_WRITE (R422) -/
  | routeTableWrite (by_ : Actor) (off : BitVec 16) (value : BitVec 32)
  /-- BUFFER_UNCORRECTABLE (R430) -/
  | bufferUncorrectable (port : Fin 96) (cls : Fin 4) (n : BitVec 17)
  /-- TIME_SYNC_TIMER (R433) -/
  | timeSyncTimer
  /-- HOLDOVER_EXPIRY (R434) -/
  | holdoverExpiry
  /-- PPS_IN_EDGE (R435) -/
  | ppsInEdge
  /-- PPS_OUT_PULSE (R435) -/
  | ppsOutPulse
  /-- ARM (R437) -/
  | arm (by_ : Actor) (port : Fin 96)
  /-- DISARM (R437) -/
  | disarm (by_ : Actor) (port : Fin 96)
  /-- STOP (R437) -/
  | stop (by_ : Actor) (port : Fin 96)
  /-- CHART_SWITCH (R437) -/
  | chartSwitch (port : Fin 96)
  /-- TOKEN_TICK (R450) -/
  | tokenTick
  /-- SUBSCRIBER_RELEASE (R445) -/
  | subscriberRelease (service : BitVec 8)
  /-- HOST_SLOT (R449) -/
  | hostSlot (port : Fin 16)
  /-- SHAPER_CONFIG_WRITE (R452) -/
  | shaperConfigWrite (by_ : Actor) (off : BitVec 20) (lo : BitVec 32) (hi : BitVec 32)
  /-- METER_COLOUR (R456) -/
  | meterColour (fn : Fin 512)
  /-- DEFINE (R460) -/
  | define (by_ : Actor) (target : Fin 32)
  /-- ACTIVATE (R460) -/
  | activate (by_ : Actor) (target : Fin 32)
  /-- TEARDOWN (R469) -/
  | teardown (by_ : Actor) (target : Fin 32)
  /-- TEARDOWN_SETTLED (R469) -/
  | teardownSettled (ptn : Fin 32)
  /-- WASH_STEP (R470) -/
  | washStep (ptn : Fin 32)
  /-- WASH_DONE (R469) -/
  | washDone (ptn : Fin 32)
  /-- OWNER_BYTE_WRITE (R465) -/
  | ownerByteWrite (by_ : Actor) (off : BitVec 18) (value : BitVec 32)
  /-- COMMONS_EN_WRITE (R467) -/
  | commonsEnWrite (by_ : Actor) (en : Bool)
  /-- RIND_SECURITY_RESET (R475) -/
  | rindSecurityReset
  /-- DEBUG_UNLOCK (R475) -/
  | debugUnlock (key : Fin 4) (valid : Bool)
  /-- SVN_COMMIT (R473) -/
  | svnCommit (by_ : Actor)
  /-- GET_VERSION (R476) -/
  | getVersion (path : SpdmPath)
  /-- GET_CAPABILITIES (R476) -/
  | getCapabilities (path : SpdmPath)
  /-- NEGOTIATE_ALGORITHMS (R476) -/
  | negotiateAlgorithms (path : SpdmPath)
  /-- GET_DIGESTS (R476) -/
  | getDigests (path : SpdmPath)
  /-- GET_CERTIFICATE (R476) -/
  | getCertificate (path : SpdmPath) (slot : BitVec 8)
  /-- CHALLENGE (R477) -/
  | challenge (path : SpdmPath) (slot : BitVec 8)
  /-- GET_MEASUREMENTS (R474) -/
  | getMeasurements (path : SpdmPath) (index : BitVec 8)
  /-- KEY_EXCHANGE (R476) -/
  | keyExchange (path : SpdmPath)
  /-- FINISH (R476) -/
  | finish (path : SpdmPath) (session : Fin 16) (ok : Bool)
  /-- HEARTBEAT (R476) -/
  | heartbeat (path : SpdmPath) (session : Fin 16)
  /-- KEY_UPDATE (R476) -/
  | keyUpdate (path : SpdmPath) (session : Fin 16)
  /-- END_SESSION (R476) -/
  | endSession (path : SpdmPath) (session : Fin 16)
  /-- RESPOND_IF_READY (R477) -/
  | respondIfReady (path : SpdmPath)
  /-- VENDOR_DEFINED_REQUEST (R480) -/
  | vendorDefinedRequest (path : SpdmPath) (session : Option (Fin 16)) (key : BitVec 256)
  /-- UNSUPPORTED_SPDM_REQUEST (R476) -/
  | unsupportedSpdmRequest (path : SpdmPath)
  /-- TSP_LOCK (R479) -/
  | tspLock (fn : Fin 256) (session : Fin 16)
  /-- PTN_ADMIN_STATE (R484) -/
  | ptnAdminState (ring : Fin 4096) (seq : BitVec 64)
  /-- SET_ENROL (R481) -/
  | setEnrol (ring : Fin 4096) (seq : BitVec 64)
  /-- RAISE_EPOCH (R481) -/
  | raiseEpoch (ring : Fin 4096) (seq : BitVec 64)
  /-- SET_REVOKE (R481) -/
  | setRevoke (ring : Fin 4096) (seq : BitVec 64)
  /-- BIND_LOAD (R483) -/
  | bindLoad (ring : Fin 4096) (seq : BitVec 64)
  /-- QUIESCE (R491) -/
  | quiesce (by_ : Actor) (die : Fin 4)
  /-- QUIESCE_COMPLETE (R491) -/
  | quiesceComplete (die : Fin 4) (bad : BitVec 18) (forced : Bool := false)
  /-- RETURN (R492) -/
  | rasReturn (by_ : Actor) (die : Fin 4)
  /-- RETURN_COMPLETE (R492) -/
  | returnComplete (die : Fin 4) (ok : Bool)
  /-- DIE_LOSS (R490) -/
  | dieLoss (die : Fin 4)
  /-- HELM_CORE_LOSS (R493) -/
  | helmCoreLoss (die : Fin 4)
  /-- PLDM_FW_UPDATE_TRANSFER (R494) -/
  | pldmFwUpdateTransfer (image : FwImage) (slot : Bool)
  /-- VERIFY_COMPLETE (R494) -/
  | verifyComplete
  /-- ACTIVATE_FIRMWARE (R494) -/
  | activateFirmware
  /-- ACTIVATION_HELM_HANDOVER (R495) -/
  | activationHelmHandover
  /-- ACTIVATION_BINNACLE_SWITCH (R495) -/
  | activationBinnacleSwitch
  /-- ACTIVATION_MICROCODE_LOAD (R495) -/
  | activationMicrocodeLoad
  /-- ACTIVATION_PHY_STAGE (R495) -/
  | activationPhyStage
  /-- ACTIVATION_EXTEND (R495) -/
  | activationExtend
  /-- ACTIVATION_ABANDON (R495) -/
  | activationAbandon
  /-- PHY_IMAGE_APPLY (R497) -/
  | phyImageApply (unit : CrossUnit) (ok : Bool)
  /-- RECOVERY_PHASE_START (R498) -/
  | recoveryPhaseStart
  /-- RECOVERY_PHASE_END (R498) -/
  | recoveryPhaseEnd (background : Option (Fin 7 × BitVec 8))
  /-- TWIN_PLACEMENT_CHECK (R500) -/
  | twinPlacementCheck
  /-- HEALTH_UPDATE (R501) -/
  | healthUpdate
  /-- DIE_OUT_HOUR (R501) -/
  | dieOutHour (die : Fin 4)
  /-- COUNTER_CONFIGURE (R507) -/
  | counterConfigure (by_ : Actor) (n : BitVec 8) (value : BitVec 32)
  /-- COUNTER_CLEAR (R507) -/
  | counterClear (by_ : Actor) (n : BitVec 8)
  /-- COUNTER_FREEZE (R509) -/
  | counterFreeze (by_ : Actor) (freeze : Bool)
  /-- TRACE_ENABLE (R511) -/
  | traceEnable (by_ : Actor) (value : BitVec 32)
  /-- TRACE_RECORD_WRITE (R513) -/
  | traceRecordWrite (pos : BitVec 16) (die : Fin 4)
  /-- TRACE_MARK (R512) -/
  | traceMark (by_ : Actor) (value : BitVec 32)
  /-- STEP_PAUSE (R515) -/
  | stepPause (ring : Fin 4096)
  /-- STEP_CMD_STEP (R516) -/
  | stepCmdStep (by_ : Actor) (slot : Fin 16)
  /-- STEP_CMD_RUN (R516) -/
  | stepCmdRun (by_ : Actor) (slot : Fin 16)
  /-- CAPTURE (R517) -/
  | capture (by_ : Actor)
  /-- PLOT_HANG_TRIGGER (R517) -/
  | plotHangTrigger (cause : HangCause)
  /-- PLOT_SAMPLE_DONE (R518) -/
  | plotSampleDone
  /-- PLOT_WRITTEN (R518) -/
  | plotWritten
  /-- MCTP_REG_READ (R522) -/
  | mctpRegRead (path : MctpPath) (session : Option (Fin 16)) (addr : BitVec 32) (count : BitVec 8)
  /-- MCTP_REG_WRITE (R522) -/
  | mctpRegWrite (path : MctpPath) (session : Option (Fin 16)) (addr : BitVec 32) (values : List Word)
  /-- REGION_READ (R522) -/
  | regionRead (path : MctpPath) (session : Option (Fin 16)) (region : BitVec 8) (off : BitVec 64) (n : BitVec 16)
  /-- MCTP_PLOT_CAPTURE (R522) -/
  | mctpPlotCapture (path : MctpPath) (session : Option (Fin 16))
  /-- JTAG_IDCODE (R523) -/
  | jtagIdcode
  /-- JTAG_BYPASS (R523) -/
  | jtagBypass
  /-- SAMPLE_PRELOAD (R523) -/
  | samplePreload (lands : List Bool) (load : List Bool)
  /-- EXTEST (R523) -/
  | extest (rstLow : Bool)
  /-- VBK_RETENTION_LOSS (R54) -/
  | vbkRetentionLoss
  /-- PF_REFCLK_LOSS (R63) -/
  | pfRefclkLoss (chiplet : Fin 12)
  /-- PF_REFCLK_RETURN (R409) -/
  | pfRefclkReturn (chiplet : Fin 12)
  /-- HP_REFCLK_LOSS (R63) -/
  | hpRefclkLoss (port : Fin 8) (lost : Bool := true)
  /-- HP_PERST_RELEASE (R82) -/
  | hpPerstRelease (port : Fin 16)
  /-- CAVE_WRITE_BACK_DONE (R229) -/
  | caveWriteBackDone (frame : BitVec 20) (page : Fin 512)
  /-- BURST_RECORD_EXPIRY (R338) -/
  | burstRecordExpiry (source : BitVec 20) (tag : BitVec 16)
  deriving DecidableEq, Repr

end Sys2Proof
end

