-- ==== Sys2Proof/Machine/Crc.lean ====
section
/-! DEFINITION.  CRC-32C (R110, R120, R129, R235, R357): reflected polynomial 0x82F63B78, all ones before and
after. -/

namespace Sys2Proof.Machine

/-- `n` bit steps of the reflected CRC. -/
def crcBits : Nat → Nat → Nat
  | 0, c => c
  | n + 1, c => crcBits n (if c % 2 = 1 then (c / 2) ^^^ 0x82F63B78 else c / 2)

/-- CRC-32C of a byte string. -/
def crc32c (bytes : List Byte) : Nat :=
  (bytes.foldl (fun c b => crcBits 8 (c ^^^ b.toNat)) 0xFFFFFFFF) ^^^ 0xFFFFFFFF

end Sys2Proof.Machine
end

