-- ==== Sys2Proof/Config.lean ====
section
/-! DEFINITION.  What an implementation fixes and the spec leaves open: constants with no body, so that no
proof can see a value of them. -/

namespace Sys2Proof

/-- A free value, one for each use of the counter that State holds. -/
opaque Config.freeValue : Nat → BitVec 64

/-- How many records a logical device's event log holds (R189: "full" is the CXL device's own). -/
opaque Config.eventLogDepth : Nat

/-- The measurement of an index (Table 16-4) over the quantities it covers: 48 bytes. -/
opaque Config.measure : Nat → List Nat → List Byte

/-- The identity certificate chain (R472). -/
opaque Config.identityChain : List Byte

/-- The alias certificate chain, for the measurements that its key is derived from (R472). -/
opaque Config.aliasChain : List (List Byte) → List Byte

/-- AES-256-CMAC of a message under a key (R480). -/
opaque Config.cmac : BitVec 256 → List Byte → List Byte

/-- SHA-384. -/
opaque Config.sha384 : List Byte → List Byte

/-- Whether an ML-DSA-87 signature of a message verifies under a public key. -/
opaque Config.mldsaOk : (pk msg sig : List Byte) → Bool

/-- ML-KEM-1024 decapsulation under the module's identity key (R472). -/
opaque Config.identityDecap : List Byte → Option (List Byte)

/-- ML-KEM-1024 decapsulation under a set's key. -/
opaque Config.kemDecap : (dk ct : List Byte) → Option (List Byte)

/-- HKDF-SHA-384 with a zero salt: the key for a secret and an info. -/
opaque Config.hkdf : (secret info : List Byte) → List Byte

/-- AES-256-GCM decryption: the plaintext, if the tag matches. -/
opaque Config.gcmOpen : (key iv aad ct tag : List Byte) → Option (List Byte)

/-- The records of a configuration copy's body, each its TYPE and what follows its opening, for the registers it holds (R96:
the types and their layouts are the binnacle's own). -/
opaque Config.cfgRecords : List (Nat × BitVec 32) → List (BitVec 16 × List (BitVec 8))

/-- The KIND code of the record of an access to a DPA in neither range (R11 names the record, Table 6-5 gives it no code). -/
opaque Config.addressKind : Nat

/-- The logical stacks on which the parts of the logbook twin lie, of each part the one of copy A and the one of copy B (R119:
its place is the module's own). -/
opaque Config.logbookStacks : List (Nat × Nat)

/-- The DPA of the staging area of a descriptor's commit unit, by ring and SEQ (Table 4-6: its place is the module's own). -/
opaque Config.stagePlace : Nat → Nat → BitVec 52

/-- The flash unit address of a piece in a flush region, by channel, half and INDEX (R230, R233: the layout on flash is the
module's own). -/
opaque Config.flashUnit : (channel half index : Nat) → BitVec 48

/-- AES key unwrap (RFC 3394). -/
opaque Config.keyUnwrap : (kek wrapped : List Byte) → Option (List Byte)

/-- What a plot shows of a node where the state holds no value for it, by the plot's SEQ, the node's place and what is shown
(0 DIE, 1 AGE_US, 2 ID, 3 the core of a task that has none). -/
opaque Config.plotOpen : (seq place part : Nat) → Nat

end Sys2Proof
end

