-- ==== Sys2Proof/Machine/Assoc.lean ====
section
/-! DEFINITION.  Sparse tables as plain data: a list of (key, value) pairs in one canonical form, the
keys strictly rising and no entry equal to what an unlisted key reads as.  Memory, the register file
and every array of per-unit state are such tables. -/

namespace Sys2Proof.Machine

/-- A sparse table from natural keys to values. -/
abbrev Assoc (α : Type) := List (Nat × α)

/-- The value at `k`: the listed one, or `d`. -/
def Assoc.get {α : Type} (d : α) (k : Nat) : Assoc α → α
  | [] => d
  | (j, v) :: t => if j = k then v else Assoc.get d k t

/-- The entry of a key, if listed. -/
def Assoc.find {α : Type} (k : Nat) (t : Assoc α) : Option α := (List.find? (fun e => decide (e.1 = k)) t).map (·.2)

/-- The table without an entry at `k`. -/
def Assoc.drop {α : Type} (k : Nat) (t : Assoc α) : Assoc α := t.filter fun e => decide (e.1 ≠ k)

/-- The table with value `v` listed at `k` (keys strictly rising). -/
def Assoc.ins {α : Type} (k : Nat) (v : α) : Assoc α → Assoc α
  | [] => [(k, v)]
  | (j, w) :: t =>
    if j < k then (j, w) :: Assoc.ins k v t else if j = k then (k, v) :: t else (k, v) :: (j, w) :: t

/-- The table that reads `v` at `k`, where an unlisted `k` reads as `d`: writing `d` removes the entry. -/
def Assoc.put {α : Type} [DecidableEq α] (d : α) (k : Nat) (v : α) (t : Assoc α) : Assoc α :=
  if v = d then Assoc.drop k t else Assoc.ins k v t

/-- The keys rise strictly and are all above `lo`. -/
def Assoc.above {α : Type} (lo : Nat) : Assoc α → Bool
  | [] => true
  | (j, _) :: t => decide (lo < j) && Assoc.above j t

/-- The keys rise strictly. -/
def Assoc.sorted {α : Type} : Assoc α → Bool
  | [] => true
  | (j, _) :: t => Assoc.above j t

/-- No entry equals what its unlisted key would read as. -/
def Assoc.sparse {α : Type} [DecidableEq α] (d : Nat → α) (t : Assoc α) : Bool :=
  t.all fun e => decide (e.2 ≠ d e.1)

/-- The canonical form of a table whose unlisted keys read as `d`. -/
def Assoc.wf {α : Type} [DecidableEq α] (d : Nat → α) (t : Assoc α) : Bool :=
  Assoc.sorted t && Assoc.sparse d t

/-- The listed keys from `lo` (inclusive) to `hi` (exclusive). -/
def Assoc.keysIn {α : Type} (lo hi : Nat) (t : Assoc α) : List Nat :=
  (t.map (·.1)).filter fun k => decide (lo ≤ k) && decide (k < hi)

/-- The table with every entry whose key satisfies `p` removed. -/
def Assoc.clear {α : Type} (p : Nat → Bool) (t : Assoc α) : Assoc α :=
  t.filter fun e => !p e.1

end Sys2Proof.Machine
end

