-- ==== Sys2Proof/Machine/LineCode.lean ====
section
/-! DEFINITION.  The line code (R179–R182): a systematic RS(72,64) code over GF(2^8), the pattern masks K
(poison) and V (vacant), and the decoder's classes of Table 6-2.  Symbols are bytes as natural numbers
below 256; symbol j of a line is entry j of a list of 72. -/

namespace Sys2Proof.Machine

/-- Doubling in GF(2^8) with field polynomial x^8 + x^4 + x^3 + x^2 + 1 (R180). -/
def gfDouble (a : Nat) : Nat := if 2 * a ≥ 256 then (2 * a) ^^^ 0x11D else 2 * a

/-- The product of `a` and the low `n` bits of `b` in GF(2^8). -/
def gfMulBits : Nat → Nat → Nat → Nat
  | 0, _, _ => 0
  | n + 1, a, b => (if b % 2 = 1 then a else 0) ^^^ gfMulBits n (gfDouble a) (b / 2)

/-- Multiplication in GF(2^8). -/
def gfMul (a b : Nat) : Nat := gfMulBits 8 a b

/-- `a` to the power `n` in GF(2^8). -/
def gfPow (a : Nat) : Nat → Nat
  | 0 => 1
  | n + 1 => gfMul a (gfPow a n)

/-- The inverse in GF(2^8): a^254, computed as a^2·a^4·…·a^128. -/
def gfInv (a : Nat) : Nat :=
  let a2 := gfMul a a
  let a4 := gfMul a2 a2
  let a8 := gfMul a4 a4
  let a16 := gfMul a8 a8
  let a32 := gfMul a16 a16
  let a64 := gfMul a32 a32
  let a128 := gfMul a64 a64
  gfMul a2 (gfMul a4 (gfMul a8 (gfMul a16 (gfMul a32 (gfMul a64 a128)))))

/-- The coefficients of x^7 down to x^0 of g(x) = (x − α^0)…(x − α^7), α = 2 (R180). -/
def rsGen : List Nat := [0xFF, 0x0B, 0x51, 0x36, 0xEF, 0xAD, 0xC8, 0x18]

/-- One step of the division by g(x): symbol `d` enters the remainder `r` (x^7 first). -/
def rsFeed (r : List Nat) (d : Nat) : List Nat :=
  let f := d ^^^ r.headD 0
  List.zipWith (fun a g => a ^^^ gfMul f g) (r.drop 1 ++ [0]) rsGen

/-- Check bytes 0 to 7 of 64 data bytes (R180). -/
def rsCheck (data : List Nat) : List Nat := data.foldl rsFeed [0, 0, 0, 0, 0, 0, 0, 0]

/-- Syndrome S_i = c(α^i) of a line of 72 symbols (R180). -/
def rsSyndrome (line : List Nat) (i : Nat) : Nat :=
  line.foldl (fun acc c => gfMul acc (gfPow 2 i) ^^^ c) 0

/-- The eight syndromes of a line. -/
def rsSyndromes (line : List Nat) : List Nat := (List.range 8).map (rsSyndrome line)

/-- The pattern mask K of a poisoned line (Table 6-3). -/
def maskK : List Nat := [0x3B, 0xC6, 0x91, 0x0E, 0x7D, 0xE4, 0x28, 0xB5]

/-- The pattern mask V of a vacant line (Table 6-3). -/
def maskV : List Nat := [0x96, 0x2D, 0x5C, 0xE1, 0x07, 0xB8, 0x6A, 0xD6]

/-- Symbol-wise exclusive or. -/
def xorList (a b : List Nat) : List Nat := List.zipWith (· ^^^ ·) a b

/-- A line of 64 zero data bytes with the given check bytes. -/
def zeroLine (chk : List Nat) : List Nat := List.replicate 64 0 ++ chk

/-- The codeword of 64 data bytes. -/
def rsEncode (data : List Nat) : List Nat := data ++ rsCheck data

/-- A line written as poison over the given data bytes: the check bytes XORed with K (R182). -/
def poisonOver (data : List Nat) : List Nat := data ++ xorList (rsCheck data) maskK

/-- The locator of symbol p: α^(71 − p). -/
def locator (p : Nat) : Nat := gfPow 2 (71 - p)

/-- A bad symbol: its position and the value XORed onto it. -/
abbrev BadSymbol := Nat × Nat

/-- The syndromes of a set of bad symbols. -/
def syndromesOf (bad : List BadSymbol) : List Nat :=
  (List.range 8).map fun i =>
    bad.foldl (fun acc b => acc ^^^ gfMul b.2 (gfPow (locator b.1) i)) 0

/-- The positions whose locators are roots of x^n + c₁x^(n−1) + … + c_n. -/
def rootPositions (coeffs : List Nat) : List Nat :=
  (List.range 72).filter fun p =>
    coeffs.foldl (fun acc c => gfMul acc (locator p) ^^^ c) 1 == 0

/-- The one bad symbol that could have syndromes `s`. -/
def oneBad (s : List Nat) : List BadSymbol :=
  let s0 := s.getD 0 0
  let s1 := s.getD 1 0
  (rootPositions [gfMul s1 (gfInv s0)]).map fun p => (p, s0)

/-- The two bad symbols that could have syndromes `s`. -/
def twoBad (s : List Nat) : List BadSymbol :=
  let s0 := s.getD 0 0
  let s1 := s.getD 1 0
  let s2 := s.getD 2 0
  let s3 := s.getD 3 0
  let d := gfInv (gfMul s0 s2 ^^^ gfMul s1 s1)
  let c1 := gfMul d (gfMul s0 s3 ^^^ gfMul s1 s2)
  let c2 := gfMul d (gfMul s1 s3 ^^^ gfMul s2 s2)
  match rootPositions [c1, c2] with
  | [p, q] =>
    let y (a b : Nat) :=
      gfMul (s1 ^^^ gfMul s0 (locator b)) (gfInv (locator a ^^^ locator b))
    [(p, y p q), (q, y q p)]
  | _ => []

/-- The determinant of the 3×3 matrix with rows (a b c), (d e f), (g h i). -/
def gfDet3 (a b c d e f g h i : Nat) : Nat :=
  gfMul a (gfMul e i ^^^ gfMul f h) ^^^ gfMul b (gfMul d i ^^^ gfMul f g)
    ^^^ gfMul c (gfMul d h ^^^ gfMul e g)

/-- The three bad symbols that could have syndromes `s`. -/
def threeBad (s : List Nat) : List BadSymbol :=
  let s0 := s.getD 0 0
  let s1 := s.getD 1 0
  let s2 := s.getD 2 0
  let s3 := s.getD 3 0
  let s4 := s.getD 4 0
  let s5 := s.getD 5 0
  let d := gfInv (gfDet3 s0 s1 s2 s1 s2 s3 s2 s3 s4)
  let c3 := gfMul d (gfDet3 s3 s1 s2 s4 s2 s3 s5 s3 s4)
  let c2 := gfMul d (gfDet3 s0 s3 s2 s1 s4 s3 s2 s5 s4)
  let c1 := gfMul d (gfDet3 s0 s1 s3 s1 s2 s4 s2 s3 s5)
  match rootPositions [c1, c2, c3] with
  | [p, q, r] =>
    let y (a b c : Nat) :=
      gfMul (s2 ^^^ gfMul s1 (locator b ^^^ locator c) ^^^ gfMul s0 (gfMul (locator b) (locator c)))
        (gfInv (gfMul (locator a ^^^ locator b) (locator a ^^^ locator c)))
    [(p, y p q r), (q, y q p r), (r, y r p q)]
  | _ => []

/-- The 1 to 3 bad symbols whose syndromes are `s`, if there are any (the code's distance is 9, so
there is at most one such set). -/
def badSymbols (s : List Nat) : Option (List BadSymbol) :=
  let ok (b : List BadSymbol) : Bool :=
    decide (b ≠ []) && b.all (fun x => decide (x.2 ≠ 0)) && decide (syndromesOf b = s)
  if ok (oneBad s) then some (oneBad s)
  else if ok (twoBad s) then some (twoBad s)
  else if ok (threeBad s) then some (threeBad s)
  else none

/-- The decoder's classes (Table 6-2).  `dirty` marks rows 5 and 6, whose line is rewritten clean. -/
inductive LineClass where
  | clean (data : List Nat)
  | poison (dirty : Bool)
  | vacant (dirty : Bool)
  | corrected (data : List Nat) (bad : List BadSymbol)
  | uncorrectable
  deriving DecidableEq, Repr

/-- The line with the bad symbols corrected. -/
def correct (line : List Nat) (bad : List BadSymbol) : List Nat :=
  bad.foldl (fun l b => l.set b.1 (l.getD b.1 0 ^^^ b.2)) line

/-- The class of a line of 72 symbols: the first row of Table 6-2 that applies.  Rows 1 to 3 are tested
on the check bytes: the syndromes are zero, S_K or S_V exactly when the check bytes are those of the
data XORed with nothing, K or V. -/
def classify (line : List Nat) : LineClass :=
  let data := line.take 64
  let diff := xorList (rsCheck data) (line.drop 64)
  if diff = List.replicate 8 0 then .clean data
  else if diff = maskK then .poison false
  else if diff = maskV then .vacant false
  else
    let s := rsSyndromes line
    match badSymbols s with
    | some bad => .corrected ((correct line bad).take 64) bad
    | none =>
      if (badSymbols (xorList s (rsSyndromes (zeroLine maskK)))).isSome then .poison true
      else if (badSymbols (xorList s (rsSyndromes (zeroLine maskV)))).isSome then .vacant true
      else .uncorrectable

/-- A line with the symbols at some positions XORed with a value. -/
def damage (line : List Nat) (v : Nat) (at_ : List Nat) : List Nat :=
  at_.foldl (fun l p => l.set p (l.getD p 0 ^^^ v)) line

/-- The self-test vectors of Table 6-7, each with the class it must give. -/
def selfTestVectors : List (List Nat × LineClass) :=
  let zero := List.replicate 64 0
  let v1 := rsEncode zero
  [(v1, .clean zero),
   (damage v1 1 [71], .corrected zero [(71, 1)]),
   (damage v1 1 [70], .corrected zero [(70, 1)]),
   (damage v1 0xFF [0, 17, 63], .corrected zero [(0, 0xFF), (17, 0xFF), (63, 0xFF)]),
   (damage v1 0xFF [0, 17, 40, 63], .uncorrectable),
   (damage v1 0xFF [0, 17, 31, 40, 63], .uncorrectable),
   (zeroLine maskK, .poison false),
   (damage (zeroLine maskK) 0xFF [5, 50], .poison true),
   (zeroLine maskV, .vacant false)]

/-- Whether the line code gives every vector of Table 6-7 its class, and vectors 2, 3, 7 and 9 their syndromes (R192). -/
def lineSelfTest : Bool :=
  selfTestVectors.all (fun x => decide (classify x.1 = x.2))
    && decide (rsSyndromes (damage (zeroLine (List.replicate 8 0)) 1 [71]) = List.replicate 8 1)
    && decide (rsSyndromes (damage (zeroLine (List.replicate 8 0)) 1 [70]) = [1, 2, 4, 8, 0x10, 0x20, 0x40, 0x80])
    && decide (rsSyndrome (zeroLine maskK) 0 = 0x66) && decide (rsSyndrome (zeroLine maskV) 0 = 0x05)

end Sys2Proof.Machine
end

