-- ==== Sys2Proof/Machine/Memory.lean ====
section
/-! DEFINITION.  DRAM as it is stored: every line of every physical stack as the 72 symbols of its code
word (R146, R179).  A cell's address is `symKey stack line j`; an unlisted cell reads as the blank
line of its stack: the poison pattern that the bank pattern test of a Cold reset leaves (R186), or the
vacant pattern in a spare that its base die has filled (R173). -/

namespace Sys2Proof.Machine

/-- Lines of one stack: 128 GiB of 64-byte lines (R146). -/
def linesPerStack : Nat := 2 ^ 31

/-- DRAM bytes of the pool: 2 TiB (R11). -/
def dramBytes : Nat := 2 ^ 41

/-- The start of the cave window (R11). -/
def caveBase : Nat := 2 ^ 48

/-- The end of the cave window (R11). -/
def caveEnd : Nat := 2 ^ 49

/-- The address of symbol `j` of line `line` of physical stack `stack`. -/
def symKey (stack line j : Nat) : Nat := (stack * linesPerStack + line) * 72 + j

/-- DRAM contents: the listed cells, and the stacks whose blank lines hold the vacant pattern. -/
structure Memory where
  cells : List Host.Cell := []
  vacant : List Nat := [16, 17]
  deriving DecidableEq, Repr

/-- What an unlisted cell reads as: data bytes 0, check bytes K or V (R173, R186). -/
def Memory.blank (m : Memory) (key : Nat) : Byte :=
  let stack := key / (linesPerStack * 72)
  let j := key % 72
  if j < 64 then 0
  else BitVec.ofNat 8 ((if m.vacant.contains stack then maskV else maskK).getD (j - 64) 0)

/-- One symbol. -/
def Memory.sym (m : Memory) (key : Nat) : Byte := Assoc.get (m.blank key) key m.cells

/-- The memory with one symbol written. -/
def Memory.setSym (m : Memory) (key : Nat) (v : Byte) : Memory :=
  { m with cells := Assoc.put (m.blank key) key v m.cells }

/-- The canonical form: addresses strictly rising, no cell equal to what it would read as unlisted. -/
def Memory.wf (m : Memory) : Bool := Assoc.wf m.blank m.cells

/-- The 72 symbols of a line. -/
def Memory.line (m : Memory) (stack line : Nat) : List Nat :=
  (List.range 72).map fun j => (m.sym (symKey stack line j)).toNat

/-- Symbols `syms` written from cell `key` upwards. -/
def Memory.setFrom (m : Memory) (key : Nat) : List Nat → Memory
  | [] => m
  | v :: vs => (m.setSym key (BitVec.ofNat 8 v)).setFrom (key + 1) vs

/-- The memory with a line's 72 symbols written. -/
def Memory.setLine (m : Memory) (stack line : Nat) (syms : List Nat) : Memory :=
  m.setFrom (symKey stack line 0) (fitTo 0 72 syms)

/-- The memory with every line of a stack blank again, vacant or poisoned. -/
def Memory.blankStack (m : Memory) (stack : Nat) (vacant : Bool) : Memory :=
  let lo := symKey stack 0 0
  let hi := symKey (stack + 1) 0 0
  { cells := Assoc.clear (fun k => decide (lo ≤ k) && decide (k < hi)) m.cells
    vacant := if vacant then (if m.vacant.contains stack then m.vacant else stack :: m.vacant)
      else m.vacant.filter (· ≠ stack) }

/-- The memory with lines `from` (inclusive) to `to` (exclusive) of a stack written as clean poison: the
all-zero data bytes with K (R182). -/
def Memory.poisonLines (m : Memory) (stack lo : Nat) : Nat → Memory
  | 0 => m
  | n + 1 => (m.setLine stack lo (zeroLine maskK)).poisonLines stack (lo + 1) n

/-- The memory with `n` lines of a stack from line `lo` reading as poison: a blank line of a stack that is not
vacant is poison already (R186). -/
def Memory.poisonRange (m : Memory) (stack lo n : Nat) : Memory :=
  if m.vacant.contains stack then m.poisonLines stack lo n
  else
    { m with
      cells := Assoc.clear
        (fun k => decide (symKey stack lo 0 ≤ k) && decide (k < symKey stack (lo + n) 0)) m.cells }

/-- The value of a line as a requester sees it: 64 data bytes, or poison. -/
inductive LineVal where
  | data (bytes : List Byte)
  | poison
  deriving DecidableEq, Repr

/-- The bytes returned for a line: 64 zero bytes when it is poison (R183). -/
def LineVal.bytes : LineVal → List Byte
  | .data b => b
  | .poison => List.replicate 64 0

/-- Whether a line value is poison. -/
def LineVal.isPoison : LineVal → Bool
  | .data _ => false
  | .poison => true

/-- The code word of a line value: data with its check bytes, poison as zero data with K (R182). -/
def LineVal.symbols : LineVal → List Nat
  | .data b => rsEncode ((fitTo 0 64 b).map (·.toNat))
  | .poison => zeroLine maskK

/-- Data bytes of a decoded line. -/
def ofSymbols (d : List Nat) : List Byte := d.map (BitVec.ofNat 8)

end Sys2Proof.Machine
end

