-- ==== Sys2Proof/Machine/PartsMem.lean ====
section
/-! DEFINITION.  Block of the memory side: error-record windows, the pool cache, tier blocks, frames and
the cave, the DRAM controllers, twins' walks and prefetchers (chapters 5, 6 and 7). -/

namespace Sys2Proof.Machine

/-- An error record, gate record or link discard record (Tables 6-5, 9-3, 13-9). -/
structure Rec where
  key : RecKey
  ptn : Nat
  count : Nat
  first : Nat
  last : Nat
  time : Nat
  deriving DecidableEq, Repr

/-- An open coalescing window (R189): the records that followed the one sent at once; `count` 0 while
none has. -/
structure RecWindow where
  key : RecKey
  recipient : Recipient
  ptn : Nat
  count : Nat := 0
  first : Nat := 0
  last : Nat := 0
  deriving DecidableEq, Repr

/-- A line held in the pool cache (R210, R214), with its slice and way; `turned` is its place in the order in which lines turned
dirty (R489). -/
structure CacheLine where
  dpa : Nat
  slice : Nat
  way : Nat
  ptn : Nat
  dirty : Bool
  turned : Nat := 0
  val : LineVal
  deriving DecidableEq, Repr

/-- A page write-back to the cave in progress: the copy as ordered at the home stop, and whether no later
write has been ordered after it (R229). -/
structure WriteBack where
  page : Nat
  lines : List LineVal
  clean : Bool := true
  deriving DecidableEq, Repr

/-- One entry of the tier table (R220): class and cache mode. -/
structure TierEntry where
  cls : Nat := 0
  mode : Nat := 0
  deriving DecidableEq, Repr

/-- A FRAME block (R226): the cave block it holds, its valid and dirty pages, since when each is dirty, pages being staged or
written back, whether it is pinned, the clock policy's reference bit, and whether it is being
evicted. -/
structure Frame where
  block : Option Nat := none
  valid : List Nat := []
  dirty : List Nat := []
  dirtyAt : Assoc Nat := []
  staging : List Nat := []
  writing : List WriteBack := []
  pinned : Bool := false
  ref : Bool := false
  evicting : Bool := false
  deriving DecidableEq, Repr

/-- A cave page on flash: its 64 lines, the generation of its partition's key and the tweak that encrypted it (R230; a page
whose key a wash destroyed can no longer be read), and the places of its stripe, each a channel and a target, its own first
(R223). -/
structure CavePage where
  lines : List LineVal
  ptn : Nat
  keyGen : Nat
  tweak : Nat
  stripe : List (Nat × Nat) := []
  deriving DecidableEq, Repr

/-- A cave-window access that waits for a frame or for the staging of its page (R227). -/
structure CaveWait where
  q : Requester
  dpa : Nat
  ptn : Nat
  write : Bool
  mask : List Bool
  bytes : List Byte
  poison : Bool
  forFrame : Bool
  deriving DecidableEq, Repr

/-- A request in a pseudo-channel scheduler (R152): a read, or a write of the masked bytes, of one
line; `poison` marks a write that carries poison, `turner` a read of the turner (R194); `id` names it and `seq` is its place in
the order of entry. -/
structure DramReq where
  id : Nat
  seq : Nat
  dpa : Nat
  write : Bool
  stream : Option Nat := none
  mask : List Bool := []
  bytes : List Byte := []
  poison : Bool := false
  rt : Bool := false
  turner : Bool := false
  from_ : Requester := .firmware
  deriving DecidableEq, Repr

/-- What waits at rank 8 of Table 5-5 for a line: a corrected line written back and then read once more (R184), a
poisoned or vacant line written clean (Table 6-2), an uncorrectable line rewritten from another source, or as poison
over the data as read (R185). -/
inductive BackWork where
  | writeBack (syms : List Nat)
  | reRead
  | clean (syms : List Nat)
  | source (syms : List Nat)
  | poison (data : List Nat)
  deriving DecidableEq, Repr

/-- A rank 8 access to a line, with the source of the read that asked for it. -/
structure BackReq where
  dpa : Nat
  src : RecSource
  work : BackWork
  deriving DecidableEq, Repr

/-- A pseudo-channel scheduler (R152–R166): its two queues, what the home stop holds for it, the rank 8 accesses that
wait, the refreshes since it left self-refresh, and whether its last slot issued one; `recalTemp` is the temperature at its last
full recalibration, 0 °C before the first (DESIGN CHOICE, log 147). -/
structure PseudoChannel where
  queue : List DramReq := []
  rtQueue : List DramReq := []
  held : List DramReq := []
  back : List BackReq := []
  nextSeq : Nat := 0
  turned : Nat := 0
  refreshed : Bool := false
  makeup : Bool := false
  panic : List Nat := []
  panicIgnored : Bool := false
  budgetNs : Nat := 0
  drain : Bool := false
  hits : Nat := 0
  hitRow : Option (Nat × Nat) := none
  openRows : Assoc Nat := []
  lastGroup : Option Nat := none
  slicesDue : Nat := 0
  slice : Option Nat := none
  recalTemp : Nat := 0
  lastSlice : Option Nat := none
  turnerRow : Nat := 0
  turnerBank : Nat := 0
  passes : Nat := 0
  deriving DecidableEq, Repr

/-- What the controllers hold about a physical stack (R163–R176); `ceTimes` are the times of the
latest corrected reads (Table 6-8), `retrain` that its training data was lost (R191); `parityErrors` are the
parity errors of its interfaces with their times (R167), `stranded` that no home took it (R170), `reported` where the
base die said that refresh stands and `woken` the free value that the rest of its report is taken from (R159). -/
structure StackSt where
  selfRefresh : Bool := false
  ifaceFailed : List Nat := []
  parityErrors : List (Nat × Nat) := []
  stranded : Bool := false
  woken : Option Nat := none
  reported : List Nat := []
  moveTo : Option Bool := none
  replaceWaiting : Bool := false
  switching : Option Nat := none
  replacedBy : Option Nat := none
  replaces : Option Nat := none
  repairs : List (Nat × Nat × Nat) := []
  burned : List (Nat × Nat × Nat) := []
  repairing : Option (Nat × Nat × Nat) := none
  walkLine : Nat := 0
  filled : Bool := false
  failedWhole : Bool := false
  ceTimes : List Nat := []
  retrain : Bool := false
  deriving DecidableEq, Repr

/-- What a twin entry's walk and patrol hold beside its registers (R205–R207); `viaCopyIn` that a spare's copy-in is the walk
for the lines it holds. -/
structure TwinSt where
  walked : Nat := 0
  viaCopyIn : Bool := false
  lostA : Bool := false
  lostB : Bool := false
  passRewrites : Nat := 0
  passBad : Bool := false
  failPasses : Nat := 0
  patrolled : Nat := 0
  deriving DecidableEq, Repr

/-- The pattern a prefetcher follows (Table 7-3). -/
inductive PfPattern where
  | linear (base : Nat) (stride : Int) (count : Nat)
  | indexed (list : Nat) (wide : Bool) (table rowBytes rows count : Nat)
  | pageList (list count : Nat)
  deriving DecidableEq, Repr

/-- A request of a prefetcher in flight: its place in the pattern, its CA page, the DPA, the context's epoch at its
translation (R252), and whether its line is to be discarded on arrival. -/
structure Flight where
  idx : Nat
  page : Nat
  dpa : Nat
  epoch : Nat
  stale : Bool := false
  deriving DecidableEq, Repr

/-- A prefetched line in the stage: its place in the pattern, its CA page, its value, and whether it is
delivered as an ADDRESS_ERROR (Table 7-3, R234). -/
structure StagedLine where
  idx : Nat
  page : Nat
  val : LineVal
  addressError : Bool := false
  deriving DecidableEq, Repr

/-- A prefetcher of a core (R217, R218), bound to a task's descriptor: `next` is the place in the pattern it requests next, `used` the place
the consumer takes next. -/
structure Prefetcher where
  ring : Nat
  seq : Nat
  stream : Nat
  ctx : Nat
  ptn : Nat
  pattern : PfPattern
  next : Nat := 0
  used : Nat := 0
  flying : List Flight := []
  staged : List StagedLine := []
  depth : Nat := 64
  stopped : Bool := false
  deriving DecidableEq, Repr

/-- A pin whose two symbols were corrected in one row (Table 6-8). -/
structure PinRow where
  stack : Nat
  pc : Nat
  pin : Nat
  bank : Nat
  row : Nat
  time : Nat
  deriving DecidableEq, Repr

/-- A line found hard (Table 6-8), with the pins its bad symbols lie on. -/
structure HardLine where
  dpa : Nat
  stack : Nat
  pc : Nat
  bank : Nat
  row : Nat
  pins : List Nat
  deriving DecidableEq, Repr

/-- The memory side (chapters 5, 6 and 7): open record windows, the pool cache (most recently used first),
the stacks and their pseudo-channels (keyed stack × 64 + channel), the twins' walks, the tier table, the
frames (keyed by tier block), the pages on flash (keyed by cave page number), each partition's key
generation, accesses that wait for a page or a frame, the requesters whose accesses wait for a frame (with the cave block), the
mean erase count of the flash in percent of its endurance (R231), the clock policy's hands, blocks whose change of class waits for an eviction (block, class, mode), prefetchers (keyed core × 8 + index), retired
and disabled ways (slice, set group, way), the stack ports (die, port) whose line-code checker failed (R192), the corrected errors of ways with their times (R190), and what the integrity logic watches (R199): lines rewritten after an
uncorrectable read, hard lines with their counted symbols, pins seen per row, suspect pins. -/
structure PoolSt where
  records : List RecWindow := []
  cache : List CacheLine := []
  turnedDirty : Nat := 0
  stks : Assoc StackSt := []
  pcs : Assoc PseudoChannel := []
  twins : Assoc TwinSt := []
  tiers : Assoc TierEntry := []
  frames : Assoc Frame := []
  cave : Assoc CavePage := []
  keyGen : Assoc Nat := []
  caveWaits : List CaveWait := []
  frameWaits : List (Requester × Nat) := []
  caveWear : Nat := 0
  hands : Assoc Nat := []
  blockWaits : List (Nat × Nat × Nat) := []
  prefetchers : Assoc Prefetcher := []
  wayErrors : List ((Nat × Nat × Nat) × Nat) := []
  retiredWays : List (Nat × Nat × Nat) := []
  disabledWays : List (Nat × Nat × Nat) := []
  badPorts : List (Nat × Nat) := []
  ueRewritten : List Nat := []
  hardLines : List HardLine := []
  pinRows : List PinRow := []
  suspectPins : List (Nat × Nat × Nat) := []
  deriving DecidableEq, Repr

end Sys2Proof.Machine
end

