-- ==== Sys2Proof/Machine/PartsEng.lean ====
section
/-! DEFINITION.  Block of the engines: synchronisation objects, tasks and their cores, long accumulators,
vector registers, Bexa programs, bursts (chapters 10, 11 and 12). -/

namespace Sys2Proof.Machine

/-- A long accumulator (R297, R298): the value `a` × 2^-300 with `a` in 640-bit two's complement, and the
five flags. -/
structure Acc where
  a : Int := 0
  nan : Bool := false
  pinf : Bool := false
  ninf : Bool := false
  poison : Bool := false
  ovf : Bool := false
  deriving DecidableEq, Repr

/-- A vector register (Table 12-4): 256 element bytes, 16 scale bytes, a format tag, poisoned lanes. -/
structure Vec where
  bytes : List Byte := List.replicate 256 0
  scales : List Byte := List.replicate 16 0
  fmt : Nat := 0
  poison : List Nat := []
  deriving DecidableEq, Repr

/-- The bytes that one operation writes into a line: those present replace the line's, and `poison` makes
the whole line poison (Table 6-4, R188). -/
structure LineOut where
  dpa : Nat
  bytes : List (Option Byte)
  poison : Bool := false
  deriving DecidableEq, Repr

/-- A prefetch pattern in a program's window (Table 12-9), and how many bytes of its stream have been
taken. -/
structure PfBind where
  fmt : Nat
  pattern : PfPattern
  scaleBase : Nat
  taken : Nat := 0
  deriving DecidableEq, Repr

/-- Bytes of a source read whole: their offset in it, and whether they are poison or could not be reached (R344, R345). -/
structure SrcPiece where
  off : Nat
  bytes : List Byte
  poison : Bool
  addrErr : Bool := false
  deriving DecidableEq, Repr

/-- What a checkpoint holds of a program (Table 12-12): scalar registers and their poison bits, the program
counter, ESEL, RMODE, SEEN, the accumulators (keyed engine × 4 + number), the prefetcher bindings. -/
structure ProgCore where
  regs : Assoc DWord := []
  rpoison : List Nat := []
  pc : Nat := 0
  esel : Nat := 1
  rmode : Nat := 0
  seenAddr : Bool := false
  seenPoison : Bool := false
  accs : Assoc Acc := []
  binds : Assoc PfBind := []
  deriving DecidableEq, Repr

/-- A Bexa program as one task runs it: its live state, its last checkpoint, its vector registers (keyed
engine × 16 + number), its data window with the 64-byte lines of it that hold poison, the text, arguments, entry
point and initial data it was launched with, and the lines staged since UNIT, by CA. -/
structure Prog where
  core : ProgCore := {}
  saved : ProgCore := {}
  vregs : Assoc Vec := []
  window : List Byte := []
  wpoison : List Nat := []
  entryPc : Nat := 0
  init : List Byte := []
  text : List Nat := []
  args : List Nat := []
  ntasks : Nat := 1
  pf : Nat := 0
  inplace : Bool := false
  unit : Option (List LineOut) := none
  deriving DecidableEq, Repr

/-- How a task of a program ended (R378): its status and DETAIL, the code and word index of a trap, the
address involved. -/
structure Trap where
  status : Nat
  detail : Nat
  code : Nat
  word : Nat
  ca : Nat
  deriving DecidableEq, Repr

/-- What a WAITING task waits for (Table 11-3, R255, R334, R374). -/
inductive WaitFor where
  | fault (id : Nat)
  | faultRecord
  | object (obj : Nat) (threshold : Nat)
  | slot
  | maxima
  | burst
  deriving DecidableEq, Repr

/-- The states of a task (Table 11-3); `queued` tasks wait in their cluster's queue (R314), `ended` ones have
left their core. -/
inductive TaskState where
  | queued | ready | backoff | running
  | waiting (w : WaitFor)
  | ended
  deriving DecidableEq, Repr

/-- A task (R314): its descriptor and index, its stream, its cluster (die × 9 + cluster), its core and
save-area slot when it has one, its losses and its tiles since the grant, the logit slot it holds, whether its
head's maxima are combined, and its program. -/
structure Task where
  ring : Nat
  seq : Nat
  idx : Nat
  stream : Nat
  cluster : Option Nat := none
  core : Option Nat := none
  slot : Nat := 0
  state : TaskState := .queued
  losses : Nat := 0
  tiles : Nat := 0
  logit : Bool := false
  combined : Bool := false
  stop : Bool := false
  trap : Option Trap := none
  exited : Bool := false
  prog : Option Prog := none
  deriving DecidableEq, Repr

/-- A synchronisation object (R347): PARTIES beside a BARRIER, and the logbook entry that reserves it
(R350). -/
structure SyncObj where
  kind : Nat := 0
  value : Nat := 0
  parties : Nat := 0
  reserved : Option (Nat × Nat) := none
  deriving DecidableEq, Repr

/-- An open burst (R337): its pair, the descriptor it feeds, its total bytes, the pages of its landing area
(CA page, frame), its context, the slot of its notice (R419), and the cells committed. -/
structure Burst where
  source : Nat
  tag : Nat
  ring : Nat
  seq : Nat
  ctx : Nat
  src : Nat
  total : Nat
  slot : Nat := 0
  cells : List Nat := []
  deriving DecidableEq, Repr

/-- The outcome of a closed burst (R339): the descriptor, whether COMPLETE, the committed bytes. -/
structure BurstEnd where
  ring : Nat
  seq : Nat
  complete : Bool
  bytes : Nat
  deriving DecidableEq, Repr

/-- A text that a cluster keeps verified, keyed by the DPA of its header line and TEXT_CRC (R358). -/
structure VerifiedText where
  cluster : Nat
  dpa : Nat
  crc : Nat
  text : List Nat
  deriving DecidableEq, Repr

/-- The engines (chapter 11): objects, tasks in dispatch order, grants in the current window by stream, open
bursts, pairs remembered as closed with their slots (oldest first), ended bursts not yet settled by their descriptors, texts
kept verified. -/
structure EngSt where
  objs : Assoc SyncObj := []
  tasks : List Task := []
  grants : Assoc Nat := []
  bursts : List Burst := []
  closed : List (Nat × Nat × Nat) := []
  burstEnds : List BurstEnd := []
  verified : List VerifiedText := []
  deriving DecidableEq, Repr

end Sys2Proof.Machine
end

