-- ==== Sys2Proof/Machine/PartsCtl.lean ====
section
/-! DEFINITION.  Block of the control interface: rings, the logbook, the cave flush, mailbox channels and
MSI-X tables (chapter 4); translation contexts and fault records (chapter 8); host tracking, extents,
the rose ring and commons regions (chapter 9). -/

namespace Sys2Proof.Machine

/-- A ring's machine part (R104, R108, R114): its counters, whether its watch entry is armed and a wake is
pending, the place of that wake in the order of wakes (R115), what it waits for, the SEQ of a descriptor paused at a step (R515), the PRODUCE of the last service, and
the MODE that it takes when its replay ends (R132). -/
structure RingSt where
  accept : Nat := 0
  nextSeq : Nat := 0
  completed : Nat := 0
  consume : Nat := 0
  errSeq : Nat := 0
  armed : Bool := false
  pending : Bool := false
  woke : Nat := 0
  seqWait : Bool := false
  checkWait : Bool := false
  paused : Option Nat := none
  produce : Nat := 0
  after : Option Nat := none
  deriving DecidableEq, Repr

/-- The states of a logbook entry (STATE of Table 4-6). -/
inductive EntryState where
  | accepted | started | committing | done | completed
  deriving DecidableEq, Repr

/-- How a descriptor has finished before its entry is DONE: status, DETAIL and RESULT_LEN (R122); `ran` that the outcome arose
during execution, as those of a program do (R327). -/
structure Finish where
  status : Nat
  detail : Nat := 0
  len : Nat := 0
  ran : Bool := false
  deriving DecidableEq, Repr

/-- A logbook entry (R120, Table 4-6) with the copies of the descriptor's slots; `fin` is how it finished,
`waitMet` that its WAIT_EN condition has been met, `released` that a step command let it pass its pause
point, `startedAt` when its run began, `runUs` the length of its final run, `stage` and `stageObj` the staged lines and object of the unit being
committed, `src` the source that an overlapping COPY read whole (R345), `stageEpoch` the epoch its lines were translated under (R252), `sawPoison` and `sawAddr` what its units have met, `saved` the checkpoint stored
with its last unit (R376). -/
structure LogEntry where
  ring : Nat
  seq : Nat
  slot : Nat
  bytes : List Byte
  bodySlots : Nat
  state : EntryState := .accepted
  signalled : Bool := false
  held : Bool := false
  units : Nat := 0
  unitsDone : Nat := 0
  stage : List LineOut := []
  src : List SrcPiece := []
  stageEpoch : Nat := 0
  stageObj : Option (Nat × SyncObj) := none
  sawPoison : Bool := false
  sawAddr : Bool := false
  sawLost : Bool := false
  result : Nat := 0
  cplStatus : Nat := 0
  cplDetail : Nat := 0
  resultLen : Nat := 0
  fin : Option Finish := none
  waitMet : Bool := false
  released : Bool := false
  startedAt : Option Nat := none
  runUs : Nat := 0
  saved : Option ProgCore := none
  replayed : Bool := false
  deriving DecidableEq, Repr

/-- A ring's record in a flush: its counters, MODE and ERR (R128). -/
structure FlushedRing where
  ring : Nat
  counters : RingSt
  mode : Nat
  err : Nat
  deriving DecidableEq, Repr

/-- A piece of a flush (R128): its INDEX, the cave channels that hold a copy of it, and the tweak that each was encrypted with
under the module's cave key (R230). -/
structure FlushPiece where
  index : Nat
  channels : List Nat
  tweaks : List Nat := []
  deriving DecidableEq, Repr

/-- A logbook flush in the cave's flush regions (R128, R129, R233): its FLUSH_SEQ, the half of the regions it is in, whether it
was finished, the DEVICE_ID it bears, what it carries, and the pieces it is divided into. -/
structure Flush where
  seq : Nat
  half : Nat
  device : List Byte := []
  complete : Bool := false
  log : List LogEntry := []
  rings : List FlushedRing := []
  disabled : List Nat := []
  pieces : List FlushPiece := []
  deriving DecidableEq, Repr

/-- The logbook flush and its bookkeeping in the almanac (R129, R233): FLUSH_SEQ last begun and last
consumed, the flushes in the two halves, the half to erase before acceptance resumes. -/
structure FlushSt where
  begun : Nat := 0
  consumed : Nat := 0
  flushes : List Flush := []
  eraseHalf : Option Nat := none
  nextHalf : Nat := 0
  deriving DecidableEq, Repr

/-- A function disable in progress (R136): the function and the mailbox channel and tag to answer. -/
structure FnDisable where
  fn : Nat
  reply : Option (Nat × Nat) := none
  byCommand : Bool := false
  flr : Bool := false
  deriving DecidableEq, Repr

/-- What firmware holds about a mailbox channel (R143): the latched request, whether it has acted on
it, and a reply held while REPLY is set, BUSY with it. -/
structure MbxCh where
  request : Option (List Nat) := none
  acted : Bool := false
  heldReply : Option (List Nat) := none
  deriving DecidableEq, Repr

/-- A function's MSI-X state (R123). -/
structure Msix where
  enable : Bool := false
  fnMask : Bool := false
  masked : List Nat := []
  pending : List Nat := []
  deriving DecidableEq, Repr

/-- A segment entry of a context as the pool read it (R244, R245). -/
structure Segment where
  valid : Bool := false
  bad : Bool := false
  unusable : Bool := false
  rights : Nat := 0
  range : Bool := false
  caBase : Nat := 0
  pages : Nat := 0
  root : Nat := 0
  deriving DecidableEq, Repr

/-- A page translation cached in a cluster (R249). -/
structure CachedPage where
  cluster : Nat := 36
  ctx : Nat
  page : Nat
  frame : Nat
  rights : Nat
  deriving DecidableEq, Repr

/-- A directory entry cached in a cluster: the first page that it covers, and the leaf table it names (R249). -/
structure CachedDir where
  cluster : Nat
  ctx : Nat
  first : Nat
  leaf : Nat
  deriving DecidableEq, Repr

/-- A translation context's loaded segments (R245). -/
structure CtxSt where
  segs : List Segment := []
  deriving DecidableEq, Repr

/-- An XLT_INVAL being executed (Table 8-6): its context, the epoch whose accesses must drain, what it
resolves, the ring and SEQ of its descriptor, and whether the drain warning was given. -/
structure Inval where
  ctx : Nat
  epoch : Option Nat
  resolve : Option (Nat × Bool)
  ring : Nat
  seq : Nat
  warned : Bool := false
  deriving DecidableEq, Repr

/-- An open fault record (R255, Table 8-7). -/
structure FaultRec where
  id : Nat
  ctx : Nat
  ptn : Nat
  reason : Nat
  access : Nat
  page : Nat
  die : Nat
  layer : Nat := 0
  op : Nat := 0
  stream : Nat := 0
  tasks : List (Nat × Nat × Nat) := []
  deriving DecidableEq, Repr

/-- A fault that waits for a free record (R255). -/
structure PendingFault where
  ctx : Nat
  ptn : Nat
  reason : Nat
  access : Nat
  page : Nat
  die : Nat
  layer : Nat
  op : Nat
  stream : Nat
  task : Nat × Nat × Nat
  deriving DecidableEq, Repr

/-- A fault-queue record or cell notice waiting in the pool for queue space (R256, R259). -/
structure QueueRec where
  id : Nat
  ctx : Nat
  reason : Nat
  access : Nat
  update : Bool
  cell : Bool
  tasks : Nat
  page : Nat
  layer : Nat
  op : Nat
  stream : Nat
  deriving DecidableEq, Repr

/-- A partition's fault queue in the pool (R256). -/
structure FaultQueue where
  produce : Nat := 0
  consume : Nat := 0
  waiting : List QueueRec := []
  deriving DecidableEq, Repr

/-- A line in a host tracking directory (R277): the logical devices that may hold it, and those that may hold it
exclusive (more than one only where the directory's own record was lost, R280). -/
structure Tracked where
  holders : List Nat := []
  excl : List Nat := []
  deriving DecidableEq, Repr

/-- An outstanding BISnp (R277, R278). -/
structure BiSnp where
  dpa : Nat
  fn : Nat
  resent : Bool := false
  invalidate : Bool := true
  deriving DecidableEq, Repr

/-- A CXL.mem request held at its port by its meter (R458), or past its gate and not complete (R266, R273, R276): what
the logical device may hold afterwards (0 nothing, 1 shared, 2 exclusive), the DevLoad its response reports, and the
commons region and bank a read sampled (R287). -/
structure HostReq where
  tag : Nat
  fn : Nat
  spid : Option Nat := none
  gate : Nat := 0
  write : Bool
  dpa : Nat
  mask : List Bool := []
  bytes : List Byte := []
  poison : Bool := false
  keep : Nat := 0
  load : Nat := 0
  bank : Option (Nat × Nat) := none
  deriving DecidableEq, Repr

/-- An access that waits for the recall of copies that hosts hold (R277). -/
structure Want where
  q : Requester
  write : Bool
  line : Nat
  deriving DecidableEq, Repr

/-- Where a write of the module's own goes: a DRAM line, or what a context's address gives a partition (R358). -/
inductive LateAt where
  | line (dpa : Nat)
  | ca (ctx ptn ca : Nat)
  deriving DecidableEq, Repr

/-- A write of the module's own, of 64 masked bytes, that waits for the recall of host copies (R277) or for a frame (R227), with
the ring it belongs to, if any. -/
structure LateWrite where
  q : Requester
  ring : Option Nat := none
  at_ : LateAt
  mask : List Bool
  bytes : List Byte
  deriving DecidableEq, Repr

/-- The dynamic-capacity side of an EXTENT gate (R274–R276): its 16-byte extent tag. -/
structure Extent where
  tag : Nat := 0
  deriving DecidableEq, Repr

/-- A request on the rose ring (R284–R286). -/
structure RoseReq where
  line : Nat
  stop : Nat
  op : RoseOp
  nacks : Nat := 0
  deriving DecidableEq, Repr

/-- An open transaction at a home stop (R284, R285): the request, the home, the stops whose snoop response is due,
whether a response has brought the data, and whether a writeback-pending response awaits its writeback. -/
structure RoseTxn where
  req : RoseReq
  home : Nat
  due : List Nat := []
  data : Bool := false
  pendingWb : Bool := false
  deriving DecidableEq, Repr

/-- A line's copies in the slices of other stops (R211): the stops that hold it shared, one that holds it modified, and
its heir (R286).  A line has one value (R29), which the pool's memory holds. -/
structure RoseLine where
  sharers : List Nat := []
  owner : Option Nat := none
  heir : Option Nat := none
  deriving DecidableEq, Repr

/-- A slot that is being re-homed (R283): its die and number, and the cluster that takes it. -/
structure Rehome where
  die : Nat
  slot : Nat
  cluster : Nat
  deriving DecidableEq, Repr

/-- The rose ring: open transactions, NACKed requests that wait to retry, requests held while their slots re-home, line
states, writebacks sent and not yet acknowledged (line, stop), those of them in their buffers at the home, slots being
re-homed. -/
structure Rose where
  txns : List RoseTxn := []
  waiting : List RoseReq := []
  held : List RoseReq := []
  lines : Assoc RoseLine := []
  writebacks : List (Nat × Nat) := []
  arrived : List (Nat × Nat) := []
  rehoming : List Rehome := []
  deriving DecidableEq, Repr

/-- Which bank of a commons region a descriptor's reads come from (R287): sampled at its first read. -/
structure CmnSample where
  ring : Nat
  seq : Nat
  region : Nat
  bank : Nat
  deriving DecidableEq, Repr

/-- A PUBLISH in progress or waiting for its region (R289). -/
structure Publish where
  region : Nat
  ring : Nat
  seq : Nat
  ctx : Nat
  src : Nat
  first : Nat
  count : Nat
  expect : Nat
  result : Nat
  version : Nat
  claimed : Bool
  flipped : Bool := false
  deriving DecidableEq, Repr

/-- The control interface (chapter 4): rings (keyed by ring number), the logbook in acceptance order, the
rings that wait for a logbook entry in the order their wakes arrived, the number of wakes so far, freed entries whose signal is still owed (R120, R123), the
cave flush, function disables
in progress, mailbox channels and MSI-X state by function, and whether acceptance is stopped (R50). -/
structure CtlSt where
  rings : Assoc RingSt := []
  logbook : List LogEntry := []
  waiting : List Nat := []
  wakes : Nat := 0
  owed : List LogEntry := []
  flush : FlushSt := {}
  disables : List FnDisable := []
  mbx : Assoc MbxCh := []
  msix : Assoc Msix := []
  stopped : Bool := false
  deriving DecidableEq, Repr

/-- Address translation (chapter 8): contexts, cached page translations and directory entries, invalidations in progress, open
and pending fault records, fault queues by partition, and the cell notices of the last 1 ms (context, page,
time; R259). -/
structure XltSt where
  ctxs : Assoc CtxSt := []
  pages : List CachedPage := []
  dirs : List CachedDir := []
  invals : List Inval := []
  faults : List FaultRec := []
  waiting : List PendingFault := []
  queues : Assoc FaultQueue := []
  notices : List (Nat × Nat × Nat) := []
  deriving DecidableEq, Repr

/-- Host ports and coherence (chapter 9): the tracking directories, the logical stacks and cave blocks (from 16 on) whose
tracking was lost with a die and their lines tracked precisely since (R280), BISnp outstanding, exclusive copies given up (line,
logical device) whose writeback is discarded (R278), accesses and the module's writes that wait for recalls, requests held by their meters and
past their gates, extents by gate, event logs by logical device with the logs that have overflowed, the rose ring,
PUBLISH runs, the banks sampled by descriptors, IDE keys by port in containment mode, and the logical devices each port presents. -/
structure HostSt where
  tracked : Assoc Tracked := []
  assumed : List Nat := []
  precise : List Nat := []
  bisnps : List BiSnp := []
  given : List (Nat × Nat) := []
  wants : List Want := []
  late : List LateWrite := []
  held : List HostReq := []
  reqs : List HostReq := []
  extents : Assoc Extent := []
  eventLogs : Assoc (List Rec) := []
  overflowed : List Nat := []
  rose : Rose := {}
  publishes : List Publish := []
  samples : List CmnSample := []
  ideKeys : Assoc (List Nat) := []
  lds : Assoc Nat := []
  deriving DecidableEq, Repr

end Sys2Proof.Machine
end

