-- ==== Sys2Proof/Machine/PartsNet.lean ====
section
/-! DEFINITION.  Block of the fabric side: cells, the queues and token buckets between their creation and their slot
(chapter 15), the link layer (chapter 13), the router, the chronometer and the charts (chapter 14). -/

namespace Sys2Proof.Machine

/-- A DATA cell above the link layer (R387, R411): its 8-byte transport header and its 64-byte payload. -/
structure Cell where
  hdr : Nat
  payload : List Byte
  deriving DecidableEq, Repr

/-- A CXL.mem response: data, or a completion (R269). -/
inductive S2M where
  | memData (v : LineVal)
  | cmp
  deriving DecidableEq, Repr

/-- What waits in the queues of Table 15-1: a cell, with the port and class whose buffer it holds when it arrived on
one, or a response to a logical device with its DevLoad (R458). -/
inductive Msg where
  | cell (c : Cell) (arrived : Option (Nat × Nat))
  | s2m (fn tag : Nat) (r : S2M) (load : Nat)
  deriving DecidableEq, Repr

/-- A message of a subscriber, bound for a port in a class. -/
structure Queued where
  port : Nat
  cls : Nat
  msg : Msg
  deriving DecidableEq, Repr

/-- The queues, and what each token bucket lacks of its BURST in units of 2^-20 cell (R443, R450): subscribers by stream;
service queues keyed (service × 128 + port) × 4 + class; forward queues by port; firmware and default queues keyed
port × 4 + class; round robins (R448: the member last served and its consecutive cells); the slots a port must still let
pass before its next firmware cell. -/
structure ShapeSt where
  subs : Assoc (List Queued) := []
  svcs : Assoc (List Msg) := []
  fwd : Assoc (List Msg) := []
  fw : Assoc (List Msg) := []
  dflt : Assoc (List Msg) := []
  lacks : Assoc Nat := []
  robins : Assoc (Nat × Nat) := []
  -- fwGap: the slots left before a firmware queue, of port 4p + class, may start a cell (R447).
  fwGap : Assoc Nat := []
  deriving DecidableEq, Repr

/-- A cell of a replay buffer (R397): none is a VOID; how often it was resent, and whether it is to be sent again. -/
structure TxCell where
  seq : Nat
  cell : Option Cell
  resends : Nat := 0
  due : Bool := false
  deriving DecidableEq, Repr

/-- What a SESSION cell says (Table 13-5). -/
structure Session where
  echo : Bool
  router : Bool
  rate : Nat
  node : Nat
  inc : Nat
  peerNode : Nat
  peerInc : Nat
  rxNext : Nat
  txNext : Nat
  deriving DecidableEq, Repr

/-- A link (chapter 13) beside its registers: the training step reached; the replay buffer from A; cells landed out of
order; the SEQs a NAK has named, whether a NAK is due and the slots since the last; the slots since the marker, the next
MARKER_COUNT, the first cell of the codeword being formed, the lane parities and scramblers of both directions; the
codewords since the last marker received, its count, whether it was lost, whether an interval has an uncorrectable
codeword; the partner's last SESSION, whether it echoed, the slots to the next SESSION, the RETRAIN cells still to
send; when retrains began and parities failed (physical lane, time); when DOWN was entered; the failed receive and
transmit lanes; the RX_UNUSED, RX_READY and response that training frames carry; whether the reference clock is lost, whether its reset is released. -/
structure LinkSt where
  step : Nat := 0
  tx : List TxCell := []
  landed : List (Nat × Option Cell) := []
  named : List Nat := []
  nakDue : Bool := false
  nakGap : Nat := 8
  slot : Nat := 0
  markers : Nat := 0
  half : Option (List Byte) := none
  txParity : List Nat := [0, 0, 0, 0]
  rxParity : List Nat := [0, 0, 0, 0]
  txScramble : List Nat := [0, 0, 0, 0]
  rxScramble : List Nat := [0, 0, 0, 0]
  rxPos : Nat := 0
  rxMarker : Option Nat := none
  markerLost : Bool := false
  badInterval : Bool := false
  session : Option Session := none
  echoed : Bool := false
  sessGap : Nat := 0
  retrainCells : Nat := 0
  retrains : List Nat := []
  parityFails : List (Nat × Nat) := []
  downAt : Option Nat := none
  rxFailed : List Nat := []
  txFailed : List Nat := []
  tapResp : Assoc Nat := []
  peerReady : Bool := false
  refLost : Bool := false
  released : Bool := false
  deriving DecidableEq, Repr

/-- A cell in the buffer pool: the port it arrived on, its class there, the colour its meter gave it (0 green, 1 yellow,
2 red) or none while it is not metered, the chronometer's time at its arrival in sixteenths of a tick, and the lines of
a READ already answered.  An answer of this pool that is parked has port 128, or 129 for an answer to MGMT. -/
structure InCell where
  port : Nat
  cls : Nat
  cell : Cell
  colour : Option Nat
  stamp : Nat
  done : Nat := 0
  deriving DecidableEq, Repr

/-- A write being reassembled (R418): its source, TAG and arrival port, the µs of its first cell, its head and data
cells; `busy` says that one of its cells was refused (Table 15-3). -/
structure Reasm where
  src : Nat
  dst : Nat
  tag : Nat
  port : Nat
  since : Nat
  head : Option Cell := none
  data : List (Nat × Cell) := []
  busy : Bool := false
  deriving DecidableEq, Repr

/-- A request of the pool that awaits its answer (R417): a BROADCAST or REDUCE write of a descriptor, with the index
of its write, or a register read for the fabric manager. -/
structure OutReq where
  dst : Nat
  tag : Nat
  ring : Nat
  seq : Nat
  idx : Nat
  since : Nat
  deriving DecidableEq, Repr

/-- A remote destination of a BROADCAST (R344): its index, node and address, the bytes sent, the TAG of the write being
sent with the next of its cells (0 its head), whether it has failed. -/
structure BcastDest where
  idx : Nat
  node : Nat
  addr : Nat
  sent : Nat := 0
  tag : Option Nat := none
  cell : Nat := 0
  failed : Bool := false
  deriving DecidableEq, Repr

/-- A BROADCAST that is being sent, its source read once (R344). -/
structure Bcast where
  ring : Nat
  seq : Nat
  dests : List BcastDest
  src : List SrcPiece := []
  deriving DecidableEq, Repr

/-- A window of a chart (Table 14-8). -/
structure Window where
  start : Nat
  len : Nat
  classes : Nat
  exclusive : Bool
  guard : Nat
  service : Nat
  deriving DecidableEq, Repr

/-- A chart in a bank (R436). -/
structure Chart where
  cycle : Nat
  guard : Nat
  windows : List Window
  deriving DecidableEq, Repr

/-- A port's charts (R437): its two banks, the one that runs (true is B), a switch armed for a time in ticks, and a stop
at the next cycle end with the tick of that end. -/
structure PortChart where
  a : Option Chart := none
  b : Option Chart := none
  running : Option Bool := none
  armed : Option (Bool × Nat) := none
  stopAt : Option Nat := none
  deriving DecidableEq, Repr

/-- The chronometer (R432–R435) beside its registers: TIME in sixteenths of a tick, the correction still to be slewed
in, successes and failures in succession, µs at which HOLDOVER began, whether the first exchange since ACQUIRE was
taken; t1 of the child's open exchange, t1 and t4 of the one before (with 1 unless it is discarded), and t2 and t3 of
the last exchange with the child on each port. -/
structure Chrono where
  time : Nat := 0
  slew : Int := 0
  good : Nat := 0
  bad : Nat := 0
  stepped : Bool := false
  holdAt : Option Nat := none
  sent : Option Nat := none
  last : Option (Nat × Nat × Nat) := none
  owed : Assoc (Nat × Nat) := []
  deriving DecidableEq, Repr

/-- The router (chapter 14): arrived cells in order of arrival, cells delivered to the pool itself that wait for
execution, parked cells with the set they wait for, writes being reassembled, the BUSY ledger and the owed table (die,
answer, port), the pool's own open requests and quarantined TAGs (DST, TAG, µs of the timeout), the BROADCASTs being sent,
NOTIFY cells taken, the charts by port, the chronometer, and the buffer words with their corrected errors. -/
structure RouterSt where
  inbox : List InCell := []
  local_ : List InCell := []
  parked : List (Nat × InCell) := []
  reasm : List Reasm := []
  ledger : List (Nat × Cell × Nat) := []
  owed : List (Nat × Cell × Nat) := []
  reqs : List OutReq := []
  quarantine : List (Nat × Nat × Nat) := []
  bcasts : List Bcast := []
  notices : List Cell := []
  charts : Assoc PortChart := []
  chrono : Chrono := {}
  slotErrors : List (Nat × Nat) := []
  retiredSlots : List Nat := []
  deriving DecidableEq, Repr

/-- The fabric side. -/
structure NetSt where
  shape : ShapeSt := {}
  links : Assoc LinkSt := []
  router : RouterSt := {}
  deriving DecidableEq, Repr

end Sys2Proof.Machine
end

