-- ==== Sys2Proof/Machine/PartsSec.lean ====
section
/-! DEFINITION.  Block of the rind and of the partitions' washes (chapter 16): measurements and their log, SPDM sessions,
the fabric key, the device-set slots' keys. -/

namespace Sys2Proof.Machine

/-- What a device-set slot holds beside its registers (R481): the digest of the pinned authority key, and the set's
decapsulation key. -/
structure SetSlot where
  auth : List Byte := []
  dk : List Byte := []
  deriving DecidableEq, Repr

/-- An open SPDM session (R476): its path, whether FINISH has completed its establishment, and the generation of its
keys. -/
structure SpdmSession where
  path : SpdmPath
  live : Bool := false
  gen : Nat := 0
  deriving DecidableEq, Repr

/-- A request whose answer is deferred during an activation (Table 16-5). -/
inductive SpdmAsk where
  | certificate
  | challenge (slot : Nat)
  | measurements (index : Nat)
  | keyExchange
  deriving DecidableEq, Repr

/-- The rind and the washes: device-set slots, the fabric key and the last counter accepted under it (R480), the
measurements by index and their log (R474), SPDM sessions by number, deferred requests by path, and the steps that each
partition's wash has taken (R470). -/
structure SecSt where
  sets : Assoc SetSlot := []
  fabricKey : Option (BitVec 256) := none
  fabricCount : Nat := 0
  meas : Assoc (List Byte) := []
  log : List (Nat × List Byte) := []
  sessions : Assoc SpdmSession := []
  deferred : List (SpdmPath × SpdmAsk) := []
  washed : Assoc Nat := []
  deriving DecidableEq, Repr

end Sys2Proof.Machine
end

