-- ==== Sys2Proof/Machine/PartsPlat.lean ====
section
/-! DEFINITION.  Block of the platform: supply, clocks and temperatures (chapter 2), reset, boot and the almanac (chapter
3), service (chapter 17), debug (chapter 18), what each function's register accesses hold (R13). -/

namespace Sys2Proof.Machine

/-! ## Supply and temperature (chapter 2) -/

/-- An entry of a crossing buffer (Table 2-12): its data, its flag, and the copy of the flag that the filling side sees. -/
structure CrossEntry where
  data : List Byte := []
  flag : Bool := false
  seen : Bool := false
  deriving DecidableEq, Repr

/-- A unit's crossing buffer in one direction (R68, R69): its entries by index, and the entries that are the next to be
filled, to be taken and to come free. -/
structure Crossing where
  entries : Assoc CrossEntry := []
  fill : Nat := 0
  take : Nat := 0
  free : Nat := 0
  deriving DecidableEq, Repr

/-- The supply (R45–R48), PWR_FAIL_N (R49–R53), the rails (R55, R56), the temperatures (R57, R58) and the reference clocks
(R63): whether VIN lies in the low or the high band; the power limit set; each die's VCORE and its set-point in mV; the
dies that throttle, that are clamped at the limit temperature; the temperatures last sampled, in °C; the stacks above 95 °C;
whether the limit is unmet; whether PWR_FAIL_N is asserted, whether the module is held by it, the stacks put to sleep and the flush begun for
it, whether a flush runs, whether the pin is ignored; ALERT_N, THERM_TRIP_N; whether BN_XIN is lost, the x16 ports whose
reference clock is; the crossing buffers by twice the unit's number, plus 1 for the outbound direction (R68, R69). -/
structure PwrSt where
  low : Bool := false
  high : Bool := false
  limit : Nat := 1800
  vcore : List Nat := [800, 800, 800, 800]
  setPoint : List Nat := [800, 800, 800, 800]
  throttled : List Nat := []
  clamped : List Nat := []
  tj : List Nat := [0, 0, 0, 0]
  tcase : List Nat := []
  hot : List Nat := []
  unmet : Bool := false
  failPin : Bool := false
  held : Bool := false
  slept : List Nat := []
  own : Option Nat := none
  flushing : Bool := false
  ignored : Bool := false
  alert : Bool := false
  tripped : Bool := false
  bnLost : Bool := false
  hpLost : List Nat := []
  crossings : Assoc Crossing := []
  deriving DecidableEq, Repr

/-! ## Reset, boot and the almanac (chapter 3) -/

/-- Where the module stands: without power; off after an overvoltage; in the entry of R78; with its rails off; about to
take a step of Table 3-4 (1 to 10); at HELD; in a thermal hold since a time; in recovery boot; at PORTS_READY. -/
inductive Phase where
  | unpowered | latched | entry | railsOff
  | release (step : Nat)
  | held
  | thermalHold (since : Nat)
  | recovery | running
  deriving DecidableEq, Repr

/-- The flush status of the backup domain (R83, R84). -/
inductive FlushStatus where
  | flushed | noFlush | notApplicable | unknown
  deriving DecidableEq, Repr

/-- A configuration: its registers, the extents of its gates (R272), the logical devices of its ports (R266). -/
structure Snapshot where
  regs : List (Nat × Word) := []
  extents : Assoc Extent := []
  lds : Assoc Nat := []
  deriving DecidableEq, Repr

/-- A configuration copy (R96): its 64-byte header (Table 3-8), its body; `cut` says that its body was not written whole,
`bad` that one of its BCH words is uncorrectable. -/
structure CfgCopy where
  header : List Byte
  body : Snapshot
  cut : Bool := false
  bad : Bool := false
  deriving DecidableEq, Repr

/-- A slot of an RWP store entry (R94): the value, the counted writes, the toggle bit, whether its check holds. -/
structure RwpSlot where
  value : Bool := false
  count : Nat := 0
  toggle : Bool := false
  ok : Bool := true
  deriving DecidableEq, Repr

/-- A cluster reset in its sequence (R72): the cluster, the microsecond at which it went out, the slots that it had. -/
structure ClusterReset where
  cluster : Nat
  since : Nat
  slots : List Nat
  deriving DecidableEq, Repr

/-- A commit in progress (R99): the copy being written (true is B), what is written, its SEQ, and whether B follows. -/
structure CfgCommit where
  copyB : Bool
  seq : Nat
  body : Snapshot
  thenB : Bool
  deriving DecidableEq, Repr

/-- Reset and boot: the phase; whether the reset in progress is Cold, its cause, the microsecond of t0; whether the backup
domain's signature holds, and its flush status; the MODEs that the rings had before the reset (R132); the slots of SPI NOR,
the running one (true is B), the one that ran before a trial; the writes to RBT_FW_PREF that are not persistent yet, oldest first, and
its two slots in the RWP store (R94); the configuration copies and a commit; ports whose HP_PERST_N is asserted; the Die
reset in progress with its cause, Die resets that wait (Table 3-2); cluster resets in their sequence; Port resets, with their
causes, whose ports have not gone down yet (R81); links that a commanded Link reset retrains; whether the logbook is held by ADRIFT (R100), whether it is readable in DRAM; whether a trial is unconfirmed (R91); the owners
of the object blocks before a Warm reset (R347). -/
structure BootSt where
  phase : Phase := .release 1
  cold : Bool := true
  cause : Nat := 0
  t0 : Nat := 0
  vbkOk : Bool := false
  flush : FlushStatus := .unknown
  modes : List FlushedRing := []
  fwA : Option FwImage := none
  fwB : Option FwImage := none
  slotB : Bool := false
  before : Bool := false
  rwp : List Bool := []
  rwpA : RwpSlot := { toggle := true }
  rwpB : RwpSlot := {}
  copyA : Option CfgCopy := none
  copyB : Option CfgCopy := none
  commit : Option CfgCommit := none
  perst : List Nat := []
  dieReset : Option (Nat × Nat) := none
  dieWaits : List (Nat × Nat) := []
  clusterResets : List ClusterReset := []
  portResets : List (Nat × Nat) := []
  linkResets : List Nat := []
  adrift : Bool := false
  logOk : Bool := false
  trial : Bool := false
  syncOwn : List (Nat × Word) := []
  deriving DecidableEq, Repr

/-! ## Service (chapter 17) -/

/-- A recovery (R498): its kind as RAS_RECOVERY gives it, and the unit that it acts on. -/
structure Recovery where
  kind : Nat
  unit : Nat
  deriving DecidableEq, Repr

/-- An activation in progress (R495): the next step of Table 17-4, the die whose helm cores come next, the image. -/
structure Activation where
  step : Nat
  die : Nat
  image : FwImage
  deriving DecidableEq, Repr

/-- Service: critical phases queued, the one that runs, background phases, recoveries that wait at their detectors (R498);
what each LOST die's return would fall back to; clusters lent with the spare that took each (R491 step 3); when each die
went out of service, and the dies out for 1 h; the slot last written (true is B) and whether its image has been verified (R494);
the activation; the units that have taken, or gone back from, the PHY image that an activation staged (R497); whether firmware's twins await their check (R500); health
conditions that have held and do not clear (R501). -/
structure RasSt where
  queue : List Recovery := []
  critical : Option Recovery := none
  background : List Recovery := []
  atDetector : List Recovery := []
  lost : List Nat := []
  lent : List (Nat × Nat) := []
  outSince : Assoc Nat := []
  outHour : List Nat := []
  written : Option Bool := none
  verified : Bool := false
  activation : Option Activation := none
  phy : Option (List CrossUnit) := none
  checkTwins : Bool := false
  reasons : List Nat := []
  lostSpans : List (Nat × Nat) := []
  deriving DecidableEq, Repr

/-! ## Debug (chapter 18) -/

/-- A trace record that waits for the trace writer (R512): TYPE, PARTITION, the descriptor's LAYER_ID, OPERATOR_ID and
STREAM where it has one, TIME, ARG0 and ARG1. -/
structure TraceRec where
  type_ : Nat
  ptn : Nat := 0
  attr : Option (Nat × Nat × Nat) := none
  time : Nat
  arg0 : Nat
  arg1 : Nat
  deriving DecidableEq, Repr

/-- What a node of a plot stands for (Table 18-6): a ring, an entry (ring, SEQ), a task (ring, SEQ, index), an object, a
link, a transaction of the rose ring (line, requester's stop), a fault record, a burst (source, tag), or what lies outside
the pool (0 a logical device, 1 a node, 2 a partition's driver). -/
inductive PlotKey where
  | ring (r : Nat)
  | entry (r seq : Nat)
  | task (r seq idx : Nat)
  | object (o : Nat)
  | link (l : Nat)
  | rose (line stop : Nat)
  | fault (id : Nat)
  | burst (source tag : Nat)
  | outside (kind id : Nat)
  deriving DecidableEq, Repr

/-- A node of a plot (R520): KIND, PARTITION, DIE where the node has one, STATE, ID, DETAIL. -/
structure PlotNode where
  kind : Nat
  ptn : Nat := 0
  die : Option Nat := none
  st : Nat
  id : Nat
  detail : Nat := 0
  deriving DecidableEq, Repr

/-- An edge of a plot (Table 18-7): its nodes, REASON, ARG. -/
structure PlotEdge where
  src : PlotKey
  dst : PlotKey
  reason : Nat
  arg : Nat := 0
  deriving DecidableEq, Repr

/-- A capture in progress (R518): its trigger, the node that triggered it, the tick at which it began; the sample once
taken, with its edges and the dies that were sampled; once a second sample has confirmed them, the edges of the confirmed
cycles. -/
structure Capture where
  trigger : Nat
  root : Option PlotKey := none
  start : Nat
  nodes : List (PlotKey × PlotNode) := []
  edges : List PlotEdge := []
  dies : List Nat := []
  sampled : Bool := false
  confirmed : Bool := false
  loops : List PlotEdge := []
  deriving DecidableEq, Repr

/-- The instruction that the JTAG port holds (R523). -/
inductive JtagInstr where
  | idcode | bypass | sample | extest
  deriving DecidableEq, Repr

/-- Debug: what the counters have counted and which of them have wrapped (R507); the descriptor whose work a step does, while
it does it (R506); records that wait for the trace writer, PRODUCE and CONSUME's last value read, the records written in a
microsecond, the records dropped since the last record written; the capture, the microsecond of the last automatic plot. -/
structure DbgSt where
  counts : Assoc Nat := []
  ovf : List Nat := []
  work : Option (Nat × Nat) := none
  records : List TraceRec := []
  produce : Nat := 0
  budget : Nat × Nat := (0, 0)
  lost : Nat := 0
  capture : Option Capture := none
  lastAuto : Option Nat := none
  deriving DecidableEq, Repr

/-- The JTAG port (R523): its instruction, the boundary register, what it captured, whether it drives the lands. -/
structure TapSt where
  ir : JtagInstr := .idcode
  boundary : List Bool := []
  captured : List Bool := []
  driven : Bool := false
  deriving DecidableEq, Repr

/-! ## Register accesses (R13) -/

/-- What a function's accesses to register pairs hold (R13): the _HI halves latched by its reads, the _LO halves held by
its writes, each by offset. -/
structure Latches where
  read : Assoc Word := []
  held : Assoc Word := []
  deriving DecidableEq, Repr

/-- The latches of every function. -/
structure BusSt where
  latches : Assoc Latches := []
  deriving DecidableEq, Repr

end Sys2Proof.Machine
end

