-- ==== Sys2Proof/Machine/Outputs.lean ====
section
/-! DEFINITION.  What the block sends outward: error records, health events, notifications, responses.
Block keeps them in the order they were sent. -/

namespace Sys2Proof.Machine

/-- A health event (R504): what it names. -/
inductive Health where
  | pcFailed (stack pc : Nat)
  | turnerLag (stack : Nat)
  | ceRate (stack : Nat)
  | repairRefused (stack pc bank row : Nat)
  | sliceWay (slice : Nat)
  | caveWear
  | caveReadOnly
  | channelFailed (ch : Nat)
  | ifaceFailed (stack iface : Nat)
  | drainWarn (ctx : Nat)
  | cutOff (stream : Nat)
  | offStuck (link cls : Nat)
  | counter (n : Nat)
  | rwpNearWorn
  deriving DecidableEq, Repr

/-- What a Pefin notify cell says (NTYPE, R419): a ring's COMPLETED, a mailbox channel's RSP bits, a fault
queue's PRODUCE, an error record, a burst opened or closed. -/
inductive Notice where
  | ring (ring completed : Nat)
  | mailbox (channel bits : Nat)
  | faultQueue (ptn produce : Nat)
  | error (rec : Rec)
  | burstOpen (burst slot : Nat) (resume : Bool) (total idleUs : Nat)
  | burstClose (burst slot : Nat) (complete : Bool) (committed : Nat)
  deriving DecidableEq, Repr

/-- The answer to a command of the CXL memory device mailbox or FM API (R264): its return code, or its data. -/
inductive CxlReply where
  | success | unsupported | invalidInput | resourcesExhausted | invalidSecurityState
  | identity (capacity regions : Nat)
  | events (recs : List Rec) (overflow : Bool)
  | dcConfig (regions : List (Nat × Nat × Nat))
  | extents (list : List (Nat × Nat × Nat))
  | ldInfo (capacity lds : Nat)
  | allocations (lds : Nat)
  deriving DecidableEq, Repr

/-- A dynamic-capacity event (R274–R276). -/
inductive DcEvent where
  | offered | releaseAsked | removed | released
  deriving DecidableEq, Repr

/-- An SPDM error (R476, R477). -/
inductive SpdmError where
  | invalidRequest | unexpectedRequest | decryptError | unsupportedRequest | sessionLimitExceeded | sessionRequired
  | notReady (rdtExponent rdtm : Nat)
  deriving DecidableEq, Repr

/-- An answer of the SPDM responder (R476). -/
inductive SpdmReply where
  | version (list : List Nat)
  | capabilities | algorithms
  | digests (list : List (List Byte))
  | certificate (slot : Nat) (chain : List Byte)
  | challengeAuth (slot : Nat) (blocks : List (Nat × List Byte))
  | measurements (blocks : List (Nat × List Byte))
  | keyExchange (session : Nat)
  | finish | heartbeatAck | keyUpdateAck | endSessionAck | vendorDefined
  | error (e : SpdmError)
  deriving DecidableEq, Repr

/-- A PLDM event raised. -/
inductive PldmEvent where
  | washDone (ptn : Nat)
  | inputLow | inputHigh | limitUnmet | stageFailed (die stage : Nat) | failStuck | stackHot (stack : Nat)
  | thermalTrip
  | rwpWorn | adrift
  | healthLevel (level : Nat)
  | plot (seq : Nat)
  deriving DecidableEq, Repr

/-- What the PLDM sensors of a rail of Table 2-5 read (R55): its voltage in mV, its current in mA, its temperature in °C. -/
structure RailSense where
  mv : Nat
  ma : Nat
  celsius : Nat
  deriving DecidableEq, Repr

/-- How a PLDM request completes (R47, R80, R494, R521). -/
inductive PldmReply where
  | ok | invalidData | notReady | retryRequest | verifyFailed
  | sensors (health : Nat) (rails : List RailSense) (tj tcase : List Nat) (beatRate limit stage : Nat)
      (low high unmet adrift : Bool)
  deriving DecidableEq, Repr

/-- The response to a Tabragar MCTP message (R522): its completion code and data. -/
structure MctpReply where
  code : Nat
  words : List Word := []
  bytes : List Byte := []
  deriving DecidableEq, Repr

/-- The configuration report of a logical device admitted by a confidential host (R478): its partition, what the partition owns
(Table 16-2), whether it reads the commons, whether it is partition 0 with the commons enabled. -/
structure TspReport where
  ptn : Nat
  clusters : List Nat
  ways : List (Nat × Nat)
  blocks : List Nat
  groups : List Nat
  functions : List Nat
  streams : List Nat
  rings : List Nat
  contexts : List Nat
  faultQueue : Bool
  objects : List Nat
  twins : List Nat
  extents : List Nat
  gates : List Nat
  reader : Bool
  commons : Bool
  deriving DecidableEq, Repr

/-- An outward signal of the block. -/
inductive Output where
  | record (dst : Recipient) (rec : Rec)
  | health (h : Health)
  | read (q : Requester) (dpa : Nat) (val : LineVal)
  | written (q : Requester) (dpa : Nat) (poison : Bool)
  | addressError (q : Requester) (dpa : Nat)
  | wantsRepair (stack pc bank row : Nat)
  | wantsSpare (stack : Nat)
  | msix (fn vector : Nat)
  | s2m (fn tag : Nat) (r : S2M) (load : Nat)
  | bisnp (fn dpa : Nat) (invalidate : Bool)
  | cxl (fn : Option Nat) (r : CxlReply)
  | dcEvent (fn : Option Nat) (gate : Nat) (e : DcEvent)
  | bar2 (fn : Nat) (value : Option Nat)
  | codeword (link : Nat) (levels : List (List Nat))
  | ideRefused (port : Nat)
  | ppsOut (time : Nat)
  | training (link lane resp : Nat)
  | ideInstalled (port : Nat)
  | spdm (path : SpdmPath) (r : SpdmReply)
  | tsp (fn : Nat) (granted : Option TspReport)
  | pldm (e : PldmEvent)
  | pldmReply (r : PldmReply)
  | mctp (path : MctpPath) (r : MctpReply)
  | jtag (bits : List Bool)
  | unsupportedRequest (who : Sender)
  | reset (cause target : Nat)
  | resetForced (cause target : Nat)
  | fabricRefused (op : Nat)
  | crossed (inbound : Bool) (unit : CrossUnit) (data : List Byte)
  | regRead (who : Sender) (addr value : Nat)
  | flrDone (fn : Nat)
  | translated (ctx ca dpa : Nat)
  | denied (ctx ca code : Nat)
  | pageFault (ctx ca reason : Nat)
  deriving DecidableEq, Repr

end Sys2Proof.Machine
end

