-- ==== Sys2Proof/Machine/RegTypes.lean ====
section
/-! DEFINITION.  What a setup register is (R12–R16): an offset, array strides, and fields, each with its
access type, reset value and reset classes. -/

namespace Sys2Proof.Machine

/-- The access types of Table 0-3 (R15). -/
inductive Access where
  | ro | rw | rw1c | w1s | wo | rwl | rwp
  deriving DecidableEq, Repr

/-- The reset classes of Table 0-4 (R17). -/
inductive ResetClass where
  | cold | warm | die | port | link | wash
  deriving DecidableEq, Repr

/-- A register whose reset value depends on its array index: DRC_STACK_ID and DRC_HOME on the stack
(Table 1-2, R22), HPT_HOME_MAP on the die (R282), ENG_CORE_STATE on the core, which is a spare at position 8 of its cluster
or in cluster 8 of its die (R26). -/
inductive PerIndex where
  | none | stackId | stackHome | homeMap | coreState
  deriving DecidableEq, Repr

/-- A field of a register: bits `hi` down to `lo`.  `full` marks "full functions only" (R33), `cfg` a
configuration field (saved and restored with the configuration), `ranges` the values a configuration
write may hold (empty: every value). -/
structure FieldDef where
  hi : Nat
  lo : Nat
  acc : Access
  full : Bool := false
  reset : Nat := 0
  cls : List ResetClass := []
  cfg : Bool := false
  ranges : List (Nat × Nat) := []
  deriving DecidableEq, Repr

/-- A register, or an array of them: `dims` lists (stride, count), the widest stride first. -/
structure RegDef where
  base : Nat
  dims : List (Nat × Nat)
  perIndex : PerIndex := .none
  fields : List FieldDef
  deriving DecidableEq, Repr

/-- A handle on one field: the register's offset and the field's bits. -/
structure Fld where
  addr : Nat
  hi : Nat
  lo : Nat
  deriving DecidableEq, Repr

end Sys2Proof.Machine
end

