-- ==== Sys2Proof/Machine/Fields.lean ====
section
/-! DEFINITION.  Handles on the registers and fields of the setup register space, under the manual's
names: `R.X` is the offset of register X (of its array entry), `F.X_Y` is field Y of register X. -/

namespace Sys2Proof.Machine

namespace R

def GID_IDENT : Nat := 0x0
def GID_STEPPING : Nat := 0x4
def GID_CAPS0 : Nat := 0x8
def GID_CAPS1 : Nat := 0xc
def GID_DRAM_GIB : Nat := 0x10
def GID_STRAPS : Nat := 0x14
def GID_FN_INFO : Nat := 0x18
def GID_BEAT_RATE : Nat := 0x1c
def GID_SETUP_LOCK : Nat := 0x20
def GID_LOCK_VIOL_COUNT : Nat := 0x24
def GID_SCOPE_VIOL_COUNT : Nat := 0x28
def GID_BAD_ACCESS_COUNT : Nat := 0x2c
def RBT_STATUS : Nat := 0x10000
def RBT_RESET_COUNT : Nat := 0x10004
def RBT_LAST_CAUSE : Nat := 0x10008
def RBT_WARM_COUNT : Nat := 0x1000c
def RBT_DIE_COUNT : Nat := 0x10010
def RBT_PORT_COUNT : Nat := 0x10014
def RBT_LINK_COUNT : Nat := 0x10018
def RBT_RSEL_STATUS : Nat := 0x1001c
def RBT_RESET_CMD : Nat := 0x10020
def RBT_CMD_STATUS : Nat := 0x10024
def RBT_FW_PREF : Nat := 0x10028
def RBT_FW_STATUS : Nat := 0x1002c
def RBT_BOOT_TIME : Nat := 0x10030
def ALM_STATUS : Nat := 0x20000
def ALM_SEQ_LO : Nat := 0x20004
def ALM_SEQ_HI : Nat := 0x20008
def ALM_COMMIT : Nat := 0x2000c
def ALM_COMMIT_STATUS : Nat := 0x20010
def ALM_COMMITS_A : Nat := 0x20014
def ALM_COMMITS_B : Nat := 0x20018
def ALM_RWP_INDEX : Nat := 0x2001c
def ALM_RWP_ADDR : Nat := 0x20020
def ALM_RWP_WRITES : Nat := 0x20024
def ALM_WORN_COUNT : Nat := 0x20028
def ALM_NEAR_WORN_COUNT : Nat := 0x2002c
def ALM_WIN_PAGE : Nat := 0x20030
def ALM_CFG_BYTES : Nat := 0x20034
def ALM_WIN (w : Nat) : Nat := 0x30000 + 0x4 * w
def RNG_DESC_LO (n : Nat) : Nat := 0x80000 + 0x20 * n
def RNG_DESC_HI (n : Nat) : Nat := 0x80004 + 0x20 * n
def RNG_CPL_LO (n : Nat) : Nat := 0x80008 + 0x20 * n
def RNG_CPL_HI (n : Nat) : Nat := 0x8000c + 0x20 * n
def RNG_NOTIFY (n : Nat) : Nat := 0x80010 + 0x20 * n
def RNG_RESERVED (n : Nat) : Nat := 0x80014 + 0x20 * n
def RNG_CFG (n : Nat) : Nat := 0x80018 + 0x20 * n
def RNG_STATE (n : Nat) : Nat := 0x8001c + 0x20 * n
def RNG_CMD : Nat := 0xa0000
def RNG_CMD_STATUS : Nat := 0xa0004
def RNG_LOGBOOK_LIMIT : Nat := 0xa0008
def RNG_LOGBOOK_USED : Nat := 0xa000c
def RNG_LOGBOOK_PEAK : Nat := 0xa0010
def RNG_ACCEPT_LO : Nat := 0xa0014
def RNG_ACCEPT_HI : Nat := 0xa0018
def RNG_REPLAY : Nat := 0xa001c
def RNG_REPLAY_MS : Nat := 0xa0020
def RNG_PTN_QUOTA (p : Nat) : Nat := 0xa0040 + 0x4 * p
def RNG_FN_DIS (k : Nat) : Nat := 0xa0100 + 0x4 * k
def MBX_CH_STATE (c : Nat) : Nat := 0x40000 + 0x80 * c
def MBX_CH_CTRL (c : Nat) : Nat := 0x40004 + 0x80 * c
def MBX_CH_DB (c : Nat) : Nat := 0x40008 + 0x80 * c
def MBX_CH_MASK (c : Nat) : Nat := 0x4000c + 0x80 * c
def MBX_CH_STATUS (c : Nat) : Nat := 0x40010 + 0x80 * c
def MBX_CH_NOTIFY (c : Nat) : Nat := 0x40014 + 0x80 * c
def MBX_CH_RESERVED (c w : Nat) : Nat := 0x40018 + 0x80 * c + 0x4 * w
def MBX_CH_REQ (c w : Nat) : Nat := 0x40020 + 0x80 * c + 0x4 * w
def MBX_CH_RSP (c w : Nat) : Nat := 0x40050 + 0x80 * c + 0x4 * w
def MBX_ALLOC : Nat := 0x60000
def MBX_OPEN_COUNT : Nat := 0x60004
def MBX_DENIED_COUNT : Nat := 0x60008
def MBX_FORCE_CLOSE : Nat := 0x6000c
def DRC_STACK_ID (s : Nat) : Nat := 0x100000 + 0x4000 * s
def DRC_HOME (s : Nat) : Nat := 0x100004 + 0x4000 * s
def DRC_HOME_CMD (s : Nat) : Nat := 0x100008 + 0x4000 * s
def DRC_HOME_STATUS (s : Nat) : Nat := 0x10000c + 0x4000 * s
def DRC_SPARE_CMD (s : Nat) : Nat := 0x100010 + 0x4000 * s
def DRC_SPARE_RATE (s : Nat) : Nat := 0x100014 + 0x4000 * s
def DRC_SPARE_STATUS (s : Nat) : Nat := 0x100018 + 0x4000 * s
def DRC_COPY_PROGRESS (s : Nat) : Nat := 0x10001c + 0x4000 * s
def DRC_COPY_LOST (s : Nat) : Nat := 0x100020 + 0x4000 * s
def DRC_HASH_CH0 (s : Nat) : Nat := 0x100040 + 0x4000 * s
def DRC_HASH_CH1 (s : Nat) : Nat := 0x100044 + 0x4000 * s
def DRC_HASH_CH2 (s : Nat) : Nat := 0x100048 + 0x4000 * s
def DRC_HASH_BG0 (s : Nat) : Nat := 0x10004c + 0x4000 * s
def DRC_HASH_BG1 (s : Nat) : Nat := 0x100050 + 0x4000 * s
def DRC_HASH_BANK0 (s : Nat) : Nat := 0x100054 + 0x4000 * s
def DRC_HASH_BANK1 (s : Nat) : Nat := 0x100058 + 0x4000 * s
def DRC_HASH_SID0 (s : Nat) : Nat := 0x10005c + 0x4000 * s
def DRC_HASH_SID1 (s : Nat) : Nat := 0x100060 + 0x4000 * s
def DRC_SCHED (s : Nat) : Nat := 0x100080 + 0x4000 * s
def DRC_REF_CFG (s : Nat) : Nat := 0x100084 + 0x4000 * s
def DRC_RT_CFG (s : Nat) : Nat := 0x100088 + 0x4000 * s
def DRC_RECAL_CFG (s : Nat) : Nat := 0x10008c + 0x4000 * s
def DRC_PPR_CMD (s : Nat) : Nat := 0x100090 + 0x4000 * s
def DRC_PPR_STATUS (s : Nat) : Nat := 0x100094 + 0x4000 * s
def DRC_TRAIN_STATUS (s : Nat) : Nat := 0x100098 + 0x4000 * s
def DRC_TEMP (s : Nat) : Nat := 0x10009c + 0x4000 * s
def DRC_REF_STATUS (s : Nat) : Nat := 0x1000a0 + 0x4000 * s
def DRC_RT_STATUS (s : Nat) : Nat := 0x1000a4 + 0x4000 * s
def DRC_CFG_ERR_COUNT (s : Nat) : Nat := 0x1000a8 + 0x4000 * s
def DRC_PC_STATE (s p : Nat) : Nat := 0x100100 + 0x4000 * s + 0x4 * p
def INT_TURNER_CFG : Nat := 0x180000
def INT_TURNER_STATUS : Nat := 0x180004
def INT_TURNER_PROGRESS : Nat := 0x180008
def INT_CE_THRESH : Nat := 0x18000c
def INT_SELFTEST : Nat := 0x180010
def INT_SRAM_CE_COUNT : Nat := 0x180014
def INT_SRAM_UE_COUNT : Nat := 0x180018
def INT_ALM_CE_COUNT : Nat := 0x18001c
def INT_ALM_UE_COUNT : Nat := 0x180020
def INT_POISON_READS : Nat := 0x180024
def INT_RECORD_COUNT : Nat := 0x180028
def INT_RECORD_DROPPED : Nat := 0x18002c
def INT_INJECT_DPA_LO : Nat := 0x180040
def INT_INJECT_DPA_HI : Nat := 0x180044
def INT_INJECT_CTRL : Nat := 0x180048
def INT_S_CE_COUNT (s : Nat) : Nat := 0x181000 + 0x1000 * s
def INT_S_UE_COUNT (s : Nat) : Nat := 0x181004 + 0x1000 * s
def INT_S_POISON_WRITTEN (s : Nat) : Nat := 0x181008 + 0x1000 * s
def INT_S_LOG_STATUS (s : Nat) : Nat := 0x18100c + 0x1000 * s
def INT_S_LOG_CLEAR (s : Nat) : Nat := 0x181010 + 0x1000 * s
def INT_S_TURNER_ROW (s : Nat) : Nat := 0x181014 + 0x1000 * s
def INT_S_LOG_DPA_LO (s e : Nat) : Nat := 0x181800 + 0x1000 * s + 0x20 * e
def INT_S_LOG_DPA_HI (s e : Nat) : Nat := 0x181804 + 0x1000 * s + 0x20 * e
def INT_S_LOG_LOC (s e : Nat) : Nat := 0x181808 + 0x1000 * s + 0x20 * e
def INT_S_LOG_SYM (s e : Nat) : Nat := 0x18180c + 0x1000 * s + 0x20 * e
def INT_S_LOG_TIME_LO (s e : Nat) : Nat := 0x181810 + 0x1000 * s + 0x20 * e
def INT_S_LOG_TIME_HI (s e : Nat) : Nat := 0x181814 + 0x1000 * s + 0x20 * e
def INT_CE_LOG_RESERVED (s e w : Nat) : Nat := 0x181818 + 0x1000 * s + 0x20 * e + 0x4 * w
def INT_TWIN_BASE_LO (t : Nat) : Nat := 0x1a0000 + 0x40 * t
def INT_TWIN_BASE_HI (t : Nat) : Nat := 0x1a0004 + 0x40 * t
def INT_TWIN_MIRROR_LO (t : Nat) : Nat := 0x1a0008 + 0x40 * t
def INT_TWIN_MIRROR_HI (t : Nat) : Nat := 0x1a000c + 0x40 * t
def INT_TWIN_CFG (t : Nat) : Nat := 0x1a0010 + 0x40 * t
def INT_TWIN_STATE (t : Nat) : Nat := 0x1a0014 + 0x40 * t
def INT_TWIN_PROGRESS (t : Nat) : Nat := 0x1a0018 + 0x40 * t
def INT_TWIN_LOST (t : Nat) : Nat := 0x1a001c + 0x40 * t
def INT_TWIN_STANDBY_CE (t : Nat) : Nat := 0x1a0020 + 0x40 * t
def INT_TWIN_MISMATCH (t : Nat) : Nat := 0x1a0024 + 0x40 * t
def INT_TWIN_PATROL : Nat := 0x1a4000
def TIR_CACHE_CMD : Nat := 0x1c0000
def TIR_CACHE_CMD_STATUS : Nat := 0x1c0004
def TIR_PF_CFG : Nat := 0x1c0008
def TIR_BLOCK_FIRST : Nat := 0x1c000c
def TIR_BLOCK_COUNT : Nat := 0x1c0010
def TIR_BLOCK_CMD : Nat := 0x1c0014
def TIR_BLOCK_STATUS : Nat := 0x1c0018
def TIR_BLOCK_READ : Nat := 0x1c001c
def TIR_CAVE_STATUS : Nat := 0x1c0020
def TIR_CAVE_CAPACITY : Nat := 0x1c0024
def TIR_CAVE_WEAR : Nat := 0x1c0028
def TIR_CAVE_CFG : Nat := 0x1c002c
def TIR_CAVE_CMD : Nat := 0x1c0030
def TIR_CAVE_CMD_STATUS : Nat := 0x1c0034
def TIR_CAVE_STAGED : Nat := 0x1c0038
def TIR_CAVE_WRITTEN : Nat := 0x1c003c
def TIR_CAVE_RETRY : Nat := 0x1c0040
def TIR_CAVE_REBUILT : Nat := 0x1c0044
def TIR_CAVE_LOST : Nat := 0x1c0048
def TIR_FRAME_WAIT : Nat := 0x1c004c
def TIR_PRESS_FAIL : Nat := 0x1c0050
def TIR_SLICE_WAYS (i : Nat) : Nat := 0x1c0800 + 0x4 * i
def TIR_CH_STATUS (c : Nat) : Nat := 0x1c1000 + 0x40 * c
def TIR_CH_CE (c : Nat) : Nat := 0x1c1004 + 0x40 * c
def TIR_CH_PFAIL (c : Nat) : Nat := 0x1c1008 + 0x40 * c
def TIR_CH_EFAIL (c : Nat) : Nat := 0x1c100c + 0x40 * c
def TIR_CH_TIMEOUT (c : Nat) : Nat := 0x1c1010 + 0x40 * c
def TIR_CH_BAD_BLOCKS (c : Nat) : Nat := 0x1c1014 + 0x40 * c
def TIR_CX_BASE (x : Nat) : Nat := 0x1e0000 + 0x20 * x
def TIR_CX_COUNT (x : Nat) : Nat := 0x1e0004 + 0x20 * x
def TIR_CX_CFG (x : Nat) : Nat := 0x1e0008 + 0x20 * x
def TIR_CX_STATE (x : Nat) : Nat := 0x1e000c + 0x20 * x
def TIR_CX_RESIDENT (x : Nat) : Nat := 0x1e0010 + 0x20 * x
def XLT_CTX_TABLE_LO (n : Nat) : Nat := 0x200000 + 0x10 * n
def XLT_CTX_TABLE_HI (n : Nat) : Nat := 0x200004 + 0x10 * n
def XLT_CTX_CFG (n : Nat) : Nat := 0x200008 + 0x10 * n
def XLT_CTX_STATUS (n : Nat) : Nat := 0x20000c + 0x10 * n
def XLT_FQ_BASE_LO (p : Nat) : Nat := 0x210000 + 0x10 * p
def XLT_FQ_BASE_HI (p : Nat) : Nat := 0x210004 + 0x10 * p
def XLT_FQ_NOTIFY (p : Nat) : Nat := 0x210008 + 0x10 * p
def XLT_FQ_CFG (p : Nat) : Nat := 0x21000c + 0x10 * p
def XLT_SRC_CTX (g : Nat) : Nat := 0x211000 + 0x4 * g
def XLT_CFG : Nat := 0x212000
def XLT_STATUS : Nat := 0x212004
def XLT_FAULT_COUNT : Nat := 0x212008
def XLT_MERGE_COUNT : Nat := 0x21200c
def XLT_DENY_COUNT : Nat := 0x212010
def XLT_INVAL_COUNT : Nat := 0x212014
def XLT_DRAIN_WARN_COUNT : Nat := 0x212018
def XLT_RECORD_WAIT : Nat := 0x21201c
def XLT_FQ_FULL : Nat := 0x212020
def HPT_STATUS : Nat := 0x280000
def HPT_BI_CFG : Nat := 0x280004
def HPT_RING_CFG : Nat := 0x280008
def HPT_BI_TIMEOUT_COUNT : Nat := 0x28000c
def HPT_HOST_LOST_COUNT : Nat := 0x280010
def HPT_GATE_DENY_COUNT : Nat := 0x280014
def HPT_RING_NACK_COUNT : Nat := 0x280018
def HPT_RECORD_DROPPED : Nat := 0x28001c
def HPT_PORT_STATUS (p : Nat) : Nat := 0x280100 + 0x20 * p
def HPT_PORT_DOWN_COUNT (p : Nat) : Nat := 0x280104 + 0x20 * p
def HPT_HOME_MAP (d k : Nat) : Nat := 0x280400 + 0x20 * d + 0x4 * k
def HPT_CMN_BANK0_LO (r : Nat) : Nat := 0x281000 + 0x40 * r
def HPT_CMN_BANK0_HI (r : Nat) : Nat := 0x281004 + 0x40 * r
def HPT_CMN_BANK1_LO (r : Nat) : Nat := 0x281008 + 0x40 * r
def HPT_CMN_BANK1_HI (r : Nat) : Nat := 0x28100c + 0x40 * r
def HPT_CMN_CFG (r : Nat) : Nat := 0x281010 + 0x40 * r
def HPT_CMN_PUB (r : Nat) : Nat := 0x281014 + 0x40 * r
def HPT_CMN_STATE (r : Nat) : Nat := 0x281018 + 0x40 * r
def HPT_CMN_VERSION_LO (r : Nat) : Nat := 0x28101c + 0x40 * r
def HPT_CMN_VERSION_HI (r : Nat) : Nat := 0x281020 + 0x40 * r
def HPT_CMN_VISIBLE_LO (r : Nat) : Nat := 0x281024 + 0x40 * r
def HPT_CMN_VISIBLE_HI (r : Nat) : Nat := 0x281028 + 0x40 * r
def HPT_CMN_CONFLICTS (r : Nat) : Nat := 0x28102c + 0x40 * r
def HPT_GATE_BASE_LO (g : Nat) : Nat := 0x290000 + 0x20 * g
def HPT_GATE_BASE_HI (g : Nat) : Nat := 0x290004 + 0x20 * g
def HPT_GATE_BLOCKS (g : Nat) : Nat := 0x290008 + 0x20 * g
def HPT_GATE_KEY (g : Nat) : Nat := 0x29000c + 0x20 * g
def HPT_GATE_CFG (g : Nat) : Nat := 0x290010 + 0x20 * g
def HPT_GATE_STATE (g : Nat) : Nat := 0x290014 + 0x20 * g
def ENG_ST_CFG (s : Nat) : Nat := 0x300000 + 0x10 * s
def ENG_ST_QUOTA (s : Nat) : Nat := 0x300004 + 0x10 * s
def ENG_ST_STATUS (s : Nat) : Nat := 0x300008 + 0x10 * s
def ENG_ST_GRANTS (s : Nat) : Nat := 0x30000c + 0x10 * s
def ENG_SYNC_OWN (b : Nat) : Nat := 0x340000 + 0x4 * b
def ENG_ARB_CFG : Nat := 0x340400
def ENG_QUOTA_CFG : Nat := 0x340404
def ENG_BURST_CFG : Nat := 0x340408
def ENG_BURST_STATUS : Nat := 0x34040c
def ENG_BURST_TRUNC : Nat := 0x340410
def ENG_BURST_STALE : Nat := 0x340414
def ENG_BURST_REFUSED : Nat := 0x340418
def ENG_CUT_COUNT : Nat := 0x34041c
def ENG_SIGNAL_DROPPED : Nat := 0x340420
def ENG_SYNC_DENIED : Nat := 0x340424
def ENG_CORE_STATE (k : Nat) : Nat := 0x341000 + 0x4 * k
def PFL_CTRL (l : Nat) : Nat := 0x380000 + 0x1000 * l
def PFL_TIMERS (l : Nat) : Nat := 0x380004 + 0x1000 * l
def PFL_CMD (l : Nat) : Nat := 0x380008 + 0x1000 * l
def PFL_STATUS (l : Nat) : Nat := 0x38000c + 0x1000 * l
def PFL_PARTNER_NODE (l : Nat) : Nat := 0x380010 + 0x1000 * l
def PFL_PARTNER_INC (l : Nat) : Nat := 0x380014 + 0x1000 * l
def PFL_OWN_INC (l : Nat) : Nat := 0x380018 + 0x1000 * l
def PFL_RTT (l : Nat) : Nat := 0x38001c + 0x1000 * l
def PFL_SEQ (l : Nat) : Nat := 0x380020 + 0x1000 * l
def PFL_WINDOW (l : Nat) : Nat := 0x380024 + 0x1000 * l
def PFL_HOLD (l : Nat) : Nat := 0x380028 + 0x1000 * l
def PFL_FENCE (l : Nat) : Nat := 0x38002c + 0x1000 * l
def PFL_CLASS_OFF (l : Nat) : Nat := 0x380030 + 0x1000 * l
def PFL_CW_CORR_LO (l : Nat) : Nat := 0x380040 + 0x1000 * l
def PFL_CW_CORR_HI (l : Nat) : Nat := 0x380044 + 0x1000 * l
def PFL_CW_UNCORR (l : Nat) : Nat := 0x380048 + 0x1000 * l
def PFL_CRC_FAIL (l : Nat) : Nat := 0x38004c + 0x1000 * l
def PFL_REPLAYS (l : Nat) : Nat := 0x380050 + 0x1000 * l
def PFL_NAK_SENT (l : Nat) : Nat := 0x380054 + 0x1000 * l
def PFL_RETRAINS (l : Nat) : Nat := 0x380058 + 0x1000 * l
def PFL_DOWNS (l : Nat) : Nat := 0x38005c + 0x1000 * l
def PFL_MARKER_LOST (l : Nat) : Nat := 0x380060 + 0x1000 * l
def PFL_PROTO_ERR (l : Nat) : Nat := 0x380064 + 0x1000 * l
def PFL_OFF_STUCK (l : Nat) : Nat := 0x380068 + 0x1000 * l
def PFL_FENCED (l : Nat) : Nat := 0x38006c + 0x1000 * l
def PFL_PARITY_FAIL (l : Nat) : Nat := 0x380070 + 0x1000 * l
def PFL_LANE_STATUS (l q : Nat) : Nat := 0x380100 + 0x1000 * l + 0x10 * q
def PFL_LANE_SYMERR (l q : Nat) : Nat := 0x380104 + 0x1000 * l + 0x10 * q
def PFL_LANE_TXEQ (l q : Nat) : Nat := 0x380108 + 0x1000 * l + 0x10 * q
def PFR_NODE : Nat := 0x400000
def PFR_LEVEL : Nat := 0x400004
def PFR_REQ_CFG : Nat := 0x400008
def PFR_CLASS_CFG : Nat := 0x40000c
def PFR_PARK_CFG : Nat := 0x400010
def PFR_STATUS : Nat := 0x400014
def PFR_ERR : Nat := 0x400018
def PFR_CHR_CFG : Nat := 0x400020
def PFR_CHR_STATUS : Nat := 0x400024
def PFR_CHR_TIME_LO : Nat := 0x400028
def PFR_CHR_TIME_HI : Nat := 0x40002c
def PFR_HDR_ERR : Nat := 0x400040
def PFR_SRC_VIOL : Nat := 0x400044
def PFR_NO_ROUTE : Nat := 0x400048
def PFR_BUSY_DROPPED : Nat := 0x40004c
def PFR_NOTIFY_DROPPED : Nat := 0x400050
def PFR_ACK_DROPPED : Nat := 0x400054
def PFR_LATE_RSP : Nat := 0x400058
def PFR_BUF_UE : Nat := 0x40005c
def PFR_PORT_CFG (p : Nat) : Nat := 0x401000 + 0x40 * p
def PFR_PORT_STATUS (p : Nat) : Nat := 0x401004 + 0x40 * p
def PFR_CHART_DPA_LO (p : Nat) : Nat := 0x401008 + 0x40 * p
def PFR_CHART_DPA_HI (p : Nat) : Nat := 0x40100c + 0x40 * p
def PFR_CHART_AT_LO (p : Nat) : Nat := 0x401010 + 0x40 * p
def PFR_CHART_AT_HI (p : Nat) : Nat := 0x401014 + 0x40 * p
def PFR_CHART_CMD (p : Nat) : Nat := 0x401018 + 0x40 * p
def PFR_GUARD_HELD (p : Nat) : Nat := 0x40101c + 0x40 * p
def PFR_SET (s w : Nat) : Nat := 0x404000 + 0x10 * s + 0x4 * w
def PFR_SET_RESERVED (s : Nat) : Nat := 0x40400c + 0x10 * s
def PFR_GROUP (g : Nat) : Nat := 0x408000 + 0x4 * g
def PFR_MEMBER (m : Nat) : Nat := 0x409000 + 0x4 * m
def SHP_SUB_CFG_LO (s : Nat) : Nat := 0x480000 + 0x10 * s
def SHP_SUB_CFG_HI (s : Nat) : Nat := 0x480004 + 0x10 * s
def SHP_SUB_STATUS (s : Nat) : Nat := 0x480008 + 0x10 * s
def SHP_SUB_SENT (s : Nat) : Nat := 0x48000c + 0x10 * s
def SHP_SVC_CFG_LO (v : Nat) : Nat := 0x4c0000 + 0x10 * v
def SHP_SVC_CFG_HI (v : Nat) : Nat := 0x4c0004 + 0x10 * v
def SHP_SVC_STATUS (v : Nat) : Nat := 0x4c0008 + 0x10 * v
def SHP_SVC_SENT (v : Nat) : Nat := 0x4c000c + 0x10 * v
def SHP_FN_RATE_LO (f : Nat) : Nat := 0x4c1000 + 0x20 * f
def SHP_FN_RATE_HI (f : Nat) : Nat := 0x4c1004 + 0x20 * f
def SHP_FN_BURST_LO (f : Nat) : Nat := 0x4c1008 + 0x20 * f
def SHP_FN_BURST_HI (f : Nat) : Nat := 0x4c100c + 0x20 * f
def SHP_FN_SUB (f : Nat) : Nat := 0x4c1010 + 0x20 * f
def SHP_FN_TOKENS (f : Nat) : Nat := 0x4c1014 + 0x20 * f
def SHP_FN_YELLOW (f : Nat) : Nat := 0x4c1018 + 0x20 * f
def SHP_FN_RED (f : Nat) : Nat := 0x4c101c + 0x20 * f
def SHP_PORT_FWD_LO (p : Nat) : Nat := 0x4c5000 + 0x10 * p
def SHP_PORT_FWD_HI (p : Nat) : Nat := 0x4c5004 + 0x10 * p
def SHP_PORT_FWD_SENT (p : Nat) : Nat := 0x4c5008 + 0x10 * p
def SHP_PORT_DEFAULT_SENT (p : Nat) : Nat := 0x4c500c + 0x10 * p
def SHP_CFG : Nat := 0x4c6000
def SHP_CFG_ERR_COUNT : Nat := 0x4c6004
def SHP_HOLD_FULL : Nat := 0x4c6008
def PTN_CMD : Nat := 0xc0000
def PTN_CMD_STATUS : Nat := 0xc0004
def PTN_COMMONS : Nat := 0xc0008
def PTN_CMN_READERS : Nat := 0xc000c
def PTN_WASH_CFG : Nat := 0xc0010
def PTN_WASH_COUNT : Nat := 0xc0014
def PTN_STATE (p : Nat) : Nat := 0xc0100 + 0x20 * p
def PTN_CFG (p : Nat) : Nat := 0xc0104 + 0x20 * p
def PTN_WASH_PROGRESS (p : Nat) : Nat := 0xc0108 + 0x20 * p
def PTN_UNITS (p : Nat) : Nat := 0xc010c + 0x20 * p
def PTN_CLUSTER_OWN (i : Nat) : Nat := 0xc1000 + 0x4 * i
def PTN_BLOCK_OWN (i : Nat) : Nat := 0xc1100 + 0x4 * i
def PTN_WAY_OWN (s j : Nat) : Nat := 0xc2000 + 0x10 * s + 0x4 * j
def PTN_FN_GRANT (f : Nat) : Nat := 0xc3000 + 0x4 * f
def PTN_SRC_GROUP (g : Nat) : Nat := 0xc3400 + 0x4 * g
def SEC_STATUS : Nat := 0x500000
def SEC_SVN : Nat := 0x500004
def SEC_SVN_COMMIT : Nat := 0x500008
def SEC_MEAS_COUNT : Nat := 0x50000c
def SEC_SPDM_SESSIONS : Nat := 0x500010
def SEC_TSP_VIOL_COUNT : Nat := 0x500014
def SEC_BIND_COUNT : Nat := 0x500018
def SEC_BIND_FAIL : Nat := 0x50001c
def SEC_FABRIC_FAIL : Nat := 0x500020
def SEC_DEVICE_ID (w : Nat) : Nat := 0x500030 + 0x4 * w
def SEC_SET_ID (k : Nat) : Nat := 0x500100 + 0x10 * k
def SEC_SET_STATE (k : Nat) : Nat := 0x500104 + 0x10 * k
def SEC_SET_LOADS (k : Nat) : Nat := 0x500108 + 0x10 * k
def SEC_TSP_STATE (f : Nat) : Nat := 0x501000 + 0x4 * f
def RAS_HEALTH : Nat := 0x580000
def RAS_HEALTH_REASON : Nat := 0x580004
def RAS_CMD : Nat := 0x580008
def RAS_CMD_STATUS : Nat := 0x58000c
def RAS_RECOVERY : Nat := 0x580010
def RAS_SINGLE_COUNT : Nat := 0x580014
def RAS_DOUBLE_COUNT : Nat := 0x580018
def RAS_LOST_LINES : Nat := 0x58001c
def RAS_UPDATE_STATUS : Nat := 0x580020
def RAS_CFG : Nat := 0x580024
def RAS_DIE_STATE (d : Nat) : Nat := 0x580100 + 0x20 * d
def RAS_SPARE_CORE_LO (d : Nat) : Nat := 0x580104 + 0x20 * d
def RAS_SPARE_CORE_HI (d : Nat) : Nat := 0x580108 + 0x20 * d
def RAS_STAGE_STATE (d : Nat) : Nat := 0x58010c + 0x20 * d
def RAS_DIE_LOSS_COUNT (d : Nat) : Nat := 0x580110 + 0x20 * d
def DBG_CNT_GLOBAL : Nat := 0x600000
def DBG_CMD_STATUS : Nat := 0x600004
def DBG_TRACE_BASE_LO : Nat := 0x600100
def DBG_TRACE_BASE_HI : Nat := 0x600104
def DBG_TRACE_CFG : Nat := 0x600108
def DBG_TRACE_TYPES : Nat := 0x60010c
def DBG_TRACE_FILT_ID : Nat := 0x600110
def DBG_TRACE_FILT_MASK : Nat := 0x600114
def DBG_TRACE_STATUS : Nat := 0x600118
def DBG_TRACE_LOST : Nat := 0x60011c
def DBG_TRACE_MARK : Nat := 0x600120
def DBG_STEP_CFG (k : Nat) : Nat := 0x600200 + 0x8 * k
def DBG_STEP_SEQ (k : Nat) : Nat := 0x600204 + 0x8 * k
def DBG_STEP_CMD : Nat := 0x600280
def DBG_PLOT_BASE_LO : Nat := 0x600300
def DBG_PLOT_BASE_HI : Nat := 0x600304
def DBG_PLOT_CFG : Nat := 0x600308
def DBG_PLOT_CMD : Nat := 0x60030c
def DBG_PLOT_STATUS : Nat := 0x600310
def DBG_PLOT_SEQ : Nat := 0x600314
def DBG_PLOT_SUPPRESSED : Nat := 0x600318
def DBG_CNT_CTL (n : Nat) : Nat := 0x601000 + 0x20 * n
def DBG_CNT_FILT_ID (n : Nat) : Nat := 0x601004 + 0x20 * n
def DBG_CNT_FILT_MASK (n : Nat) : Nat := 0x601008 + 0x20 * n
def DBG_CNT_FILT_STREAM (n : Nat) : Nat := 0x60100c + 0x20 * n
def DBG_CNT_VAL_LO (n : Nat) : Nat := 0x601010 + 0x20 * n
def DBG_CNT_VAL_HI (n : Nat) : Nat := 0x601014 + 0x20 * n
def DBG_CNT_RESERVED (n w : Nat) : Nat := 0x601018 + 0x20 * n + 0x4 * w

end R

namespace F

def GID_IDENT_PART : Fld := ⟨R.GID_IDENT, 31, 16⟩
def GID_IDENT_VENDOR : Fld := ⟨R.GID_IDENT, 15, 0⟩
def GID_STEPPING_MAJOR : Fld := ⟨R.GID_STEPPING, 7, 4⟩
def GID_STEPPING_MINOR : Fld := ⟨R.GID_STEPPING, 3, 0⟩
def GID_CAPS0_ENGINES : Fld := ⟨R.GID_CAPS0, 31, 16⟩
def GID_CAPS0_CLUSTERS : Fld := ⟨R.GID_CAPS0, 15, 8⟩
def GID_CAPS0_HELM_ACTIVE : Fld := ⟨R.GID_CAPS0, 7, 4⟩
def GID_CAPS1_LINKS : Fld := ⟨R.GID_CAPS1, 23, 16⟩
def GID_CAPS1_HOST_PORTS : Fld := ⟨R.GID_CAPS1, 15, 8⟩
def GID_CAPS1_PARTITIONS : Fld := ⟨R.GID_CAPS1, 5, 0⟩
def GID_DRAM_GIB_GIB : Fld := ⟨R.GID_DRAM_GIB, 11, 0⟩
def GID_STRAPS_RSEL : Fld := ⟨R.GID_STRAPS, 3, 0⟩
def GID_FN_INFO_GRANTED : Fld := ⟨R.GID_FN_INFO, 10, 10⟩
def GID_FN_INFO_FULL : Fld := ⟨R.GID_FN_INFO, 9, 9⟩
def GID_FN_INFO_PTN : Fld := ⟨R.GID_FN_INFO, 8, 4⟩
def GID_FN_INFO_PORT : Fld := ⟨R.GID_FN_INFO, 3, 0⟩
def GID_BEAT_RATE_MBEATS : Fld := ⟨R.GID_BEAT_RATE, 15, 0⟩
def GID_SETUP_LOCK_SETUP_LOCK : Fld := ⟨R.GID_SETUP_LOCK, 0, 0⟩
def GID_LOCK_VIOL_COUNT_COUNT : Fld := ⟨R.GID_LOCK_VIOL_COUNT, 31, 0⟩
def GID_SCOPE_VIOL_COUNT_COUNT : Fld := ⟨R.GID_SCOPE_VIOL_COUNT, 31, 0⟩
def GID_BAD_ACCESS_COUNT_COUNT : Fld := ⟨R.GID_BAD_ACCESS_COUNT, 31, 0⟩
def RBT_STATUS_STAGE : Fld := ⟨R.RBT_STATUS, 7, 4⟩
def RBT_STATUS_RECOVERY : Fld := ⟨R.RBT_STATUS, 1, 1⟩
def RBT_RESET_COUNT_COUNT : Fld := ⟨R.RBT_RESET_COUNT, 31, 0⟩
def RBT_LAST_CAUSE_VBK_LOST : Fld := ⟨R.RBT_LAST_CAUSE, 7, 7⟩
def RBT_LAST_CAUSE_NO_FLUSH : Fld := ⟨R.RBT_LAST_CAUSE, 6, 6⟩
def RBT_LAST_CAUSE_CAUSE : Fld := ⟨R.RBT_LAST_CAUSE, 4, 0⟩
def RBT_WARM_COUNT_COUNT : Fld := ⟨R.RBT_WARM_COUNT, 31, 0⟩
def RBT_DIE_COUNT_COUNT : Fld := ⟨R.RBT_DIE_COUNT, 31, 0⟩
def RBT_PORT_COUNT_COUNT : Fld := ⟨R.RBT_PORT_COUNT, 31, 0⟩
def RBT_LINK_COUNT_COUNT : Fld := ⟨R.RBT_LINK_COUNT, 31, 0⟩
def RBT_RSEL_STATUS_MARGINAL : Fld := ⟨R.RBT_RSEL_STATUS, 16, 16⟩
def RBT_RSEL_STATUS_RATIO : Fld := ⟨R.RBT_RSEL_STATUS, 15, 8⟩
def RBT_RSEL_STATUS_CODE : Fld := ⟨R.RBT_RSEL_STATUS, 3, 0⟩
def RBT_RESET_CMD_CLASS : Fld := ⟨R.RBT_RESET_CMD, 31, 28⟩
def RBT_RESET_CMD_TARGET : Fld := ⟨R.RBT_RESET_CMD, 6, 0⟩
def RBT_CMD_STATUS_ARMED : Fld := ⟨R.RBT_CMD_STATUS, 2, 2⟩
def RBT_CMD_STATUS_ERR : Fld := ⟨R.RBT_CMD_STATUS, 1, 1⟩
def RBT_CMD_STATUS_BUSY : Fld := ⟨R.RBT_CMD_STATUS, 0, 0⟩
def RBT_FW_PREF_SLOT : Fld := ⟨R.RBT_FW_PREF, 0, 0⟩
def RBT_FW_STATUS_SVN : Fld := ⟨R.RBT_FW_STATUS, 15, 8⟩
def RBT_FW_STATUS_B_VALID : Fld := ⟨R.RBT_FW_STATUS, 4, 4⟩
def RBT_FW_STATUS_A_VALID : Fld := ⟨R.RBT_FW_STATUS, 3, 3⟩
def RBT_FW_STATUS_FALLBACK : Fld := ⟨R.RBT_FW_STATUS, 2, 2⟩
def RBT_FW_STATUS_TRIAL : Fld := ⟨R.RBT_FW_STATUS, 1, 1⟩
def RBT_FW_STATUS_SLOT : Fld := ⟨R.RBT_FW_STATUS, 0, 0⟩
def RBT_BOOT_TIME_MS : Fld := ⟨R.RBT_BOOT_TIME, 31, 0⟩
def ALM_STATUS_SELECTED : Fld := ⟨R.ALM_STATUS, 7, 6⟩
def ALM_STATUS_A_VALID : Fld := ⟨R.ALM_STATUS, 5, 5⟩
def ALM_STATUS_B_VALID : Fld := ⟨R.ALM_STATUS, 4, 4⟩
def ALM_STATUS_ADRIFT : Fld := ⟨R.ALM_STATUS, 3, 3⟩
def ALM_STATUS_COMMIT_BUSY : Fld := ⟨R.ALM_STATUS, 2, 2⟩
def ALM_STATUS_WORN_ANY : Fld := ⟨R.ALM_STATUS, 1, 1⟩
def ALM_STATUS_NEAR_WORN_ANY : Fld := ⟨R.ALM_STATUS, 0, 0⟩
def ALM_SEQ_LO_SEQ : Fld := ⟨R.ALM_SEQ_LO, 31, 0⟩
def ALM_SEQ_HI_SEQ : Fld := ⟨R.ALM_SEQ_HI, 31, 0⟩
def ALM_COMMIT_GO : Fld := ⟨R.ALM_COMMIT, 0, 0⟩
def ALM_COMMIT_STATUS_RESULT : Fld := ⟨R.ALM_COMMIT_STATUS, 15, 8⟩
def ALM_COMMIT_STATUS_DONE : Fld := ⟨R.ALM_COMMIT_STATUS, 0, 0⟩
def ALM_COMMITS_A_COUNT : Fld := ⟨R.ALM_COMMITS_A, 19, 0⟩
def ALM_COMMITS_B_COUNT : Fld := ⟨R.ALM_COMMITS_B, 19, 0⟩
def ALM_RWP_INDEX_INDEX : Fld := ⟨R.ALM_RWP_INDEX, 10, 0⟩
def ALM_RWP_ADDR_OFFSET : Fld := ⟨R.ALM_RWP_ADDR, 23, 0⟩
def ALM_RWP_WRITES_WORN : Fld := ⟨R.ALM_RWP_WRITES, 31, 31⟩
def ALM_RWP_WRITES_COUNT : Fld := ⟨R.ALM_RWP_WRITES, 19, 0⟩
def ALM_WORN_COUNT_COUNT : Fld := ⟨R.ALM_WORN_COUNT, 11, 0⟩
def ALM_NEAR_WORN_COUNT_COUNT : Fld := ⟨R.ALM_NEAR_WORN_COUNT, 11, 0⟩
def ALM_WIN_PAGE_PAGE : Fld := ⟨R.ALM_WIN_PAGE, 5, 0⟩
def ALM_CFG_BYTES_BYTES : Fld := ⟨R.ALM_CFG_BYTES, 20, 0⟩
def ALM_WIN_DATA (w : Nat) : Fld := ⟨R.ALM_WIN w, 31, 0⟩
def RNG_DESC_LO_BASE_LO (n : Nat) : Fld := ⟨R.RNG_DESC_LO n, 31, 12⟩
def RNG_DESC_LO_LOG2_SLOTS (n : Nat) : Fld := ⟨R.RNG_DESC_LO n, 4, 0⟩
def RNG_DESC_HI_BASE_HI (n : Nat) : Fld := ⟨R.RNG_DESC_HI n, 19, 0⟩
def RNG_CPL_LO_BASE_LO (n : Nat) : Fld := ⟨R.RNG_CPL_LO n, 31, 12⟩
def RNG_CPL_HI_BASE_HI (n : Nat) : Fld := ⟨R.RNG_CPL_HI n, 19, 0⟩
def RNG_NOTIFY_EN (n : Nat) : Fld := ⟨R.RNG_NOTIFY n, 31, 31⟩
def RNG_NOTIFY_KIND (n : Nat) : Fld := ⟨R.RNG_NOTIFY n, 30, 30⟩
def RNG_NOTIFY_TARGET (n : Nat) : Fld := ⟨R.RNG_NOTIFY n, 19, 0⟩
def RNG_CFG_ENABLE (n : Nat) : Fld := ⟨R.RNG_CFG n, 31, 31⟩
def RNG_CFG_PARTITION (n : Nat) : Fld := ⟨R.RNG_CFG n, 30, 26⟩
def RNG_CFG_FUNCTION (n : Nat) : Fld := ⟨R.RNG_CFG n, 25, 17⟩
def RNG_CFG_CRC_REQ (n : Nat) : Fld := ⟨R.RNG_CFG n, 16, 16⟩
def RNG_CFG_COLD_HOLD (n : Nat) : Fld := ⟨R.RNG_CFG n, 15, 15⟩
def RNG_CFG_ADMIN (n : Nat) : Fld := ⟨R.RNG_CFG n, 14, 14⟩
def RNG_CFG_DEFAULT_RUN_MS (n : Nat) : Fld := ⟨R.RNG_CFG n, 13, 7⟩
def RNG_STATE_MODE (n : Nat) : Fld := ⟨R.RNG_STATE n, 31, 28⟩
def RNG_STATE_ERR (n : Nat) : Fld := ⟨R.RNG_STATE n, 27, 20⟩
def RNG_STATE_INFLIGHT (n : Nat) : Fld := ⟨R.RNG_STATE n, 16, 0⟩
def RNG_CMD_OP : Fld := ⟨R.RNG_CMD, 31, 28⟩
def RNG_CMD_TARGET : Fld := ⟨R.RNG_CMD, 11, 0⟩
def RNG_CMD_STATUS_DONE : Fld := ⟨R.RNG_CMD_STATUS, 2, 2⟩
def RNG_CMD_STATUS_ERR : Fld := ⟨R.RNG_CMD_STATUS, 1, 1⟩
def RNG_CMD_STATUS_BUSY : Fld := ⟨R.RNG_CMD_STATUS, 0, 0⟩
def RNG_LOGBOOK_LIMIT_NO_FLUSH : Fld := ⟨R.RNG_LOGBOOK_LIMIT, 31, 31⟩
def RNG_LOGBOOK_LIMIT_LIMIT : Fld := ⟨R.RNG_LOGBOOK_LIMIT, 16, 0⟩
def RNG_LOGBOOK_USED_USED : Fld := ⟨R.RNG_LOGBOOK_USED, 16, 0⟩
def RNG_LOGBOOK_PEAK_PEAK : Fld := ⟨R.RNG_LOGBOOK_PEAK, 16, 0⟩
def RNG_ACCEPT_LO_COUNT : Fld := ⟨R.RNG_ACCEPT_LO, 31, 0⟩
def RNG_ACCEPT_HI_COUNT : Fld := ⟨R.RNG_ACCEPT_HI, 31, 0⟩
def RNG_REPLAY_KIND : Fld := ⟨R.RNG_REPLAY, 31, 24⟩
def RNG_REPLAY_ENTRIES : Fld := ⟨R.RNG_REPLAY, 23, 0⟩
def RNG_REPLAY_MS_MS : Fld := ⟨R.RNG_REPLAY_MS, 31, 0⟩
def RNG_PTN_QUOTA_QUOTA (p : Nat) : Fld := ⟨R.RNG_PTN_QUOTA p, 16, 0⟩
def RNG_FN_DIS_DIS (k : Nat) : Fld := ⟨R.RNG_FN_DIS k, 31, 0⟩
def MBX_CH_STATE_OPEN (c : Nat) : Fld := ⟨R.MBX_CH_STATE c, 31, 31⟩
def MBX_CH_STATE_OWNER_KIND (c : Nat) : Fld := ⟨R.MBX_CH_STATE c, 30, 30⟩
def MBX_CH_STATE_OWNER (c : Nat) : Fld := ⟨R.MBX_CH_STATE c, 19, 0⟩
def MBX_CH_CTRL_CLOSE (c : Nat) : Fld := ⟨R.MBX_CH_CTRL c, 1, 1⟩
def MBX_CH_CTRL_OPEN (c : Nat) : Fld := ⟨R.MBX_CH_CTRL c, 0, 0⟩
def MBX_CH_DB_RSP (c : Nat) : Fld := ⟨R.MBX_CH_DB c, 31, 16⟩
def MBX_CH_DB_REQ (c : Nat) : Fld := ⟨R.MBX_CH_DB c, 15, 0⟩
def MBX_CH_MASK_RSP_MASK (c : Nat) : Fld := ⟨R.MBX_CH_MASK c, 31, 16⟩
def MBX_CH_MASK_FW_MASK (c : Nat) : Fld := ⟨R.MBX_CH_MASK c, 15, 0⟩
def MBX_CH_STATUS_LAST_ERR (c : Nat) : Fld := ⟨R.MBX_CH_STATUS c, 31, 24⟩
def MBX_CH_STATUS_BUSY (c : Nat) : Fld := ⟨R.MBX_CH_STATUS c, 0, 0⟩
def MBX_CH_NOTIFY_EN (c : Nat) : Fld := ⟨R.MBX_CH_NOTIFY c, 31, 31⟩
def MBX_CH_NOTIFY_KIND (c : Nat) : Fld := ⟨R.MBX_CH_NOTIFY c, 30, 30⟩
def MBX_CH_NOTIFY_TARGET (c : Nat) : Fld := ⟨R.MBX_CH_NOTIFY c, 19, 0⟩
def MBX_CH_REQ_DATA (c w : Nat) : Fld := ⟨R.MBX_CH_REQ c w, 31, 0⟩
def MBX_CH_RSP_DATA (c w : Nat) : Fld := ⟨R.MBX_CH_RSP c w, 31, 0⟩
def MBX_ALLOC_VALID : Fld := ⟨R.MBX_ALLOC, 31, 31⟩
def MBX_ALLOC_CHANNEL : Fld := ⟨R.MBX_ALLOC, 9, 0⟩
def MBX_OPEN_COUNT_COUNT : Fld := ⟨R.MBX_OPEN_COUNT, 10, 0⟩
def MBX_DENIED_COUNT_COUNT : Fld := ⟨R.MBX_DENIED_COUNT, 31, 0⟩
def MBX_FORCE_CLOSE_CHANNEL : Fld := ⟨R.MBX_FORCE_CLOSE, 9, 0⟩
def DRC_STACK_ID_PHYS (s : Nat) : Fld := ⟨R.DRC_STACK_ID s, 20, 16⟩
def DRC_STACK_ID_ROLE (s : Nat) : Fld := ⟨R.DRC_STACK_ID s, 15, 12⟩
def DRC_STACK_ID_LOGICAL (s : Nat) : Fld := ⟨R.DRC_STACK_ID s, 3, 0⟩
def DRC_HOME_ON_ALT (s : Nat) : Fld := ⟨R.DRC_HOME s, 16, 16⟩
def DRC_HOME_PRI_DIE (s : Nat) : Fld := ⟨R.DRC_HOME s, 11, 10⟩
def DRC_HOME_PRI_PORT (s : Nat) : Fld := ⟨R.DRC_HOME s, 9, 8⟩
def DRC_HOME_ALT_DIE (s : Nat) : Fld := ⟨R.DRC_HOME s, 7, 6⟩
def DRC_HOME_ALT_PORT (s : Nat) : Fld := ⟨R.DRC_HOME s, 5, 4⟩
def DRC_HOME_CMD_OP (s : Nat) : Fld := ⟨R.DRC_HOME_CMD s, 31, 28⟩
def DRC_HOME_STATUS_MOVES (s : Nat) : Fld := ⟨R.DRC_HOME_STATUS s, 31, 16⟩
def DRC_HOME_STATUS_DONE (s : Nat) : Fld := ⟨R.DRC_HOME_STATUS s, 2, 2⟩
def DRC_HOME_STATUS_ERR (s : Nat) : Fld := ⟨R.DRC_HOME_STATUS s, 1, 1⟩
def DRC_HOME_STATUS_BUSY (s : Nat) : Fld := ⟨R.DRC_HOME_STATUS s, 0, 0⟩
def DRC_SPARE_CMD_OP (s : Nat) : Fld := ⟨R.DRC_SPARE_CMD s, 31, 28⟩
def DRC_SPARE_RATE_GBPS (s : Nat) : Fld := ⟨R.DRC_SPARE_RATE s, 10, 0⟩
def DRC_SPARE_STATUS_ERR (s : Nat) : Fld := ⟨R.DRC_SPARE_STATUS s, 31, 24⟩
def DRC_SPARE_STATUS_DONE (s : Nat) : Fld := ⟨R.DRC_SPARE_STATUS s, 1, 1⟩
def DRC_SPARE_STATUS_BUSY (s : Nat) : Fld := ⟨R.DRC_SPARE_STATUS s, 0, 0⟩
def DRC_COPY_PROGRESS_UNITS (s : Nat) : Fld := ⟨R.DRC_COPY_PROGRESS s, 27, 0⟩
def DRC_COPY_LOST_COUNT (s : Nat) : Fld := ⟨R.DRC_COPY_LOST s, 31, 0⟩
def DRC_HASH_CH0_NEXT (s : Nat) : Fld := ⟨R.DRC_HASH_CH0 s, 30, 16⟩
def DRC_HASH_CH0_ACTIVE (s : Nat) : Fld := ⟨R.DRC_HASH_CH0 s, 14, 0⟩
def DRC_HASH_CH1_NEXT (s : Nat) : Fld := ⟨R.DRC_HASH_CH1 s, 30, 16⟩
def DRC_HASH_CH1_ACTIVE (s : Nat) : Fld := ⟨R.DRC_HASH_CH1 s, 14, 0⟩
def DRC_HASH_CH2_NEXT (s : Nat) : Fld := ⟨R.DRC_HASH_CH2 s, 30, 16⟩
def DRC_HASH_CH2_ACTIVE (s : Nat) : Fld := ⟨R.DRC_HASH_CH2 s, 14, 0⟩
def DRC_HASH_BG0_NEXT (s : Nat) : Fld := ⟨R.DRC_HASH_BG0 s, 30, 16⟩
def DRC_HASH_BG0_ACTIVE (s : Nat) : Fld := ⟨R.DRC_HASH_BG0 s, 14, 0⟩
def DRC_HASH_BG1_NEXT (s : Nat) : Fld := ⟨R.DRC_HASH_BG1 s, 30, 16⟩
def DRC_HASH_BG1_ACTIVE (s : Nat) : Fld := ⟨R.DRC_HASH_BG1 s, 14, 0⟩
def DRC_HASH_BANK0_NEXT (s : Nat) : Fld := ⟨R.DRC_HASH_BANK0 s, 30, 16⟩
def DRC_HASH_BANK0_ACTIVE (s : Nat) : Fld := ⟨R.DRC_HASH_BANK0 s, 14, 0⟩
def DRC_HASH_BANK1_NEXT (s : Nat) : Fld := ⟨R.DRC_HASH_BANK1 s, 30, 16⟩
def DRC_HASH_BANK1_ACTIVE (s : Nat) : Fld := ⟨R.DRC_HASH_BANK1 s, 14, 0⟩
def DRC_HASH_SID0_NEXT (s : Nat) : Fld := ⟨R.DRC_HASH_SID0 s, 30, 16⟩
def DRC_HASH_SID0_ACTIVE (s : Nat) : Fld := ⟨R.DRC_HASH_SID0 s, 14, 0⟩
def DRC_HASH_SID1_NEXT (s : Nat) : Fld := ⟨R.DRC_HASH_SID1 s, 30, 16⟩
def DRC_HASH_SID1_ACTIVE (s : Nat) : Fld := ⟨R.DRC_HASH_SID1 s, 14, 0⟩
def DRC_SCHED_AGE_MAX (s : Nat) : Fld := ⟨R.DRC_SCHED s, 31, 24⟩
def DRC_SCHED_HIT_CAP (s : Nat) : Fld := ⟨R.DRC_SCHED s, 23, 19⟩
def DRC_SCHED_WR_HI (s : Nat) : Fld := ⟨R.DRC_SCHED s, 18, 13⟩
def DRC_SCHED_WR_LO (s : Nat) : Fld := ⟨R.DRC_SCHED s, 12, 7⟩
def DRC_SCHED_OPEN_MAX (s : Nat) : Fld := ⟨R.DRC_SCHED s, 6, 0⟩
def DRC_REF_CFG_POSTPONE_MAX (s : Nat) : Fld := ⟨R.DRC_REF_CFG s, 3, 0⟩
def DRC_RT_CFG_EN (s : Nat) : Fld := ⟨R.DRC_RT_CFG s, 31, 31⟩
def DRC_RT_CFG_PANIC_MAX_NS (s : Nat) : Fld := ⟨R.DRC_RT_CFG s, 30, 16⟩
def DRC_RT_CFG_WINDOW_US (s : Nat) : Fld := ⟨R.DRC_RT_CFG s, 7, 0⟩
def DRC_RECAL_CFG_EN (s : Nat) : Fld := ⟨R.DRC_RECAL_CFG s, 31, 31⟩
def DRC_RECAL_CFG_PERIOD_MS (s : Nat) : Fld := ⟨R.DRC_RECAL_CFG s, 23, 16⟩
def DRC_RECAL_CFG_TEMP_DELTA (s : Nat) : Fld := ⟨R.DRC_RECAL_CFG s, 15, 8⟩
def DRC_RECAL_CFG_MAX_CONC (s : Nat) : Fld := ⟨R.DRC_RECAL_CFG s, 3, 0⟩
def DRC_PPR_CMD_OP (s : Nat) : Fld := ⟨R.DRC_PPR_CMD s, 31, 30⟩
def DRC_PPR_CMD_PC (s : Nat) : Fld := ⟨R.DRC_PPR_CMD s, 29, 24⟩
def DRC_PPR_CMD_BANK (s : Nat) : Fld := ⟨R.DRC_PPR_CMD s, 23, 18⟩
def DRC_PPR_CMD_ROW (s : Nat) : Fld := ⟨R.DRC_PPR_CMD s, 14, 0⟩
def DRC_PPR_STATUS_ERR (s : Nat) : Fld := ⟨R.DRC_PPR_STATUS s, 31, 24⟩
def DRC_PPR_STATUS_SOFT_COUNT (s : Nat) : Fld := ⟨R.DRC_PPR_STATUS s, 23, 11⟩
def DRC_PPR_STATUS_HARDEN_PENDING (s : Nat) : Fld := ⟨R.DRC_PPR_STATUS s, 2, 2⟩
def DRC_PPR_STATUS_DONE (s : Nat) : Fld := ⟨R.DRC_PPR_STATUS s, 1, 1⟩
def DRC_PPR_STATUS_BUSY (s : Nat) : Fld := ⟨R.DRC_PPR_STATUS s, 0, 0⟩
def DRC_TRAIN_STATUS_RESULT (s : Nat) : Fld := ⟨R.DRC_TRAIN_STATUS s, 31, 28⟩
def DRC_TRAIN_STATUS_MS (s : Nat) : Fld := ⟨R.DRC_TRAIN_STATUS s, 19, 12⟩
def DRC_TRAIN_STATUS_FAILED_PCS (s : Nat) : Fld := ⟨R.DRC_TRAIN_STATUS s, 6, 0⟩
def DRC_TEMP_CASE_C (s : Nat) : Fld := ⟨R.DRC_TEMP s, 7, 0⟩
def DRC_REF_STATUS_HOT (s : Nat) : Fld := ⟨R.DRC_REF_STATUS s, 31, 31⟩
def DRC_REF_STATUS_MAKEUP_COUNT (s : Nat) : Fld := ⟨R.DRC_REF_STATUS s, 15, 0⟩
def DRC_RT_STATUS_OVERRUN (s : Nat) : Fld := ⟨R.DRC_RT_STATUS s, 31, 0⟩
def DRC_CFG_ERR_COUNT_COUNT (s : Nat) : Fld := ⟨R.DRC_CFG_ERR_COUNT s, 31, 0⟩
def DRC_PC_STATE_FAILED (s p : Nat) : Fld := ⟨R.DRC_PC_STATE s p, 31, 31⟩
def DRC_PC_STATE_LANES_SPARED (s p : Nat) : Fld := ⟨R.DRC_PC_STATE s p, 30, 29⟩
def DRC_PC_STATE_DEBT (s p : Nat) : Fld := ⟨R.DRC_PC_STATE s p, 28, 25⟩
def DRC_PC_STATE_SPARE_ROWS_LEFT (s p : Nat) : Fld := ⟨R.DRC_PC_STATE s p, 24, 16⟩
def DRC_PC_STATE_RECAL_SLICES (s p : Nat) : Fld := ⟨R.DRC_PC_STATE s p, 15, 0⟩
def INT_TURNER_CFG_EN : Fld := ⟨R.INT_TURNER_CFG, 31, 31⟩
def INT_TURNER_CFG_PASS_MIN : Fld := ⟨R.INT_TURNER_CFG, 13, 0⟩
def INT_TURNER_STATUS_LAG : Fld := ⟨R.INT_TURNER_STATUS, 31, 31⟩
def INT_TURNER_STATUS_PASSES : Fld := ⟨R.INT_TURNER_STATUS, 15, 0⟩
def INT_TURNER_PROGRESS_FRAC : Fld := ⟨R.INT_TURNER_PROGRESS, 9, 0⟩
def INT_CE_THRESH_PIN_ROWS : Fld := ⟨R.INT_CE_THRESH, 31, 24⟩
def INT_CE_THRESH_HARD_ROW : Fld := ⟨R.INT_CE_THRESH, 23, 16⟩
def INT_CE_THRESH_CE_RATE_H : Fld := ⟨R.INT_CE_THRESH, 15, 0⟩
def INT_SELFTEST_RESULT : Fld := ⟨R.INT_SELFTEST, 31, 28⟩
def INT_SELFTEST_BCH_ONE : Fld := ⟨R.INT_SELFTEST, 16, 16⟩
def INT_SELFTEST_RS_FAILED : Fld := ⟨R.INT_SELFTEST, 15, 8⟩
def INT_SELFTEST_SRAM_FAILED : Fld := ⟨R.INT_SELFTEST, 7, 0⟩
def INT_SRAM_CE_COUNT_COUNT : Fld := ⟨R.INT_SRAM_CE_COUNT, 31, 0⟩
def INT_SRAM_UE_COUNT_COUNT : Fld := ⟨R.INT_SRAM_UE_COUNT, 31, 0⟩
def INT_ALM_CE_COUNT_COUNT : Fld := ⟨R.INT_ALM_CE_COUNT, 31, 0⟩
def INT_ALM_UE_COUNT_COUNT : Fld := ⟨R.INT_ALM_UE_COUNT, 31, 0⟩
def INT_POISON_READS_COUNT : Fld := ⟨R.INT_POISON_READS, 31, 0⟩
def INT_RECORD_COUNT_COUNT : Fld := ⟨R.INT_RECORD_COUNT, 31, 0⟩
def INT_RECORD_DROPPED_COUNT : Fld := ⟨R.INT_RECORD_DROPPED, 31, 0⟩
def INT_INJECT_DPA_LO_DPA : Fld := ⟨R.INT_INJECT_DPA_LO, 31, 6⟩
def INT_INJECT_DPA_HI_DPA : Fld := ⟨R.INT_INJECT_DPA_HI, 19, 0⟩
def INT_INJECT_CTRL_ARM : Fld := ⟨R.INT_INJECT_CTRL, 31, 31⟩
def INT_INJECT_CTRL_MODE : Fld := ⟨R.INT_INJECT_CTRL, 30, 29⟩
def INT_INJECT_CTRL_POS : Fld := ⟨R.INT_INJECT_CTRL, 17, 11⟩
def INT_INJECT_CTRL_COUNT : Fld := ⟨R.INT_INJECT_CTRL, 10, 8⟩
def INT_INJECT_CTRL_VALUE : Fld := ⟨R.INT_INJECT_CTRL, 7, 0⟩
def INT_S_CE_COUNT_COUNT (s : Nat) : Fld := ⟨R.INT_S_CE_COUNT s, 31, 0⟩
def INT_S_UE_COUNT_COUNT (s : Nat) : Fld := ⟨R.INT_S_UE_COUNT s, 31, 0⟩
def INT_S_POISON_WRITTEN_COUNT (s : Nat) : Fld := ⟨R.INT_S_POISON_WRITTEN s, 31, 0⟩
def INT_S_LOG_STATUS_WRAPS (s : Nat) : Fld := ⟨R.INT_S_LOG_STATUS s, 31, 16⟩
def INT_S_LOG_STATUS_USED (s : Nat) : Fld := ⟨R.INT_S_LOG_STATUS s, 12, 6⟩
def INT_S_LOG_STATUS_HEAD (s : Nat) : Fld := ⟨R.INT_S_LOG_STATUS s, 5, 0⟩
def INT_S_LOG_CLEAR_CLEAR (s : Nat) : Fld := ⟨R.INT_S_LOG_CLEAR s, 0, 0⟩
def INT_S_TURNER_ROW_ROW (s : Nat) : Fld := ⟨R.INT_S_TURNER_ROW s, 14, 0⟩
def INT_S_LOG_DPA_LO_DPA (s e : Nat) : Fld := ⟨R.INT_S_LOG_DPA_LO s e, 31, 6⟩
def INT_S_LOG_DPA_HI_SOURCE (s e : Nat) : Fld := ⟨R.INT_S_LOG_DPA_HI s e, 31, 28⟩
def INT_S_LOG_DPA_HI_DPA (s e : Nat) : Fld := ⟨R.INT_S_LOG_DPA_HI s e, 19, 0⟩
def INT_S_LOG_LOC_PC (s e : Nat) : Fld := ⟨R.INT_S_LOG_LOC s e, 31, 26⟩
def INT_S_LOG_LOC_BANK (s e : Nat) : Fld := ⟨R.INT_S_LOG_LOC s e, 25, 20⟩
def INT_S_LOG_LOC_ROW (s e : Nat) : Fld := ⟨R.INT_S_LOG_LOC s e, 19, 5⟩
def INT_S_LOG_LOC_COL (s e : Nat) : Fld := ⟨R.INT_S_LOG_LOC s e, 4, 1⟩
def INT_S_LOG_LOC_HARD (s e : Nat) : Fld := ⟨R.INT_S_LOG_LOC s e, 0, 0⟩
def INT_S_LOG_SYM_NSYM (s e : Nat) : Fld := ⟨R.INT_S_LOG_SYM s e, 31, 30⟩
def INT_S_LOG_SYM_REPEAT (s e : Nat) : Fld := ⟨R.INT_S_LOG_SYM s e, 29, 22⟩
def INT_S_LOG_SYM_POS2 (s e : Nat) : Fld := ⟨R.INT_S_LOG_SYM s e, 20, 14⟩
def INT_S_LOG_SYM_POS1 (s e : Nat) : Fld := ⟨R.INT_S_LOG_SYM s e, 13, 7⟩
def INT_S_LOG_SYM_POS0 (s e : Nat) : Fld := ⟨R.INT_S_LOG_SYM s e, 6, 0⟩
def INT_S_LOG_TIME_LO_TIME (s e : Nat) : Fld := ⟨R.INT_S_LOG_TIME_LO s e, 31, 0⟩
def INT_S_LOG_TIME_HI_TIME (s e : Nat) : Fld := ⟨R.INT_S_LOG_TIME_HI s e, 31, 0⟩
def INT_TWIN_BASE_LO_BASE (t : Nat) : Fld := ⟨R.INT_TWIN_BASE_LO t, 31, 21⟩
def INT_TWIN_BASE_HI_BASE (t : Nat) : Fld := ⟨R.INT_TWIN_BASE_HI t, 19, 0⟩
def INT_TWIN_MIRROR_LO_MIRROR (t : Nat) : Fld := ⟨R.INT_TWIN_MIRROR_LO t, 31, 21⟩
def INT_TWIN_MIRROR_HI_MIRROR (t : Nat) : Fld := ⟨R.INT_TWIN_MIRROR_HI t, 19, 0⟩
def INT_TWIN_CFG_ENABLE (t : Nat) : Fld := ⟨R.INT_TWIN_CFG t, 31, 31⟩
def INT_TWIN_CFG_PARTITION (t : Nat) : Fld := ⟨R.INT_TWIN_CFG t, 30, 26⟩
def INT_TWIN_CFG_BLOCKS (t : Nat) : Fld := ⟨R.INT_TWIN_CFG t, 15, 0⟩
def INT_TWIN_STATE_STATE (t : Nat) : Fld := ⟨R.INT_TWIN_STATE t, 31, 28⟩
def INT_TWIN_STATE_ERR (t : Nat) : Fld := ⟨R.INT_TWIN_STATE t, 27, 24⟩
def INT_TWIN_STATE_SERVING (t : Nat) : Fld := ⟨R.INT_TWIN_STATE t, 23, 23⟩
def INT_TWIN_STATE_HEALTH (t : Nat) : Fld := ⟨R.INT_TWIN_STATE t, 22, 20⟩
def INT_TWIN_PROGRESS_UNITS (t : Nat) : Fld := ⟨R.INT_TWIN_PROGRESS t, 31, 0⟩
def INT_TWIN_LOST_COUNT (t : Nat) : Fld := ⟨R.INT_TWIN_LOST t, 31, 0⟩
def INT_TWIN_STANDBY_CE_COUNT (t : Nat) : Fld := ⟨R.INT_TWIN_STANDBY_CE t, 31, 0⟩
def INT_TWIN_MISMATCH_COUNT (t : Nat) : Fld := ⟨R.INT_TWIN_MISMATCH t, 31, 0⟩
def INT_TWIN_PATROL_PASS_S : Fld := ⟨R.INT_TWIN_PATROL, 16, 0⟩
def TIR_CACHE_CMD_OP : Fld := ⟨R.TIR_CACHE_CMD, 31, 28⟩
def TIR_CACHE_CMD_PTN : Fld := ⟨R.TIR_CACHE_CMD, 4, 0⟩
def TIR_CACHE_CMD_STATUS_DONE : Fld := ⟨R.TIR_CACHE_CMD_STATUS, 2, 2⟩
def TIR_CACHE_CMD_STATUS_ERR : Fld := ⟨R.TIR_CACHE_CMD_STATUS, 1, 1⟩
def TIR_CACHE_CMD_STATUS_BUSY : Fld := ⟨R.TIR_CACHE_CMD_STATUS, 0, 0⟩
def TIR_PF_CFG_ADAPT : Fld := ⟨R.TIR_PF_CFG, 31, 31⟩
def TIR_PF_CFG_DEPTH_MAX : Fld := ⟨R.TIR_PF_CFG, 23, 12⟩
def TIR_PF_CFG_DEPTH_MIN : Fld := ⟨R.TIR_PF_CFG, 11, 0⟩
def TIR_BLOCK_FIRST_BLOCK : Fld := ⟨R.TIR_BLOCK_FIRST, 19, 0⟩
def TIR_BLOCK_COUNT_COUNT : Fld := ⟨R.TIR_BLOCK_COUNT, 20, 0⟩
def TIR_BLOCK_CMD_OP : Fld := ⟨R.TIR_BLOCK_CMD, 31, 28⟩
def TIR_BLOCK_CMD_CLASS : Fld := ⟨R.TIR_BLOCK_CMD, 27, 24⟩
def TIR_BLOCK_CMD_MODE : Fld := ⟨R.TIR_BLOCK_CMD, 23, 22⟩
def TIR_BLOCK_STATUS_ERR : Fld := ⟨R.TIR_BLOCK_STATUS, 31, 24⟩
def TIR_BLOCK_STATUS_DONE : Fld := ⟨R.TIR_BLOCK_STATUS, 1, 1⟩
def TIR_BLOCK_STATUS_BUSY : Fld := ⟨R.TIR_BLOCK_STATUS, 0, 0⟩
def TIR_BLOCK_READ_CLASS : Fld := ⟨R.TIR_BLOCK_READ, 31, 28⟩
def TIR_BLOCK_READ_MODE : Fld := ⟨R.TIR_BLOCK_READ, 27, 26⟩
def TIR_CAVE_STATUS_READ_ONLY : Fld := ⟨R.TIR_CAVE_STATUS, 31, 31⟩
def TIR_CAVE_STATUS_CH_FAILED : Fld := ⟨R.TIR_CAVE_STATUS, 13, 8⟩
def TIR_CAVE_STATUS_CH_FITTED : Fld := ⟨R.TIR_CAVE_STATUS, 5, 0⟩
def TIR_CAVE_CAPACITY_GIB : Fld := ⟨R.TIR_CAVE_CAPACITY, 31, 0⟩
def TIR_CAVE_WEAR_LIFE_PCT : Fld := ⟨R.TIR_CAVE_WEAR, 7, 0⟩
def TIR_CAVE_CFG_CLEAN_MS : Fld := ⟨R.TIR_CAVE_CFG, 31, 16⟩
def TIR_CAVE_CFG_CLEAN_RESERVE : Fld := ⟨R.TIR_CAVE_CFG, 15, 8⟩
def TIR_CAVE_CMD_OP : Fld := ⟨R.TIR_CAVE_CMD, 31, 28⟩
def TIR_CAVE_CMD_PTN : Fld := ⟨R.TIR_CAVE_CMD, 4, 0⟩
def TIR_CAVE_CMD_STATUS_DONE : Fld := ⟨R.TIR_CAVE_CMD_STATUS, 2, 2⟩
def TIR_CAVE_CMD_STATUS_ERR : Fld := ⟨R.TIR_CAVE_CMD_STATUS, 1, 1⟩
def TIR_CAVE_CMD_STATUS_BUSY : Fld := ⟨R.TIR_CAVE_CMD_STATUS, 0, 0⟩
def TIR_CAVE_STAGED_COUNT : Fld := ⟨R.TIR_CAVE_STAGED, 31, 0⟩
def TIR_CAVE_WRITTEN_COUNT : Fld := ⟨R.TIR_CAVE_WRITTEN, 31, 0⟩
def TIR_CAVE_RETRY_COUNT : Fld := ⟨R.TIR_CAVE_RETRY, 31, 0⟩
def TIR_CAVE_REBUILT_COUNT : Fld := ⟨R.TIR_CAVE_REBUILT, 31, 0⟩
def TIR_CAVE_LOST_COUNT : Fld := ⟨R.TIR_CAVE_LOST, 31, 0⟩
def TIR_FRAME_WAIT_COUNT : Fld := ⟨R.TIR_FRAME_WAIT, 31, 0⟩
def TIR_PRESS_FAIL_COUNT : Fld := ⟨R.TIR_PRESS_FAIL, 31, 0⟩
def TIR_SLICE_WAYS_SPARES_USED (i : Nat) : Fld := ⟨R.TIR_SLICE_WAYS i, 31, 23⟩
def TIR_SLICE_WAYS_GROUPS_15WAY (i : Nat) : Fld := ⟨R.TIR_SLICE_WAYS i, 22, 14⟩
def TIR_CH_STATUS_STATE (c : Nat) : Fld := ⟨R.TIR_CH_STATUS c, 31, 28⟩
def TIR_CH_STATUS_TGT_FAILED (c : Nat) : Fld := ⟨R.TIR_CH_STATUS c, 15, 8⟩
def TIR_CH_STATUS_TGT_FITTED (c : Nat) : Fld := ⟨R.TIR_CH_STATUS c, 7, 0⟩
def TIR_CH_CE_COUNT (c : Nat) : Fld := ⟨R.TIR_CH_CE c, 31, 0⟩
def TIR_CH_PFAIL_COUNT (c : Nat) : Fld := ⟨R.TIR_CH_PFAIL c, 31, 0⟩
def TIR_CH_EFAIL_COUNT (c : Nat) : Fld := ⟨R.TIR_CH_EFAIL c, 31, 0⟩
def TIR_CH_TIMEOUT_COUNT (c : Nat) : Fld := ⟨R.TIR_CH_TIMEOUT c, 31, 0⟩
def TIR_CH_BAD_BLOCKS_COUNT (c : Nat) : Fld := ⟨R.TIR_CH_BAD_BLOCKS c, 31, 0⟩
def TIR_CX_BASE_BLK (x : Nat) : Fld := ⟨R.TIR_CX_BASE x, 26, 0⟩
def TIR_CX_COUNT_COUNT (x : Nat) : Fld := ⟨R.TIR_CX_COUNT x, 27, 0⟩
def TIR_CX_CFG_ENABLE (x : Nat) : Fld := ⟨R.TIR_CX_CFG x, 31, 31⟩
def TIR_CX_CFG_PARTITION (x : Nat) : Fld := ⟨R.TIR_CX_CFG x, 30, 26⟩
def TIR_CX_CFG_WRITABLE (x : Nat) : Fld := ⟨R.TIR_CX_CFG x, 25, 25⟩
def TIR_CX_CFG_STAGE_WHOLE (x : Nat) : Fld := ⟨R.TIR_CX_CFG x, 24, 24⟩
def TIR_CX_CFG_PIN (x : Nat) : Fld := ⟨R.TIR_CX_CFG x, 23, 23⟩
def TIR_CX_STATE_STATE (x : Nat) : Fld := ⟨R.TIR_CX_STATE x, 31, 28⟩
def TIR_CX_STATE_ERR (x : Nat) : Fld := ⟨R.TIR_CX_STATE x, 27, 24⟩
def TIR_CX_RESIDENT_BLOCKS (x : Nat) : Fld := ⟨R.TIR_CX_RESIDENT x, 31, 0⟩
def XLT_CTX_TABLE_LO_BASE (n : Nat) : Fld := ⟨R.XLT_CTX_TABLE_LO n, 31, 12⟩
def XLT_CTX_TABLE_HI_BASE (n : Nat) : Fld := ⟨R.XLT_CTX_TABLE_HI n, 19, 0⟩
def XLT_CTX_CFG_ENABLE (n : Nat) : Fld := ⟨R.XLT_CTX_CFG n, 31, 31⟩
def XLT_CTX_CFG_PARTITION (n : Nat) : Fld := ⟨R.XLT_CTX_CFG n, 30, 26⟩
def XLT_CTX_CFG_RANGE_OK (n : Nat) : Fld := ⟨R.XLT_CTX_CFG n, 25, 25⟩
def XLT_CTX_STATUS_BAD_SEG (n : Nat) : Fld := ⟨R.XLT_CTX_STATUS n, 31, 16⟩
def XLT_CTX_STATUS_ERR (n : Nat) : Fld := ⟨R.XLT_CTX_STATUS n, 15, 12⟩
def XLT_CTX_STATUS_EPOCH (n : Nat) : Fld := ⟨R.XLT_CTX_STATUS n, 7, 0⟩
def XLT_FQ_BASE_LO_BASE (p : Nat) : Fld := ⟨R.XLT_FQ_BASE_LO p, 31, 12⟩
def XLT_FQ_BASE_LO_LOG2 (p : Nat) : Fld := ⟨R.XLT_FQ_BASE_LO p, 3, 0⟩
def XLT_FQ_BASE_HI_BASE (p : Nat) : Fld := ⟨R.XLT_FQ_BASE_HI p, 19, 0⟩
def XLT_FQ_NOTIFY_EN (p : Nat) : Fld := ⟨R.XLT_FQ_NOTIFY p, 31, 31⟩
def XLT_FQ_NOTIFY_KIND (p : Nat) : Fld := ⟨R.XLT_FQ_NOTIFY p, 30, 30⟩
def XLT_FQ_NOTIFY_FUNCTION (p : Nat) : Fld := ⟨R.XLT_FQ_NOTIFY p, 27, 20⟩
def XLT_FQ_NOTIFY_TARGET (p : Nat) : Fld := ⟨R.XLT_FQ_NOTIFY p, 19, 0⟩
def XLT_FQ_CFG_ENABLE (p : Nat) : Fld := ⟨R.XLT_FQ_CFG p, 31, 31⟩
def XLT_FQ_CFG_ERR (p : Nat) : Fld := ⟨R.XLT_FQ_CFG p, 30, 28⟩
def XLT_SRC_CTX_EN (g : Nat) : Fld := ⟨R.XLT_SRC_CTX g, 31, 31⟩
def XLT_SRC_CTX_CTX (g : Nat) : Fld := ⟨R.XLT_SRC_CTX g, 11, 0⟩
def XLT_CFG_FAULT_LIMIT_MS : Fld := ⟨R.XLT_CFG, 31, 16⟩
def XLT_CFG_DRAIN_WARN_MS : Fld := ⟨R.XLT_CFG, 15, 0⟩
def XLT_STATUS_OPEN : Fld := ⟨R.XLT_STATUS, 12, 0⟩
def XLT_FAULT_COUNT_COUNT : Fld := ⟨R.XLT_FAULT_COUNT, 31, 0⟩
def XLT_MERGE_COUNT_COUNT : Fld := ⟨R.XLT_MERGE_COUNT, 31, 0⟩
def XLT_DENY_COUNT_COUNT : Fld := ⟨R.XLT_DENY_COUNT, 31, 0⟩
def XLT_INVAL_COUNT_COUNT : Fld := ⟨R.XLT_INVAL_COUNT, 31, 0⟩
def XLT_DRAIN_WARN_COUNT_COUNT : Fld := ⟨R.XLT_DRAIN_WARN_COUNT, 31, 0⟩
def XLT_RECORD_WAIT_COUNT : Fld := ⟨R.XLT_RECORD_WAIT, 31, 0⟩
def XLT_FQ_FULL_COUNT : Fld := ⟨R.XLT_FQ_FULL, 31, 0⟩
def HPT_STATUS_GATES_FREE : Fld := ⟨R.HPT_STATUS, 12, 0⟩
def HPT_BI_CFG_TIMEOUT_US : Fld := ⟨R.HPT_BI_CFG, 31, 16⟩
def HPT_BI_CFG_MAX_OUT : Fld := ⟨R.HPT_BI_CFG, 15, 8⟩
def HPT_RING_CFG_HEIR_NACKS : Fld := ⟨R.HPT_RING_CFG, 15, 8⟩
def HPT_RING_CFG_BACKOFF_BASE : Fld := ⟨R.HPT_RING_CFG, 7, 0⟩
def HPT_BI_TIMEOUT_COUNT_COUNT : Fld := ⟨R.HPT_BI_TIMEOUT_COUNT, 31, 0⟩
def HPT_HOST_LOST_COUNT_COUNT : Fld := ⟨R.HPT_HOST_LOST_COUNT, 31, 0⟩
def HPT_GATE_DENY_COUNT_COUNT : Fld := ⟨R.HPT_GATE_DENY_COUNT, 31, 0⟩
def HPT_RING_NACK_COUNT_COUNT : Fld := ⟨R.HPT_RING_NACK_COUNT, 31, 0⟩
def HPT_RECORD_DROPPED_COUNT : Fld := ⟨R.HPT_RECORD_DROPPED, 31, 0⟩
def HPT_PORT_STATUS_UP (p : Nat) : Fld := ⟨R.HPT_PORT_STATUS p, 31, 31⟩
def HPT_PORT_STATUS_SPEED (p : Nat) : Fld := ⟨R.HPT_PORT_STATUS p, 30, 28⟩
def HPT_PORT_STATUS_WIDTH (p : Nat) : Fld := ⟨R.HPT_PORT_STATUS p, 27, 23⟩
def HPT_PORT_STATUS_FLIT (p : Nat) : Fld := ⟨R.HPT_PORT_STATUS p, 22, 21⟩
def HPT_PORT_STATUS_IDE (p : Nat) : Fld := ⟨R.HPT_PORT_STATUS p, 20, 20⟩
def HPT_PORT_STATUS_LDS (p : Nat) : Fld := ⟨R.HPT_PORT_STATUS p, 19, 15⟩
def HPT_PORT_STATUS_BI_OUT (p : Nat) : Fld := ⟨R.HPT_PORT_STATUS p, 7, 0⟩
def HPT_PORT_DOWN_COUNT_COUNT (p : Nat) : Fld := ⟨R.HPT_PORT_DOWN_COUNT p, 31, 0⟩
def HPT_HOME_MAP_SLOTS (d k : Nat) : Fld := ⟨R.HPT_HOME_MAP d k, 31, 0⟩
def HPT_CMN_BANK0_LO_BASE (r : Nat) : Fld := ⟨R.HPT_CMN_BANK0_LO r, 31, 21⟩
def HPT_CMN_BANK0_HI_BASE (r : Nat) : Fld := ⟨R.HPT_CMN_BANK0_HI r, 19, 0⟩
def HPT_CMN_BANK1_LO_BASE (r : Nat) : Fld := ⟨R.HPT_CMN_BANK1_LO r, 31, 21⟩
def HPT_CMN_BANK1_HI_BASE (r : Nat) : Fld := ⟨R.HPT_CMN_BANK1_HI r, 19, 0⟩
def HPT_CMN_CFG_ENABLE (r : Nat) : Fld := ⟨R.HPT_CMN_CFG r, 31, 31⟩
def HPT_CMN_CFG_BLOCKS (r : Nat) : Fld := ⟨R.HPT_CMN_CFG r, 15, 0⟩
def HPT_CMN_PUB_PTNS (r : Nat) : Fld := ⟨R.HPT_CMN_PUB r, 31, 0⟩
def HPT_CMN_STATE_STATE (r : Nat) : Fld := ⟨R.HPT_CMN_STATE r, 31, 28⟩
def HPT_CMN_STATE_ERR (r : Nat) : Fld := ⟨R.HPT_CMN_STATE r, 27, 24⟩
def HPT_CMN_STATE_CURRENT (r : Nat) : Fld := ⟨R.HPT_CMN_STATE r, 23, 23⟩
def HPT_CMN_VERSION_LO_VERSION (r : Nat) : Fld := ⟨R.HPT_CMN_VERSION_LO r, 31, 0⟩
def HPT_CMN_VERSION_HI_VERSION (r : Nat) : Fld := ⟨R.HPT_CMN_VERSION_HI r, 31, 0⟩
def HPT_CMN_VISIBLE_LO_VISIBLE (r : Nat) : Fld := ⟨R.HPT_CMN_VISIBLE_LO r, 31, 0⟩
def HPT_CMN_VISIBLE_HI_VISIBLE (r : Nat) : Fld := ⟨R.HPT_CMN_VISIBLE_HI r, 31, 0⟩
def HPT_CMN_CONFLICTS_COUNT (r : Nat) : Fld := ⟨R.HPT_CMN_CONFLICTS r, 31, 0⟩
def HPT_GATE_BASE_LO_BASE (g : Nat) : Fld := ⟨R.HPT_GATE_BASE_LO g, 31, 21⟩
def HPT_GATE_BASE_HI_BASE (g : Nat) : Fld := ⟨R.HPT_GATE_BASE_HI g, 19, 0⟩
def HPT_GATE_BLOCKS_BLOCKS (g : Nat) : Fld := ⟨R.HPT_GATE_BLOCKS g, 27, 0⟩
def HPT_GATE_KEY_SPID_ANY (g : Nat) : Fld := ⟨R.HPT_GATE_KEY g, 31, 31⟩
def HPT_GATE_KEY_SPID (g : Nat) : Fld := ⟨R.HPT_GATE_KEY g, 27, 16⟩
def HPT_GATE_KEY_PORT (g : Nat) : Fld := ⟨R.HPT_GATE_KEY g, 7, 4⟩
def HPT_GATE_KEY_LD (g : Nat) : Fld := ⟨R.HPT_GATE_KEY g, 3, 0⟩
def HPT_GATE_CFG_ENABLE (g : Nat) : Fld := ⟨R.HPT_GATE_CFG g, 31, 31⟩
def HPT_GATE_CFG_PARTITION (g : Nat) : Fld := ⟨R.HPT_GATE_CFG g, 30, 26⟩
def HPT_GATE_CFG_READ (g : Nat) : Fld := ⟨R.HPT_GATE_CFG g, 25, 25⟩
def HPT_GATE_CFG_WRITE (g : Nat) : Fld := ⟨R.HPT_GATE_CFG g, 24, 24⟩
def HPT_GATE_CFG_COHERENT (g : Nat) : Fld := ⟨R.HPT_GATE_CFG g, 23, 23⟩
def HPT_GATE_CFG_KIND (g : Nat) : Fld := ⟨R.HPT_GATE_CFG g, 22, 21⟩
def HPT_GATE_CFG_REGION (g : Nat) : Fld := ⟨R.HPT_GATE_CFG g, 20, 15⟩
def HPT_GATE_STATE_STATE (g : Nat) : Fld := ⟨R.HPT_GATE_STATE g, 31, 28⟩
def HPT_GATE_STATE_ERR (g : Nat) : Fld := ⟨R.HPT_GATE_STATE g, 27, 24⟩
def HPT_GATE_STATE_INFLIGHT (g : Nat) : Fld := ⟨R.HPT_GATE_STATE g, 15, 0⟩
def ENG_ST_CFG_ENABLE (s : Nat) : Fld := ⟨R.ENG_ST_CFG s, 31, 31⟩
def ENG_ST_CFG_PARTITION (s : Nat) : Fld := ⟨R.ENG_ST_CFG s, 30, 26⟩
def ENG_ST_CFG_REALTIME (s : Nat) : Fld := ⟨R.ENG_ST_CFG s, 25, 25⟩
def ENG_ST_CFG_PRIORITY (s : Nat) : Fld := ⟨R.ENG_ST_CFG s, 24, 23⟩
def ENG_ST_CFG_PANIC_LINES (s : Nat) : Fld := ⟨R.ENG_ST_CFG s, 22, 12⟩
def ENG_ST_QUOTA_GRANT_QUOTA (s : Nat) : Fld := ⟨R.ENG_ST_QUOTA s, 31, 16⟩
def ENG_ST_STATUS_STATE (s : Nat) : Fld := ⟨R.ENG_ST_STATUS s, 31, 30⟩
def ENG_ST_STATUS_MASKED (s : Nat) : Fld := ⟨R.ENG_ST_STATUS s, 29, 29⟩
def ENG_ST_STATUS_CUT (s : Nat) : Fld := ⟨R.ENG_ST_STATUS s, 28, 28⟩
def ENG_ST_STATUS_ERR (s : Nat) : Fld := ⟨R.ENG_ST_STATUS s, 27, 24⟩
def ENG_ST_STATUS_TASKS (s : Nat) : Fld := ⟨R.ENG_ST_STATUS s, 12, 0⟩
def ENG_ST_GRANTS_COUNT (s : Nat) : Fld := ⟨R.ENG_ST_GRANTS s, 31, 0⟩
def ENG_SYNC_OWN_EN (b : Nat) : Fld := ⟨R.ENG_SYNC_OWN b, 31, 31⟩
def ENG_SYNC_OWN_PARTITION (b : Nat) : Fld := ⟨R.ENG_SYNC_OWN b, 30, 26⟩
def ENG_SYNC_OWN_HOST (b : Nat) : Fld := ⟨R.ENG_SYNC_OWN b, 25, 25⟩
def ENG_ARB_CFG_BACKOFF_BASE : Fld := ⟨R.ENG_ARB_CFG, 31, 24⟩
def ENG_ARB_CFG_GRANT_MIN_TILES : Fld := ⟨R.ENG_ARB_CFG, 23, 16⟩
def ENG_ARB_CFG_HOLD_MAX : Fld := ⟨R.ENG_ARB_CFG, 15, 0⟩
def ENG_QUOTA_CFG_WINDOW_US : Fld := ⟨R.ENG_QUOTA_CFG, 31, 16⟩
def ENG_BURST_CFG_IDLE_US : Fld := ⟨R.ENG_BURST_CFG, 31, 0⟩
def ENG_BURST_STATUS_OPEN : Fld := ⟨R.ENG_BURST_STATUS, 12, 0⟩
def ENG_BURST_TRUNC_COUNT : Fld := ⟨R.ENG_BURST_TRUNC, 31, 0⟩
def ENG_BURST_STALE_COUNT : Fld := ⟨R.ENG_BURST_STALE, 31, 0⟩
def ENG_BURST_REFUSED_COUNT : Fld := ⟨R.ENG_BURST_REFUSED, 31, 0⟩
def ENG_CUT_COUNT_COUNT : Fld := ⟨R.ENG_CUT_COUNT, 31, 0⟩
def ENG_SIGNAL_DROPPED_COUNT : Fld := ⟨R.ENG_SIGNAL_DROPPED, 31, 0⟩
def ENG_SYNC_DENIED_COUNT : Fld := ⟨R.ENG_SYNC_DENIED, 31, 0⟩
def ENG_CORE_STATE_STATE (k : Nat) : Fld := ⟨R.ENG_CORE_STATE k, 31, 28⟩
def ENG_CORE_STATE_TASKS (k : Nat) : Fld := ⟨R.ENG_CORE_STATE k, 27, 23⟩
def ENG_CORE_STATE_PARTITION (k : Nat) : Fld := ⟨R.ENG_CORE_STATE k, 22, 18⟩
def PFL_CTRL_EN (l : Nat) : Fld := ⟨R.PFL_CTRL l, 31, 31⟩
def PFL_CTRL_AUTO (l : Nat) : Fld := ⟨R.PFL_CTRL l, 30, 30⟩
def PFL_CTRL_RETRY_MS (l : Nat) : Fld := ⟨R.PFL_CTRL l, 23, 16⟩
def PFL_CTRL_RETRAIN_MAX (l : Nat) : Fld := ⟨R.PFL_CTRL l, 15, 8⟩
def PFL_TIMERS_REPLAY_TICKS (l : Nat) : Fld := ⟨R.PFL_TIMERS l, 31, 16⟩
def PFL_TIMERS_OFF_STUCK_MS (l : Nat) : Fld := ⟨R.PFL_TIMERS l, 15, 0⟩
def PFL_CMD_OP (l : Nat) : Fld := ⟨R.PFL_CMD l, 31, 28⟩
def PFL_STATUS_STATE (l : Nat) : Fld := ⟨R.PFL_STATUS l, 31, 28⟩
def PFL_STATUS_REASON (l : Nat) : Fld := ⟨R.PFL_STATUS l, 27, 24⟩
def PFL_STATUS_RATE (l : Nat) : Fld := ⟨R.PFL_STATUS l, 23, 23⟩
def PFL_STATUS_RX_UNUSED (l : Nat) : Fld := ⟨R.PFL_STATUS l, 22, 20⟩
def PFL_STATUS_TX_UNUSED (l : Nat) : Fld := ⟨R.PFL_STATUS l, 19, 17⟩
def PFL_STATUS_RESUMED (l : Nat) : Fld := ⟨R.PFL_STATUS l, 16, 16⟩
def PFL_STATUS_CMD_ERR (l : Nat) : Fld := ⟨R.PFL_STATUS l, 3, 3⟩
def PFL_PARTNER_NODE_NODE (l : Nat) : Fld := ⟨R.PFL_PARTNER_NODE l, 19, 0⟩
def PFL_PARTNER_INC_INC (l : Nat) : Fld := ⟨R.PFL_PARTNER_INC l, 31, 0⟩
def PFL_OWN_INC_INC (l : Nat) : Fld := ⟨R.PFL_OWN_INC l, 31, 0⟩
def PFL_RTT_CELLS (l : Nat) : Fld := ⟨R.PFL_RTT l, 15, 0⟩
def PFL_SEQ_TX_NEXT (l : Nat) : Fld := ⟨R.PFL_SEQ l, 27, 16⟩
def PFL_SEQ_RX_NEXT (l : Nat) : Fld := ⟨R.PFL_SEQ l, 11, 0⟩
def PFL_WINDOW_UNACKED (l : Nat) : Fld := ⟨R.PFL_WINDOW l, 26, 16⟩
def PFL_WINDOW_LANDED (l : Nat) : Fld := ⟨R.PFL_WINDOW l, 10, 0⟩
def PFL_HOLD_HELD (l : Nat) : Fld := ⟨R.PFL_HOLD l, 31, 16⟩
def PFL_HOLD_CAP (l : Nat) : Fld := ⟨R.PFL_HOLD l, 15, 0⟩
def PFL_FENCE_PTNS (l : Nat) : Fld := ⟨R.PFL_FENCE l, 31, 0⟩
def PFL_CLASS_OFF_SENT (l : Nat) : Fld := ⟨R.PFL_CLASS_OFF l, 7, 4⟩
def PFL_CLASS_OFF_RECEIVED (l : Nat) : Fld := ⟨R.PFL_CLASS_OFF l, 3, 0⟩
def PFL_CW_CORR_LO_COUNT (l : Nat) : Fld := ⟨R.PFL_CW_CORR_LO l, 31, 0⟩
def PFL_CW_CORR_HI_COUNT (l : Nat) : Fld := ⟨R.PFL_CW_CORR_HI l, 31, 0⟩
def PFL_CW_UNCORR_COUNT (l : Nat) : Fld := ⟨R.PFL_CW_UNCORR l, 31, 0⟩
def PFL_CRC_FAIL_COUNT (l : Nat) : Fld := ⟨R.PFL_CRC_FAIL l, 31, 0⟩
def PFL_REPLAYS_COUNT (l : Nat) : Fld := ⟨R.PFL_REPLAYS l, 31, 0⟩
def PFL_NAK_SENT_COUNT (l : Nat) : Fld := ⟨R.PFL_NAK_SENT l, 31, 0⟩
def PFL_RETRAINS_COUNT (l : Nat) : Fld := ⟨R.PFL_RETRAINS l, 31, 0⟩
def PFL_DOWNS_COUNT (l : Nat) : Fld := ⟨R.PFL_DOWNS l, 31, 0⟩
def PFL_MARKER_LOST_COUNT (l : Nat) : Fld := ⟨R.PFL_MARKER_LOST l, 31, 0⟩
def PFL_PROTO_ERR_COUNT (l : Nat) : Fld := ⟨R.PFL_PROTO_ERR l, 31, 0⟩
def PFL_OFF_STUCK_COUNT (l : Nat) : Fld := ⟨R.PFL_OFF_STUCK l, 31, 0⟩
def PFL_FENCED_COUNT (l : Nat) : Fld := ⟨R.PFL_FENCED l, 31, 0⟩
def PFL_PARITY_FAIL_COUNT (l : Nat) : Fld := ⟨R.PFL_PARITY_FAIL l, 31, 0⟩
def PFL_LANE_STATUS_RX_ROLE (l q : Nat) : Fld := ⟨R.PFL_LANE_STATUS l q, 31, 28⟩
def PFL_LANE_STATUS_TX_ROLE (l q : Nat) : Fld := ⟨R.PFL_LANE_STATUS l q, 27, 24⟩
def PFL_LANE_STATUS_EYE_MV (l q : Nat) : Fld := ⟨R.PFL_LANE_STATUS l q, 23, 16⟩
def PFL_LANE_STATUS_PARITY_FAILS (l q : Nat) : Fld := ⟨R.PFL_LANE_STATUS l q, 15, 8⟩
def PFL_LANE_SYMERR_COUNT (l q : Nat) : Fld := ⟨R.PFL_LANE_SYMERR l q, 31, 0⟩
def PFL_LANE_TXEQ_PRE3 (l q : Nat) : Fld := ⟨R.PFL_LANE_TXEQ l q, 31, 26⟩
def PFL_LANE_TXEQ_PRE2 (l q : Nat) : Fld := ⟨R.PFL_LANE_TXEQ l q, 25, 20⟩
def PFL_LANE_TXEQ_PRE1 (l q : Nat) : Fld := ⟨R.PFL_LANE_TXEQ l q, 19, 14⟩
def PFL_LANE_TXEQ_MAIN (l q : Nat) : Fld := ⟨R.PFL_LANE_TXEQ l q, 13, 6⟩
def PFL_LANE_TXEQ_POST1 (l q : Nat) : Fld := ⟨R.PFL_LANE_TXEQ l q, 5, 0⟩
def PFR_NODE_VALID : Fld := ⟨R.PFR_NODE, 31, 31⟩
def PFR_NODE_NODE : Fld := ⟨R.PFR_NODE, 19, 0⟩
def PFR_LEVEL_ROUTER : Fld := ⟨R.PFR_LEVEL, 31, 31⟩
def PFR_LEVEL_LEVEL : Fld := ⟨R.PFR_LEVEL, 3, 0⟩
def PFR_REQ_CFG_TIMEOUT_US : Fld := ⟨R.PFR_REQ_CFG, 31, 8⟩
def PFR_REQ_CFG_QUARANTINE_MS : Fld := ⟨R.PFR_REQ_CFG, 7, 0⟩
def PFR_CLASS_CFG_RESV : Fld := ⟨R.PFR_CLASS_CFG, 31, 22⟩
def PFR_CLASS_CFG_SHARE_CAP : Fld := ⟨R.PFR_CLASS_CFG, 21, 4⟩
def PFR_PARK_CFG_PARK_CAP : Fld := ⟨R.PFR_PARK_CFG, 17, 0⟩
def PFR_STATUS_SHARED_FREE : Fld := ⟨R.PFR_STATUS, 31, 14⟩
def PFR_STATUS_SLOTS_RETIRED : Fld := ⟨R.PFR_STATUS, 13, 0⟩
def PFR_ERR_CODE : Fld := ⟨R.PFR_ERR, 3, 0⟩
def PFR_CHR_CFG_MASTER : Fld := ⟨R.PFR_CHR_CFG, 31, 31⟩
def PFR_CHR_CFG_PPS_IN : Fld := ⟨R.PFR_CHR_CFG, 30, 30⟩
def PFR_CHR_CFG_PPS_OUT : Fld := ⟨R.PFR_CHR_CFG, 29, 29⟩
def PFR_CHR_CFG_PARENT_PORT : Fld := ⟨R.PFR_CHR_CFG, 28, 22⟩
def PFR_CHR_CFG_SYNC_US : Fld := ⟨R.PFR_CHR_CFG, 21, 8⟩
def PFR_CHR_CFG_HOLDOVER_MS : Fld := ⟨R.PFR_CHR_CFG, 7, 0⟩
def PFR_CHR_STATUS_STATE : Fld := ⟨R.PFR_CHR_STATUS, 31, 28⟩
def PFR_CHR_STATUS_OFFSET : Fld := ⟨R.PFR_CHR_STATUS, 15, 0⟩
def PFR_CHR_TIME_LO_TIME : Fld := ⟨R.PFR_CHR_TIME_LO, 31, 0⟩
def PFR_CHR_TIME_HI_TIME : Fld := ⟨R.PFR_CHR_TIME_HI, 31, 0⟩
def PFR_HDR_ERR_COUNT : Fld := ⟨R.PFR_HDR_ERR, 31, 0⟩
def PFR_SRC_VIOL_COUNT : Fld := ⟨R.PFR_SRC_VIOL, 31, 0⟩
def PFR_NO_ROUTE_COUNT : Fld := ⟨R.PFR_NO_ROUTE, 31, 0⟩
def PFR_BUSY_DROPPED_COUNT : Fld := ⟨R.PFR_BUSY_DROPPED, 31, 0⟩
def PFR_NOTIFY_DROPPED_COUNT : Fld := ⟨R.PFR_NOTIFY_DROPPED, 31, 0⟩
def PFR_ACK_DROPPED_COUNT : Fld := ⟨R.PFR_ACK_DROPPED, 31, 0⟩
def PFR_LATE_RSP_COUNT : Fld := ⟨R.PFR_LATE_RSP, 31, 0⟩
def PFR_BUF_UE_COUNT : Fld := ⟨R.PFR_BUF_UE, 31, 0⟩
def PFR_PORT_CFG_ROUTE_EN (p : Nat) : Fld := ⟨R.PFR_PORT_CFG p, 31, 31⟩
def PFR_PORT_CFG_ENDPOINT (p : Nat) : Fld := ⟨R.PFR_PORT_CFG p, 30, 30⟩
def PFR_PORT_CFG_PEER_LEVEL (p : Nat) : Fld := ⟨R.PFR_PORT_CFG p, 29, 26⟩
def PFR_PORT_CFG_ASYM (p : Nat) : Fld := ⟨R.PFR_PORT_CFG p, 15, 0⟩
def PFR_PORT_STATUS_CHART (p : Nat) : Fld := ⟨R.PFR_PORT_STATUS p, 31, 28⟩
def PFR_PORT_STATUS_PENDING (p : Nat) : Fld := ⟨R.PFR_PORT_STATUS p, 27, 27⟩
def PFR_PORT_STATUS_ERR (p : Nat) : Fld := ⟨R.PFR_PORT_STATUS p, 26, 24⟩
def PFR_PORT_STATUS_PARKED (p : Nat) : Fld := ⟨R.PFR_PORT_STATUS p, 17, 0⟩
def PFR_CHART_DPA_LO_DPA (p : Nat) : Fld := ⟨R.PFR_CHART_DPA_LO p, 31, 6⟩
def PFR_CHART_DPA_HI_DPA (p : Nat) : Fld := ⟨R.PFR_CHART_DPA_HI p, 19, 0⟩
def PFR_CHART_AT_LO_TIME (p : Nat) : Fld := ⟨R.PFR_CHART_AT_LO p, 31, 0⟩
def PFR_CHART_AT_HI_TIME (p : Nat) : Fld := ⟨R.PFR_CHART_AT_HI p, 31, 0⟩
def PFR_CHART_CMD_OP (p : Nat) : Fld := ⟨R.PFR_CHART_CMD p, 31, 28⟩
def PFR_GUARD_HELD_COUNT (p : Nat) : Fld := ⟨R.PFR_GUARD_HELD p, 31, 0⟩
def PFR_SET_PORTS (s w : Nat) : Fld := ⟨R.PFR_SET s w, 31, 0⟩
def PFR_GROUP_UP_SET (g : Nat) : Fld := ⟨R.PFR_GROUP g, 15, 8⟩
def PFR_GROUP_DOWN_SET (g : Nat) : Fld := ⟨R.PFR_GROUP g, 7, 0⟩
def PFR_MEMBER_UP_SET (m : Nat) : Fld := ⟨R.PFR_MEMBER m, 15, 8⟩
def PFR_MEMBER_DOWN_SET (m : Nat) : Fld := ⟨R.PFR_MEMBER m, 7, 0⟩
def SHP_SUB_CFG_LO_FILL (s : Nat) : Fld := ⟨R.SHP_SUB_CFG_LO s, 31, 31⟩
def SHP_SUB_CFG_LO_RATE (s : Nat) : Fld := ⟨R.SHP_SUB_CFG_LO s, 23, 0⟩
def SHP_SUB_CFG_HI_WEIGHT (s : Nat) : Fld := ⟨R.SHP_SUB_CFG_HI s, 31, 24⟩
def SHP_SUB_CFG_HI_SERVICE (s : Nat) : Fld := ⟨R.SHP_SUB_CFG_HI s, 22, 20⟩
def SHP_SUB_CFG_HI_BURST (s : Nat) : Fld := ⟨R.SHP_SUB_CFG_HI s, 19, 0⟩
def SHP_SUB_STATUS_QUEUED (s : Nat) : Fld := ⟨R.SHP_SUB_STATUS s, 31, 24⟩
def SHP_SUB_STATUS_TOKENS (s : Nat) : Fld := ⟨R.SHP_SUB_STATUS s, 19, 0⟩
def SHP_SUB_SENT_COUNT (s : Nat) : Fld := ⟨R.SHP_SUB_SENT s, 31, 0⟩
def SHP_SVC_CFG_LO_FILL (v : Nat) : Fld := ⟨R.SHP_SVC_CFG_LO v, 31, 31⟩
def SHP_SVC_CFG_LO_PRIO (v : Nat) : Fld := ⟨R.SHP_SVC_CFG_LO v, 30, 30⟩
def SHP_SVC_CFG_LO_RATE (v : Nat) : Fld := ⟨R.SHP_SVC_CFG_LO v, 23, 0⟩
def SHP_SVC_CFG_HI_WEIGHT (v : Nat) : Fld := ⟨R.SHP_SVC_CFG_HI v, 31, 24⟩
def SHP_SVC_CFG_HI_BURST (v : Nat) : Fld := ⟨R.SHP_SVC_CFG_HI v, 19, 0⟩
def SHP_SVC_STATUS_TOKENS (v : Nat) : Fld := ⟨R.SHP_SVC_STATUS v, 19, 0⟩
def SHP_SVC_SENT_COUNT (v : Nat) : Fld := ⟨R.SHP_SVC_SENT v, 31, 0⟩
def SHP_FN_RATE_LO_FILL (f : Nat) : Fld := ⟨R.SHP_FN_RATE_LO f, 31, 31⟩
def SHP_FN_RATE_LO_EN (f : Nat) : Fld := ⟨R.SHP_FN_RATE_LO f, 30, 30⟩
def SHP_FN_RATE_LO_CIR (f : Nat) : Fld := ⟨R.SHP_FN_RATE_LO f, 23, 0⟩
def SHP_FN_RATE_HI_PIR (f : Nat) : Fld := ⟨R.SHP_FN_RATE_HI f, 23, 0⟩
def SHP_FN_BURST_LO_FILL (f : Nat) : Fld := ⟨R.SHP_FN_BURST_LO f, 31, 31⟩
def SHP_FN_BURST_LO_CBS (f : Nat) : Fld := ⟨R.SHP_FN_BURST_LO f, 19, 0⟩
def SHP_FN_BURST_HI_RED_ACT (f : Nat) : Fld := ⟨R.SHP_FN_BURST_HI f, 31, 30⟩
def SHP_FN_BURST_HI_PBS (f : Nat) : Fld := ⟨R.SHP_FN_BURST_HI f, 19, 0⟩
def SHP_FN_SUB_SUB_EN (f : Nat) : Fld := ⟨R.SHP_FN_SUB f, 31, 31⟩
def SHP_FN_SUB_SUB (f : Nat) : Fld := ⟨R.SHP_FN_SUB f, 13, 0⟩
def SHP_FN_TOKENS_TP (f : Nat) : Fld := ⟨R.SHP_FN_TOKENS f, 31, 16⟩
def SHP_FN_TOKENS_TC (f : Nat) : Fld := ⟨R.SHP_FN_TOKENS f, 15, 0⟩
def SHP_FN_YELLOW_COUNT (f : Nat) : Fld := ⟨R.SHP_FN_YELLOW f, 31, 0⟩
def SHP_FN_RED_COUNT (f : Nat) : Fld := ⟨R.SHP_FN_RED f, 31, 0⟩
def SHP_PORT_FWD_LO_FILL (p : Nat) : Fld := ⟨R.SHP_PORT_FWD_LO p, 31, 31⟩
def SHP_PORT_FWD_LO_EN (p : Nat) : Fld := ⟨R.SHP_PORT_FWD_LO p, 30, 30⟩
def SHP_PORT_FWD_LO_RATE (p : Nat) : Fld := ⟨R.SHP_PORT_FWD_LO p, 23, 0⟩
def SHP_PORT_FWD_HI_BURST (p : Nat) : Fld := ⟨R.SHP_PORT_FWD_HI p, 19, 0⟩
def SHP_PORT_FWD_SENT_COUNT (p : Nat) : Fld := ⟨R.SHP_PORT_FWD_SENT p, 31, 0⟩
def SHP_PORT_DEFAULT_SENT_COUNT (p : Nat) : Fld := ⟨R.SHP_PORT_DEFAULT_SENT p, 31, 0⟩
def SHP_CFG_SUB_DEPTH : Fld := ⟨R.SHP_CFG, 31, 24⟩
def SHP_CFG_SVC_DEPTH : Fld := ⟨R.SHP_CFG, 23, 16⟩
def SHP_CFG_YELLOW_FLOOR : Fld := ⟨R.SHP_CFG, 15, 0⟩
def SHP_CFG_ERR_COUNT_COUNT : Fld := ⟨R.SHP_CFG_ERR_COUNT, 31, 0⟩
def SHP_HOLD_FULL_COUNT : Fld := ⟨R.SHP_HOLD_FULL, 31, 0⟩
def PTN_CMD_OP : Fld := ⟨R.PTN_CMD, 31, 28⟩
def PTN_CMD_TARGET : Fld := ⟨R.PTN_CMD, 4, 0⟩
def PTN_CMD_STATUS_CODE : Fld := ⟨R.PTN_CMD_STATUS, 15, 8⟩
def PTN_CMD_STATUS_DONE : Fld := ⟨R.PTN_CMD_STATUS, 2, 2⟩
def PTN_CMD_STATUS_ERR : Fld := ⟨R.PTN_CMD_STATUS, 1, 1⟩
def PTN_CMD_STATUS_BUSY : Fld := ⟨R.PTN_CMD_STATUS, 0, 0⟩
def PTN_COMMONS_EN : Fld := ⟨R.PTN_COMMONS, 31, 31⟩
def PTN_CMN_READERS_READERS : Fld := ⟨R.PTN_CMN_READERS, 31, 0⟩
def PTN_WASH_CFG_UNIT_NS : Fld := ⟨R.PTN_WASH_CFG, 9, 0⟩
def PTN_WASH_COUNT_COUNT : Fld := ⟨R.PTN_WASH_COUNT, 31, 0⟩
def PTN_STATE_STATE (p : Nat) : Fld := ⟨R.PTN_STATE p, 31, 28⟩
def PTN_CFG_PROG_OK (p : Nat) : Fld := ⟨R.PTN_CFG p, 31, 31⟩
def PTN_CFG_TASK_LIMIT (p : Nat) : Fld := ⟨R.PTN_CFG p, 15, 0⟩
def PTN_WASH_PROGRESS_ROW (p : Nat) : Fld := ⟨R.PTN_WASH_PROGRESS p, 14, 0⟩
def PTN_UNITS_CLUSTERS (p : Nat) : Fld := ⟨R.PTN_UNITS p, 31, 24⟩
def PTN_UNITS_BLOCKS (p : Nat) : Fld := ⟨R.PTN_UNITS p, 23, 16⟩
def PTN_UNITS_WAYS (p : Nat) : Fld := ⟨R.PTN_UNITS p, 15, 6⟩
def PTN_CLUSTER_OWN_OWN0_3 (i : Nat) : Fld := ⟨R.PTN_CLUSTER_OWN i, 31, 0⟩
def PTN_BLOCK_OWN_OWN0_3 (i : Nat) : Fld := ⟨R.PTN_BLOCK_OWN i, 31, 0⟩
def PTN_WAY_OWN_OWN0_3 (s j : Nat) : Fld := ⟨R.PTN_WAY_OWN s j, 31, 0⟩
def PTN_FN_GRANT_FULL (f : Nat) : Fld := ⟨R.PTN_FN_GRANT f, 31, 31⟩
def PTN_FN_GRANT_OWNED (f : Nat) : Fld := ⟨R.PTN_FN_GRANT f, 7, 7⟩
def PTN_FN_GRANT_PTN (f : Nat) : Fld := ⟨R.PTN_FN_GRANT f, 4, 0⟩
def PTN_SRC_GROUP_EN (g : Nat) : Fld := ⟨R.PTN_SRC_GROUP g, 31, 31⟩
def PTN_SRC_GROUP_PARTITION (g : Nat) : Fld := ⟨R.PTN_SRC_GROUP g, 30, 26⟩
def PTN_SRC_GROUP_PLEN (g : Nat) : Fld := ⟨R.PTN_SRC_GROUP g, 25, 21⟩
def PTN_SRC_GROUP_NODE (g : Nat) : Fld := ⟨R.PTN_SRC_GROUP g, 19, 0⟩
def SEC_STATUS_ACTIVATING : Fld := ⟨R.SEC_STATUS, 31, 31⟩
def SEC_STATUS_DEGRADED : Fld := ⟨R.SEC_STATUS, 30, 30⟩
def SEC_STATUS_DEBUG_UNLOCKED : Fld := ⟨R.SEC_STATUS, 29, 29⟩
def SEC_STATUS_LOG_FULL : Fld := ⟨R.SEC_STATUS, 28, 28⟩
def SEC_STATUS_FABRIC_KEY : Fld := ⟨R.SEC_STATUS, 27, 27⟩
def SEC_STATUS_BOOT_SLOT : Fld := ⟨R.SEC_STATUS, 5, 4⟩
def SEC_STATUS_REVOKED : Fld := ⟨R.SEC_STATUS, 3, 0⟩
def SEC_SVN_RUNNING : Fld := ⟨R.SEC_SVN, 15, 8⟩
def SEC_SVN_MIN : Fld := ⟨R.SEC_SVN, 7, 0⟩
def SEC_SVN_COMMIT_ERR : Fld := ⟨R.SEC_SVN_COMMIT, 1, 1⟩
def SEC_SVN_COMMIT_GO : Fld := ⟨R.SEC_SVN_COMMIT, 0, 0⟩
def SEC_MEAS_COUNT_ENTRIES : Fld := ⟨R.SEC_MEAS_COUNT, 10, 0⟩
def SEC_SPDM_SESSIONS_OPEN : Fld := ⟨R.SEC_SPDM_SESSIONS, 4, 0⟩
def SEC_TSP_VIOL_COUNT_COUNT : Fld := ⟨R.SEC_TSP_VIOL_COUNT, 31, 0⟩
def SEC_BIND_COUNT_COUNT : Fld := ⟨R.SEC_BIND_COUNT, 31, 0⟩
def SEC_BIND_FAIL_COUNT : Fld := ⟨R.SEC_BIND_FAIL, 31, 0⟩
def SEC_FABRIC_FAIL_COUNT : Fld := ⟨R.SEC_FABRIC_FAIL, 31, 0⟩
def SEC_DEVICE_ID_ID (w : Nat) : Fld := ⟨R.SEC_DEVICE_ID w, 31, 0⟩
def SEC_SET_ID_SET_ID (k : Nat) : Fld := ⟨R.SEC_SET_ID k, 31, 0⟩
def SEC_SET_STATE_STATE (k : Nat) : Fld := ⟨R.SEC_SET_STATE k, 31, 28⟩
def SEC_SET_STATE_EPOCH_MIN (k : Nat) : Fld := ⟨R.SEC_SET_STATE k, 15, 0⟩
def SEC_SET_LOADS_COUNT (k : Nat) : Fld := ⟨R.SEC_SET_LOADS k, 31, 0⟩
def SEC_TSP_STATE_STATE (f : Nat) : Fld := ⟨R.SEC_TSP_STATE f, 1, 0⟩
def RAS_HEALTH_LEVEL : Fld := ⟨R.RAS_HEALTH, 31, 30⟩
def RAS_HEALTH_REASON_BITS : Fld := ⟨R.RAS_HEALTH_REASON, 10, 0⟩
def RAS_CMD_OP : Fld := ⟨R.RAS_CMD, 31, 28⟩
def RAS_CMD_DIE : Fld := ⟨R.RAS_CMD, 1, 0⟩
def RAS_CMD_STATUS_CODE : Fld := ⟨R.RAS_CMD_STATUS, 15, 8⟩
def RAS_CMD_STATUS_DONE : Fld := ⟨R.RAS_CMD_STATUS, 2, 2⟩
def RAS_CMD_STATUS_ERR : Fld := ⟨R.RAS_CMD_STATUS, 1, 1⟩
def RAS_CMD_STATUS_BUSY : Fld := ⟨R.RAS_CMD_STATUS, 0, 0⟩
def RAS_RECOVERY_KIND : Fld := ⟨R.RAS_RECOVERY, 31, 28⟩
def RAS_RECOVERY_QUEUED : Fld := ⟨R.RAS_RECOVERY, 27, 21⟩
def RAS_RECOVERY_BACKGROUND : Fld := ⟨R.RAS_RECOVERY, 5, 0⟩
def RAS_SINGLE_COUNT_COUNT : Fld := ⟨R.RAS_SINGLE_COUNT, 31, 0⟩
def RAS_DOUBLE_COUNT_COUNT : Fld := ⟨R.RAS_DOUBLE_COUNT, 31, 0⟩
def RAS_LOST_LINES_COUNT : Fld := ⟨R.RAS_LOST_LINES, 31, 0⟩
def RAS_UPDATE_STATUS_RESULT : Fld := ⟨R.RAS_UPDATE_STATUS, 31, 28⟩
def RAS_UPDATE_STATUS_REVERTED_UNITS : Fld := ⟨R.RAS_UPDATE_STATUS, 27, 20⟩
def RAS_UPDATE_STATUS_PHY_PENDING : Fld := ⟨R.RAS_UPDATE_STATUS, 8, 0⟩
def RAS_CFG_LEND_SPARES : Fld := ⟨R.RAS_CFG, 31, 31⟩
def RAS_DIE_STATE_STATE (d : Nat) : Fld := ⟨R.RAS_DIE_STATE d, 31, 28⟩
def RAS_DIE_STATE_SPARE_CLUSTER (d : Nat) : Fld := ⟨R.RAS_DIE_STATE d, 27, 24⟩
def RAS_DIE_STATE_SPARE_USED (d : Nat) : Fld := ⟨R.RAS_DIE_STATE d, 23, 23⟩
def RAS_DIE_STATE_CLUSTERS (d : Nat) : Fld := ⟨R.RAS_DIE_STATE d, 22, 19⟩
def RAS_DIE_STATE_HELM_ACTIVE (d : Nat) : Fld := ⟨R.RAS_DIE_STATE d, 18, 17⟩
def RAS_DIE_STATE_HELM_STANDBY (d : Nat) : Fld := ⟨R.RAS_DIE_STATE d, 16, 16⟩
def RAS_SPARE_CORE_LO_SPARE (d : Nat) : Fld := ⟨R.RAS_SPARE_CORE_LO d, 31, 0⟩
def RAS_SPARE_CORE_HI_USED (d : Nat) : Fld := ⟨R.RAS_SPARE_CORE_HI d, 24, 16⟩
def RAS_SPARE_CORE_HI_SPARE8 (d : Nat) : Fld := ⟨R.RAS_SPARE_CORE_HI d, 3, 0⟩
def RAS_STAGE_STATE_FAILED (d : Nat) : Fld := ⟨R.RAS_STAGE_STATE d, 1, 0⟩
def RAS_DIE_LOSS_COUNT_COUNT (d : Nat) : Fld := ⟨R.RAS_DIE_LOSS_COUNT d, 31, 0⟩
def DBG_CNT_GLOBAL_FREEZE : Fld := ⟨R.DBG_CNT_GLOBAL, 31, 31⟩
def DBG_CMD_STATUS_CODE : Fld := ⟨R.DBG_CMD_STATUS, 31, 24⟩
def DBG_CMD_STATUS_ERR : Fld := ⟨R.DBG_CMD_STATUS, 0, 0⟩
def DBG_TRACE_BASE_LO_BASE : Fld := ⟨R.DBG_TRACE_BASE_LO, 31, 12⟩
def DBG_TRACE_BASE_LO_LOG2 : Fld := ⟨R.DBG_TRACE_BASE_LO, 4, 0⟩
def DBG_TRACE_BASE_HI_BASE : Fld := ⟨R.DBG_TRACE_BASE_HI, 19, 0⟩
def DBG_TRACE_CFG_EN : Fld := ⟨R.DBG_TRACE_CFG, 31, 31⟩
def DBG_TRACE_CFG_WRAP : Fld := ⟨R.DBG_TRACE_CFG, 30, 30⟩
def DBG_TRACE_CFG_ALL_PTN : Fld := ⟨R.DBG_TRACE_CFG, 29, 29⟩
def DBG_TRACE_CFG_PTN : Fld := ⟨R.DBG_TRACE_CFG, 28, 24⟩
def DBG_TRACE_CFG_MAX_PER_US : Fld := ⟨R.DBG_TRACE_CFG, 10, 0⟩
def DBG_TRACE_TYPES_TYPES : Fld := ⟨R.DBG_TRACE_TYPES, 31, 0⟩
def DBG_TRACE_FILT_ID_LAYER : Fld := ⟨R.DBG_TRACE_FILT_ID, 31, 16⟩
def DBG_TRACE_FILT_ID_OPERATOR : Fld := ⟨R.DBG_TRACE_FILT_ID, 15, 0⟩
def DBG_TRACE_FILT_MASK_LAYER : Fld := ⟨R.DBG_TRACE_FILT_MASK, 31, 16⟩
def DBG_TRACE_FILT_MASK_OPERATOR : Fld := ⟨R.DBG_TRACE_FILT_MASK, 15, 0⟩
def DBG_TRACE_STATUS_FULL : Fld := ⟨R.DBG_TRACE_STATUS, 31, 31⟩
def DBG_TRACE_LOST_COUNT : Fld := ⟨R.DBG_TRACE_LOST, 31, 0⟩
def DBG_TRACE_MARK_VALUE : Fld := ⟨R.DBG_TRACE_MARK, 31, 0⟩
def DBG_STEP_CFG_EN (k : Nat) : Fld := ⟨R.DBG_STEP_CFG k, 31, 31⟩
def DBG_STEP_CFG_ALL (k : Nat) : Fld := ⟨R.DBG_STEP_CFG k, 30, 30⟩
def DBG_STEP_CFG_DRAIN (k : Nat) : Fld := ⟨R.DBG_STEP_CFG k, 29, 29⟩
def DBG_STEP_CFG_PAUSED (k : Nat) : Fld := ⟨R.DBG_STEP_CFG k, 28, 28⟩
def DBG_STEP_CFG_RING (k : Nat) : Fld := ⟨R.DBG_STEP_CFG k, 11, 0⟩
def DBG_STEP_SEQ_SEQ (k : Nat) : Fld := ⟨R.DBG_STEP_SEQ k, 31, 0⟩
def DBG_STEP_CMD_OP : Fld := ⟨R.DBG_STEP_CMD, 31, 28⟩
def DBG_STEP_CMD_SLOT : Fld := ⟨R.DBG_STEP_CMD, 3, 0⟩
def DBG_PLOT_BASE_LO_BASE : Fld := ⟨R.DBG_PLOT_BASE_LO, 31, 21⟩
def DBG_PLOT_BASE_HI_BASE : Fld := ⟨R.DBG_PLOT_BASE_HI, 19, 0⟩
def DBG_PLOT_CFG_EN : Fld := ⟨R.DBG_PLOT_CFG, 31, 31⟩
def DBG_PLOT_CFG_AUTO : Fld := ⟨R.DBG_PLOT_CFG, 30, 30⟩
def DBG_PLOT_CFG_PTN : Fld := ⟨R.DBG_PLOT_CFG, 29, 25⟩
def DBG_PLOT_CFG_HANG_MS : Fld := ⟨R.DBG_PLOT_CFG, 24, 11⟩
def DBG_PLOT_CFG_MIN_S : Fld := ⟨R.DBG_PLOT_CFG, 10, 3⟩
def DBG_PLOT_CMD_CAPTURE : Fld := ⟨R.DBG_PLOT_CMD, 0, 0⟩
def DBG_PLOT_STATUS_BUSY : Fld := ⟨R.DBG_PLOT_STATUS, 31, 31⟩
def DBG_PLOT_STATUS_LAST_TRIGGER : Fld := ⟨R.DBG_PLOT_STATUS, 23, 16⟩
def DBG_PLOT_SEQ_COUNT : Fld := ⟨R.DBG_PLOT_SEQ, 31, 0⟩
def DBG_PLOT_SUPPRESSED_COUNT : Fld := ⟨R.DBG_PLOT_SUPPRESSED, 31, 0⟩
def DBG_CNT_CTL_EN (n : Nat) : Fld := ⟨R.DBG_CNT_CTL n, 31, 31⟩
def DBG_CNT_CTL_CLEAR (n : Nat) : Fld := ⟨R.DBG_CNT_CTL n, 30, 30⟩
def DBG_CNT_CTL_OVF (n : Nat) : Fld := ⟨R.DBG_CNT_CTL n, 29, 29⟩
def DBG_CNT_CTL_GROUP (n : Nat) : Fld := ⟨R.DBG_CNT_CTL n, 28, 24⟩
def DBG_CNT_CTL_EVENT (n : Nat) : Fld := ⟨R.DBG_CNT_CTL n, 23, 16⟩
def DBG_CNT_CTL_FILT_EN (n : Nat) : Fld := ⟨R.DBG_CNT_CTL n, 15, 15⟩
def DBG_CNT_CTL_PTN_EN (n : Nat) : Fld := ⟨R.DBG_CNT_CTL n, 14, 14⟩
def DBG_CNT_CTL_PTN (n : Nat) : Fld := ⟨R.DBG_CNT_CTL n, 13, 9⟩
def DBG_CNT_FILT_ID_LAYER (n : Nat) : Fld := ⟨R.DBG_CNT_FILT_ID n, 31, 16⟩
def DBG_CNT_FILT_ID_OPERATOR (n : Nat) : Fld := ⟨R.DBG_CNT_FILT_ID n, 15, 0⟩
def DBG_CNT_FILT_MASK_LAYER (n : Nat) : Fld := ⟨R.DBG_CNT_FILT_MASK n, 31, 16⟩
def DBG_CNT_FILT_MASK_OPERATOR (n : Nat) : Fld := ⟨R.DBG_CNT_FILT_MASK n, 15, 0⟩
def DBG_CNT_FILT_STREAM_EN (n : Nat) : Fld := ⟨R.DBG_CNT_FILT_STREAM n, 31, 31⟩
def DBG_CNT_FILT_STREAM_STREAM (n : Nat) : Fld := ⟨R.DBG_CNT_FILT_STREAM n, 13, 0⟩
def DBG_CNT_VAL_LO_VAL (n : Nat) : Fld := ⟨R.DBG_CNT_VAL_LO n, 31, 0⟩
def DBG_CNT_VAL_HI_VAL (n : Nat) : Fld := ⟨R.DBG_CNT_VAL_HI n, 15, 0⟩

end F

end Sys2Proof.Machine
end

