-- ==== Sys2Proof/Machine/RegMap.lean ====
section
/-! DEFINITION.  The setup register maps: every register of Tables 1-7, 3-10, 3-11, 4-12, 4-13, 5-7,
6-9, 7-10, 8-8, 9-7, 11-19, 13-11, 14-9, 15-4, 16-9, 16-10, 17-7 and 18-9 of the spec, as data: its
offset in the setup register space (R31), its array strides, and its fields with access type (R15),
reset value and reset classes (R16).  A reserved field is not listed: it reads 0 (R14); a register that a table assigns as reserved has none. -/

namespace Sys2Proof.Machine

/-- GID_IDENT (R35). -/
def reg_GID_IDENT : RegDef :=
  { base := 0x0, dims := [], fields := [
      { hi := 31, lo := 16, acc := .ro, reset := 0x6480 },
      { hi := 15, lo := 0, acc := .ro, reset := 0x7a1b }] }

/-- GID_STEPPING (R35). -/
def reg_GID_STEPPING : RegDef :=
  { base := 0x4, dims := [], fields := [
      { hi := 7, lo := 4, acc := .ro, reset := 0x1 },
      { hi := 3, lo := 0, acc := .ro }] }

/-- GID_CAPS0 (R35). -/
def reg_GID_CAPS0 : RegDef :=
  { base := 0x8, dims := [], fields := [
      { hi := 31, lo := 16, acc := .ro, reset := 0x400, cls := [.cold, .warm] },
      { hi := 15, lo := 8, acc := .ro, reset := 0x20, cls := [.cold, .warm] },
      { hi := 7, lo := 4, acc := .ro, reset := 0x8, cls := [.cold, .warm] }] }

/-- GID_CAPS1 (R35). -/
def reg_GID_CAPS1 : RegDef :=
  { base := 0xc, dims := [], fields := [
      { hi := 23, lo := 16, acc := .ro, reset := 0x60, cls := [.cold] },
      { hi := 15, lo := 8, acc := .ro, reset := 0x8, cls := [.cold] },
      { hi := 5, lo := 0, acc := .ro, reset := 0x20, cls := [.cold] }] }

/-- GID_DRAM_GIB (R35). -/
def reg_GID_DRAM_GIB : RegDef :=
  { base := 0x10, dims := [], fields := [
      { hi := 11, lo := 0, acc := .ro, reset := 0x800, cls := [.cold] }] }

/-- GID_STRAPS (R35). -/
def reg_GID_STRAPS : RegDef :=
  { base := 0x14, dims := [], fields := [
      { hi := 3, lo := 0, acc := .ro, cls := [.cold] }] }

/-- GID_FN_INFO (R35). -/
def reg_GID_FN_INFO : RegDef :=
  { base := 0x18, dims := [], fields := [
      { hi := 10, lo := 10, acc := .ro, cls := [.cold, .port] },
      { hi := 9, lo := 9, acc := .ro, cls := [.cold, .port] },
      { hi := 8, lo := 4, acc := .ro, cls := [.cold, .port] },
      { hi := 3, lo := 0, acc := .ro, cls := [.cold, .port] }] }

/-- GID_BEAT_RATE (R35). -/
def reg_GID_BEAT_RATE : RegDef :=
  { base := 0x1c, dims := [], fields := [
      { hi := 15, lo := 0, acc := .ro, cls := [.cold, .warm] }] }

/-- GID_SETUP_LOCK (R35). -/
def reg_GID_SETUP_LOCK : RegDef :=
  { base := 0x20, dims := [], fields := [
      { hi := 0, lo := 0, acc := .w1s, cls := [.cold, .warm] }] }

/-- GID_LOCK_VIOL_COUNT (R35). -/
def reg_GID_LOCK_VIOL_COUNT : RegDef :=
  { base := 0x24, dims := [], fields := [
      { hi := 31, lo := 0, acc := .ro, cls := [.cold, .warm] }] }

/-- GID_SCOPE_VIOL_COUNT (R35). -/
def reg_GID_SCOPE_VIOL_COUNT : RegDef :=
  { base := 0x28, dims := [], fields := [
      { hi := 31, lo := 0, acc := .ro, cls := [.cold, .warm] }] }

/-- GID_BAD_ACCESS_COUNT (R35). -/
def reg_GID_BAD_ACCESS_COUNT : RegDef :=
  { base := 0x2c, dims := [], fields := [
      { hi := 31, lo := 0, acc := .ro, cls := [.cold, .warm] }] }

/-- The registers of the GID block, identity and capabilities (Table 1-6). -/
def regsGid : List RegDef :=
  [reg_GID_IDENT, reg_GID_STEPPING, reg_GID_CAPS0, reg_GID_CAPS1, reg_GID_DRAM_GIB, reg_GID_STRAPS,
   reg_GID_FN_INFO, reg_GID_BEAT_RATE, reg_GID_SETUP_LOCK, reg_GID_LOCK_VIOL_COUNT, reg_GID_SCOPE_VIOL_COUNT, reg_GID_BAD_ACCESS_COUNT]

/-- RBT_STATUS (R101). -/
def reg_RBT_STATUS : RegDef :=
  { base := 0x10000, dims := [], fields := [
      { hi := 7, lo := 4, acc := .ro, cls := [.cold, .warm] },
      { hi := 1, lo := 1, acc := .ro, cls := [.cold] }] }

/-- RBT_RESET_COUNT (R101). -/
def reg_RBT_RESET_COUNT : RegDef :=
  { base := 0x10004, dims := [], fields := [
      { hi := 31, lo := 0, acc := .ro }] }

/-- RBT_LAST_CAUSE (R101). -/
def reg_RBT_LAST_CAUSE : RegDef :=
  { base := 0x10008, dims := [], fields := [
      { hi := 7, lo := 7, acc := .ro, cls := [.cold] },
      { hi := 6, lo := 6, acc := .ro, cls := [.cold] },
      { hi := 4, lo := 0, acc := .ro, cls := [.cold, .warm] }] }

/-- RBT_WARM_COUNT (R101). -/
def reg_RBT_WARM_COUNT : RegDef :=
  { base := 0x1000c, dims := [], fields := [
      { hi := 31, lo := 0, acc := .ro, cls := [.cold] }] }

/-- RBT_DIE_COUNT (R101). -/
def reg_RBT_DIE_COUNT : RegDef :=
  { base := 0x10010, dims := [], fields := [
      { hi := 31, lo := 0, acc := .ro, cls := [.cold, .warm] }] }

/-- RBT_PORT_COUNT (R101). -/
def reg_RBT_PORT_COUNT : RegDef :=
  { base := 0x10014, dims := [], fields := [
      { hi := 31, lo := 0, acc := .ro, cls := [.cold, .warm] }] }

/-- RBT_LINK_COUNT (R101). -/
def reg_RBT_LINK_COUNT : RegDef :=
  { base := 0x10018, dims := [], fields := [
      { hi := 31, lo := 0, acc := .ro, cls := [.cold, .warm] }] }

/-- RBT_RSEL_STATUS (R101). -/
def reg_RBT_RSEL_STATUS : RegDef :=
  { base := 0x1001c, dims := [], fields := [
      { hi := 16, lo := 16, acc := .ro, cls := [.cold] },
      { hi := 15, lo := 8, acc := .ro, cls := [.cold] },
      { hi := 3, lo := 0, acc := .ro, cls := [.cold] }] }

/-- RBT_RESET_CMD (R101). -/
def reg_RBT_RESET_CMD : RegDef :=
  { base := 0x10020, dims := [], fields := [
      { hi := 31, lo := 28, acc := .wo, cls := [.cold, .warm] },
      { hi := 6, lo := 0, acc := .wo, cls := [.cold, .warm] }] }

/-- RBT_CMD_STATUS (R101). -/
def reg_RBT_CMD_STATUS : RegDef :=
  { base := 0x10024, dims := [], fields := [
      { hi := 2, lo := 2, acc := .ro, cls := [.cold, .warm] },
      { hi := 1, lo := 1, acc := .rw1c, cls := [.cold, .warm] },
      { hi := 0, lo := 0, acc := .ro, cls := [.cold, .warm] }] }

/-- RBT_FW_PREF (R101). -/
def reg_RBT_FW_PREF : RegDef :=
  { base := 0x10028, dims := [], fields := [
      { hi := 0, lo := 0, acc := .rwp }] }

/-- RBT_FW_STATUS (R101). -/
def reg_RBT_FW_STATUS : RegDef :=
  { base := 0x1002c, dims := [], fields := [
      { hi := 15, lo := 8, acc := .ro, cls := [.cold, .warm] },
      { hi := 4, lo := 4, acc := .ro, cls := [.cold, .warm] },
      { hi := 3, lo := 3, acc := .ro, cls := [.cold, .warm] },
      { hi := 2, lo := 2, acc := .ro, cls := [.cold, .warm] },
      { hi := 1, lo := 1, acc := .ro, cls := [.cold, .warm] },
      { hi := 0, lo := 0, acc := .ro, cls := [.cold, .warm] }] }

/-- RBT_BOOT_TIME (R101). -/
def reg_RBT_BOOT_TIME : RegDef :=
  { base := 0x10030, dims := [], fields := [
      { hi := 31, lo := 0, acc := .ro, cls := [.cold, .warm] }] }

/-- The registers of the RBT block, reset and boot (Table 1-6). -/
def regsRbt : List RegDef :=
  [reg_RBT_STATUS, reg_RBT_RESET_COUNT, reg_RBT_LAST_CAUSE, reg_RBT_WARM_COUNT, reg_RBT_DIE_COUNT, reg_RBT_PORT_COUNT,
   reg_RBT_LINK_COUNT, reg_RBT_RSEL_STATUS, reg_RBT_RESET_CMD, reg_RBT_CMD_STATUS, reg_RBT_FW_PREF, reg_RBT_FW_STATUS,
   reg_RBT_BOOT_TIME]

/-- ALM_STATUS (R102). -/
def reg_ALM_STATUS : RegDef :=
  { base := 0x20000, dims := [], fields := [
      { hi := 7, lo := 6, acc := .ro, cls := [.cold, .warm] },
      { hi := 5, lo := 5, acc := .ro, cls := [.cold, .warm] },
      { hi := 4, lo := 4, acc := .ro, cls := [.cold, .warm] },
      { hi := 3, lo := 3, acc := .ro, cls := [.cold, .warm] },
      { hi := 2, lo := 2, acc := .ro, cls := [.cold, .warm] },
      { hi := 1, lo := 1, acc := .ro, cls := [.cold, .warm] },
      { hi := 0, lo := 0, acc := .ro, cls := [.cold, .warm] }] }

/-- ALM_SEQ_LO (R102). -/
def reg_ALM_SEQ_LO : RegDef :=
  { base := 0x20004, dims := [], fields := [
      { hi := 31, lo := 0, acc := .ro, cls := [.cold, .warm] }] }

/-- ALM_SEQ_HI (R102). -/
def reg_ALM_SEQ_HI : RegDef :=
  { base := 0x20008, dims := [], fields := [
      { hi := 31, lo := 0, acc := .ro, cls := [.cold, .warm] }] }

/-- ALM_COMMIT (R102). -/
def reg_ALM_COMMIT : RegDef :=
  { base := 0x2000c, dims := [], fields := [
      { hi := 0, lo := 0, acc := .wo, cls := [.cold, .warm] }] }

/-- ALM_COMMIT_STATUS (R102). -/
def reg_ALM_COMMIT_STATUS : RegDef :=
  { base := 0x20010, dims := [], fields := [
      { hi := 15, lo := 8, acc := .ro, cls := [.cold, .warm] },
      { hi := 0, lo := 0, acc := .rw1c, cls := [.cold, .warm] }] }

/-- ALM_COMMITS_A (R102). -/
def reg_ALM_COMMITS_A : RegDef :=
  { base := 0x20014, dims := [], fields := [
      { hi := 19, lo := 0, acc := .ro }] }

/-- ALM_COMMITS_B (R102). -/
def reg_ALM_COMMITS_B : RegDef :=
  { base := 0x20018, dims := [], fields := [
      { hi := 19, lo := 0, acc := .ro }] }

/-- ALM_RWP_INDEX (R102). -/
def reg_ALM_RWP_INDEX : RegDef :=
  { base := 0x2001c, dims := [], fields := [
      { hi := 10, lo := 0, acc := .rw, cls := [.cold, .warm] }] }

/-- ALM_RWP_ADDR (R102). -/
def reg_ALM_RWP_ADDR : RegDef :=
  { base := 0x20020, dims := [], fields := [
      { hi := 23, lo := 0, acc := .ro }] }

/-- ALM_RWP_WRITES (R102). -/
def reg_ALM_RWP_WRITES : RegDef :=
  { base := 0x20024, dims := [], fields := [
      { hi := 31, lo := 31, acc := .ro },
      { hi := 19, lo := 0, acc := .ro }] }

/-- ALM_WORN_COUNT (R102). -/
def reg_ALM_WORN_COUNT : RegDef :=
  { base := 0x20028, dims := [], fields := [
      { hi := 11, lo := 0, acc := .ro }] }

/-- ALM_NEAR_WORN_COUNT (R102). -/
def reg_ALM_NEAR_WORN_COUNT : RegDef :=
  { base := 0x2002c, dims := [], fields := [
      { hi := 11, lo := 0, acc := .ro }] }

/-- ALM_WIN_PAGE (R102). -/
def reg_ALM_WIN_PAGE : RegDef :=
  { base := 0x20030, dims := [], fields := [
      { hi := 5, lo := 0, acc := .rw, cls := [.cold, .warm] }] }

/-- ALM_CFG_BYTES (R102). -/
def reg_ALM_CFG_BYTES : RegDef :=
  { base := 0x20034, dims := [], fields := [
      { hi := 20, lo := 0, acc := .ro, cls := [.cold, .warm] }] }

/-- ALM_WIN (R102). -/
def reg_ALM_WIN : RegDef :=
  { base := 0x30000, dims := [(0x4, 16384)], fields := [
      { hi := 31, lo := 0, acc := .ro }] }

/-- The registers of the ALM block, almanac (Table 1-6). -/
def regsAlm : List RegDef :=
  [reg_ALM_STATUS, reg_ALM_SEQ_LO, reg_ALM_SEQ_HI, reg_ALM_COMMIT, reg_ALM_COMMIT_STATUS, reg_ALM_COMMITS_A,
   reg_ALM_COMMITS_B, reg_ALM_RWP_INDEX, reg_ALM_RWP_ADDR, reg_ALM_RWP_WRITES, reg_ALM_WORN_COUNT, reg_ALM_NEAR_WORN_COUNT,
   reg_ALM_WIN_PAGE, reg_ALM_CFG_BYTES, reg_ALM_WIN]

/-- RNG_DESC_LO (R144). -/
def reg_RNG_DESC_LO : RegDef :=
  { base := 0x80000, dims := [(0x20, 4096)], fields := [
      { hi := 31, lo := 12, acc := .rw, cls := [.cold, .warm], cfg := true },
      { hi := 4, lo := 0, acc := .rw, cls := [.cold, .warm], cfg := true }] }

/-- RNG_DESC_HI (R144). -/
def reg_RNG_DESC_HI : RegDef :=
  { base := 0x80004, dims := [(0x20, 4096)], fields := [
      { hi := 19, lo := 0, acc := .rw, cls := [.cold, .warm], cfg := true }] }

/-- RNG_CPL_LO (R144). -/
def reg_RNG_CPL_LO : RegDef :=
  { base := 0x80008, dims := [(0x20, 4096)], fields := [
      { hi := 31, lo := 12, acc := .rw, cls := [.cold, .warm], cfg := true }] }

/-- RNG_CPL_HI (R144). -/
def reg_RNG_CPL_HI : RegDef :=
  { base := 0x8000c, dims := [(0x20, 4096)], fields := [
      { hi := 19, lo := 0, acc := .rw, cls := [.cold, .warm], cfg := true }] }

/-- RNG_NOTIFY (R144). -/
def reg_RNG_NOTIFY : RegDef :=
  { base := 0x80010, dims := [(0x20, 4096)], fields := [
      { hi := 31, lo := 31, acc := .rw, cls := [.cold, .warm], cfg := true },
      { hi := 30, lo := 30, acc := .rw, cls := [.cold, .warm], cfg := true },
      { hi := 19, lo := 0, acc := .rw, cls := [.cold, .warm], cfg := true }] }

/-- RNG_RESERVED (R144). -/
def reg_RNG_RESERVED : RegDef :=
  { base := 0x80014, dims := [(0x20, 4096)], fields := [] }

/-- RNG_CFG (R144). -/
def reg_RNG_CFG : RegDef :=
  { base := 0x80018, dims := [(0x20, 4096)], fields := [
      { hi := 31, lo := 31, acc := .rw, cls := [.cold, .warm], cfg := true },
      { hi := 30, lo := 26, acc := .rw, full := true, cls := [.cold, .warm], cfg := true },
      { hi := 25, lo := 17, acc := .rw, cls := [.cold, .warm], cfg := true },
      { hi := 16, lo := 16, acc := .rw, cls := [.cold, .warm], cfg := true },
      { hi := 15, lo := 15, acc := .rw, cls := [.cold, .warm], cfg := true },
      { hi := 14, lo := 14, acc := .rwl, full := true, cls := [.cold, .warm], cfg := true },
      { hi := 13, lo := 7, acc := .rw, cls := [.cold, .warm], cfg := true }] }

/-- RNG_STATE (R144). -/
def reg_RNG_STATE : RegDef :=
  { base := 0x8001c, dims := [(0x20, 4096)], fields := [
      { hi := 31, lo := 28, acc := .ro, cls := [.cold, .warm] },
      { hi := 27, lo := 20, acc := .ro, cls := [.cold, .warm] },
      { hi := 16, lo := 0, acc := .ro, cls := [.cold] }] }

/-- RNG_CMD (R144). -/
def reg_RNG_CMD : RegDef :=
  { base := 0xa0000, dims := [], fields := [
      { hi := 31, lo := 28, acc := .wo, cls := [.cold, .warm] },
      { hi := 11, lo := 0, acc := .wo, cls := [.cold, .warm] }] }

/-- RNG_CMD_STATUS (R144). -/
def reg_RNG_CMD_STATUS : RegDef :=
  { base := 0xa0004, dims := [], fields := [
      { hi := 2, lo := 2, acc := .rw1c, cls := [.cold, .warm] },
      { hi := 1, lo := 1, acc := .rw1c, cls := [.cold, .warm] },
      { hi := 0, lo := 0, acc := .ro, cls := [.cold, .warm] }] }

/-- RNG_LOGBOOK_LIMIT (R144). -/
def reg_RNG_LOGBOOK_LIMIT : RegDef :=
  { base := 0xa0008, dims := [], fields := [
      { hi := 31, lo := 31, acc := .ro, cls := [.cold, .warm] },
      { hi := 16, lo := 0, acc := .ro, cls := [.cold, .warm] }] }

/-- RNG_LOGBOOK_USED (R144). -/
def reg_RNG_LOGBOOK_USED : RegDef :=
  { base := 0xa000c, dims := [], fields := [
      { hi := 16, lo := 0, acc := .ro, cls := [.cold, .warm] }] }

/-- RNG_LOGBOOK_PEAK (R144). -/
def reg_RNG_LOGBOOK_PEAK : RegDef :=
  { base := 0xa0010, dims := [], fields := [
      { hi := 16, lo := 0, acc := .ro, cls := [.cold, .warm] }] }

/-- RNG_ACCEPT_LO (R144). -/
def reg_RNG_ACCEPT_LO : RegDef :=
  { base := 0xa0014, dims := [], fields := [
      { hi := 31, lo := 0, acc := .ro, cls := [.cold] }] }

/-- RNG_ACCEPT_HI (R144). -/
def reg_RNG_ACCEPT_HI : RegDef :=
  { base := 0xa0018, dims := [], fields := [
      { hi := 31, lo := 0, acc := .ro, cls := [.cold] }] }

/-- RNG_REPLAY (R144). -/
def reg_RNG_REPLAY : RegDef :=
  { base := 0xa001c, dims := [], fields := [
      { hi := 31, lo := 24, acc := .ro, cls := [.cold, .warm] },
      { hi := 23, lo := 0, acc := .ro, cls := [.cold, .warm] }] }

/-- RNG_REPLAY_MS (R144). -/
def reg_RNG_REPLAY_MS : RegDef :=
  { base := 0xa0020, dims := [], fields := [
      { hi := 31, lo := 0, acc := .ro, cls := [.cold, .warm] }] }

/-- RNG_PTN_QUOTA (R144). -/
def reg_RNG_PTN_QUOTA : RegDef :=
  { base := 0xa0040, dims := [(0x4, 32)], fields := [
      { hi := 16, lo := 0, acc := .rw, full := true, cls := [.cold, .warm], cfg := true }] }

/-- RNG_FN_DIS (R144). -/
def reg_RNG_FN_DIS : RegDef :=
  { base := 0xa0100, dims := [(0x4, 16)], fields := [
      { hi := 31, lo := 0, acc := .ro, cls := [.cold] }] }

/-- The registers of the RNG block, rings (Table 1-6). -/
def regsRng : List RegDef :=
  [reg_RNG_DESC_LO, reg_RNG_DESC_HI, reg_RNG_CPL_LO, reg_RNG_CPL_HI, reg_RNG_NOTIFY, reg_RNG_RESERVED,
   reg_RNG_CFG, reg_RNG_STATE, reg_RNG_CMD, reg_RNG_CMD_STATUS, reg_RNG_LOGBOOK_LIMIT, reg_RNG_LOGBOOK_USED,
   reg_RNG_LOGBOOK_PEAK, reg_RNG_ACCEPT_LO, reg_RNG_ACCEPT_HI, reg_RNG_REPLAY, reg_RNG_REPLAY_MS, reg_RNG_PTN_QUOTA,
   reg_RNG_FN_DIS]

/-- MBX_CH_STATE (R145). -/
def reg_MBX_CH_STATE : RegDef :=
  { base := 0x40000, dims := [(0x80, 1024)], fields := [
      { hi := 31, lo := 31, acc := .ro, cls := [.cold, .warm] },
      { hi := 30, lo := 30, acc := .ro, cls := [.cold, .warm] },
      { hi := 19, lo := 0, acc := .ro, cls := [.cold, .warm] }] }

/-- MBX_CH_CTRL (R145). -/
def reg_MBX_CH_CTRL : RegDef :=
  { base := 0x40004, dims := [(0x80, 1024)], fields := [
      { hi := 1, lo := 1, acc := .wo, cls := [.cold, .warm] },
      { hi := 0, lo := 0, acc := .wo, cls := [.cold, .warm] }] }

/-- MBX_CH_DB (R145). -/
def reg_MBX_CH_DB : RegDef :=
  { base := 0x40008, dims := [(0x80, 1024)], fields := [
      { hi := 31, lo := 16, acc := .rw1c, cls := [.cold, .warm] },
      { hi := 15, lo := 0, acc := .w1s, cls := [.cold, .warm] }] }

/-- MBX_CH_MASK (R145). -/
def reg_MBX_CH_MASK : RegDef :=
  { base := 0x4000c, dims := [(0x80, 1024)], fields := [
      { hi := 31, lo := 16, acc := .rw, reset := 0xffff, cls := [.cold, .warm] },
      { hi := 15, lo := 0, acc := .ro, reset := 0xfffc, cls := [.cold, .warm] }] }

/-- MBX_CH_STATUS (R145). -/
def reg_MBX_CH_STATUS : RegDef :=
  { base := 0x40010, dims := [(0x80, 1024)], fields := [
      { hi := 31, lo := 24, acc := .ro, cls := [.cold, .warm] },
      { hi := 0, lo := 0, acc := .ro, cls := [.cold, .warm] }] }

/-- MBX_CH_NOTIFY (R145). -/
def reg_MBX_CH_NOTIFY : RegDef :=
  { base := 0x40014, dims := [(0x80, 1024)], fields := [
      { hi := 31, lo := 31, acc := .rw, cls := [.cold, .warm] },
      { hi := 30, lo := 30, acc := .rw, cls := [.cold, .warm] },
      { hi := 19, lo := 0, acc := .rw, cls := [.cold, .warm] }] }

/-- MBX_CH_RESERVED (R145). -/
def reg_MBX_CH_RESERVED : RegDef :=
  { base := 0x40018, dims := [(0x80, 1024), (0x4, 2)], fields := [] }

/-- MBX_CH_REQ (R145). -/
def reg_MBX_CH_REQ : RegDef :=
  { base := 0x40020, dims := [(0x80, 1024), (0x4, 12)], fields := [
      { hi := 31, lo := 0, acc := .rw, cls := [.cold, .warm] }] }

/-- MBX_CH_RSP (R145). -/
def reg_MBX_CH_RSP : RegDef :=
  { base := 0x40050, dims := [(0x80, 1024), (0x4, 12)], fields := [
      { hi := 31, lo := 0, acc := .ro, cls := [.cold, .warm] }] }

/-- MBX_ALLOC (R145). -/
def reg_MBX_ALLOC : RegDef :=
  { base := 0x60000, dims := [], fields := [
      { hi := 31, lo := 31, acc := .ro, cls := [.cold, .warm] },
      { hi := 9, lo := 0, acc := .ro, cls := [.cold, .warm] }] }

/-- MBX_OPEN_COUNT (R145). -/
def reg_MBX_OPEN_COUNT : RegDef :=
  { base := 0x60004, dims := [], fields := [
      { hi := 10, lo := 0, acc := .ro, cls := [.cold, .warm] }] }

/-- MBX_DENIED_COUNT (R145). -/
def reg_MBX_DENIED_COUNT : RegDef :=
  { base := 0x60008, dims := [], fields := [
      { hi := 31, lo := 0, acc := .ro, cls := [.cold, .warm] }] }

/-- MBX_FORCE_CLOSE (R145). -/
def reg_MBX_FORCE_CLOSE : RegDef :=
  { base := 0x6000c, dims := [], fields := [
      { hi := 9, lo := 0, acc := .wo, cls := [.cold, .warm] }] }

/-- The registers of the MBX block, mailboxes (Table 1-6). -/
def regsMbx : List RegDef :=
  [reg_MBX_CH_STATE, reg_MBX_CH_CTRL, reg_MBX_CH_DB, reg_MBX_CH_MASK, reg_MBX_CH_STATUS, reg_MBX_CH_NOTIFY,
   reg_MBX_CH_RESERVED, reg_MBX_CH_REQ, reg_MBX_CH_RSP, reg_MBX_ALLOC, reg_MBX_OPEN_COUNT, reg_MBX_DENIED_COUNT,
   reg_MBX_FORCE_CLOSE]

/-- DRC_STACK_ID (R178). -/
def reg_DRC_STACK_ID : RegDef :=
  { base := 0x100000, dims := [(0x4000, 18)], perIndex := .stackId, fields := [
      { hi := 20, lo := 16, acc := .ro },
      { hi := 15, lo := 12, acc := .ro },
      { hi := 3, lo := 0, acc := .ro }] }

/-- DRC_HOME (R178). -/
def reg_DRC_HOME : RegDef :=
  { base := 0x100004, dims := [(0x4000, 18)], perIndex := .stackHome, fields := [
      { hi := 16, lo := 16, acc := .ro, cls := [.cold] },
      { hi := 11, lo := 10, acc := .ro, cls := [.cold] },
      { hi := 9, lo := 8, acc := .ro, cls := [.cold] },
      { hi := 7, lo := 6, acc := .ro, cls := [.cold] },
      { hi := 5, lo := 4, acc := .ro, cls := [.cold] }] }

/-- DRC_HOME_CMD (R178). -/
def reg_DRC_HOME_CMD : RegDef :=
  { base := 0x100008, dims := [(0x4000, 18)], fields := [
      { hi := 31, lo := 28, acc := .wo, cls := [.cold, .warm] }] }

/-- DRC_HOME_STATUS (R178). -/
def reg_DRC_HOME_STATUS : RegDef :=
  { base := 0x10000c, dims := [(0x4000, 18)], fields := [
      { hi := 31, lo := 16, acc := .ro, cls := [.cold] },
      { hi := 2, lo := 2, acc := .rw1c, cls := [.cold, .warm] },
      { hi := 1, lo := 1, acc := .rw1c, cls := [.cold, .warm] },
      { hi := 0, lo := 0, acc := .ro, cls := [.cold, .warm] }] }

/-- DRC_SPARE_CMD (R178). -/
def reg_DRC_SPARE_CMD : RegDef :=
  { base := 0x100010, dims := [(0x4000, 18)], fields := [
      { hi := 31, lo := 28, acc := .wo, cls := [.cold, .warm] }] }

/-- DRC_SPARE_RATE (R178). -/
def reg_DRC_SPARE_RATE : RegDef :=
  { base := 0x100014, dims := [(0x4000, 18)], fields := [
      { hi := 10, lo := 0, acc := .rw, reset := 0xa0, cls := [.cold, .warm], cfg := true, ranges := [(10, 1280)] }] }

/-- DRC_SPARE_STATUS (R178). -/
def reg_DRC_SPARE_STATUS : RegDef :=
  { base := 0x100018, dims := [(0x4000, 18)], fields := [
      { hi := 31, lo := 24, acc := .ro, cls := [.cold, .warm] },
      { hi := 1, lo := 1, acc := .rw1c, cls := [.cold, .warm] },
      { hi := 0, lo := 0, acc := .ro, cls := [.cold] }] }

/-- DRC_COPY_PROGRESS (R178). -/
def reg_DRC_COPY_PROGRESS : RegDef :=
  { base := 0x10001c, dims := [(0x4000, 18)], fields := [
      { hi := 27, lo := 0, acc := .ro, cls := [.cold] }] }

/-- DRC_COPY_LOST (R178). -/
def reg_DRC_COPY_LOST : RegDef :=
  { base := 0x100020, dims := [(0x4000, 18)], fields := [
      { hi := 31, lo := 0, acc := .ro, cls := [.cold] }] }

/-- DRC_HASH_CH0 (R178). -/
def reg_DRC_HASH_CH0 : RegDef :=
  { base := 0x100040, dims := [(0x4000, 18)], fields := [
      { hi := 30, lo := 16, acc := .rwl, reset := 0x421, cls := [.cold, .warm], cfg := true },
      { hi := 14, lo := 0, acc := .ro, reset := 0x421, cls := [.cold] }] }

/-- DRC_HASH_CH1 (R178). -/
def reg_DRC_HASH_CH1 : RegDef :=
  { base := 0x100044, dims := [(0x4000, 18)], fields := [
      { hi := 30, lo := 16, acc := .rwl, reset := 0x842, cls := [.cold, .warm], cfg := true },
      { hi := 14, lo := 0, acc := .ro, reset := 0x842, cls := [.cold] }] }

/-- DRC_HASH_CH2 (R178). -/
def reg_DRC_HASH_CH2 : RegDef :=
  { base := 0x100048, dims := [(0x4000, 18)], fields := [
      { hi := 30, lo := 16, acc := .rwl, reset := 0x1084, cls := [.cold, .warm], cfg := true },
      { hi := 14, lo := 0, acc := .ro, reset := 0x1084, cls := [.cold] }] }

/-- DRC_HASH_BG0 (R178). -/
def reg_DRC_HASH_BG0 : RegDef :=
  { base := 0x10004c, dims := [(0x4000, 18)], fields := [
      { hi := 30, lo := 16, acc := .rwl, reset := 0x2108, cls := [.cold, .warm], cfg := true },
      { hi := 14, lo := 0, acc := .ro, reset := 0x2108, cls := [.cold] }] }

/-- DRC_HASH_BG1 (R178). -/
def reg_DRC_HASH_BG1 : RegDef :=
  { base := 0x100050, dims := [(0x4000, 18)], fields := [
      { hi := 30, lo := 16, acc := .rwl, reset := 0x4210, cls := [.cold, .warm], cfg := true },
      { hi := 14, lo := 0, acc := .ro, reset := 0x4210, cls := [.cold] }] }

/-- DRC_HASH_BANK0 (R178). -/
def reg_DRC_HASH_BANK0 : RegDef :=
  { base := 0x100054, dims := [(0x4000, 18)], fields := [
      { hi := 30, lo := 16, acc := .rwl, reset := 0x1249, cls := [.cold, .warm], cfg := true },
      { hi := 14, lo := 0, acc := .ro, reset := 0x1249, cls := [.cold] }] }

/-- DRC_HASH_BANK1 (R178). -/
def reg_DRC_HASH_BANK1 : RegDef :=
  { base := 0x100058, dims := [(0x4000, 18)], fields := [
      { hi := 30, lo := 16, acc := .rwl, reset := 0x2492, cls := [.cold, .warm], cfg := true },
      { hi := 14, lo := 0, acc := .ro, reset := 0x2492, cls := [.cold] }] }

/-- DRC_HASH_SID0 (R178). -/
def reg_DRC_HASH_SID0 : RegDef :=
  { base := 0x10005c, dims := [(0x4000, 18)], fields := [
      { hi := 30, lo := 16, acc := .rwl, reset := 0x4924, cls := [.cold, .warm], cfg := true },
      { hi := 14, lo := 0, acc := .ro, reset := 0x4924, cls := [.cold] }] }

/-- DRC_HASH_SID1 (R178). -/
def reg_DRC_HASH_SID1 : RegDef :=
  { base := 0x100060, dims := [(0x4000, 18)], fields := [
      { hi := 30, lo := 16, acc := .rwl, reset := 0x7fff, cls := [.cold, .warm], cfg := true },
      { hi := 14, lo := 0, acc := .ro, reset := 0x7fff, cls := [.cold] }] }

/-- DRC_SCHED (R178). -/
def reg_DRC_SCHED : RegDef :=
  { base := 0x100080, dims := [(0x4000, 18)], fields := [
      { hi := 31, lo := 24, acc := .rw, reset := 0x64, cls := [.cold, .warm], cfg := true, ranges := [(10, 255)] },
      { hi := 23, lo := 19, acc := .rw, reset := 0x10, cls := [.cold, .warm], cfg := true, ranges := [(1, 31)] },
      { hi := 18, lo := 13, acc := .rw, reset := 0x28, cls := [.cold, .warm], cfg := true, ranges := [(8, 60)] },
      { hi := 12, lo := 7, acc := .rw, reset := 0x10, cls := [.cold, .warm], cfg := true, ranges := [(0, 56)] },
      { hi := 6, lo := 0, acc := .rw, reset := 0x3c, cls := [.cold, .warm], cfg := true, ranges := [(0, 127)] }] }

/-- DRC_REF_CFG (R178). -/
def reg_DRC_REF_CFG : RegDef :=
  { base := 0x100084, dims := [(0x4000, 18)], fields := [
      { hi := 3, lo := 0, acc := .rw, reset := 0x8, cls := [.cold, .warm], cfg := true, ranges := [(0, 8)] }] }

/-- DRC_RT_CFG (R178). -/
def reg_DRC_RT_CFG : RegDef :=
  { base := 0x100088, dims := [(0x4000, 18)], fields := [
      { hi := 31, lo := 31, acc := .rw, reset := 0x1, cls := [.cold, .warm], cfg := true },
      { hi := 30, lo := 16, acc := .rw, reset := 0x7d0, cls := [.cold, .warm], cfg := true, ranges := [(0, 32767)] },
      { hi := 7, lo := 0, acc := .rw, reset := 0x32, cls := [.cold, .warm], cfg := true, ranges := [(1, 255)] }] }

/-- DRC_RECAL_CFG (R178). -/
def reg_DRC_RECAL_CFG : RegDef :=
  { base := 0x10008c, dims := [(0x4000, 18)], fields := [
      { hi := 31, lo := 31, acc := .rw, reset := 0x1, cls := [.cold, .warm], cfg := true },
      { hi := 23, lo := 16, acc := .rw, reset := 0xfa, cls := [.cold, .warm], cfg := true, ranges := [(10, 255)] },
      { hi := 15, lo := 8, acc := .rw, reset := 0x4, cls := [.cold, .warm], cfg := true, ranges := [(1, 20)] },
      { hi := 3, lo := 0, acc := .rw, reset := 0x8, cls := [.cold, .warm], cfg := true, ranges := [(1, 8)] }] }

/-- DRC_PPR_CMD (R178). -/
def reg_DRC_PPR_CMD : RegDef :=
  { base := 0x100090, dims := [(0x4000, 18)], fields := [
      { hi := 31, lo := 30, acc := .wo, cls := [.cold, .warm] },
      { hi := 29, lo := 24, acc := .wo, cls := [.cold, .warm] },
      { hi := 23, lo := 18, acc := .wo, cls := [.cold, .warm] },
      { hi := 14, lo := 0, acc := .wo, cls := [.cold, .warm] }] }

/-- DRC_PPR_STATUS (R178). -/
def reg_DRC_PPR_STATUS : RegDef :=
  { base := 0x100094, dims := [(0x4000, 18)], fields := [
      { hi := 31, lo := 24, acc := .ro, cls := [.cold, .warm] },
      { hi := 23, lo := 11, acc := .ro },
      { hi := 2, lo := 2, acc := .ro },
      { hi := 1, lo := 1, acc := .rw1c, cls := [.cold, .warm] },
      { hi := 0, lo := 0, acc := .ro, cls := [.cold, .warm] }] }

/-- DRC_TRAIN_STATUS (R178). -/
def reg_DRC_TRAIN_STATUS : RegDef :=
  { base := 0x100098, dims := [(0x4000, 18)], fields := [
      { hi := 31, lo := 28, acc := .ro, cls := [.cold, .warm] },
      { hi := 19, lo := 12, acc := .ro, cls := [.cold, .warm] },
      { hi := 6, lo := 0, acc := .ro, cls := [.cold, .warm] }] }

/-- DRC_TEMP (R178). -/
def reg_DRC_TEMP : RegDef :=
  { base := 0x10009c, dims := [(0x4000, 18)], fields := [
      { hi := 7, lo := 0, acc := .ro, cls := [.cold] }] }

/-- DRC_REF_STATUS (R178). -/
def reg_DRC_REF_STATUS : RegDef :=
  { base := 0x1000a0, dims := [(0x4000, 18)], fields := [
      { hi := 31, lo := 31, acc := .ro, cls := [.cold] },
      { hi := 15, lo := 0, acc := .ro, cls := [.cold, .warm] }] }

/-- DRC_RT_STATUS (R178). -/
def reg_DRC_RT_STATUS : RegDef :=
  { base := 0x1000a4, dims := [(0x4000, 18)], fields := [
      { hi := 31, lo := 0, acc := .ro, cls := [.cold, .warm] }] }

/-- DRC_CFG_ERR_COUNT (R178). -/
def reg_DRC_CFG_ERR_COUNT : RegDef :=
  { base := 0x1000a8, dims := [(0x4000, 18)], fields := [
      { hi := 31, lo := 0, acc := .ro, cls := [.cold, .warm] }] }

/-- DRC_PC_STATE (R178). -/
def reg_DRC_PC_STATE : RegDef :=
  { base := 0x100100, dims := [(0x4000, 18), (0x4, 64)], fields := [
      { hi := 31, lo := 31, acc := .ro, cls := [.cold, .warm] },
      { hi := 30, lo := 29, acc := .ro },
      { hi := 28, lo := 25, acc := .ro, cls := [.cold, .warm] },
      { hi := 24, lo := 16, acc := .ro, reset := 0x100 },
      { hi := 15, lo := 0, acc := .ro, cls := [.cold, .warm] }] }

/-- The registers of the DRC block, DRAM controllers (Table 1-6). -/
def regsDrc : List RegDef :=
  [reg_DRC_STACK_ID, reg_DRC_HOME, reg_DRC_HOME_CMD, reg_DRC_HOME_STATUS, reg_DRC_SPARE_CMD, reg_DRC_SPARE_RATE,
   reg_DRC_SPARE_STATUS, reg_DRC_COPY_PROGRESS, reg_DRC_COPY_LOST, reg_DRC_HASH_CH0, reg_DRC_HASH_CH1, reg_DRC_HASH_CH2,
   reg_DRC_HASH_BG0, reg_DRC_HASH_BG1, reg_DRC_HASH_BANK0, reg_DRC_HASH_BANK1, reg_DRC_HASH_SID0, reg_DRC_HASH_SID1,
   reg_DRC_SCHED, reg_DRC_REF_CFG, reg_DRC_RT_CFG, reg_DRC_RECAL_CFG, reg_DRC_PPR_CMD, reg_DRC_PPR_STATUS,
   reg_DRC_TRAIN_STATUS, reg_DRC_TEMP, reg_DRC_REF_STATUS, reg_DRC_RT_STATUS, reg_DRC_CFG_ERR_COUNT, reg_DRC_PC_STATE]

/-- INT_TURNER_CFG (R209). -/
def reg_INT_TURNER_CFG : RegDef :=
  { base := 0x180000, dims := [], fields := [
      { hi := 31, lo := 31, acc := .rw, reset := 0x1, cls := [.cold, .warm], cfg := true },
      { hi := 13, lo := 0, acc := .rw, reset := 0x5a0, cls := [.cold, .warm], cfg := true, ranges := [(60, 10080)] }] }

/-- INT_TURNER_STATUS (R209). -/
def reg_INT_TURNER_STATUS : RegDef :=
  { base := 0x180004, dims := [], fields := [
      { hi := 31, lo := 31, acc := .rw1c, cls := [.cold, .warm] },
      { hi := 15, lo := 0, acc := .ro, cls := [.cold] }] }

/-- INT_TURNER_PROGRESS (R209). -/
def reg_INT_TURNER_PROGRESS : RegDef :=
  { base := 0x180008, dims := [], fields := [
      { hi := 9, lo := 0, acc := .ro, cls := [.cold] }] }

/-- INT_CE_THRESH (R209). -/
def reg_INT_CE_THRESH : RegDef :=
  { base := 0x18000c, dims := [], fields := [
      { hi := 31, lo := 24, acc := .rw, reset := 0x10, cls := [.cold, .warm], cfg := true, ranges := [(2, 255)] },
      { hi := 23, lo := 16, acc := .rw, reset := 0x2, cls := [.cold, .warm], cfg := true, ranges := [(1, 16)] },
      { hi := 15, lo := 0, acc := .rw, reset := 0x3e8, cls := [.cold, .warm], cfg := true, ranges := [(1, 65535)] }] }

/-- INT_SELFTEST (R209). -/
def reg_INT_SELFTEST : RegDef :=
  { base := 0x180010, dims := [], fields := [
      { hi := 31, lo := 28, acc := .ro, cls := [.cold, .warm] },
      { hi := 16, lo := 16, acc := .ro, cls := [.cold] },
      { hi := 15, lo := 8, acc := .ro, cls := [.cold, .warm] },
      { hi := 7, lo := 0, acc := .ro, cls := [.cold, .warm] }] }

/-- INT_SRAM_CE_COUNT (R209). -/
def reg_INT_SRAM_CE_COUNT : RegDef :=
  { base := 0x180014, dims := [], fields := [
      { hi := 31, lo := 0, acc := .ro, cls := [.cold] }] }

/-- INT_SRAM_UE_COUNT (R209). -/
def reg_INT_SRAM_UE_COUNT : RegDef :=
  { base := 0x180018, dims := [], fields := [
      { hi := 31, lo := 0, acc := .ro, cls := [.cold] }] }

/-- INT_ALM_CE_COUNT (R209). -/
def reg_INT_ALM_CE_COUNT : RegDef :=
  { base := 0x18001c, dims := [], fields := [
      { hi := 31, lo := 0, acc := .ro }] }

/-- INT_ALM_UE_COUNT (R209). -/
def reg_INT_ALM_UE_COUNT : RegDef :=
  { base := 0x180020, dims := [], fields := [
      { hi := 31, lo := 0, acc := .ro }] }

/-- INT_POISON_READS (R209). -/
def reg_INT_POISON_READS : RegDef :=
  { base := 0x180024, dims := [], fields := [
      { hi := 31, lo := 0, acc := .ro, cls := [.cold, .warm] }] }

/-- INT_RECORD_COUNT (R209). -/
def reg_INT_RECORD_COUNT : RegDef :=
  { base := 0x180028, dims := [], fields := [
      { hi := 31, lo := 0, acc := .ro, cls := [.cold, .warm] }] }

/-- INT_RECORD_DROPPED (R209). -/
def reg_INT_RECORD_DROPPED : RegDef :=
  { base := 0x18002c, dims := [], fields := [
      { hi := 31, lo := 0, acc := .ro, cls := [.cold, .warm] }] }

/-- INT_INJECT_DPA_LO (R209). -/
def reg_INT_INJECT_DPA_LO : RegDef :=
  { base := 0x180040, dims := [], fields := [
      { hi := 31, lo := 6, acc := .rwl, cls := [.cold, .warm] }] }

/-- INT_INJECT_DPA_HI (R209). -/
def reg_INT_INJECT_DPA_HI : RegDef :=
  { base := 0x180044, dims := [], fields := [
      { hi := 19, lo := 0, acc := .rwl, cls := [.cold, .warm] }] }

/-- INT_INJECT_CTRL (R209). -/
def reg_INT_INJECT_CTRL : RegDef :=
  { base := 0x180048, dims := [], fields := [
      { hi := 31, lo := 31, acc := .rwl, cls := [.cold, .warm] },
      { hi := 30, lo := 29, acc := .rwl, cls := [.cold, .warm] },
      { hi := 17, lo := 11, acc := .rwl, cls := [.cold, .warm] },
      { hi := 10, lo := 8, acc := .rwl, cls := [.cold, .warm] },
      { hi := 7, lo := 0, acc := .rwl, cls := [.cold, .warm] }] }

/-- INT_S_CE_COUNT (R209). -/
def reg_INT_S_CE_COUNT : RegDef :=
  { base := 0x181000, dims := [(0x1000, 18)], fields := [
      { hi := 31, lo := 0, acc := .ro, cls := [.cold] }] }

/-- INT_S_UE_COUNT (R209). -/
def reg_INT_S_UE_COUNT : RegDef :=
  { base := 0x181004, dims := [(0x1000, 18)], fields := [
      { hi := 31, lo := 0, acc := .ro, cls := [.cold] }] }

/-- INT_S_POISON_WRITTEN (R209). -/
def reg_INT_S_POISON_WRITTEN : RegDef :=
  { base := 0x181008, dims := [(0x1000, 18)], fields := [
      { hi := 31, lo := 0, acc := .ro, cls := [.cold] }] }

/-- INT_S_LOG_STATUS (R209). -/
def reg_INT_S_LOG_STATUS : RegDef :=
  { base := 0x18100c, dims := [(0x1000, 18)], fields := [
      { hi := 31, lo := 16, acc := .ro, cls := [.cold] },
      { hi := 12, lo := 6, acc := .ro, cls := [.cold] },
      { hi := 5, lo := 0, acc := .ro, cls := [.cold] }] }

/-- INT_S_LOG_CLEAR (R209). -/
def reg_INT_S_LOG_CLEAR : RegDef :=
  { base := 0x181010, dims := [(0x1000, 18)], fields := [
      { hi := 0, lo := 0, acc := .wo, cls := [.cold, .warm] }] }

/-- INT_S_TURNER_ROW (R209). -/
def reg_INT_S_TURNER_ROW : RegDef :=
  { base := 0x181014, dims := [(0x1000, 18)], fields := [
      { hi := 14, lo := 0, acc := .ro, cls := [.cold] }] }

/-- INT_S_LOG_DPA_LO (R209). -/
def reg_INT_S_LOG_DPA_LO : RegDef :=
  { base := 0x181800, dims := [(0x1000, 18), (0x20, 64)], fields := [
      { hi := 31, lo := 6, acc := .ro, cls := [.cold] }] }

/-- INT_S_LOG_DPA_HI (R209). -/
def reg_INT_S_LOG_DPA_HI : RegDef :=
  { base := 0x181804, dims := [(0x1000, 18), (0x20, 64)], fields := [
      { hi := 31, lo := 28, acc := .ro, cls := [.cold] },
      { hi := 19, lo := 0, acc := .ro, cls := [.cold] }] }

/-- INT_S_LOG_LOC (R209). -/
def reg_INT_S_LOG_LOC : RegDef :=
  { base := 0x181808, dims := [(0x1000, 18), (0x20, 64)], fields := [
      { hi := 31, lo := 26, acc := .ro, cls := [.cold] },
      { hi := 25, lo := 20, acc := .ro, cls := [.cold] },
      { hi := 19, lo := 5, acc := .ro, cls := [.cold] },
      { hi := 4, lo := 1, acc := .ro, cls := [.cold] },
      { hi := 0, lo := 0, acc := .ro, cls := [.cold] }] }

/-- INT_S_LOG_SYM (R209). -/
def reg_INT_S_LOG_SYM : RegDef :=
  { base := 0x18180c, dims := [(0x1000, 18), (0x20, 64)], fields := [
      { hi := 31, lo := 30, acc := .ro, cls := [.cold] },
      { hi := 29, lo := 22, acc := .ro, cls := [.cold] },
      { hi := 20, lo := 14, acc := .ro, reset := 0x7f, cls := [.cold] },
      { hi := 13, lo := 7, acc := .ro, reset := 0x7f, cls := [.cold] },
      { hi := 6, lo := 0, acc := .ro, reset := 0x7f, cls := [.cold] }] }

/-- INT_S_LOG_TIME_LO (R209). -/
def reg_INT_S_LOG_TIME_LO : RegDef :=
  { base := 0x181810, dims := [(0x1000, 18), (0x20, 64)], fields := [
      { hi := 31, lo := 0, acc := .ro, cls := [.cold] }] }

/-- INT_S_LOG_TIME_HI (R209). -/
def reg_INT_S_LOG_TIME_HI : RegDef :=
  { base := 0x181814, dims := [(0x1000, 18), (0x20, 64)], fields := [
      { hi := 31, lo := 0, acc := .ro, cls := [.cold] }] }

/-- INT_CE_LOG_RESERVED (R209). -/
def reg_INT_CE_LOG_RESERVED : RegDef :=
  { base := 0x181818, dims := [(0x1000, 18), (0x20, 64), (0x4, 2)], fields := [] }

/-- INT_TWIN_BASE_LO (R209). -/
def reg_INT_TWIN_BASE_LO : RegDef :=
  { base := 0x1a0000, dims := [(0x40, 256)], fields := [
      { hi := 31, lo := 21, acc := .rw, cls := [.cold, .warm], cfg := true }] }

/-- INT_TWIN_BASE_HI (R209). -/
def reg_INT_TWIN_BASE_HI : RegDef :=
  { base := 0x1a0004, dims := [(0x40, 256)], fields := [
      { hi := 19, lo := 0, acc := .rw, cls := [.cold, .warm], cfg := true }] }

/-- INT_TWIN_MIRROR_LO (R209). -/
def reg_INT_TWIN_MIRROR_LO : RegDef :=
  { base := 0x1a0008, dims := [(0x40, 256)], fields := [
      { hi := 31, lo := 21, acc := .rw, cls := [.cold, .warm], cfg := true }] }

/-- INT_TWIN_MIRROR_HI (R209). -/
def reg_INT_TWIN_MIRROR_HI : RegDef :=
  { base := 0x1a000c, dims := [(0x40, 256)], fields := [
      { hi := 19, lo := 0, acc := .rw, cls := [.cold, .warm], cfg := true }] }

/-- INT_TWIN_CFG (R209). -/
def reg_INT_TWIN_CFG : RegDef :=
  { base := 0x1a0010, dims := [(0x40, 256)], fields := [
      { hi := 31, lo := 31, acc := .rw, cls := [.cold, .warm], cfg := true },
      { hi := 30, lo := 26, acc := .rw, full := true, cls := [.cold, .warm], cfg := true },
      { hi := 15, lo := 0, acc := .rw, cls := [.cold, .warm], cfg := true }] }

/-- INT_TWIN_STATE (R209). -/
def reg_INT_TWIN_STATE : RegDef :=
  { base := 0x1a0014, dims := [(0x40, 256)], fields := [
      { hi := 31, lo := 28, acc := .ro, cls := [.cold] },
      { hi := 27, lo := 24, acc := .ro, cls := [.cold, .warm] },
      { hi := 23, lo := 23, acc := .ro, cls := [.cold] },
      { hi := 22, lo := 20, acc := .ro, cls := [.cold] }] }

/-- INT_TWIN_PROGRESS (R209). -/
def reg_INT_TWIN_PROGRESS : RegDef :=
  { base := 0x1a0018, dims := [(0x40, 256)], fields := [
      { hi := 31, lo := 0, acc := .ro, cls := [.cold] }] }

/-- INT_TWIN_LOST (R209). -/
def reg_INT_TWIN_LOST : RegDef :=
  { base := 0x1a001c, dims := [(0x40, 256)], fields := [
      { hi := 31, lo := 0, acc := .ro, cls := [.cold] }] }

/-- INT_TWIN_STANDBY_CE (R209). -/
def reg_INT_TWIN_STANDBY_CE : RegDef :=
  { base := 0x1a0020, dims := [(0x40, 256)], fields := [
      { hi := 31, lo := 0, acc := .ro, cls := [.cold] }] }

/-- INT_TWIN_MISMATCH (R209). -/
def reg_INT_TWIN_MISMATCH : RegDef :=
  { base := 0x1a0024, dims := [(0x40, 256)], fields := [
      { hi := 31, lo := 0, acc := .ro, cls := [.cold] }] }

/-- INT_TWIN_PATROL (R209). -/
def reg_INT_TWIN_PATROL : RegDef :=
  { base := 0x1a4000, dims := [], fields := [
      { hi := 16, lo := 0, acc := .rw, reset := 0x258, cls := [.cold, .warm], cfg := true, ranges := [(10, 86400)] }] }

/-- The registers of the INT block, integrity and turner (Table 1-6). -/
def regsInt : List RegDef :=
  [reg_INT_TURNER_CFG, reg_INT_TURNER_STATUS, reg_INT_TURNER_PROGRESS, reg_INT_CE_THRESH, reg_INT_SELFTEST, reg_INT_SRAM_CE_COUNT,
   reg_INT_SRAM_UE_COUNT, reg_INT_ALM_CE_COUNT, reg_INT_ALM_UE_COUNT, reg_INT_POISON_READS, reg_INT_RECORD_COUNT, reg_INT_RECORD_DROPPED,
   reg_INT_INJECT_DPA_LO, reg_INT_INJECT_DPA_HI, reg_INT_INJECT_CTRL, reg_INT_S_CE_COUNT, reg_INT_S_UE_COUNT, reg_INT_S_POISON_WRITTEN,
   reg_INT_S_LOG_STATUS, reg_INT_S_LOG_CLEAR, reg_INT_S_TURNER_ROW, reg_INT_S_LOG_DPA_LO, reg_INT_S_LOG_DPA_HI, reg_INT_S_LOG_LOC,
   reg_INT_S_LOG_SYM, reg_INT_S_LOG_TIME_LO, reg_INT_S_LOG_TIME_HI, reg_INT_CE_LOG_RESERVED, reg_INT_TWIN_BASE_LO, reg_INT_TWIN_BASE_HI,
   reg_INT_TWIN_MIRROR_LO, reg_INT_TWIN_MIRROR_HI, reg_INT_TWIN_CFG, reg_INT_TWIN_STATE, reg_INT_TWIN_PROGRESS, reg_INT_TWIN_LOST,
   reg_INT_TWIN_STANDBY_CE, reg_INT_TWIN_MISMATCH, reg_INT_TWIN_PATROL]

/-- TIR_CACHE_CMD (R241). -/
def reg_TIR_CACHE_CMD : RegDef :=
  { base := 0x1c0000, dims := [], fields := [
      { hi := 31, lo := 28, acc := .wo, cls := [.cold, .warm] },
      { hi := 4, lo := 0, acc := .wo, cls := [.cold, .warm] }] }

/-- TIR_CACHE_CMD_STATUS (R241). -/
def reg_TIR_CACHE_CMD_STATUS : RegDef :=
  { base := 0x1c0004, dims := [], fields := [
      { hi := 2, lo := 2, acc := .rw1c, cls := [.cold, .warm] },
      { hi := 1, lo := 1, acc := .rw1c, cls := [.cold, .warm] },
      { hi := 0, lo := 0, acc := .ro, cls := [.cold, .warm] }] }

/-- TIR_PF_CFG (R241). -/
def reg_TIR_PF_CFG : RegDef :=
  { base := 0x1c0008, dims := [], fields := [
      { hi := 31, lo := 31, acc := .rw, reset := 0x1, cls := [.cold, .warm], cfg := true },
      { hi := 23, lo := 12, acc := .rw, reset := 0x400, cls := [.cold, .warm], cfg := true, ranges := [(16, 2048)] },
      { hi := 11, lo := 0, acc := .rw, reset := 0x40, cls := [.cold, .warm], cfg := true, ranges := [(16, 2048)] }] }

/-- TIR_BLOCK_FIRST (R241). -/
def reg_TIR_BLOCK_FIRST : RegDef :=
  { base := 0x1c000c, dims := [], fields := [
      { hi := 19, lo := 0, acc := .rw, cls := [.cold, .warm] }] }

/-- TIR_BLOCK_COUNT (R241). -/
def reg_TIR_BLOCK_COUNT : RegDef :=
  { base := 0x1c0010, dims := [], fields := [
      { hi := 20, lo := 0, acc := .rw, reset := 0x1, cls := [.cold, .warm], ranges := [(1, 1048576)] }] }

/-- TIR_BLOCK_CMD (R241). -/
def reg_TIR_BLOCK_CMD : RegDef :=
  { base := 0x1c0014, dims := [], fields := [
      { hi := 31, lo := 28, acc := .wo, cls := [.cold, .warm] },
      { hi := 27, lo := 24, acc := .wo, cls := [.cold, .warm] },
      { hi := 23, lo := 22, acc := .wo, cls := [.cold, .warm] }] }

/-- TIR_BLOCK_STATUS (R241). -/
def reg_TIR_BLOCK_STATUS : RegDef :=
  { base := 0x1c0018, dims := [], fields := [
      { hi := 31, lo := 24, acc := .ro, cls := [.cold, .warm] },
      { hi := 1, lo := 1, acc := .rw1c, cls := [.cold, .warm] },
      { hi := 0, lo := 0, acc := .ro, cls := [.cold, .warm] }] }

/-- TIR_BLOCK_READ (R241). -/
def reg_TIR_BLOCK_READ : RegDef :=
  { base := 0x1c001c, dims := [], fields := [
      { hi := 31, lo := 28, acc := .ro },
      { hi := 27, lo := 26, acc := .ro }] }

/-- TIR_CAVE_STATUS (R241). -/
def reg_TIR_CAVE_STATUS : RegDef :=
  { base := 0x1c0020, dims := [], fields := [
      { hi := 31, lo := 31, acc := .ro, cls := [.cold] },
      { hi := 13, lo := 8, acc := .ro, cls := [.cold] },
      { hi := 5, lo := 0, acc := .ro, cls := [.cold] }] }

/-- TIR_CAVE_CAPACITY (R241). -/
def reg_TIR_CAVE_CAPACITY : RegDef :=
  { base := 0x1c0024, dims := [], fields := [
      { hi := 31, lo := 0, acc := .ro, cls := [.cold] }] }

/-- TIR_CAVE_WEAR (R241). -/
def reg_TIR_CAVE_WEAR : RegDef :=
  { base := 0x1c0028, dims := [], fields := [
      { hi := 7, lo := 0, acc := .ro, cls := [.cold] }] }

/-- TIR_CAVE_CFG (R241). -/
def reg_TIR_CAVE_CFG : RegDef :=
  { base := 0x1c002c, dims := [], fields := [
      { hi := 31, lo := 16, acc := .rw, reset := 0x3e8, cls := [.cold, .warm], cfg := true, ranges := [(10, 60000)] },
      { hi := 15, lo := 8, acc := .rw, reset := 0x40, cls := [.cold, .warm], cfg := true, ranges := [(0, 255)] }] }

/-- TIR_CAVE_CMD (R241). -/
def reg_TIR_CAVE_CMD : RegDef :=
  { base := 0x1c0030, dims := [], fields := [
      { hi := 31, lo := 28, acc := .wo, cls := [.cold, .warm] },
      { hi := 4, lo := 0, acc := .wo, cls := [.cold, .warm] }] }

/-- TIR_CAVE_CMD_STATUS (R241). -/
def reg_TIR_CAVE_CMD_STATUS : RegDef :=
  { base := 0x1c0034, dims := [], fields := [
      { hi := 2, lo := 2, acc := .rw1c, cls := [.cold, .warm] },
      { hi := 1, lo := 1, acc := .rw1c, cls := [.cold, .warm] },
      { hi := 0, lo := 0, acc := .ro, cls := [.cold, .warm] }] }

/-- TIR_CAVE_STAGED (R241). -/
def reg_TIR_CAVE_STAGED : RegDef :=
  { base := 0x1c0038, dims := [], fields := [
      { hi := 31, lo := 0, acc := .ro, cls := [.cold] }] }

/-- TIR_CAVE_WRITTEN (R241). -/
def reg_TIR_CAVE_WRITTEN : RegDef :=
  { base := 0x1c003c, dims := [], fields := [
      { hi := 31, lo := 0, acc := .ro, cls := [.cold] }] }

/-- TIR_CAVE_RETRY (R241). -/
def reg_TIR_CAVE_RETRY : RegDef :=
  { base := 0x1c0040, dims := [], fields := [
      { hi := 31, lo := 0, acc := .ro, cls := [.cold] }] }

/-- TIR_CAVE_REBUILT (R241). -/
def reg_TIR_CAVE_REBUILT : RegDef :=
  { base := 0x1c0044, dims := [], fields := [
      { hi := 31, lo := 0, acc := .ro, cls := [.cold] }] }

/-- TIR_CAVE_LOST (R241). -/
def reg_TIR_CAVE_LOST : RegDef :=
  { base := 0x1c0048, dims := [], fields := [
      { hi := 31, lo := 0, acc := .ro, cls := [.cold] }] }

/-- TIR_FRAME_WAIT (R241). -/
def reg_TIR_FRAME_WAIT : RegDef :=
  { base := 0x1c004c, dims := [], fields := [
      { hi := 31, lo := 0, acc := .ro, cls := [.cold, .warm] }] }

/-- TIR_PRESS_FAIL (R241). -/
def reg_TIR_PRESS_FAIL : RegDef :=
  { base := 0x1c0050, dims := [], fields := [
      { hi := 31, lo := 0, acc := .ro, cls := [.cold, .warm] }] }

/-- TIR_SLICE_WAYS (R241). -/
def reg_TIR_SLICE_WAYS : RegDef :=
  { base := 0x1c0800, dims := [(0x4, 36)], fields := [
      { hi := 31, lo := 23, acc := .ro },
      { hi := 22, lo := 14, acc := .ro }] }

/-- TIR_CH_STATUS (R241). -/
def reg_TIR_CH_STATUS : RegDef :=
  { base := 0x1c1000, dims := [(0x40, 32)], fields := [
      { hi := 31, lo := 28, acc := .ro, cls := [.cold] },
      { hi := 15, lo := 8, acc := .ro, cls := [.cold] },
      { hi := 7, lo := 0, acc := .ro, cls := [.cold] }] }

/-- TIR_CH_CE (R241). -/
def reg_TIR_CH_CE : RegDef :=
  { base := 0x1c1004, dims := [(0x40, 32)], fields := [
      { hi := 31, lo := 0, acc := .ro, cls := [.cold] }] }

/-- TIR_CH_PFAIL (R241). -/
def reg_TIR_CH_PFAIL : RegDef :=
  { base := 0x1c1008, dims := [(0x40, 32)], fields := [
      { hi := 31, lo := 0, acc := .ro }] }

/-- TIR_CH_EFAIL (R241). -/
def reg_TIR_CH_EFAIL : RegDef :=
  { base := 0x1c100c, dims := [(0x40, 32)], fields := [
      { hi := 31, lo := 0, acc := .ro }] }

/-- TIR_CH_TIMEOUT (R241). -/
def reg_TIR_CH_TIMEOUT : RegDef :=
  { base := 0x1c1010, dims := [(0x40, 32)], fields := [
      { hi := 31, lo := 0, acc := .ro, cls := [.cold] }] }

/-- TIR_CH_BAD_BLOCKS (R241). -/
def reg_TIR_CH_BAD_BLOCKS : RegDef :=
  { base := 0x1c1014, dims := [(0x40, 32)], fields := [
      { hi := 31, lo := 0, acc := .ro }] }

/-- TIR_CX_BASE (R241). -/
def reg_TIR_CX_BASE : RegDef :=
  { base := 0x1e0000, dims := [(0x20, 1024)], fields := [
      { hi := 26, lo := 0, acc := .rw, cls := [.cold, .warm], cfg := true }] }

/-- TIR_CX_COUNT (R241). -/
def reg_TIR_CX_COUNT : RegDef :=
  { base := 0x1e0004, dims := [(0x20, 1024)], fields := [
      { hi := 27, lo := 0, acc := .rw, cls := [.cold, .warm], cfg := true, ranges := [(0, 134217728)] }] }

/-- TIR_CX_CFG (R241). -/
def reg_TIR_CX_CFG : RegDef :=
  { base := 0x1e0008, dims := [(0x20, 1024)], fields := [
      { hi := 31, lo := 31, acc := .rw, cls := [.cold, .warm], cfg := true },
      { hi := 30, lo := 26, acc := .rw, full := true, cls := [.cold, .warm], cfg := true },
      { hi := 25, lo := 25, acc := .rw, cls := [.cold, .warm], cfg := true },
      { hi := 24, lo := 24, acc := .rw, cls := [.cold, .warm], cfg := true },
      { hi := 23, lo := 23, acc := .rw, cls := [.cold, .warm], cfg := true }] }

/-- TIR_CX_STATE (R241). -/
def reg_TIR_CX_STATE : RegDef :=
  { base := 0x1e000c, dims := [(0x20, 1024)], fields := [
      { hi := 31, lo := 28, acc := .ro, cls := [.cold] },
      { hi := 27, lo := 24, acc := .ro, cls := [.cold, .warm] }] }

/-- TIR_CX_RESIDENT (R241). -/
def reg_TIR_CX_RESIDENT : RegDef :=
  { base := 0x1e0010, dims := [(0x20, 1024)], fields := [
      { hi := 31, lo := 0, acc := .ro, cls := [.cold] }] }

/-- The registers of the TIR block, tiers and cave (Table 1-6). -/
def regsTir : List RegDef :=
  [reg_TIR_CACHE_CMD, reg_TIR_CACHE_CMD_STATUS, reg_TIR_PF_CFG, reg_TIR_BLOCK_FIRST, reg_TIR_BLOCK_COUNT, reg_TIR_BLOCK_CMD,
   reg_TIR_BLOCK_STATUS, reg_TIR_BLOCK_READ, reg_TIR_CAVE_STATUS, reg_TIR_CAVE_CAPACITY, reg_TIR_CAVE_WEAR, reg_TIR_CAVE_CFG,
   reg_TIR_CAVE_CMD, reg_TIR_CAVE_CMD_STATUS, reg_TIR_CAVE_STAGED, reg_TIR_CAVE_WRITTEN, reg_TIR_CAVE_RETRY, reg_TIR_CAVE_REBUILT,
   reg_TIR_CAVE_LOST, reg_TIR_FRAME_WAIT, reg_TIR_PRESS_FAIL, reg_TIR_SLICE_WAYS, reg_TIR_CH_STATUS, reg_TIR_CH_CE,
   reg_TIR_CH_PFAIL, reg_TIR_CH_EFAIL, reg_TIR_CH_TIMEOUT, reg_TIR_CH_BAD_BLOCKS, reg_TIR_CX_BASE, reg_TIR_CX_COUNT,
   reg_TIR_CX_CFG, reg_TIR_CX_STATE, reg_TIR_CX_RESIDENT]

/-- XLT_CTX_TABLE_LO (R260). -/
def reg_XLT_CTX_TABLE_LO : RegDef :=
  { base := 0x200000, dims := [(0x10, 4096)], fields := [
      { hi := 31, lo := 12, acc := .rw, cls := [.cold, .warm], cfg := true }] }

/-- XLT_CTX_TABLE_HI (R260). -/
def reg_XLT_CTX_TABLE_HI : RegDef :=
  { base := 0x200004, dims := [(0x10, 4096)], fields := [
      { hi := 19, lo := 0, acc := .rw, cls := [.cold, .warm], cfg := true }] }

/-- XLT_CTX_CFG (R260). -/
def reg_XLT_CTX_CFG : RegDef :=
  { base := 0x200008, dims := [(0x10, 4096)], fields := [
      { hi := 31, lo := 31, acc := .rw, cls := [.cold, .warm], cfg := true },
      { hi := 30, lo := 26, acc := .rw, full := true, cls := [.cold, .warm], cfg := true },
      { hi := 25, lo := 25, acc := .rwl, full := true, cls := [.cold, .warm], cfg := true }] }

/-- XLT_CTX_STATUS (R260). -/
def reg_XLT_CTX_STATUS : RegDef :=
  { base := 0x20000c, dims := [(0x10, 4096)], fields := [
      { hi := 31, lo := 16, acc := .ro, cls := [.cold, .warm] },
      { hi := 15, lo := 12, acc := .ro, cls := [.cold, .warm] },
      { hi := 7, lo := 0, acc := .ro, cls := [.cold, .warm] }] }

/-- XLT_FQ_BASE_LO (R260). -/
def reg_XLT_FQ_BASE_LO : RegDef :=
  { base := 0x210000, dims := [(0x10, 32)], fields := [
      { hi := 31, lo := 12, acc := .rw, cls := [.cold, .warm], cfg := true },
      { hi := 3, lo := 0, acc := .rw, cls := [.cold, .warm], cfg := true }] }

/-- XLT_FQ_BASE_HI (R260). -/
def reg_XLT_FQ_BASE_HI : RegDef :=
  { base := 0x210004, dims := [(0x10, 32)], fields := [
      { hi := 19, lo := 0, acc := .rw, cls := [.cold, .warm], cfg := true }] }

/-- XLT_FQ_NOTIFY (R260). -/
def reg_XLT_FQ_NOTIFY : RegDef :=
  { base := 0x210008, dims := [(0x10, 32)], fields := [
      { hi := 31, lo := 31, acc := .rw, cls := [.cold, .warm], cfg := true },
      { hi := 30, lo := 30, acc := .rw, cls := [.cold, .warm], cfg := true },
      { hi := 27, lo := 20, acc := .rw, cls := [.cold, .warm], cfg := true },
      { hi := 19, lo := 0, acc := .rw, cls := [.cold, .warm], cfg := true }] }

/-- XLT_FQ_CFG (R260). -/
def reg_XLT_FQ_CFG : RegDef :=
  { base := 0x21000c, dims := [(0x10, 32)], fields := [
      { hi := 31, lo := 31, acc := .rw, cls := [.cold, .warm], cfg := true },
      { hi := 30, lo := 28, acc := .ro, cls := [.cold, .warm] }] }

/-- XLT_SRC_CTX (R260). -/
def reg_XLT_SRC_CTX : RegDef :=
  { base := 0x211000, dims := [(0x4, 256)], fields := [
      { hi := 31, lo := 31, acc := .rw, full := true, cls := [.cold, .warm], cfg := true },
      { hi := 11, lo := 0, acc := .rw, full := true, cls := [.cold, .warm], cfg := true }] }

/-- XLT_CFG (R260). -/
def reg_XLT_CFG : RegDef :=
  { base := 0x212000, dims := [], fields := [
      { hi := 31, lo := 16, acc := .rw, reset := 0x3e8, cls := [.cold, .warm], cfg := true, ranges := [(1, 60000)] },
      { hi := 15, lo := 0, acc := .rw, reset := 0xa, cls := [.cold, .warm], cfg := true, ranges := [(1, 65535)] }] }

/-- XLT_STATUS (R260). -/
def reg_XLT_STATUS : RegDef :=
  { base := 0x212004, dims := [], fields := [
      { hi := 12, lo := 0, acc := .ro, cls := [.cold, .warm] }] }

/-- XLT_FAULT_COUNT (R260). -/
def reg_XLT_FAULT_COUNT : RegDef :=
  { base := 0x212008, dims := [], fields := [
      { hi := 31, lo := 0, acc := .ro, cls := [.cold, .warm] }] }

/-- XLT_MERGE_COUNT (R260). -/
def reg_XLT_MERGE_COUNT : RegDef :=
  { base := 0x21200c, dims := [], fields := [
      { hi := 31, lo := 0, acc := .ro, cls := [.cold, .warm] }] }

/-- XLT_DENY_COUNT (R260). -/
def reg_XLT_DENY_COUNT : RegDef :=
  { base := 0x212010, dims := [], fields := [
      { hi := 31, lo := 0, acc := .ro, cls := [.cold, .warm] }] }

/-- XLT_INVAL_COUNT (R260). -/
def reg_XLT_INVAL_COUNT : RegDef :=
  { base := 0x212014, dims := [], fields := [
      { hi := 31, lo := 0, acc := .ro, cls := [.cold, .warm] }] }

/-- XLT_DRAIN_WARN_COUNT (R260). -/
def reg_XLT_DRAIN_WARN_COUNT : RegDef :=
  { base := 0x212018, dims := [], fields := [
      { hi := 31, lo := 0, acc := .ro, cls := [.cold, .warm] }] }

/-- XLT_RECORD_WAIT (R260). -/
def reg_XLT_RECORD_WAIT : RegDef :=
  { base := 0x21201c, dims := [], fields := [
      { hi := 31, lo := 0, acc := .ro, cls := [.cold, .warm] }] }

/-- XLT_FQ_FULL (R260). -/
def reg_XLT_FQ_FULL : RegDef :=
  { base := 0x212020, dims := [], fields := [
      { hi := 31, lo := 0, acc := .ro, cls := [.cold, .warm] }] }

/-- The registers of the XLT block, translation (Table 1-6). -/
def regsXlt : List RegDef :=
  [reg_XLT_CTX_TABLE_LO, reg_XLT_CTX_TABLE_HI, reg_XLT_CTX_CFG, reg_XLT_CTX_STATUS, reg_XLT_FQ_BASE_LO, reg_XLT_FQ_BASE_HI,
   reg_XLT_FQ_NOTIFY, reg_XLT_FQ_CFG, reg_XLT_SRC_CTX, reg_XLT_CFG, reg_XLT_STATUS, reg_XLT_FAULT_COUNT,
   reg_XLT_MERGE_COUNT, reg_XLT_DENY_COUNT, reg_XLT_INVAL_COUNT, reg_XLT_DRAIN_WARN_COUNT, reg_XLT_RECORD_WAIT, reg_XLT_FQ_FULL]

/-- HPT_STATUS (R290). -/
def reg_HPT_STATUS : RegDef :=
  { base := 0x280000, dims := [], fields := [
      { hi := 12, lo := 0, acc := .ro, reset := 0x1000, cls := [.cold, .warm] }] }

/-- HPT_BI_CFG (R290). -/
def reg_HPT_BI_CFG : RegDef :=
  { base := 0x280004, dims := [], fields := [
      { hi := 31, lo := 16, acc := .rw, reset := 0x3e8, cls := [.cold, .warm], cfg := true, ranges := [(10, 65535)] },
      { hi := 15, lo := 8, acc := .rw, reset := 0x80, cls := [.cold, .warm], cfg := true, ranges := [(1, 255)] }] }

/-- HPT_RING_CFG (R290). -/
def reg_HPT_RING_CFG : RegDef :=
  { base := 0x280008, dims := [], fields := [
      { hi := 15, lo := 8, acc := .rw, reset := 0x8, cls := [.cold, .warm], cfg := true, ranges := [(2, 64)] },
      { hi := 7, lo := 0, acc := .rw, reset := 0x8, cls := [.cold, .warm], cfg := true, ranges := [(1, 255)] }] }

/-- HPT_BI_TIMEOUT_COUNT (R290). -/
def reg_HPT_BI_TIMEOUT_COUNT : RegDef :=
  { base := 0x28000c, dims := [], fields := [
      { hi := 31, lo := 0, acc := .ro, cls := [.cold, .warm] }] }

/-- HPT_HOST_LOST_COUNT (R290). -/
def reg_HPT_HOST_LOST_COUNT : RegDef :=
  { base := 0x280010, dims := [], fields := [
      { hi := 31, lo := 0, acc := .ro, cls := [.cold, .warm] }] }

/-- HPT_GATE_DENY_COUNT (R290). -/
def reg_HPT_GATE_DENY_COUNT : RegDef :=
  { base := 0x280014, dims := [], fields := [
      { hi := 31, lo := 0, acc := .ro, cls := [.cold, .warm] }] }

/-- HPT_RING_NACK_COUNT (R290). -/
def reg_HPT_RING_NACK_COUNT : RegDef :=
  { base := 0x280018, dims := [], fields := [
      { hi := 31, lo := 0, acc := .ro, cls := [.cold, .warm] }] }

/-- HPT_RECORD_DROPPED (R290). -/
def reg_HPT_RECORD_DROPPED : RegDef :=
  { base := 0x28001c, dims := [], fields := [
      { hi := 31, lo := 0, acc := .ro, cls := [.cold, .warm] }] }

/-- HPT_PORT_STATUS (R290). -/
def reg_HPT_PORT_STATUS : RegDef :=
  { base := 0x280100, dims := [(0x20, 16)], fields := [
      { hi := 31, lo := 31, acc := .ro, cls := [.cold, .warm, .port] },
      { hi := 30, lo := 28, acc := .ro, cls := [.cold, .warm, .port] },
      { hi := 27, lo := 23, acc := .ro, cls := [.cold, .warm, .port] },
      { hi := 22, lo := 21, acc := .ro, cls := [.cold, .warm, .port] },
      { hi := 20, lo := 20, acc := .ro, cls := [.cold, .warm, .port] },
      { hi := 19, lo := 15, acc := .ro, cls := [.cold, .warm, .port] },
      { hi := 7, lo := 0, acc := .ro, cls := [.cold, .warm, .port] }] }

/-- HPT_PORT_DOWN_COUNT (R290). -/
def reg_HPT_PORT_DOWN_COUNT : RegDef :=
  { base := 0x280104, dims := [(0x20, 16)], fields := [
      { hi := 31, lo := 0, acc := .ro, cls := [.cold, .warm] }] }

/-- HPT_HOME_MAP (R290). -/
def reg_HPT_HOME_MAP : RegDef :=
  { base := 0x280400, dims := [(0x20, 4), (0x4, 8)], perIndex := .homeMap, fields := [
      { hi := 31, lo := 0, acc := .ro, cls := [.cold, .warm] }] }

/-- HPT_CMN_BANK0_LO (R290). -/
def reg_HPT_CMN_BANK0_LO : RegDef :=
  { base := 0x281000, dims := [(0x40, 64)], fields := [
      { hi := 31, lo := 21, acc := .rw, cls := [.cold, .warm], cfg := true }] }

/-- HPT_CMN_BANK0_HI (R290). -/
def reg_HPT_CMN_BANK0_HI : RegDef :=
  { base := 0x281004, dims := [(0x40, 64)], fields := [
      { hi := 19, lo := 0, acc := .rw, cls := [.cold, .warm], cfg := true }] }

/-- HPT_CMN_BANK1_LO (R290). -/
def reg_HPT_CMN_BANK1_LO : RegDef :=
  { base := 0x281008, dims := [(0x40, 64)], fields := [
      { hi := 31, lo := 21, acc := .rw, cls := [.cold, .warm], cfg := true }] }

/-- HPT_CMN_BANK1_HI (R290). -/
def reg_HPT_CMN_BANK1_HI : RegDef :=
  { base := 0x28100c, dims := [(0x40, 64)], fields := [
      { hi := 19, lo := 0, acc := .rw, cls := [.cold, .warm], cfg := true }] }

/-- HPT_CMN_CFG (R290). -/
def reg_HPT_CMN_CFG : RegDef :=
  { base := 0x281010, dims := [(0x40, 64)], fields := [
      { hi := 31, lo := 31, acc := .rw, cls := [.cold, .warm], cfg := true },
      { hi := 15, lo := 0, acc := .rw, cls := [.cold, .warm], cfg := true, ranges := [(1, 65535)] }] }

/-- HPT_CMN_PUB (R290). -/
def reg_HPT_CMN_PUB : RegDef :=
  { base := 0x281014, dims := [(0x40, 64)], fields := [
      { hi := 31, lo := 0, acc := .rw, cls := [.cold, .warm], cfg := true }] }

/-- HPT_CMN_STATE (R290). -/
def reg_HPT_CMN_STATE : RegDef :=
  { base := 0x281018, dims := [(0x40, 64)], fields := [
      { hi := 31, lo := 28, acc := .ro, cls := [.cold] },
      { hi := 27, lo := 24, acc := .ro, cls := [.cold, .warm] },
      { hi := 23, lo := 23, acc := .ro, cls := [.cold] }] }

/-- HPT_CMN_VERSION_LO (R290). -/
def reg_HPT_CMN_VERSION_LO : RegDef :=
  { base := 0x28101c, dims := [(0x40, 64)], fields := [
      { hi := 31, lo := 0, acc := .ro, cls := [.cold] }] }

/-- HPT_CMN_VERSION_HI (R290). -/
def reg_HPT_CMN_VERSION_HI : RegDef :=
  { base := 0x281020, dims := [(0x40, 64)], fields := [
      { hi := 31, lo := 0, acc := .ro, cls := [.cold] }] }

/-- HPT_CMN_VISIBLE_LO (R290). -/
def reg_HPT_CMN_VISIBLE_LO : RegDef :=
  { base := 0x281024, dims := [(0x40, 64)], fields := [
      { hi := 31, lo := 0, acc := .ro, cls := [.cold] }] }

/-- HPT_CMN_VISIBLE_HI (R290). -/
def reg_HPT_CMN_VISIBLE_HI : RegDef :=
  { base := 0x281028, dims := [(0x40, 64)], fields := [
      { hi := 31, lo := 0, acc := .ro, cls := [.cold] }] }

/-- HPT_CMN_CONFLICTS (R290). -/
def reg_HPT_CMN_CONFLICTS : RegDef :=
  { base := 0x28102c, dims := [(0x40, 64)], fields := [
      { hi := 31, lo := 0, acc := .ro, cls := [.cold, .warm] }] }

/-- HPT_GATE_BASE_LO (R290). -/
def reg_HPT_GATE_BASE_LO : RegDef :=
  { base := 0x290000, dims := [(0x20, 4096)], fields := [
      { hi := 31, lo := 21, acc := .rw, cls := [.cold, .warm], cfg := true }] }

/-- HPT_GATE_BASE_HI (R290). -/
def reg_HPT_GATE_BASE_HI : RegDef :=
  { base := 0x290004, dims := [(0x20, 4096)], fields := [
      { hi := 19, lo := 0, acc := .rw, cls := [.cold, .warm], cfg := true }] }

/-- HPT_GATE_BLOCKS (R290). -/
def reg_HPT_GATE_BLOCKS : RegDef :=
  { base := 0x290008, dims := [(0x20, 4096)], fields := [
      { hi := 27, lo := 0, acc := .rw, cls := [.cold, .warm], cfg := true, ranges := [(0, 134217728)] }] }

/-- HPT_GATE_KEY (R290). -/
def reg_HPT_GATE_KEY : RegDef :=
  { base := 0x29000c, dims := [(0x20, 4096)], fields := [
      { hi := 31, lo := 31, acc := .rw, cls := [.cold, .warm], cfg := true },
      { hi := 27, lo := 16, acc := .rw, cls := [.cold, .warm], cfg := true },
      { hi := 7, lo := 4, acc := .rw, cls := [.cold, .warm], cfg := true },
      { hi := 3, lo := 0, acc := .rw, cls := [.cold, .warm], cfg := true }] }

/-- HPT_GATE_CFG (R290). -/
def reg_HPT_GATE_CFG : RegDef :=
  { base := 0x290010, dims := [(0x20, 4096)], fields := [
      { hi := 31, lo := 31, acc := .rw, cls := [.cold, .warm], cfg := true },
      { hi := 30, lo := 26, acc := .rw, cls := [.cold, .warm], cfg := true },
      { hi := 25, lo := 25, acc := .rw, cls := [.cold, .warm], cfg := true },
      { hi := 24, lo := 24, acc := .rw, cls := [.cold, .warm], cfg := true },
      { hi := 23, lo := 23, acc := .rw, cls := [.cold, .warm], cfg := true },
      { hi := 22, lo := 21, acc := .rw, cls := [.cold, .warm], cfg := true },
      { hi := 20, lo := 15, acc := .rw, cls := [.cold, .warm], cfg := true }] }

/-- HPT_GATE_STATE (R290). -/
def reg_HPT_GATE_STATE : RegDef :=
  { base := 0x290014, dims := [(0x20, 4096)], fields := [
      { hi := 31, lo := 28, acc := .ro, cls := [.cold] },
      { hi := 27, lo := 24, acc := .ro, cls := [.cold, .warm] },
      { hi := 15, lo := 0, acc := .ro, cls := [.cold, .warm] }] }

/-- The registers of the HPT block, host ports and range gates (Table 1-6). -/
def regsHpt : List RegDef :=
  [reg_HPT_STATUS, reg_HPT_BI_CFG, reg_HPT_RING_CFG, reg_HPT_BI_TIMEOUT_COUNT, reg_HPT_HOST_LOST_COUNT, reg_HPT_GATE_DENY_COUNT,
   reg_HPT_RING_NACK_COUNT, reg_HPT_RECORD_DROPPED, reg_HPT_PORT_STATUS, reg_HPT_PORT_DOWN_COUNT, reg_HPT_HOME_MAP, reg_HPT_CMN_BANK0_LO,
   reg_HPT_CMN_BANK0_HI, reg_HPT_CMN_BANK1_LO, reg_HPT_CMN_BANK1_HI, reg_HPT_CMN_CFG, reg_HPT_CMN_PUB, reg_HPT_CMN_STATE,
   reg_HPT_CMN_VERSION_LO, reg_HPT_CMN_VERSION_HI, reg_HPT_CMN_VISIBLE_LO, reg_HPT_CMN_VISIBLE_HI, reg_HPT_CMN_CONFLICTS, reg_HPT_GATE_BASE_LO,
   reg_HPT_GATE_BASE_HI, reg_HPT_GATE_BLOCKS, reg_HPT_GATE_KEY, reg_HPT_GATE_CFG, reg_HPT_GATE_STATE]

/-- ENG_ST_CFG (R355). -/
def reg_ENG_ST_CFG : RegDef :=
  { base := 0x300000, dims := [(0x10, 16384)], fields := [
      { hi := 31, lo := 31, acc := .rw, cls := [.cold, .warm], cfg := true },
      { hi := 30, lo := 26, acc := .rw, full := true, cls := [.cold, .warm], cfg := true },
      { hi := 25, lo := 25, acc := .rw, cls := [.cold, .warm], cfg := true },
      { hi := 24, lo := 23, acc := .rw, cls := [.cold, .warm], cfg := true },
      { hi := 22, lo := 12, acc := .rw, cls := [.cold, .warm], cfg := true, ranges := [(0, 2047)] }] }

/-- ENG_ST_QUOTA (R355). -/
def reg_ENG_ST_QUOTA : RegDef :=
  { base := 0x300004, dims := [(0x10, 16384)], fields := [
      { hi := 31, lo := 16, acc := .rw, reset := 0x3e8, cls := [.cold, .warm], cfg := true, ranges := [(1, 65535)] }] }

/-- ENG_ST_STATUS (R355). -/
def reg_ENG_ST_STATUS : RegDef :=
  { base := 0x300008, dims := [(0x10, 16384)], fields := [
      { hi := 31, lo := 30, acc := .ro, cls := [.cold, .warm] },
      { hi := 29, lo := 29, acc := .ro, cls := [.cold, .warm] },
      { hi := 28, lo := 28, acc := .rw1c, cls := [.cold, .warm] },
      { hi := 27, lo := 24, acc := .ro, cls := [.cold, .warm] },
      { hi := 12, lo := 0, acc := .ro, cls := [.cold, .warm] }] }

/-- ENG_ST_GRANTS (R355). -/
def reg_ENG_ST_GRANTS : RegDef :=
  { base := 0x30000c, dims := [(0x10, 16384)], fields := [
      { hi := 31, lo := 0, acc := .ro, cls := [.cold, .warm] }] }

/-- ENG_SYNC_OWN (R355). -/
def reg_ENG_SYNC_OWN : RegDef :=
  { base := 0x340000, dims := [(0x4, 256)], fields := [
      { hi := 31, lo := 31, acc := .rw, full := true, cls := [.cold, .warm], cfg := true },
      { hi := 30, lo := 26, acc := .rw, full := true, cls := [.cold, .warm], cfg := true },
      { hi := 25, lo := 25, acc := .rw, full := true, cls := [.cold, .warm], cfg := true }] }

/-- ENG_ARB_CFG (R355). -/
def reg_ENG_ARB_CFG : RegDef :=
  { base := 0x340400, dims := [], fields := [
      { hi := 31, lo := 24, acc := .rw, reset := 0x8, cls := [.cold, .warm], cfg := true, ranges := [(1, 255)] },
      { hi := 23, lo := 16, acc := .rw, reset := 0x2, cls := [.cold, .warm], cfg := true, ranges := [(1, 255)] },
      { hi := 15, lo := 0, acc := .rw, reset := 0x100, cls := [.cold, .warm], cfg := true, ranges := [(16, 65535)] }] }

/-- ENG_QUOTA_CFG (R355). -/
def reg_ENG_QUOTA_CFG : RegDef :=
  { base := 0x340404, dims := [], fields := [
      { hi := 31, lo := 16, acc := .rw, reset := 0x64, cls := [.cold, .warm], cfg := true, ranges := [(1, 65535)] }] }

/-- ENG_BURST_CFG (R355). -/
def reg_ENG_BURST_CFG : RegDef :=
  { base := 0x340408, dims := [], fields := [
      { hi := 31, lo := 0, acc := .rw, reset := 0x2710, cls := [.cold, .warm], cfg := true, ranges := [(1, 4294967295)] }] }

/-- ENG_BURST_STATUS (R355). -/
def reg_ENG_BURST_STATUS : RegDef :=
  { base := 0x34040c, dims := [], fields := [
      { hi := 12, lo := 0, acc := .ro, cls := [.cold, .warm] }] }

/-- ENG_BURST_TRUNC (R355). -/
def reg_ENG_BURST_TRUNC : RegDef :=
  { base := 0x340410, dims := [], fields := [
      { hi := 31, lo := 0, acc := .ro, cls := [.cold, .warm] }] }

/-- ENG_BURST_STALE (R355). -/
def reg_ENG_BURST_STALE : RegDef :=
  { base := 0x340414, dims := [], fields := [
      { hi := 31, lo := 0, acc := .ro, cls := [.cold, .warm] }] }

/-- ENG_BURST_REFUSED (R355). -/
def reg_ENG_BURST_REFUSED : RegDef :=
  { base := 0x340418, dims := [], fields := [
      { hi := 31, lo := 0, acc := .ro, cls := [.cold, .warm] }] }

/-- ENG_CUT_COUNT (R355). -/
def reg_ENG_CUT_COUNT : RegDef :=
  { base := 0x34041c, dims := [], fields := [
      { hi := 31, lo := 0, acc := .ro, cls := [.cold, .warm] }] }

/-- ENG_SIGNAL_DROPPED (R355). -/
def reg_ENG_SIGNAL_DROPPED : RegDef :=
  { base := 0x340420, dims := [], fields := [
      { hi := 31, lo := 0, acc := .ro, cls := [.cold, .warm] }] }

/-- ENG_SYNC_DENIED (R355). -/
def reg_ENG_SYNC_DENIED : RegDef :=
  { base := 0x340424, dims := [], fields := [
      { hi := 31, lo := 0, acc := .ro, cls := [.cold, .warm] }] }

/-- ENG_CORE_STATE (R355). -/
def reg_ENG_CORE_STATE : RegDef :=
  { base := 0x341000, dims := [(0x4, 324)], perIndex := .coreState, fields := [
      { hi := 31, lo := 28, acc := .ro },
      { hi := 27, lo := 23, acc := .ro, cls := [.cold, .warm] },
      { hi := 22, lo := 18, acc := .ro, cls := [.cold, .warm] }] }

/-- The registers of the ENG block, engines (Table 1-6). -/
def regsEng : List RegDef :=
  [reg_ENG_ST_CFG, reg_ENG_ST_QUOTA, reg_ENG_ST_STATUS, reg_ENG_ST_GRANTS, reg_ENG_SYNC_OWN, reg_ENG_ARB_CFG,
   reg_ENG_QUOTA_CFG, reg_ENG_BURST_CFG, reg_ENG_BURST_STATUS, reg_ENG_BURST_TRUNC, reg_ENG_BURST_STALE, reg_ENG_BURST_REFUSED,
   reg_ENG_CUT_COUNT, reg_ENG_SIGNAL_DROPPED, reg_ENG_SYNC_DENIED, reg_ENG_CORE_STATE]

/-- PFL_CTRL (R410). -/
def reg_PFL_CTRL : RegDef :=
  { base := 0x380000, dims := [(0x1000, 96)], fields := [
      { hi := 31, lo := 31, acc := .rw, reset := 0x1, cls := [.cold, .warm], cfg := true },
      { hi := 30, lo := 30, acc := .rw, reset := 0x1, cls := [.cold, .warm], cfg := true },
      { hi := 23, lo := 16, acc := .rw, reset := 0x64, cls := [.cold, .warm], cfg := true, ranges := [(1, 255)] },
      { hi := 15, lo := 8, acc := .rw, reset := 0x4, cls := [.cold, .warm], cfg := true, ranges := [(1, 255)] }] }

/-- PFL_TIMERS (R410). -/
def reg_PFL_TIMERS : RegDef :=
  { base := 0x380004, dims := [(0x1000, 96)], fields := [
      { hi := 31, lo := 16, acc := .rw, reset := 0x9c4, cls := [.cold, .warm], cfg := true, ranges := [(256, 65535)] },
      { hi := 15, lo := 0, acc := .rw, reset := 0x64, cls := [.cold, .warm], cfg := true, ranges := [(1, 65535)] }] }

/-- PFL_CMD (R410). -/
def reg_PFL_CMD : RegDef :=
  { base := 0x380008, dims := [(0x1000, 96)], fields := [
      { hi := 31, lo := 28, acc := .wo, cls := [.cold, .warm] }] }

/-- PFL_STATUS (R410). -/
def reg_PFL_STATUS : RegDef :=
  { base := 0x38000c, dims := [(0x1000, 96)], fields := [
      { hi := 31, lo := 28, acc := .ro, cls := [.cold, .warm, .die] },
      { hi := 27, lo := 24, acc := .ro, cls := [.cold, .warm, .die] },
      { hi := 23, lo := 23, acc := .ro, cls := [.cold] },
      { hi := 22, lo := 20, acc := .ro, reset := 0x7, cls := [.cold, .warm, .die] },
      { hi := 19, lo := 17, acc := .ro, reset := 0x7, cls := [.cold, .warm, .die] },
      { hi := 16, lo := 16, acc := .ro, cls := [.cold, .warm, .die] },
      { hi := 3, lo := 3, acc := .rw1c, cls := [.cold, .warm] }] }

/-- PFL_PARTNER_NODE (R410). -/
def reg_PFL_PARTNER_NODE : RegDef :=
  { base := 0x380010, dims := [(0x1000, 96)], fields := [
      { hi := 19, lo := 0, acc := .ro, cls := [.cold, .warm, .die] }] }

/-- PFL_PARTNER_INC (R410). -/
def reg_PFL_PARTNER_INC : RegDef :=
  { base := 0x380014, dims := [(0x1000, 96)], fields := [
      { hi := 31, lo := 0, acc := .ro, cls := [.cold, .warm, .die] }] }

/-- PFL_OWN_INC (R410). -/
def reg_PFL_OWN_INC : RegDef :=
  { base := 0x380018, dims := [(0x1000, 96)], fields := [
      { hi := 31, lo := 0, acc := .ro, cls := [.cold, .warm, .die] }] }

/-- PFL_RTT (R410). -/
def reg_PFL_RTT : RegDef :=
  { base := 0x38001c, dims := [(0x1000, 96)], fields := [
      { hi := 15, lo := 0, acc := .ro, cls := [.cold, .warm, .die] }] }

/-- PFL_SEQ (R410). -/
def reg_PFL_SEQ : RegDef :=
  { base := 0x380020, dims := [(0x1000, 96)], fields := [
      { hi := 27, lo := 16, acc := .ro, cls := [.cold, .warm, .die] },
      { hi := 11, lo := 0, acc := .ro, cls := [.cold, .warm, .die] }] }

/-- PFL_WINDOW (R410). -/
def reg_PFL_WINDOW : RegDef :=
  { base := 0x380024, dims := [(0x1000, 96)], fields := [
      { hi := 26, lo := 16, acc := .ro, cls := [.cold, .warm, .die] },
      { hi := 10, lo := 0, acc := .ro, cls := [.cold, .warm, .die] }] }

/-- PFL_HOLD (R410). -/
def reg_PFL_HOLD : RegDef :=
  { base := 0x380028, dims := [(0x1000, 96)], fields := [
      { hi := 31, lo := 16, acc := .ro, cls := [.cold, .warm, .die] },
      { hi := 15, lo := 0, acc := .rw, reset := 0x1000, cls := [.cold, .warm], cfg := true, ranges := [(0, 65535)] }] }

/-- PFL_FENCE (R410). -/
def reg_PFL_FENCE : RegDef :=
  { base := 0x38002c, dims := [(0x1000, 96)], fields := [
      { hi := 31, lo := 0, acc := .wo, cls := [.cold, .warm] }] }

/-- PFL_CLASS_OFF (R410). -/
def reg_PFL_CLASS_OFF : RegDef :=
  { base := 0x380030, dims := [(0x1000, 96)], fields := [
      { hi := 7, lo := 4, acc := .ro, cls := [.cold, .warm, .die] },
      { hi := 3, lo := 0, acc := .ro, cls := [.cold, .warm, .die] }] }

/-- PFL_CW_CORR_LO (R410). -/
def reg_PFL_CW_CORR_LO : RegDef :=
  { base := 0x380040, dims := [(0x1000, 96)], fields := [
      { hi := 31, lo := 0, acc := .ro, cls := [.cold, .warm] }] }

/-- PFL_CW_CORR_HI (R410). -/
def reg_PFL_CW_CORR_HI : RegDef :=
  { base := 0x380044, dims := [(0x1000, 96)], fields := [
      { hi := 31, lo := 0, acc := .ro, cls := [.cold, .warm] }] }

/-- PFL_CW_UNCORR (R410). -/
def reg_PFL_CW_UNCORR : RegDef :=
  { base := 0x380048, dims := [(0x1000, 96)], fields := [
      { hi := 31, lo := 0, acc := .ro, cls := [.cold, .warm] }] }

/-- PFL_CRC_FAIL (R410). -/
def reg_PFL_CRC_FAIL : RegDef :=
  { base := 0x38004c, dims := [(0x1000, 96)], fields := [
      { hi := 31, lo := 0, acc := .ro, cls := [.cold, .warm] }] }

/-- PFL_REPLAYS (R410). -/
def reg_PFL_REPLAYS : RegDef :=
  { base := 0x380050, dims := [(0x1000, 96)], fields := [
      { hi := 31, lo := 0, acc := .ro, cls := [.cold, .warm] }] }

/-- PFL_NAK_SENT (R410). -/
def reg_PFL_NAK_SENT : RegDef :=
  { base := 0x380054, dims := [(0x1000, 96)], fields := [
      { hi := 31, lo := 0, acc := .ro, cls := [.cold, .warm] }] }

/-- PFL_RETRAINS (R410). -/
def reg_PFL_RETRAINS : RegDef :=
  { base := 0x380058, dims := [(0x1000, 96)], fields := [
      { hi := 31, lo := 0, acc := .ro, cls := [.cold, .warm] }] }

/-- PFL_DOWNS (R410). -/
def reg_PFL_DOWNS : RegDef :=
  { base := 0x38005c, dims := [(0x1000, 96)], fields := [
      { hi := 31, lo := 0, acc := .ro, cls := [.cold, .warm] }] }

/-- PFL_MARKER_LOST (R410). -/
def reg_PFL_MARKER_LOST : RegDef :=
  { base := 0x380060, dims := [(0x1000, 96)], fields := [
      { hi := 31, lo := 0, acc := .ro, cls := [.cold, .warm] }] }

/-- PFL_PROTO_ERR (R410). -/
def reg_PFL_PROTO_ERR : RegDef :=
  { base := 0x380064, dims := [(0x1000, 96)], fields := [
      { hi := 31, lo := 0, acc := .ro, cls := [.cold, .warm] }] }

/-- PFL_OFF_STUCK (R410). -/
def reg_PFL_OFF_STUCK : RegDef :=
  { base := 0x380068, dims := [(0x1000, 96)], fields := [
      { hi := 31, lo := 0, acc := .ro, cls := [.cold, .warm] }] }

/-- PFL_FENCED (R410). -/
def reg_PFL_FENCED : RegDef :=
  { base := 0x38006c, dims := [(0x1000, 96)], fields := [
      { hi := 31, lo := 0, acc := .ro, cls := [.cold, .warm] }] }

/-- PFL_PARITY_FAIL (R410). -/
def reg_PFL_PARITY_FAIL : RegDef :=
  { base := 0x380070, dims := [(0x1000, 96)], fields := [
      { hi := 31, lo := 0, acc := .ro, cls := [.cold, .warm] }] }

/-- PFL_LANE_STATUS (R410). -/
def reg_PFL_LANE_STATUS : RegDef :=
  { base := 0x380100, dims := [(0x1000, 96), (0x10, 5)], fields := [
      { hi := 31, lo := 28, acc := .ro, reset := 0x4, cls := [.cold, .warm, .die] },
      { hi := 27, lo := 24, acc := .ro, reset := 0x4, cls := [.cold, .warm, .die] },
      { hi := 23, lo := 16, acc := .ro, cls := [.cold, .warm, .die] },
      { hi := 15, lo := 8, acc := .ro, cls := [.cold, .warm] }] }

/-- PFL_LANE_SYMERR (R410). -/
def reg_PFL_LANE_SYMERR : RegDef :=
  { base := 0x380104, dims := [(0x1000, 96), (0x10, 5)], fields := [
      { hi := 31, lo := 0, acc := .ro, cls := [.cold, .warm] }] }

/-- PFL_LANE_TXEQ (R410). -/
def reg_PFL_LANE_TXEQ : RegDef :=
  { base := 0x380108, dims := [(0x1000, 96), (0x10, 5)], fields := [
      { hi := 31, lo := 26, acc := .ro, cls := [.cold, .warm, .die] },
      { hi := 25, lo := 20, acc := .ro, cls := [.cold, .warm, .die] },
      { hi := 19, lo := 14, acc := .ro, cls := [.cold, .warm, .die] },
      { hi := 13, lo := 6, acc := .ro, reset := 0x40, cls := [.cold, .warm, .die] },
      { hi := 5, lo := 0, acc := .ro, cls := [.cold, .warm, .die] }] }

/-- The registers of the PFL block, Pefin links (Table 1-6). -/
def regsPfl : List RegDef :=
  [reg_PFL_CTRL, reg_PFL_TIMERS, reg_PFL_CMD, reg_PFL_STATUS, reg_PFL_PARTNER_NODE, reg_PFL_PARTNER_INC,
   reg_PFL_OWN_INC, reg_PFL_RTT, reg_PFL_SEQ, reg_PFL_WINDOW, reg_PFL_HOLD, reg_PFL_FENCE,
   reg_PFL_CLASS_OFF, reg_PFL_CW_CORR_LO, reg_PFL_CW_CORR_HI, reg_PFL_CW_UNCORR, reg_PFL_CRC_FAIL, reg_PFL_REPLAYS,
   reg_PFL_NAK_SENT, reg_PFL_RETRAINS, reg_PFL_DOWNS, reg_PFL_MARKER_LOST, reg_PFL_PROTO_ERR, reg_PFL_OFF_STUCK,
   reg_PFL_FENCED, reg_PFL_PARITY_FAIL, reg_PFL_LANE_STATUS, reg_PFL_LANE_SYMERR, reg_PFL_LANE_TXEQ]

/-- PFR_NODE (R442). -/
def reg_PFR_NODE : RegDef :=
  { base := 0x400000, dims := [], fields := [
      { hi := 31, lo := 31, acc := .rwl, cls := [.cold, .warm], cfg := true },
      { hi := 19, lo := 0, acc := .rwl, cls := [.cold, .warm], cfg := true }] }

/-- PFR_LEVEL (R442). -/
def reg_PFR_LEVEL : RegDef :=
  { base := 0x400004, dims := [], fields := [
      { hi := 31, lo := 31, acc := .ro, cls := [.cold] },
      { hi := 3, lo := 0, acc := .rwl, cls := [.cold, .warm], cfg := true, ranges := [(0, 15)] }] }

/-- PFR_REQ_CFG (R442). -/
def reg_PFR_REQ_CFG : RegDef :=
  { base := 0x400008, dims := [], fields := [
      { hi := 31, lo := 8, acc := .rw, reset := 0xc350, cls := [.cold, .warm], cfg := true, ranges := [(1, 16777215)] },
      { hi := 7, lo := 0, acc := .rw, reset := 0x64, cls := [.cold, .warm], cfg := true, ranges := [(1, 255)] }] }

/-- PFR_CLASS_CFG (R442). -/
def reg_PFR_CLASS_CFG : RegDef :=
  { base := 0x40000c, dims := [], fields := [
      { hi := 31, lo := 22, acc := .rw, reset := 0x40, cls := [.cold, .warm], cfg := true, ranges := [(32, 1023)] },
      { hi := 21, lo := 4, acc := .rw, reset := 0x4000, cls := [.cold, .warm], cfg := true, ranges := [(0, 131072)] }] }

/-- PFR_PARK_CFG (R442). -/
def reg_PFR_PARK_CFG : RegDef :=
  { base := 0x400010, dims := [], fields := [
      { hi := 17, lo := 0, acc := .rw, reset := 0x2000, cls := [.cold, .warm], cfg := true, ranges := [(0, 131072)] }] }

/-- PFR_STATUS (R442). -/
def reg_PFR_STATUS : RegDef :=
  { base := 0x400014, dims := [], fields := [
      { hi := 31, lo := 14, acc := .ro, cls := [.cold, .warm] },
      { hi := 13, lo := 0, acc := .ro, cls := [.cold] }] }

/-- PFR_ERR (R442). -/
def reg_PFR_ERR : RegDef :=
  { base := 0x400018, dims := [], fields := [
      { hi := 3, lo := 0, acc := .rw1c, cls := [.cold, .warm] }] }

/-- PFR_CHR_CFG (R442). -/
def reg_PFR_CHR_CFG : RegDef :=
  { base := 0x400020, dims := [], fields := [
      { hi := 31, lo := 31, acc := .rw, cls := [.cold, .warm], cfg := true },
      { hi := 30, lo := 30, acc := .rw, cls := [.cold, .warm], cfg := true },
      { hi := 29, lo := 29, acc := .rw, cls := [.cold, .warm], cfg := true },
      { hi := 28, lo := 22, acc := .rw, reset := 0x7f, cls := [.cold, .warm], cfg := true, ranges := [(0, 95), (127, 127)] },
      { hi := 21, lo := 8, acc := .rw, reset := 0x64, cls := [.cold, .warm], cfg := true, ranges := [(10, 16383)] },
      { hi := 7, lo := 0, acc := .rw, reset := 0xa, cls := [.cold, .warm], cfg := true, ranges := [(1, 255)] }] }

/-- PFR_CHR_STATUS (R442). -/
def reg_PFR_CHR_STATUS : RegDef :=
  { base := 0x400024, dims := [], fields := [
      { hi := 31, lo := 28, acc := .ro, cls := [.cold, .warm] },
      { hi := 15, lo := 0, acc := .ro, cls := [.cold, .warm] }] }

/-- PFR_CHR_TIME_LO (R442). -/
def reg_PFR_CHR_TIME_LO : RegDef :=
  { base := 0x400028, dims := [], fields := [
      { hi := 31, lo := 0, acc := .ro, cls := [.cold, .warm] }] }

/-- PFR_CHR_TIME_HI (R442). -/
def reg_PFR_CHR_TIME_HI : RegDef :=
  { base := 0x40002c, dims := [], fields := [
      { hi := 31, lo := 0, acc := .ro, cls := [.cold, .warm] }] }

/-- PFR_HDR_ERR (R442). -/
def reg_PFR_HDR_ERR : RegDef :=
  { base := 0x400040, dims := [], fields := [
      { hi := 31, lo := 0, acc := .ro, cls := [.cold, .warm] }] }

/-- PFR_SRC_VIOL (R442). -/
def reg_PFR_SRC_VIOL : RegDef :=
  { base := 0x400044, dims := [], fields := [
      { hi := 31, lo := 0, acc := .ro, cls := [.cold, .warm] }] }

/-- PFR_NO_ROUTE (R442). -/
def reg_PFR_NO_ROUTE : RegDef :=
  { base := 0x400048, dims := [], fields := [
      { hi := 31, lo := 0, acc := .ro, cls := [.cold, .warm] }] }

/-- PFR_BUSY_DROPPED (R442). -/
def reg_PFR_BUSY_DROPPED : RegDef :=
  { base := 0x40004c, dims := [], fields := [
      { hi := 31, lo := 0, acc := .ro, cls := [.cold, .warm] }] }

/-- PFR_NOTIFY_DROPPED (R442). -/
def reg_PFR_NOTIFY_DROPPED : RegDef :=
  { base := 0x400050, dims := [], fields := [
      { hi := 31, lo := 0, acc := .ro, cls := [.cold, .warm] }] }

/-- PFR_ACK_DROPPED (R442). -/
def reg_PFR_ACK_DROPPED : RegDef :=
  { base := 0x400054, dims := [], fields := [
      { hi := 31, lo := 0, acc := .ro, cls := [.cold, .warm] }] }

/-- PFR_LATE_RSP (R442). -/
def reg_PFR_LATE_RSP : RegDef :=
  { base := 0x400058, dims := [], fields := [
      { hi := 31, lo := 0, acc := .ro, cls := [.cold, .warm] }] }

/-- PFR_BUF_UE (R442). -/
def reg_PFR_BUF_UE : RegDef :=
  { base := 0x40005c, dims := [], fields := [
      { hi := 31, lo := 0, acc := .ro, cls := [.cold, .warm] }] }

/-- PFR_PORT_CFG (R442). -/
def reg_PFR_PORT_CFG : RegDef :=
  { base := 0x401000, dims := [(0x40, 96)], fields := [
      { hi := 31, lo := 31, acc := .rw, cls := [.cold, .warm, .die] },
      { hi := 30, lo := 30, acc := .rw, cls := [.cold, .warm], cfg := true },
      { hi := 29, lo := 26, acc := .rw, cls := [.cold, .warm], cfg := true, ranges := [(0, 15)] },
      { hi := 15, lo := 0, acc := .rw, cls := [.cold, .warm], cfg := true }] }

/-- PFR_PORT_STATUS (R442). -/
def reg_PFR_PORT_STATUS : RegDef :=
  { base := 0x401004, dims := [(0x40, 96)], fields := [
      { hi := 31, lo := 28, acc := .ro, cls := [.cold, .warm, .die] },
      { hi := 27, lo := 27, acc := .ro, cls := [.cold, .warm, .die] },
      { hi := 26, lo := 24, acc := .rw1c, cls := [.cold, .warm] },
      { hi := 17, lo := 0, acc := .ro, cls := [.cold, .warm, .die] }] }

/-- PFR_CHART_DPA_LO (R442). -/
def reg_PFR_CHART_DPA_LO : RegDef :=
  { base := 0x401008, dims := [(0x40, 96)], fields := [
      { hi := 31, lo := 6, acc := .rw, cls := [.cold, .warm], cfg := true }] }

/-- PFR_CHART_DPA_HI (R442). -/
def reg_PFR_CHART_DPA_HI : RegDef :=
  { base := 0x40100c, dims := [(0x40, 96)], fields := [
      { hi := 19, lo := 0, acc := .rw, cls := [.cold, .warm], cfg := true }] }

/-- PFR_CHART_AT_LO (R442). -/
def reg_PFR_CHART_AT_LO : RegDef :=
  { base := 0x401010, dims := [(0x40, 96)], fields := [
      { hi := 31, lo := 0, acc := .rw, cls := [.cold, .warm] }] }

/-- PFR_CHART_AT_HI (R442). -/
def reg_PFR_CHART_AT_HI : RegDef :=
  { base := 0x401014, dims := [(0x40, 96)], fields := [
      { hi := 31, lo := 0, acc := .rw, cls := [.cold, .warm] }] }

/-- PFR_CHART_CMD (R442). -/
def reg_PFR_CHART_CMD : RegDef :=
  { base := 0x401018, dims := [(0x40, 96)], fields := [
      { hi := 31, lo := 28, acc := .wo, cls := [.cold, .warm] }] }

/-- PFR_GUARD_HELD (R442). -/
def reg_PFR_GUARD_HELD : RegDef :=
  { base := 0x40101c, dims := [(0x40, 96)], fields := [
      { hi := 31, lo := 0, acc := .ro, cls := [.cold, .warm] }] }

/-- PFR_SET (R442). -/
def reg_PFR_SET : RegDef :=
  { base := 0x404000, dims := [(0x10, 256), (0x4, 3)], fields := [
      { hi := 31, lo := 0, acc := .rw, cls := [.cold, .warm], cfg := true }] }

/-- PFR_SET_RESERVED (R442). -/
def reg_PFR_SET_RESERVED : RegDef :=
  { base := 0x40400c, dims := [(0x10, 256)], fields := [] }

/-- PFR_GROUP (R442). -/
def reg_PFR_GROUP : RegDef :=
  { base := 0x408000, dims := [(0x4, 1024)], fields := [
      { hi := 15, lo := 8, acc := .rw, cls := [.cold, .warm], cfg := true },
      { hi := 7, lo := 0, acc := .rw, cls := [.cold, .warm], cfg := true }] }

/-- PFR_MEMBER (R442). -/
def reg_PFR_MEMBER : RegDef :=
  { base := 0x409000, dims := [(0x4, 1024)], fields := [
      { hi := 15, lo := 8, acc := .rw, cls := [.cold, .warm], cfg := true },
      { hi := 7, lo := 0, acc := .rw, cls := [.cold, .warm], cfg := true }] }

/-- The registers of the PFR block, router and charts (Table 1-6). -/
def regsPfr : List RegDef :=
  [reg_PFR_NODE, reg_PFR_LEVEL, reg_PFR_REQ_CFG, reg_PFR_CLASS_CFG, reg_PFR_PARK_CFG, reg_PFR_STATUS,
   reg_PFR_ERR, reg_PFR_CHR_CFG, reg_PFR_CHR_STATUS, reg_PFR_CHR_TIME_LO, reg_PFR_CHR_TIME_HI, reg_PFR_HDR_ERR,
   reg_PFR_SRC_VIOL, reg_PFR_NO_ROUTE, reg_PFR_BUSY_DROPPED, reg_PFR_NOTIFY_DROPPED, reg_PFR_ACK_DROPPED, reg_PFR_LATE_RSP,
   reg_PFR_BUF_UE, reg_PFR_PORT_CFG, reg_PFR_PORT_STATUS, reg_PFR_CHART_DPA_LO, reg_PFR_CHART_DPA_HI, reg_PFR_CHART_AT_LO,
   reg_PFR_CHART_AT_HI, reg_PFR_CHART_CMD, reg_PFR_GUARD_HELD, reg_PFR_SET, reg_PFR_SET_RESERVED, reg_PFR_GROUP,
   reg_PFR_MEMBER]

/-- SHP_SUB_CFG_LO (R459). -/
def reg_SHP_SUB_CFG_LO : RegDef :=
  { base := 0x480000, dims := [(0x10, 16384)], fields := [
      { hi := 31, lo := 31, acc := .wo, cls := [.cold, .warm] },
      { hi := 23, lo := 0, acc := .rw, cls := [.cold, .warm], cfg := true }] }

/-- SHP_SUB_CFG_HI (R459). -/
def reg_SHP_SUB_CFG_HI : RegDef :=
  { base := 0x480004, dims := [(0x10, 16384)], fields := [
      { hi := 31, lo := 24, acc := .rw, reset := 0x1, cls := [.cold, .warm], cfg := true, ranges := [(1, 255)] },
      { hi := 22, lo := 20, acc := .rw, cls := [.cold, .warm], cfg := true },
      { hi := 19, lo := 0, acc := .rw, reset := 0x40, cls := [.cold, .warm], cfg := true, ranges := [(1, 1048575)] }] }

/-- SHP_SUB_STATUS (R459). -/
def reg_SHP_SUB_STATUS : RegDef :=
  { base := 0x480008, dims := [(0x10, 16384)], fields := [
      { hi := 31, lo := 24, acc := .ro, cls := [.cold, .warm] },
      { hi := 19, lo := 0, acc := .ro, reset := 0x40, cls := [.cold, .warm] }] }

/-- SHP_SUB_SENT (R459). -/
def reg_SHP_SUB_SENT : RegDef :=
  { base := 0x48000c, dims := [(0x10, 16384)], fields := [
      { hi := 31, lo := 0, acc := .ro, cls := [.cold, .warm] }] }

/-- SHP_SVC_CFG_LO (R459). -/
def reg_SHP_SVC_CFG_LO : RegDef :=
  { base := 0x4c0000, dims := [(0x10, 256)], fields := [
      { hi := 31, lo := 31, acc := .wo, full := true, cls := [.cold, .warm] },
      { hi := 30, lo := 30, acc := .rw, full := true, cls := [.cold, .warm], cfg := true },
      { hi := 23, lo := 0, acc := .rw, full := true, cls := [.cold, .warm], cfg := true }] }

/-- SHP_SVC_CFG_HI (R459). -/
def reg_SHP_SVC_CFG_HI : RegDef :=
  { base := 0x4c0004, dims := [(0x10, 256)], fields := [
      { hi := 31, lo := 24, acc := .rw, full := true, reset := 0x1, cls := [.cold, .warm], cfg := true, ranges := [(1, 255)] },
      { hi := 19, lo := 0, acc := .rw, full := true, reset := 0x400, cls := [.cold, .warm], cfg := true, ranges := [(1, 1048575)] }] }

/-- SHP_SVC_STATUS (R459). -/
def reg_SHP_SVC_STATUS : RegDef :=
  { base := 0x4c0008, dims := [(0x10, 256)], fields := [
      { hi := 19, lo := 0, acc := .ro, reset := 0x400, cls := [.cold, .warm] }] }

/-- SHP_SVC_SENT (R459). -/
def reg_SHP_SVC_SENT : RegDef :=
  { base := 0x4c000c, dims := [(0x10, 256)], fields := [
      { hi := 31, lo := 0, acc := .ro, cls := [.cold, .warm] }] }

/-- SHP_FN_RATE_LO (R459). -/
def reg_SHP_FN_RATE_LO : RegDef :=
  { base := 0x4c1000, dims := [(0x20, 512)], fields := [
      { hi := 31, lo := 31, acc := .wo, cls := [.cold, .warm] },
      { hi := 30, lo := 30, acc := .rw, cls := [.cold, .warm], cfg := true },
      { hi := 23, lo := 0, acc := .rw, cls := [.cold, .warm], cfg := true }] }

/-- SHP_FN_RATE_HI (R459). -/
def reg_SHP_FN_RATE_HI : RegDef :=
  { base := 0x4c1004, dims := [(0x20, 512)], fields := [
      { hi := 23, lo := 0, acc := .rw, cls := [.cold, .warm], cfg := true }] }

/-- SHP_FN_BURST_LO (R459). -/
def reg_SHP_FN_BURST_LO : RegDef :=
  { base := 0x4c1008, dims := [(0x20, 512)], fields := [
      { hi := 31, lo := 31, acc := .wo, cls := [.cold, .warm] },
      { hi := 19, lo := 0, acc := .rw, reset := 0x400, cls := [.cold, .warm], cfg := true, ranges := [(1, 1048575)] }] }

/-- SHP_FN_BURST_HI (R459). -/
def reg_SHP_FN_BURST_HI : RegDef :=
  { base := 0x4c100c, dims := [(0x20, 512)], fields := [
      { hi := 31, lo := 30, acc := .rw, cls := [.cold, .warm], cfg := true, ranges := [(0, 1)] },
      { hi := 19, lo := 0, acc := .rw, reset := 0x400, cls := [.cold, .warm], cfg := true, ranges := [(1, 1048575)] }] }

/-- SHP_FN_SUB (R459). -/
def reg_SHP_FN_SUB : RegDef :=
  { base := 0x4c1010, dims := [(0x20, 512)], fields := [
      { hi := 31, lo := 31, acc := .rw, cls := [.cold, .warm], cfg := true },
      { hi := 13, lo := 0, acc := .rw, cls := [.cold, .warm], cfg := true }] }

/-- SHP_FN_TOKENS (R459). -/
def reg_SHP_FN_TOKENS : RegDef :=
  { base := 0x4c1014, dims := [(0x20, 512)], fields := [
      { hi := 31, lo := 16, acc := .ro, reset := 0x400, cls := [.cold, .warm, .port] },
      { hi := 15, lo := 0, acc := .ro, reset := 0x400, cls := [.cold, .warm, .port] }] }

/-- SHP_FN_YELLOW (R459). -/
def reg_SHP_FN_YELLOW : RegDef :=
  { base := 0x4c1018, dims := [(0x20, 512)], fields := [
      { hi := 31, lo := 0, acc := .ro, cls := [.cold, .warm] }] }

/-- SHP_FN_RED (R459). -/
def reg_SHP_FN_RED : RegDef :=
  { base := 0x4c101c, dims := [(0x20, 512)], fields := [
      { hi := 31, lo := 0, acc := .ro, cls := [.cold, .warm] }] }

/-- SHP_PORT_FWD_LO (R459). -/
def reg_SHP_PORT_FWD_LO : RegDef :=
  { base := 0x4c5000, dims := [(0x10, 112)], fields := [
      { hi := 31, lo := 31, acc := .wo, cls := [.cold, .warm] },
      { hi := 30, lo := 30, acc := .rw, cls := [.cold, .warm], cfg := true },
      { hi := 23, lo := 0, acc := .rw, cls := [.cold, .warm], cfg := true }] }

/-- SHP_PORT_FWD_HI (R459). -/
def reg_SHP_PORT_FWD_HI : RegDef :=
  { base := 0x4c5004, dims := [(0x10, 112)], fields := [
      { hi := 19, lo := 0, acc := .rw, reset := 0x400, cls := [.cold, .warm], cfg := true, ranges := [(1, 1048575)] }] }

/-- SHP_PORT_FWD_SENT (R459). -/
def reg_SHP_PORT_FWD_SENT : RegDef :=
  { base := 0x4c5008, dims := [(0x10, 112)], fields := [
      { hi := 31, lo := 0, acc := .ro, cls := [.cold, .warm] }] }

/-- SHP_PORT_DEFAULT_SENT (R459). -/
def reg_SHP_PORT_DEFAULT_SENT : RegDef :=
  { base := 0x4c500c, dims := [(0x10, 112)], fields := [
      { hi := 31, lo := 0, acc := .ro, cls := [.cold, .warm] }] }

/-- SHP_CFG (R459). -/
def reg_SHP_CFG : RegDef :=
  { base := 0x4c6000, dims := [], fields := [
      { hi := 31, lo := 24, acc := .rw, reset := 0x40, cls := [.cold, .warm], cfg := true, ranges := [(1, 255)] },
      { hi := 23, lo := 16, acc := .rw, reset := 0x20, cls := [.cold, .warm], cfg := true, ranges := [(1, 255)] },
      { hi := 15, lo := 0, acc := .rw, reset := 0x100, cls := [.cold, .warm], cfg := true, ranges := [(0, 65535)] }] }

/-- SHP_CFG_ERR_COUNT (R459). -/
def reg_SHP_CFG_ERR_COUNT : RegDef :=
  { base := 0x4c6004, dims := [], fields := [
      { hi := 31, lo := 0, acc := .ro, cls := [.cold, .warm] }] }

/-- SHP_HOLD_FULL (R459). -/
def reg_SHP_HOLD_FULL : RegDef :=
  { base := 0x4c6008, dims := [], fields := [
      { hi := 31, lo := 0, acc := .ro, cls := [.cold, .warm] }] }

/-- The registers of the SHP block, shaping (Table 1-6). -/
def regsShp : List RegDef :=
  [reg_SHP_SUB_CFG_LO, reg_SHP_SUB_CFG_HI, reg_SHP_SUB_STATUS, reg_SHP_SUB_SENT, reg_SHP_SVC_CFG_LO, reg_SHP_SVC_CFG_HI,
   reg_SHP_SVC_STATUS, reg_SHP_SVC_SENT, reg_SHP_FN_RATE_LO, reg_SHP_FN_RATE_HI, reg_SHP_FN_BURST_LO, reg_SHP_FN_BURST_HI,
   reg_SHP_FN_SUB, reg_SHP_FN_TOKENS, reg_SHP_FN_YELLOW, reg_SHP_FN_RED, reg_SHP_PORT_FWD_LO, reg_SHP_PORT_FWD_HI,
   reg_SHP_PORT_FWD_SENT, reg_SHP_PORT_DEFAULT_SENT, reg_SHP_CFG, reg_SHP_CFG_ERR_COUNT, reg_SHP_HOLD_FULL]

/-- PTN_CMD (R485). -/
def reg_PTN_CMD : RegDef :=
  { base := 0xc0000, dims := [], fields := [
      { hi := 31, lo := 28, acc := .wo, cls := [.cold, .warm] },
      { hi := 4, lo := 0, acc := .wo, cls := [.cold, .warm] }] }

/-- PTN_CMD_STATUS (R485). -/
def reg_PTN_CMD_STATUS : RegDef :=
  { base := 0xc0004, dims := [], fields := [
      { hi := 15, lo := 8, acc := .ro, cls := [.cold, .warm] },
      { hi := 2, lo := 2, acc := .rw1c, cls := [.cold, .warm] },
      { hi := 1, lo := 1, acc := .rw1c, cls := [.cold, .warm] },
      { hi := 0, lo := 0, acc := .ro, cls := [.cold, .warm] }] }

/-- PTN_COMMONS (R485). -/
def reg_PTN_COMMONS : RegDef :=
  { base := 0xc0008, dims := [], fields := [
      { hi := 31, lo := 31, acc := .rw, cls := [.cold], cfg := true }] }

/-- PTN_CMN_READERS (R485). -/
def reg_PTN_CMN_READERS : RegDef :=
  { base := 0xc000c, dims := [], fields := [
      { hi := 31, lo := 0, acc := .rw, cls := [.cold], cfg := true }] }

/-- PTN_WASH_CFG (R485). -/
def reg_PTN_WASH_CFG : RegDef :=
  { base := 0xc0010, dims := [], fields := [
      { hi := 9, lo := 0, acc := .rw, reset := 0x80, cls := [.cold, .warm], cfg := true, ranges := [(32, 1023)] }] }

/-- PTN_WASH_COUNT (R485). -/
def reg_PTN_WASH_COUNT : RegDef :=
  { base := 0xc0014, dims := [], fields := [
      { hi := 31, lo := 0, acc := .ro, cls := [.cold] }] }

/-- PTN_STATE (R485). -/
def reg_PTN_STATE : RegDef :=
  { base := 0xc0100, dims := [(0x20, 32)], fields := [
      { hi := 31, lo := 28, acc := .ro, cls := [.cold], cfg := true }] }

/-- PTN_CFG (R485). -/
def reg_PTN_CFG : RegDef :=
  { base := 0xc0104, dims := [(0x20, 32)], fields := [
      { hi := 31, lo := 31, acc := .rw, cls := [.cold], cfg := true },
      { hi := 15, lo := 0, acc := .rw, reset := 0x100, cls := [.cold], cfg := true, ranges := [(1, 65535)] }] }

/-- PTN_WASH_PROGRESS (R485). -/
def reg_PTN_WASH_PROGRESS : RegDef :=
  { base := 0xc0108, dims := [(0x20, 32)], fields := [
      { hi := 14, lo := 0, acc := .ro, cls := [.cold] }] }

/-- PTN_UNITS (R485). -/
def reg_PTN_UNITS : RegDef :=
  { base := 0xc010c, dims := [(0x20, 32)], fields := [
      { hi := 31, lo := 24, acc := .ro, cls := [.cold] },
      { hi := 23, lo := 16, acc := .ro, cls := [.cold] },
      { hi := 15, lo := 6, acc := .ro, cls := [.cold] }] }

/-- PTN_CLUSTER_OWN (R485). -/
def reg_PTN_CLUSTER_OWN : RegDef :=
  { base := 0xc1000, dims := [(0x4, 9)], fields := [
      { hi := 31, lo := 0, acc := .rw, cls := [.cold], cfg := true }] }

/-- PTN_BLOCK_OWN (R485). -/
def reg_PTN_BLOCK_OWN : RegDef :=
  { base := 0xc1100, dims := [(0x4, 32)], fields := [
      { hi := 31, lo := 0, acc := .rw, cls := [.cold], cfg := true }] }

/-- PTN_WAY_OWN (R485). -/
def reg_PTN_WAY_OWN : RegDef :=
  { base := 0xc2000, dims := [(0x10, 36), (0x4, 4)], fields := [
      { hi := 31, lo := 0, acc := .rw, cls := [.cold], cfg := true }] }

/-- PTN_FN_GRANT (R485). -/
def reg_PTN_FN_GRANT : RegDef :=
  { base := 0xc3000, dims := [(0x4, 256)], fields := [
      { hi := 31, lo := 31, acc := .rwl, cls := [.cold], cfg := true },
      { hi := 7, lo := 7, acc := .rwl, cls := [.cold], cfg := true },
      { hi := 4, lo := 0, acc := .rwl, cls := [.cold], cfg := true }] }

/-- PTN_SRC_GROUP (R485). -/
def reg_PTN_SRC_GROUP : RegDef :=
  { base := 0xc3400, dims := [(0x4, 256)], fields := [
      { hi := 31, lo := 31, acc := .rw, cls := [.cold], cfg := true },
      { hi := 30, lo := 26, acc := .rw, cls := [.cold], cfg := true },
      { hi := 25, lo := 21, acc := .rw, cls := [.cold], cfg := true },
      { hi := 19, lo := 0, acc := .rw, cls := [.cold], cfg := true }] }

/-- The registers of the PTN block, partitions (Table 1-6). -/
def regsPtn : List RegDef :=
  [reg_PTN_CMD, reg_PTN_CMD_STATUS, reg_PTN_COMMONS, reg_PTN_CMN_READERS, reg_PTN_WASH_CFG, reg_PTN_WASH_COUNT,
   reg_PTN_STATE, reg_PTN_CFG, reg_PTN_WASH_PROGRESS, reg_PTN_UNITS, reg_PTN_CLUSTER_OWN, reg_PTN_BLOCK_OWN,
   reg_PTN_WAY_OWN, reg_PTN_FN_GRANT, reg_PTN_SRC_GROUP]

/-- SEC_STATUS (R486). -/
def reg_SEC_STATUS : RegDef :=
  { base := 0x500000, dims := [], fields := [
      { hi := 31, lo := 31, acc := .ro, cls := [.cold, .warm] },
      { hi := 30, lo := 30, acc := .ro, cls := [.cold, .warm] },
      { hi := 29, lo := 29, acc := .ro, cls := [.cold] },
      { hi := 28, lo := 28, acc := .ro, cls := [.cold] },
      { hi := 27, lo := 27, acc := .ro },
      { hi := 5, lo := 4, acc := .ro, cls := [.cold, .warm] },
      { hi := 3, lo := 0, acc := .ro }] }

/-- SEC_SVN (R486). -/
def reg_SEC_SVN : RegDef :=
  { base := 0x500004, dims := [], fields := [
      { hi := 15, lo := 8, acc := .ro, cls := [.cold, .warm] },
      { hi := 7, lo := 0, acc := .ro }] }

/-- SEC_SVN_COMMIT (R486). -/
def reg_SEC_SVN_COMMIT : RegDef :=
  { base := 0x500008, dims := [], fields := [
      { hi := 1, lo := 1, acc := .rw1c, cls := [.cold, .warm] },
      { hi := 0, lo := 0, acc := .wo, cls := [.cold, .warm] }] }

/-- SEC_MEAS_COUNT (R486). -/
def reg_SEC_MEAS_COUNT : RegDef :=
  { base := 0x50000c, dims := [], fields := [
      { hi := 10, lo := 0, acc := .ro, cls := [.cold] }] }

/-- SEC_SPDM_SESSIONS (R486). -/
def reg_SEC_SPDM_SESSIONS : RegDef :=
  { base := 0x500010, dims := [], fields := [
      { hi := 4, lo := 0, acc := .ro, cls := [.cold, .warm] }] }

/-- SEC_TSP_VIOL_COUNT (R486). -/
def reg_SEC_TSP_VIOL_COUNT : RegDef :=
  { base := 0x500014, dims := [], fields := [
      { hi := 31, lo := 0, acc := .ro, cls := [.cold, .warm] }] }

/-- SEC_BIND_COUNT (R486). -/
def reg_SEC_BIND_COUNT : RegDef :=
  { base := 0x500018, dims := [], fields := [
      { hi := 31, lo := 0, acc := .ro, cls := [.cold] }] }

/-- SEC_BIND_FAIL (R486). -/
def reg_SEC_BIND_FAIL : RegDef :=
  { base := 0x50001c, dims := [], fields := [
      { hi := 31, lo := 0, acc := .ro, cls := [.cold] }] }

/-- SEC_FABRIC_FAIL (R486). -/
def reg_SEC_FABRIC_FAIL : RegDef :=
  { base := 0x500020, dims := [], fields := [
      { hi := 31, lo := 0, acc := .ro, cls := [.cold, .warm] }] }

/-- SEC_DEVICE_ID (R486). -/
def reg_SEC_DEVICE_ID : RegDef :=
  { base := 0x500030, dims := [(0x4, 4)], fields := [
      { hi := 31, lo := 0, acc := .ro }] }

/-- SEC_SET_ID (R486). -/
def reg_SEC_SET_ID : RegDef :=
  { base := 0x500100, dims := [(0x10, 8)], fields := [
      { hi := 31, lo := 0, acc := .ro }] }

/-- SEC_SET_STATE (R486). -/
def reg_SEC_SET_STATE : RegDef :=
  { base := 0x500104, dims := [(0x10, 8)], fields := [
      { hi := 31, lo := 28, acc := .ro },
      { hi := 15, lo := 0, acc := .ro }] }

/-- SEC_SET_LOADS (R486). -/
def reg_SEC_SET_LOADS : RegDef :=
  { base := 0x500108, dims := [(0x10, 8)], fields := [
      { hi := 31, lo := 0, acc := .ro, cls := [.cold] }] }

/-- SEC_TSP_STATE (R486). -/
def reg_SEC_TSP_STATE : RegDef :=
  { base := 0x501000, dims := [(0x4, 256)], fields := [
      { hi := 1, lo := 0, acc := .ro, cls := [.cold, .warm, .port] }] }

/-- The registers of the SEC block, security (Table 1-6). -/
def regsSec : List RegDef :=
  [reg_SEC_STATUS, reg_SEC_SVN, reg_SEC_SVN_COMMIT, reg_SEC_MEAS_COUNT, reg_SEC_SPDM_SESSIONS, reg_SEC_TSP_VIOL_COUNT,
   reg_SEC_BIND_COUNT, reg_SEC_BIND_FAIL, reg_SEC_FABRIC_FAIL, reg_SEC_DEVICE_ID, reg_SEC_SET_ID, reg_SEC_SET_STATE,
   reg_SEC_SET_LOADS, reg_SEC_TSP_STATE]

/-- RAS_HEALTH (R505). -/
def reg_RAS_HEALTH : RegDef :=
  { base := 0x580000, dims := [], fields := [
      { hi := 31, lo := 30, acc := .ro }] }

/-- RAS_HEALTH_REASON (R505). -/
def reg_RAS_HEALTH_REASON : RegDef :=
  { base := 0x580004, dims := [], fields := [
      { hi := 10, lo := 0, acc := .ro }] }

/-- RAS_CMD (R505). -/
def reg_RAS_CMD : RegDef :=
  { base := 0x580008, dims := [], fields := [
      { hi := 31, lo := 28, acc := .wo, cls := [.cold, .warm] },
      { hi := 1, lo := 0, acc := .wo, cls := [.cold, .warm] }] }

/-- RAS_CMD_STATUS (R505). -/
def reg_RAS_CMD_STATUS : RegDef :=
  { base := 0x58000c, dims := [], fields := [
      { hi := 15, lo := 8, acc := .ro, cls := [.cold, .warm] },
      { hi := 2, lo := 2, acc := .rw1c, cls := [.cold, .warm] },
      { hi := 1, lo := 1, acc := .rw1c, cls := [.cold, .warm] },
      { hi := 0, lo := 0, acc := .ro, cls := [.cold, .warm] }] }

/-- RAS_RECOVERY (R505). -/
def reg_RAS_RECOVERY : RegDef :=
  { base := 0x580010, dims := [], fields := [
      { hi := 31, lo := 28, acc := .ro, cls := [.cold, .warm] },
      { hi := 27, lo := 21, acc := .ro, cls := [.cold, .warm] },
      { hi := 5, lo := 0, acc := .ro, cls := [.cold, .warm] }] }

/-- RAS_SINGLE_COUNT (R505). -/
def reg_RAS_SINGLE_COUNT : RegDef :=
  { base := 0x580014, dims := [], fields := [
      { hi := 31, lo := 0, acc := .ro }] }

/-- RAS_DOUBLE_COUNT (R505). -/
def reg_RAS_DOUBLE_COUNT : RegDef :=
  { base := 0x580018, dims := [], fields := [
      { hi := 31, lo := 0, acc := .ro }] }

/-- RAS_LOST_LINES (R505). -/
def reg_RAS_LOST_LINES : RegDef :=
  { base := 0x58001c, dims := [], fields := [
      { hi := 31, lo := 0, acc := .ro }] }

/-- RAS_UPDATE_STATUS (R505). -/
def reg_RAS_UPDATE_STATUS : RegDef :=
  { base := 0x580020, dims := [], fields := [
      { hi := 31, lo := 28, acc := .ro, cls := [.cold] },
      { hi := 27, lo := 20, acc := .ro, cls := [.cold] },
      { hi := 8, lo := 0, acc := .ro, cls := [.cold] }] }

/-- RAS_CFG (R505). -/
def reg_RAS_CFG : RegDef :=
  { base := 0x580024, dims := [], fields := [
      { hi := 31, lo := 31, acc := .rw, cls := [.cold, .warm], cfg := true }] }

/-- RAS_DIE_STATE (R505). -/
def reg_RAS_DIE_STATE : RegDef :=
  { base := 0x580100, dims := [(0x20, 4)], fields := [
      { hi := 31, lo := 28, acc := .ro, cls := [.cold] },
      { hi := 27, lo := 24, acc := .ro, reset := 0x8 },
      { hi := 23, lo := 23, acc := .ro },
      { hi := 22, lo := 19, acc := .ro, reset := 0x8 },
      { hi := 18, lo := 17, acc := .ro, reset := 0x2, cls := [.cold, .warm] },
      { hi := 16, lo := 16, acc := .ro, reset := 0x1 }] }

/-- RAS_SPARE_CORE_LO (R505). -/
def reg_RAS_SPARE_CORE_LO : RegDef :=
  { base := 0x580104, dims := [(0x20, 4)], fields := [
      { hi := 31, lo := 0, acc := .ro, reset := 0x88888888 }] }

/-- RAS_SPARE_CORE_HI (R505). -/
def reg_RAS_SPARE_CORE_HI : RegDef :=
  { base := 0x580108, dims := [(0x20, 4)], fields := [
      { hi := 24, lo := 16, acc := .ro },
      { hi := 3, lo := 0, acc := .ro, reset := 0x8 }] }

/-- RAS_STAGE_STATE (R505). -/
def reg_RAS_STAGE_STATE : RegDef :=
  { base := 0x58010c, dims := [(0x20, 4)], fields := [
      { hi := 1, lo := 0, acc := .ro }] }

/-- RAS_DIE_LOSS_COUNT (R505). -/
def reg_RAS_DIE_LOSS_COUNT : RegDef :=
  { base := 0x580110, dims := [(0x20, 4)], fields := [
      { hi := 31, lo := 0, acc := .ro }] }

/-- The registers of the RAS block, service (Table 1-6). -/
def regsRas : List RegDef :=
  [reg_RAS_HEALTH, reg_RAS_HEALTH_REASON, reg_RAS_CMD, reg_RAS_CMD_STATUS, reg_RAS_RECOVERY, reg_RAS_SINGLE_COUNT,
   reg_RAS_DOUBLE_COUNT, reg_RAS_LOST_LINES, reg_RAS_UPDATE_STATUS, reg_RAS_CFG, reg_RAS_DIE_STATE, reg_RAS_SPARE_CORE_LO,
   reg_RAS_SPARE_CORE_HI, reg_RAS_STAGE_STATE, reg_RAS_DIE_LOSS_COUNT]

/-- DBG_CNT_GLOBAL (R524). -/
def reg_DBG_CNT_GLOBAL : RegDef :=
  { base := 0x600000, dims := [], fields := [
      { hi := 31, lo := 31, acc := .rw, cls := [.cold, .warm] }] }

/-- DBG_CMD_STATUS (R524). -/
def reg_DBG_CMD_STATUS : RegDef :=
  { base := 0x600004, dims := [], fields := [
      { hi := 31, lo := 24, acc := .ro, cls := [.cold, .warm] },
      { hi := 0, lo := 0, acc := .rw1c, cls := [.cold, .warm] }] }

/-- DBG_TRACE_BASE_LO (R524). -/
def reg_DBG_TRACE_BASE_LO : RegDef :=
  { base := 0x600100, dims := [], fields := [
      { hi := 31, lo := 12, acc := .rw, cls := [.cold, .warm] },
      { hi := 4, lo := 0, acc := .rw, cls := [.cold, .warm] }] }

/-- DBG_TRACE_BASE_HI (R524). -/
def reg_DBG_TRACE_BASE_HI : RegDef :=
  { base := 0x600104, dims := [], fields := [
      { hi := 19, lo := 0, acc := .rw, cls := [.cold, .warm] }] }

/-- DBG_TRACE_CFG (R524). -/
def reg_DBG_TRACE_CFG : RegDef :=
  { base := 0x600108, dims := [], fields := [
      { hi := 31, lo := 31, acc := .rw, cls := [.cold, .warm] },
      { hi := 30, lo := 30, acc := .rw, cls := [.cold, .warm] },
      { hi := 29, lo := 29, acc := .rw, cls := [.cold, .warm] },
      { hi := 28, lo := 24, acc := .rw, cls := [.cold, .warm] },
      { hi := 10, lo := 0, acc := .rw, reset := 0x40, cls := [.cold, .warm], ranges := [(1, 1024)] }] }

/-- DBG_TRACE_TYPES (R524). -/
def reg_DBG_TRACE_TYPES : RegDef :=
  { base := 0x60010c, dims := [], fields := [
      { hi := 31, lo := 0, acc := .rw, cls := [.cold, .warm] }] }

/-- DBG_TRACE_FILT_ID (R524). -/
def reg_DBG_TRACE_FILT_ID : RegDef :=
  { base := 0x600110, dims := [], fields := [
      { hi := 31, lo := 16, acc := .rw, cls := [.cold, .warm] },
      { hi := 15, lo := 0, acc := .rw, cls := [.cold, .warm] }] }

/-- DBG_TRACE_FILT_MASK (R524). -/
def reg_DBG_TRACE_FILT_MASK : RegDef :=
  { base := 0x600114, dims := [], fields := [
      { hi := 31, lo := 16, acc := .rw, cls := [.cold, .warm] },
      { hi := 15, lo := 0, acc := .rw, cls := [.cold, .warm] }] }

/-- DBG_TRACE_STATUS (R524). -/
def reg_DBG_TRACE_STATUS : RegDef :=
  { base := 0x600118, dims := [], fields := [
      { hi := 31, lo := 31, acc := .ro, cls := [.cold, .warm] }] }

/-- DBG_TRACE_LOST (R524). -/
def reg_DBG_TRACE_LOST : RegDef :=
  { base := 0x60011c, dims := [], fields := [
      { hi := 31, lo := 0, acc := .ro, cls := [.cold, .warm] }] }

/-- DBG_TRACE_MARK (R524). -/
def reg_DBG_TRACE_MARK : RegDef :=
  { base := 0x600120, dims := [], fields := [
      { hi := 31, lo := 0, acc := .wo, cls := [.cold, .warm] }] }

/-- DBG_STEP_CFG (R524). -/
def reg_DBG_STEP_CFG : RegDef :=
  { base := 0x600200, dims := [(0x8, 16)], fields := [
      { hi := 31, lo := 31, acc := .rw, cls := [.cold, .warm] },
      { hi := 30, lo := 30, acc := .rw, cls := [.cold, .warm] },
      { hi := 29, lo := 29, acc := .rw, cls := [.cold, .warm] },
      { hi := 28, lo := 28, acc := .ro, cls := [.cold, .warm] },
      { hi := 11, lo := 0, acc := .rw, cls := [.cold, .warm] }] }

/-- DBG_STEP_SEQ (R524). -/
def reg_DBG_STEP_SEQ : RegDef :=
  { base := 0x600204, dims := [(0x8, 16)], fields := [
      { hi := 31, lo := 0, acc := .ro, cls := [.cold, .warm] }] }

/-- DBG_STEP_CMD (R524). -/
def reg_DBG_STEP_CMD : RegDef :=
  { base := 0x600280, dims := [], fields := [
      { hi := 31, lo := 28, acc := .wo, cls := [.cold, .warm] },
      { hi := 3, lo := 0, acc := .wo, cls := [.cold, .warm] }] }

/-- DBG_PLOT_BASE_LO (R524). -/
def reg_DBG_PLOT_BASE_LO : RegDef :=
  { base := 0x600300, dims := [], fields := [
      { hi := 31, lo := 21, acc := .rw, cls := [.cold] }] }

/-- DBG_PLOT_BASE_HI (R524). -/
def reg_DBG_PLOT_BASE_HI : RegDef :=
  { base := 0x600304, dims := [], fields := [
      { hi := 19, lo := 0, acc := .rw, cls := [.cold] }] }

/-- DBG_PLOT_CFG (R524). -/
def reg_DBG_PLOT_CFG : RegDef :=
  { base := 0x600308, dims := [], fields := [
      { hi := 31, lo := 31, acc := .rw, cls := [.cold] },
      { hi := 30, lo := 30, acc := .rw, cls := [.cold] },
      { hi := 29, lo := 25, acc := .rw, cls := [.cold] },
      { hi := 24, lo := 11, acc := .rw, reset := 0x3e8, cls := [.cold], ranges := [(1, 16383)] },
      { hi := 10, lo := 3, acc := .rw, reset := 0x3c, cls := [.cold], ranges := [(1, 255)] }] }

/-- DBG_PLOT_CMD (R524). -/
def reg_DBG_PLOT_CMD : RegDef :=
  { base := 0x60030c, dims := [], fields := [
      { hi := 0, lo := 0, acc := .wo, cls := [.cold, .warm] }] }

/-- DBG_PLOT_STATUS (R524). -/
def reg_DBG_PLOT_STATUS : RegDef :=
  { base := 0x600310, dims := [], fields := [
      { hi := 31, lo := 31, acc := .ro, cls := [.cold, .warm] },
      { hi := 23, lo := 16, acc := .ro, cls := [.cold] }] }

/-- DBG_PLOT_SEQ (R524). -/
def reg_DBG_PLOT_SEQ : RegDef :=
  { base := 0x600314, dims := [], fields := [
      { hi := 31, lo := 0, acc := .ro, cls := [.cold] }] }

/-- DBG_PLOT_SUPPRESSED (R524). -/
def reg_DBG_PLOT_SUPPRESSED : RegDef :=
  { base := 0x600318, dims := [], fields := [
      { hi := 31, lo := 0, acc := .ro, cls := [.cold] }] }

/-- DBG_CNT_CTL (R524). -/
def reg_DBG_CNT_CTL : RegDef :=
  { base := 0x601000, dims := [(0x20, 256)], fields := [
      { hi := 31, lo := 31, acc := .rw, cls := [.cold, .warm] },
      { hi := 30, lo := 30, acc := .wo, cls := [.cold, .warm] },
      { hi := 29, lo := 29, acc := .rw1c, cls := [.cold, .warm] },
      { hi := 28, lo := 24, acc := .rw, cls := [.cold, .warm] },
      { hi := 23, lo := 16, acc := .rw, cls := [.cold, .warm] },
      { hi := 15, lo := 15, acc := .rw, cls := [.cold, .warm] },
      { hi := 14, lo := 14, acc := .rw, cls := [.cold, .warm] },
      { hi := 13, lo := 9, acc := .rw, cls := [.cold, .warm] }] }

/-- DBG_CNT_FILT_ID (R524). -/
def reg_DBG_CNT_FILT_ID : RegDef :=
  { base := 0x601004, dims := [(0x20, 256)], fields := [
      { hi := 31, lo := 16, acc := .rw, cls := [.cold, .warm] },
      { hi := 15, lo := 0, acc := .rw, cls := [.cold, .warm] }] }

/-- DBG_CNT_FILT_MASK (R524). -/
def reg_DBG_CNT_FILT_MASK : RegDef :=
  { base := 0x601008, dims := [(0x20, 256)], fields := [
      { hi := 31, lo := 16, acc := .rw, cls := [.cold, .warm] },
      { hi := 15, lo := 0, acc := .rw, cls := [.cold, .warm] }] }

/-- DBG_CNT_FILT_STREAM (R524). -/
def reg_DBG_CNT_FILT_STREAM : RegDef :=
  { base := 0x60100c, dims := [(0x20, 256)], fields := [
      { hi := 31, lo := 31, acc := .rw, cls := [.cold, .warm] },
      { hi := 13, lo := 0, acc := .rw, cls := [.cold, .warm] }] }

/-- DBG_CNT_VAL_LO (R524). -/
def reg_DBG_CNT_VAL_LO : RegDef :=
  { base := 0x601010, dims := [(0x20, 256)], fields := [
      { hi := 31, lo := 0, acc := .ro, cls := [.cold, .warm] }] }

/-- DBG_CNT_VAL_HI (R524). -/
def reg_DBG_CNT_VAL_HI : RegDef :=
  { base := 0x601014, dims := [(0x20, 256)], fields := [
      { hi := 15, lo := 0, acc := .ro, cls := [.cold, .warm] }] }

/-- DBG_CNT_RESERVED (R524). -/
def reg_DBG_CNT_RESERVED : RegDef :=
  { base := 0x601018, dims := [(0x20, 256), (0x4, 2)], fields := [] }

/-- The registers of the DBG block, debug and counters (Table 1-6). -/
def regsDbg : List RegDef :=
  [reg_DBG_CNT_GLOBAL, reg_DBG_CMD_STATUS, reg_DBG_TRACE_BASE_LO, reg_DBG_TRACE_BASE_HI, reg_DBG_TRACE_CFG, reg_DBG_TRACE_TYPES,
   reg_DBG_TRACE_FILT_ID, reg_DBG_TRACE_FILT_MASK, reg_DBG_TRACE_STATUS, reg_DBG_TRACE_LOST, reg_DBG_TRACE_MARK, reg_DBG_STEP_CFG,
   reg_DBG_STEP_SEQ, reg_DBG_STEP_CMD, reg_DBG_PLOT_BASE_LO, reg_DBG_PLOT_BASE_HI, reg_DBG_PLOT_CFG, reg_DBG_PLOT_CMD,
   reg_DBG_PLOT_STATUS, reg_DBG_PLOT_SEQ, reg_DBG_PLOT_SUPPRESSED, reg_DBG_CNT_CTL, reg_DBG_CNT_FILT_ID, reg_DBG_CNT_FILT_MASK,
   reg_DBG_CNT_FILT_STREAM, reg_DBG_CNT_VAL_LO, reg_DBG_CNT_VAL_HI, reg_DBG_CNT_RESERVED]

end Sys2Proof.Machine
end

