-- ==== Sys2Proof/Machine/RegFile.lean ====
section
/-! DEFINITION.  The register file: the whole setup register space (R31) as one sparse table from offset
to value, an unlisted register reading as its reset value; which register an offset names; the effect
of a reset class on every field (R16, R17). -/

namespace Sys2Proof.Machine

/-- The blocks of Table 1-6 with their first offset and their end. -/
def regBlocks : List (Nat × Nat × List RegDef) :=
  [(0x000000, 0x010000, regsGid), (0x010000, 0x020000, regsRbt), (0x020000, 0x040000, regsAlm),
   (0x040000, 0x080000, regsMbx), (0x080000, 0x0C0000, regsRng), (0x0C0000, 0x100000, regsPtn),
   (0x100000, 0x180000, regsDrc), (0x180000, 0x1C0000, regsInt), (0x1C0000, 0x200000, regsTir),
   (0x200000, 0x280000, regsXlt), (0x280000, 0x300000, regsHpt), (0x300000, 0x380000, regsEng),
   (0x380000, 0x400000, regsPfl), (0x400000, 0x480000, regsPfr), (0x480000, 0x500000, regsShp),
   (0x500000, 0x580000, regsSec), (0x580000, 0x600000, regsRas), (0x600000, 0x680000, regsDbg)]

/-- The array indices that offset `rem` (from the array's first entry) names, widest stride first. -/
def dimIndices : List (Nat × Nat) → Nat → Option (List Nat)
  | [], rem => if rem = 0 then some [] else none
  | (stride, count) :: ds, rem =>
    if rem / stride < count then (dimIndices ds (rem % stride)).map (rem / stride :: ·) else none

/-- The indices under which `r` is found at offset `a`, if it is. -/
def RegDef.indicesAt (r : RegDef) (a : Nat) : Option (List Nat) :=
  if a < r.base then none else dimIndices r.dims (a - r.base)

/-- The register at an offset, with its array indices. -/
def regAt (a : Nat) : Option (RegDef × List Nat) :=
  match regBlocks.find? fun b => decide (b.1 ≤ a) && decide (a < b.2.1) with
  | none => none
  | some b => b.2.2.findSome? fun r => (r.indicesAt a).map fun ix => (r, ix)

/-- The primary and alternate home of a stack: (die, port) of each (Table 1-2); a spare's homes are
those of the stack it replaces under R22 and read 0 until then. -/
def stackHomes (s : Nat) : (Nat × Nat) × (Nat × Nat) :=
  [((0, 0), (3, 0)), ((0, 1), (3, 1)), ((0, 2), (1, 0)), ((0, 3), (1, 1)),
   ((1, 0), (0, 0)), ((1, 1), (0, 1)), ((1, 2), (2, 0)), ((1, 3), (2, 1)),
   ((2, 0), (1, 2)), ((2, 1), (1, 3)), ((2, 2), (3, 2)), ((2, 3), (3, 3)),
   ((3, 0), (2, 2)), ((3, 1), (2, 3)), ((3, 2), (0, 2)), ((3, 3), (0, 3))].getD s ((0, 0), (0, 0))

/-- The reset value that a register takes from its array index. -/
def perIndexReset : PerIndex → List Nat → Nat
  | .none, _ => 0
  | .stackId, ix =>
    let s := ix.headD 0
    s * 2 ^ 16 + (if s < 16 then s else 1 * 2 ^ 12)
  | .stackHome, ix =>
    let h := stackHomes (ix.headD 0)
    h.1.1 * 2 ^ 10 + h.1.2 * 2 ^ 8 + h.2.1 * 2 ^ 6 + h.2.2 * 2 ^ 4
  | .homeMap, _ => 0x76543210
  | .coreState, ix =>
    let k := ix.headD 0
    if k % 9 = 8 ∨ k / 9 % 9 = 8 then 2 ^ 28 else 0

/-- The reset value of a register found under the given indices. -/
def RegDef.resetVal (r : RegDef) (ix : List Nat) : Word :=
  BitVec.ofNat 32 (r.fields.foldl (fun v f => setBits v f.hi f.lo f.reset) 0 ||| perIndexReset r.perIndex ix)

/-- What an unlisted offset of the register file holds: the register's reset value; 0 at an offset no
chapter assigns (R32). -/
def regDefault (a : Nat) : Word :=
  match regAt a with
  | some (r, ix) => r.resetVal ix
  | none => 0

/-- The register file. -/
abbrev RegFile := Assoc Word

/-- The register at offset `a`. -/
def RegFile.read (rf : RegFile) (a : Nat) : Word := Assoc.get (regDefault a) a rf

/-- The register file with offset `a` holding `v`. -/
def RegFile.write (rf : RegFile) (a : Nat) (v : Word) : RegFile := Assoc.put (regDefault a) a v rf

/-- The canonical form of the register file. -/
def RegFile.wf (rf : RegFile) : Bool := Assoc.wf regDefault rf

/-- A register's value after a reset of class `c`: every field the class restores takes its reset
value, every other keeps its value (R16). -/
def RegDef.afterReset (r : RegDef) (ix : List Nat) (c : ResetClass) (v : Word) : Word :=
  let fresh := (r.resetVal ix).toNat
  BitVec.ofNat 32 (r.fields.foldl
    (fun x f => if f.cls.contains c then setBits x f.hi f.lo (getBits fresh f.hi f.lo) else x) v.toNat)

/-- The register file after a reset of class `c` of the registers whose offset satisfies `p`. -/
def RegFile.reset (c : ResetClass) (p : Nat → Bool) (rf : RegFile) : RegFile :=
  rf.foldl (fun acc e =>
    if p e.1 then
      match regAt e.1 with
      | some (r, ix) => acc.write e.1 (r.afterReset ix c (acc.read e.1))
      | none => acc
    else acc) rf

/-- The part of a register's value that lies in configuration fields. -/
def RegDef.cfgMask (r : RegDef) : Nat :=
  r.fields.foldl (fun m f => if f.cfg then setBits m f.hi f.lo (2 ^ 32 - 1) else m) 0

/-- The register file with the configuration fields of the registers whose offset satisfies `p` at their defaults (R100). -/
def RegFile.unset (p : Nat → Bool) (rf : RegFile) : RegFile :=
  rf.foldl (fun acc e =>
    if p e.1 then
      match regAt e.1 with
      | some (r, ix) =>
        let fresh := (r.resetVal ix).toNat
        acc.write e.1 (BitVec.ofNat 32 (r.fields.foldl
          (fun x f => if f.cfg then setBits x f.hi f.lo (getBits fresh f.hi f.lo) else x) (acc.read e.1).toNat))
      | none => acc
    else acc) rf

/-- The configuration held in a register file: the configuration fields of every listed register that
has any. -/
def RegFile.config (rf : RegFile) : List (Nat × Word) :=
  rf.filterMap fun e =>
    match regAt e.1 with
    | some (r, _) => if r.cfgMask = 0 then none else some (e.1, e.2)
    | none => none

/-- The register file with those configuration fields of `cfg` restored that a reset of class `c` restores. -/
def RegFile.restore (c : ResetClass) (cfg : List (Nat × Word)) (rf : RegFile) : RegFile :=
  cfg.foldl (fun acc e =>
    match regAt e.1 with
    | some (r, _) =>
      acc.write e.1 (BitVec.ofNat 32 (r.fields.foldl
        (fun x f => if f.cfg && f.cls.contains c then setBits x f.hi f.lo (getBits e.2.toNat f.hi f.lo) else x)
        (acc.read e.1).toNat))
    | none => acc) rf

end Sys2Proof.Machine
end

