-- ==== Sys2Proof/Machine/State.lean ====
section
/-! DEFINITION.  The state of the block: every setup register, the DRAM, and everything else the spec gives
it, chapter by chapter; the queue of commands that wait; the outcomes of a step that are no next
state. -/

namespace Sys2Proof.Machine

/-- Why a step stops without a next state.  No command of this block raises a fault: the spec describes
what happens in every case (R32, R33: even an access to an unassigned register completes). -/
inductive Fault where
  /-- Raised by no command; safe (nothing reaches it). -/
  | unreachable
  deriving DecidableEq, Repr

/-- Why a command is refused by the model. -/
inductive Refusal where
  /-- The command has no meaning in the model yet; raised by its arm of `exec`; safe (nothing follows
  from a refusal). -/
  | notModelled (mnemonic : String)
  deriving DecidableEq, Repr

/-- The block, but for the JTAG port and the queue.  `regs` holds every setup register (R31), `mem` the DRAM of every stack,
`out` what the block has sent outward (oldest first), `now` the microseconds since the last Cold reset
(TIME of Table 6-5), `free` the model's own count of free values used. -/
structure Block where
  regs : RegFile
  mem : Memory
  pool : PoolSt
  ctl : CtlSt
  eng : EngSt
  xlt : XltSt
  host : HostSt
  net : NetSt
  sec : SecSt
  pwr : PwrSt
  boot : BootSt
  ras : RasSt
  dbg : DbgSt
  bus : BusSt
  out : List Output
  now : Nat
  free : Nat
  deriving DecidableEq, Repr

/-- The state: the block, its JTAG port (which no reset of the block reaches, R523), and the commands that wait, first in,
first out. -/
structure State where
  blk : Block
  tap : TapSt
  pending : List Instr
  deriving DecidableEq, Repr

/-- The block right after a power-on Cold reset has been raised: every register at its reset value, memory with nothing
listed, no work in any unit, no descriptor accepted yet, the order of Table 3-4 about to begin. -/
def Block.reset : Block :=
  { regs := [], mem := {}, pool := {}, ctl := { stopped := true }, eng := {}, xlt := {}, host := {}, net := {}, sec := {},
    pwr := {}, boot := {}, ras := {}, dbg := {}, bus := {}, out := [], now := 0, free := 0 }

/-- The state right after reset: no command waits. -/
def State.reset : State := { blk := .reset, tap := {}, pending := [] }

end Sys2Proof.Machine
end

