-- ==== Sys2Proof/Machine/Ops.lean ====
section
/-! DEFINITION.  The named operations every meaning is built from: reading and writing registers and their
fields, saturating counters, outward signals, free values, repetition over a list. -/

namespace Sys2Proof.Machine

/-- What a meaning answers. -/
abbrev Out := Host.Outcome State Fault Refusal

/-- The effect of a command on the block. -/
def State.act (s : State) (f : Block → Block) : Out := .next { s with blk := f s.blk }

/-- The block after a command's meaning, as a register write gives it to that meaning. -/
def after (s : Block) (act : State → Out) : Block :=
  match act { blk := s, tap := {}, pending := [] } with
  | .next t => t.blk
  | _ => s

/-- The setup register at offset `a`. -/
def Block.reg (s : Block) (a : Nat) : Word := s.regs.read a

/-- Offset `a` of the register space set to `v`. -/
def Block.setReg (s : Block) (a : Nat) (v : Word) : Block := { s with regs := s.regs.write a v }

/-- The value of a field. -/
def Block.fld (s : Block) (f : Fld) : Nat := getBits (s.reg f.addr).toNat f.hi f.lo

/-- Whether a one-bit field is set. -/
def Block.isSet (s : Block) (f : Fld) : Bool := s.fld f != 0

/-- A field set to the low bits of `v`. -/
def Block.setFld (s : Block) (f : Fld) (v : Nat) : Block :=
  s.setReg f.addr (BitVec.ofNat 32 (setBits (s.reg f.addr).toNat f.hi f.lo v))

/-- A field set to 0 or 1. -/
def Block.setBit (s : Block) (f : Fld) (b : Bool) : Block := s.setFld f (if b then 1 else 0)

/-- A counter field raised by `n`, held at its largest value. -/
def Block.bump (s : Block) (f : Fld) (n : Nat := 1) : Block :=
  s.setFld f (satAdd (f.hi + 1 - f.lo) (s.fld f) n)

/-- A counter field lowered by `n`, held at 0. -/
def Block.drop (s : Block) (f : Fld) (n : Nat := 1) : Block := s.setFld f (s.fld f - n)

/-- The 64-bit value of a register pair (R13). -/
def Block.pair (s : Block) (lo hi : Nat) : Nat := (s.reg lo).toNat + 2 ^ 32 * (s.reg hi).toNat

/-- A register pair set to a 64-bit value. -/
def Block.setPair (s : Block) (lo hi v : Nat) : Block :=
  (s.setReg lo (BitVec.ofNat 32 v)).setReg hi (BitVec.ofNat 32 (v / 2 ^ 32))

/-- A signal sent outward. -/
def Block.emit (s : Block) (o : Output) : Block := { s with out := s.out ++ [o] }

/-- A health event sent. -/
def Block.health (s : Block) (h : Health) : Block := s.emit (.health h)

/-- The next free value (a value the spec leaves open), and the state that has used it. -/
def Block.fresh (s : Block) : DWord × Block := (Config.freeValue s.free, { s with free := s.free + 1 })

/-- `f` applied for each entry of a list in turn. -/
def forEach {α : Type} (xs : List α) (f : α → Block → Block) (s : Block) : Block :=
  xs.foldl (fun t x => f x t) s

/-- The state, changed by `f` if `c` holds. -/
def Block.when (s : Block) (c : Bool) (f : Block → Block) : Block := if c then f s else s

/-- The offsets of listed registers in a register array: those from `base` to below `stop` at `off` within
each stride, as array indices.  Every register that differs from its reset value is listed. -/
def Block.listed (s : Block) (base stop stride off : Nat) : List Nat :=
  ((Assoc.keysIn base stop s.regs).filter fun k => decide ((k - base) % stride = off)).map
    fun k => (k - base) / stride

end Sys2Proof.Machine
end

