-- ==== Sys2Proof/Machine/Events.lean ====
section
/-! DEFINITION.  Events and what observes them: attribution (R506), event counters (R507–R509), the records handed to the
trace writer (R512, R514). -/

namespace Sys2Proof.Machine

/-! ## Attribution (R506) -/

/-- What an event carries: kind D its partition and its descriptor's LAYER_ID, OPERATOR_ID and STREAM, kind P its partition
alone, kind N nothing. -/
structure Attr where
  ptn : Option Nat := none
  ids : Option (Nat × Nat × Nat) := none
  deriving DecidableEq, Repr

/-- Kind N. -/
def Attr.none_ : Attr := {}

/-- Kind P. -/
def Attr.ofPtn (p : Nat) : Attr := { ptn := some p }

/-- Kind D: an entry of the logbook, of a partition. -/
def LogEntry.attr (e : LogEntry) (ptn : Nat) : Attr :=
  let w := ofLeBytes (e.bytes.take 8)
  { ptn := some ptn, ids := some (getBits w 31 16, getBits w 15 0, getBits (ofLeBytes ((e.bytes.drop 16).take 8)) 63 50) }

/-- The debug state changed. -/
def Block.setDbg (s : Block) (x : DbgSt) : Block := { s with dbg := x }

/-- The attribution of an entry's work. -/
def Block.entryAttr (s : Block) (ring seq : Nat) : Attr :=
  let p := s.fld (F.RNG_CFG_PARTITION ring)
  match s.ctl.logbook.find? fun e => decide (e.ring = ring) && decide (e.seq = seq) with
  | some e => e.attr p
  | none => .ofPtn p

/-- Work done for a descriptor: what happens in it is of kind D. -/
def Block.forWork (s : Block) (ring seq : Nat) (act : Block → Block) : Block :=
  let t := act (s.setDbg { s.dbg with work := some (ring, seq) })
  t.setDbg { t.dbg with work := none }

/-- The attribution of what happens now in a partition: the descriptor whose work is done, or the partition alone. -/
def Block.workAttr (s : Block) (ptn : Nat) : Attr :=
  match s.dbg.work with
  | some (ring, seq) => s.entryAttr ring seq
  | none => .ofPtn ptn

/-! ## Counters (R507–R509) -/

/-- The event codes of each group of Table 18-1; 0 for a reserved group. -/
def eventCodes : Nat → Nat
  | 1 => 4
  | 2 => 6
  | 3 => 3
  | 4 => 4
  | 5 => 5
  | 6 => 4
  | 7 => 4
  | 8 => 4
  | 9 => 4
  | 10 => 3
  | 11 => 3
  | 12 => 1
  | _ => 0

/-- Whether two numbers agree in the bits of a mask. -/
def agree (mask a b : Nat) : Bool := decide (a &&& mask = b &&& mask)

/-- Whether a counter counts an event of a group, code and attribution (R508). -/
def Block.counts (s : Block) (n g e : Nat) (a : Attr) : Bool :=
  s.isSet (F.DBG_CNT_CTL_EN n) && decide (s.fld (F.DBG_CNT_CTL_GROUP n) = g) && decide (s.fld (F.DBG_CNT_CTL_EVENT n) = e)
    && (!s.isSet (F.DBG_CNT_CTL_FILT_EN n) || match a.ids with
      | some (layer, op, _) =>
        agree (s.fld (F.DBG_CNT_FILT_MASK_LAYER n)) layer (s.fld (F.DBG_CNT_FILT_ID_LAYER n))
          && agree (s.fld (F.DBG_CNT_FILT_MASK_OPERATOR n)) op (s.fld (F.DBG_CNT_FILT_ID_OPERATOR n))
      | none => false)
    && (!s.isSet (F.DBG_CNT_FILT_STREAM_EN n) || decide ((a.ids.map (·.2.2)) = some (s.fld (F.DBG_CNT_FILT_STREAM_STREAM n))))
    && (!s.isSet (F.DBG_CNT_CTL_PTN_EN n) || decide (a.ptn = some (s.fld (F.DBG_CNT_CTL_PTN n))))

/-- A counter raised: it wraps from 2^48 − 1 to 0 and sets OVF. -/
def DbgSt.count (d : DbgSt) (n k : Nat) : DbgSt :=
  let v := Assoc.get 0 n d.counts + k
  { d with
    counts := Assoc.put 0 n (v % 2 ^ 48) d.counts
    ovf := if v < 2 ^ 48 ∨ d.ovf.contains n then d.ovf else n :: d.ovf }

/-- `k` events of Table 18-1 counted wherever a counter counts them; none while FREEZE is set. -/
def Block.event (s : Block) (g e : Nat) (a : Attr) (k : Nat := 1) : Block :=
  if s.isSet F.DBG_CNT_GLOBAL_FREEZE then s
  else s.setDbg (((s.listed (R.DBG_CNT_CTL 0) (R.DBG_CNT_CTL 256) 0x20 0).filter fun n => s.counts n g e a).foldl
    (fun d n => d.count n k) s.dbg)

/-! ## Records for the trace writer (R512, R514) -/

/-- The trace types (Table 18-3). -/
def ttAccept : Nat := 0x01
def ttStart : Nat := 0x02
def ttComplete : Nat := 0x03
def ttPause : Nat := 0x04
def ttFault : Nat := 0x05
def ttCut : Nat := 0x06
def ttRingErr : Nat := 0x07
def ttLink : Nat := 0x08
def ttRecovery : Nat := 0x09
def ttMark : Nat := 0x0A
def ttLost : Nat := 0x0B
def ttPlot : Nat := 0x0C

/-- Whether an event gives a record: the trace is enabled, the type's bit is set, its partition is the one traced, its layer
and operator pass the filter; LINK and RECOVERY need ALL_PTN. -/
def Block.traces (s : Block) (type_ : Nat) (a : Attr) : Bool :=
  s.isSet F.DBG_TRACE_CFG_EN && decide (getBits (s.fld F.DBG_TRACE_TYPES_TYPES) type_ type_ = 1)
    && (s.isSet F.DBG_TRACE_CFG_ALL_PTN
      || (decide (type_ ≠ ttLink) && decide (type_ ≠ ttRecovery) && decide (a.ptn.getD 0 = s.fld F.DBG_TRACE_CFG_PTN)))
    && match a.ids with
      | some (layer, op, _) =>
        agree (s.fld F.DBG_TRACE_FILT_MASK_LAYER) layer (s.fld F.DBG_TRACE_FILT_ID_LAYER)
          && agree (s.fld F.DBG_TRACE_FILT_MASK_OPERATOR) op (s.fld F.DBG_TRACE_FILT_ID_OPERATOR)
      | none => true

/-- An event handed to the trace writer. -/
def Block.trace (s : Block) (type_ : Nat) (a : Attr) (arg0 arg1 : Nat) : Block :=
  if s.traces type_ a then
    s.setDbg { s.dbg with records := s.dbg.records ++
      [{ type_ := type_, ptn := a.ptn.getD 0, attr := a.ids, time := s.net.router.chrono.time / 16, arg0 := arg0, arg1 := arg1 }] }
  else s

end Sys2Proof.Machine
end

