-- ==== Sys2Proof/Machine/Recovery.lean ====
section
/-! DEFINITION.  Recoveries (R498, R499): the queue of critical phases, background phases, what a second fault counts. -/

namespace Sys2Proof.Machine

/-- The service state changed. -/
def Block.setRas (s : Block) (x : RasSt) : Block := { s with ras := x }

/-- The supply and temperature state changed. -/
def Block.setPwr (s : Block) (x : PwrSt) : Block := { s with pwr := x }

/-- The reset and boot state changed. -/
def Block.setBoot (s : Block) (x : BootSt) : Block := { s with boot := x }

/-- Lines from `first` to `last` of which a pair of faults left `n` poisoned (R499). -/
def Block.loseLines (s : Block) (first last n : Nat) : Block :=
  (s.setRas { s.ras with lostSpans := s.ras.lostSpans ++ [(first, last)] }).bump F.RAS_LOST_LINES_COUNT n

/-- Whether a line lies where a pair of faults left lines poisoned (R499). -/
def Block.lineLost (s : Block) (dpa : Nat) : Bool :=
  s.ras.lostSpans.any fun x => decide (x.1 ≤ dpa) && decide (dpa ≤ x.2)

/-- The kinds of a recovery (RAS_RECOVERY.KIND). -/
def rcDie : Nat := 1
def rcStack : Nat := 2
def rcHelm : Nat := 3
def rcCore : Nat := 4
def rcWay : Nat := 5
def rcCave : Nat := 6

/-- The die that a recovery's unit lies on: a stack's by its primary home, a core or cluster or cave channel by its number. -/
def Block.recoveryDie (s : Block) (r : Recovery) : Nat :=
  if r.kind = rcDie ∨ r.kind = rcHelm then r.unit % 4
  else if r.kind = rcStack then s.fld (F.DRC_HOME_PRI_DIE r.unit)
  else if r.kind = rcCave then r.unit / 8
  else if r.kind = rcCore then r.unit / 81
  else r.unit / 9

/-- RAS_RECOVERY brought up to the queue. -/
def Block.showRecovery (s : Block) : Block :=
  ((s.setFld F.RAS_RECOVERY_KIND ((s.ras.critical.map (·.kind)).getD 0)).setFld F.RAS_RECOVERY_QUEUED
    s.ras.queue.length).setFld F.RAS_RECOVERY_BACKGROUND (min s.ras.background.length 63)

/-- Whether some recovery has not ended. -/
def Block.recovering (s : Block) : Bool :=
  s.ras.critical.isSome || decide (s.ras.queue ≠ []) || decide (s.ras.background ≠ [])

/-- A critical phase queued, or left at its detector while 64 wait. -/
def Block.queueRecovery (s : Block) (r : Recovery) : Block :=
  ((s.setRas (if s.ras.critical.isNone ∧ s.ras.queue = [] then { s.ras with critical := some r }
    else if s.ras.queue.length < 64 then { s.ras with queue := s.ras.queue ++ [r] }
    else { s.ras with atDetector := s.ras.atDetector ++ [r] })).showRecovery).trace ttRecovery .none_ 0
      (r.kind * 2 ^ 28 + s.recoveryDie r)

/-- A fault detected: its critical phase is queued; within the recovery time of another it is a double fault (R499). -/
def Block.fault (s : Block) (kind unit : Nat) : Block :=
  ((if s.recovering then s.bump F.RAS_DOUBLE_COUNT_COUNT else s).queueRecovery { kind := kind, unit := unit })

/-- The next queued critical phase starts, in order of detection. -/
def Block.startRecovery (s : Block) : Block :=
  match s.ras.critical, s.ras.queue with
  | none, r :: rest =>
    (s.setRas { s.ras with
      critical := some r
      queue := rest ++ s.ras.atDetector.take 1
      atDetector := s.ras.atDetector.drop 1 }).showRecovery
  | _, _ => s

/-- The critical phase that runs ends: a replacement of a stack and a rebuild of a cave channel go on in the background,
every other recovery is counted (R498). -/
def Block.endCritical (s : Block) : Block :=
  match s.ras.critical with
  | none => s
  | some r =>
    (if r.kind = rcStack ∨ r.kind = rcCave then
      s.setRas { s.ras with critical := none, background := s.ras.background ++ [r] }
    else (s.setRas { s.ras with critical := none }).bump F.RAS_SINGLE_COUNT_COUNT).showRecovery

/-- A background phase ends. -/
def Block.endBackground (s : Block) (r : Recovery) : Block :=
  if s.ras.background.contains r then
    ((s.setRas { s.ras with background := s.ras.background.erase r }).bump F.RAS_SINGLE_COUNT_COUNT).showRecovery
  else s

/-- The RESYNC walk of a twin, a background phase of its own: it begins, ends with the twin SYNCED, or goes away. -/
def Block.resyncPhase (s : Block) (t : Nat) (runs done : Bool) : Block :=
  let r : Recovery := { kind := 0, unit := t }
  if runs then
    if s.ras.background.contains r then s else (s.setRas { s.ras with background := s.ras.background ++ [r] }).showRecovery
  else if done then s.endBackground r
  else (s.setRas { s.ras with background := s.ras.background.erase r }).showRecovery

/-- Whether a background phase may go on: no critical phase that runs acts on its stack, as a die that serves it or as the
stack itself (R498). -/
def Block.backgroundRuns (s : Block) (stk : Nat) : Bool :=
  match s.ras.critical with
  | some r =>
    !(decide (r.kind = rcStack ∧ r.unit = stk)
      || decide (r.kind = rcDie) && decide (r.unit % 4 = s.fld
        (if s.isSet (F.DRC_HOME_ON_ALT stk) then F.DRC_HOME_ALT_DIE stk else F.DRC_HOME_PRI_DIE stk)))
  | none => true

end Sys2Proof.Machine
end

