-- ==== Sys2Proof/Machine/CfgCopies.lean ====
section
/-! DEFINITION.  What the almanac holds (R93–R99): the slots of the RWP store, the configuration copies with their headers,
which copy is selected, what the almanac's bytes are. -/

namespace Sys2Proof.Machine

/-! ## The RWP store (R94) -/

/-- The slot of RBT_FW_PREF's entry that supplies its value: the valid one, of two the one with the later toggle; slot A is
later while the toggles differ. -/
def Block.rwpInB (s : Block) : Bool :=
  let b := s.boot
  if b.rwpA.ok ∧ b.rwpB.ok then decide (b.rwpA.toggle = b.rwpB.toggle) else b.rwpB.ok

/-- The slot that holds RBT_FW_PREF's latest value. -/
def Block.rwpNow (s : Block) : RwpSlot := if s.rwpInB then s.boot.rwpB else s.boot.rwpA

/-- A value written to the slot that does not hold the latest, its toggle inverted (R94). -/
def Block.rwpPut (s : Block) (v : Bool) (count : Nat) : Block :=
  let b := s.boot
  if s.rwpInB then s.setBoot { b with rwpA := { value := v, count := count, toggle := !b.rwpB.toggle } }
  else s.setBoot { b with rwpB := { value := v, count := count, toggle := b.rwpA.toggle } }

/-- A slot found uncorrectable: it is invalid (R191). -/
def Block.rwpSpoil (s : Block) (inB : Bool) : Block :=
  let b := s.boot
  if inB then s.setBoot { b with rwpB := { b.rwpB with ok := false } }
  else s.setBoot { b with rwpA := { b.rwpA with ok := false } }

/-! ## The configuration copies (R96, R97) -/

/-- The bytes of a record of a configuration copy's body: the opening with TYPE in bits 63:48 and LENGTH, in units of 8 bytes,
in bits 47:32, then what the type lays out (R96). -/
def recordBytes (r : BitVec 16 × List Byte) : List Byte :=
  let n := (r.2.length + 7) / 8
  leBytes 8 (r.1.toNat * 2 ^ 48 + n * 2 ^ 32) ++ r.2 ++ List.replicate (8 * n - r.2.length) 0

/-- The body of a configuration copy: its records, whose types and layouts are the binnacle's own (R96), then zeros up to a
multiple of 64 bytes, at least 64 (Table 3-8). -/
def bodyBytes (c : Snapshot) : List Byte :=
  let b := (Config.cfgRecords c.regs).flatMap recordBytes
  b ++ List.replicate (64 * max 1 ((b.length + 63) / 64) - b.length) 0

/-- Body bytes that a commit of a configuration would write (R96). -/
def cfgBytes (c : Snapshot) : Nat := (bodyBytes c).length

/-- The header of a copy of a configuration with a SEQ (Table 3-8). -/
def cfgHeader (seq : Nat) (c : Snapshot) : List Byte :=
  let h := leBytes 4 0x51414C4D ++ leBytes 2 1 ++ leBytes 2 0 ++ leBytes 8 seq ++ leBytes 4 (cfgBytes c)
    ++ leBytes 4 (crc32c (bodyBytes c)) ++ List.replicate 36 0
  h ++ leBytes 4 (crc32c h)

/-- A copy as a commit writes it. -/
def newCopy (seq : Nat) (c : Snapshot) : CfgCopy := { header := cfgHeader seq c, body := c }

/-- A field of a copy's header. -/
def CfgCopy.field (c : CfgCopy) (off n : Nat) : Nat := ofLeBytes ((c.header.drop off).take n)

/-- Whether every field of a header holds a valid value and its CRC matches (Table 3-8). -/
def CfgCopy.headerOk (c : CfgCopy) : Bool :=
  let seq := c.field 0x08 8
  let len := c.field 0x10 4
  decide (c.field 0x00 4 = 0x51414C4D) && decide (c.field 0x04 2 = 1) && decide (c.field 0x06 2 = 0)
    && decide (1 ≤ seq ∧ seq ≤ 2 ^ 64 - 2) && decide (len % 64 = 0 ∧ 64 ≤ len ∧ len ≤ 1572800)
    && decide (c.field 0x18 36 = 0) && decide (c.field 0x3C 4 = crc32c (c.header.take 0x3C))

/-- Whether a copy is valid (R97). -/
def CfgCopy.valid (c : CfgCopy) : Bool :=
  !c.bad && !c.cut && c.headerOk && decide (c.field 0x14 4 = crc32c (bodyBytes c.body))

/-- Whether a copy is there and valid. -/
def validCopy (c : Option CfgCopy) : Bool := c.any (·.valid)

/-- SEQ of a copy. -/
def seqOf (c : Option CfgCopy) : Nat := (c.map (·.field 0x08 8)).getD 0

/-- The copy that a check selects as SELECTED gives it: the valid one, of two the one with the higher SEQ, A when equal; none
where neither is valid (R98). -/
def Block.bestCopy (s : Block) : Nat :=
  let b := s.boot
  if validCopy b.copyA && (!validCopy b.copyB || decide (seqOf b.copyB ≤ seqOf b.copyA)) then 0
  else if validCopy b.copyB then 1 else 2

/-- The selected copy. -/
def Block.selectedCopy (s : Block) : Option CfgCopy :=
  match s.fld F.ALM_STATUS_SELECTED with
  | 0 => s.boot.copyA
  | 1 => s.boot.copyB
  | _ => none

/-- A_VALID and B_VALID brought up to the copies. -/
def Block.showValid (s : Block) : Block :=
  (s.setBit F.ALM_STATUS_A_VALID (validCopy s.boot.copyA)).setBit F.ALM_STATUS_B_VALID (validCopy s.boot.copyB)

/-- ALM_STATUS and ALM_SEQ brought up to the copies, one of which is selected anew. -/
def Block.showCopies (s : Block) : Block :=
  let n := s.bestCopy
  let s1 := (s.showValid.setFld F.ALM_STATUS_SELECTED n).setBit F.ALM_STATUS_ADRIFT (decide (n = 2))
  s1.setPair R.ALM_SEQ_LO R.ALM_SEQ_HI (seqOf s1.selectedCopy)

/-- The copies after one of them has become invalid in service: with one valid left the state is SINGLE; the last one invalid
makes ADRIFT only at the next Cold or Warm reset, until then SELECTED and SEQ stay (Table 3-9). -/
def Block.afterCheck (s : Block) : Block :=
  if s.bestCopy = 2 then s.showValid else s.showCopies

/-- A configuration copy written. -/
def Block.putCopy (s : Block) (copyB : Bool) (c : CfgCopy) : Block :=
  s.setBoot (if copyB then { s.boot with copyB := some c } else { s.boot with copyA := some c })

/-- A copy found to hold an uncorrectable word. -/
def Block.spoilCopy (s : Block) (copyB : Bool) : Block :=
  match if copyB then s.boot.copyB else s.boot.copyA with
  | some c => s.putCopy copyB { c with bad := true }
  | none => s

/-- A commit ends with a RESULT. -/
def Block.endCommit (s : Block) (result : Nat) : Block :=
  (((s.setBoot { s.boot with commit := none }).setFld F.ALM_STATUS_COMMIT_BUSY 0).setFld F.ALM_COMMIT_STATUS_RESULT
    result).setFld F.ALM_COMMIT_STATUS_DONE 1

/-- The copy that a commit was writing left invalid, the one selected before still selected (R99). -/
def Block.cutCommit (s : Block) (c : CfgCommit) (result : Nat) : Block :=
  ((s.putCopy c.copyB { newCopy c.seq c.body with cut := true }).endCommit result).afterCheck

/-- A commit in progress abandoned (R99). -/
def Block.abandonCommit (s : Block) : Block :=
  match s.boot.commit with
  | none => s
  | some c => s.cutCommit c 0x04

/-! ## The almanac's bytes (Table 3-7) -/

/-- A byte of a configuration copy, its body whole; what lies past it the spec does not give. -/
def copyByte (c : Option CfgCopy) (off : Nat) : Option Byte :=
  match c with
  | none => none
  | some x =>
    if off < 64 then x.header[off]?
    else if x.cut then none
    else (bodyBytes x.body)[off - 64]?

/-- A byte of the almanac where the spec gives it: those of the configuration copies. -/
def Block.almByte (s : Block) (a : Nat) : Option Byte :=
  if a < 0x100000 then none
  else if a < 0x280000 then copyByte s.boot.copyA (a - 0x100000)
  else copyByte s.boot.copyB (a - 0x280000)

/-- Four bytes of the almanac as its window shows them: those that the spec gives, the others free values (R102). -/
def Block.almWord (s : Block) (a : Nat) : Nat × Block :=
  let (v, t) := s.fresh
  (ofLeBytes ((List.range 4).map fun k => (s.almByte (a + k)).getD (BitVec.ofNat 8 (v.toNat / 256 ^ k))), t)

end Sys2Proof.Machine
end

