-- ==== Sys2Proof/Machine/Operands.lean ====
section
/-! DEFINITION.  What an address names: the DRAM fields of a DPA and the hashed location of a line (R148,
R149), the stack and die that serve it, the owner of its channel block, its tier block and home stop, and
the twin it lies in. -/

namespace Sys2Proof.Machine

/-- The DPA of the line that holds byte `dpa`. -/
def lineOf (dpa : Nat) : Nat := dpa / 64 * 64

/-- LSTACK of a DRAM DPA (Table 5-3). -/
def lstackOf (dpa : Nat) : Nat := getBits dpa 40 37

/-- The channel block of a DRAM DPA, as LSTACK × 8 + BLOCK (Table 16-2). -/
def channelBlockOf (dpa : Nat) : Nat := getBits dpa 40 34

/-- The line's number within its stack: the DPA's bits below LSTACK. -/
def lineIndex (dpa : Nat) : Nat := getBits dpa 36 6

/-- The 2 MiB tier block of a DRAM DPA. -/
def tierBlockOf (dpa : Nat) : Nat := dpa / 2 ^ 21

/-- The parity of a number's low `w` bits. -/
def parityBits : Nat → Nat → Nat
  | 0, _ => 0
  | w + 1, x => (x % 2 + parityBits w (x / 2)) % 2

/-- A select bit: its native bit XORed with the parity of the masked row (R149). -/
def hashBit (native row mask : Nat) : Nat := (native + parityBits 15 (row &&& mask)) % 2

/-- Where a line lies in a stack (Table 5-1). -/
structure LineLoc where
  stack : Nat
  pc : Nat
  bank : Nat
  row : Nat
  col : Nat
  deriving DecidableEq, Repr

/-- The ACTIVE hash mask number `k` of a stack, in the order CH0 CH1 CH2 BG0 BG1 BANK0 BANK1 SID0 SID1. -/
def Block.activeMask (s : Block) (stk k : Nat) : Nat :=
  let f := F.DRC_HASH_CH0_ACTIVE stk
  s.fld ⟨f.addr + 4 * k, f.hi, f.lo⟩

/-- The channel, bank-group, bank and stack-ID selects of a row under a stack's masks, each applied to a
native value: the map is its own inverse (R149). -/
def Block.hashSelects (s : Block) (stk row ch bg ba sid : Nat) : Nat × Nat × Nat × Nat :=
  let h (native k : Nat) := hashBit native row (s.activeMask stk k)
  (h (getBits ch 2 2) 2 * 4 + h (getBits ch 1 1) 1 * 2 + h (getBits ch 0 0) 0,
   h (getBits bg 1 1) 4 * 2 + h (getBits bg 0 0) 3,
   h (getBits ba 1 1) 6 * 2 + h (getBits ba 0 0) 5,
   h (getBits sid 1 1) 8 * 2 + h (getBits sid 0 0) 7)

/-- The location of a line in the stack that serves it (R149). -/
def Block.locOf (s : Block) (stk dpa : Nat) : LineLoc :=
  let row := getBits dpa 33 19
  let (ch, bg, ba, sid) :=
    s.hashSelects stk row (getBits dpa 12 10) (getBits dpa 14 13) (getBits dpa 16 15) (getBits dpa 18 17)
  { stack := stk, pc := getBits dpa 36 34 * 8 + ch, bank := sid * 16 + bg * 4 + ba, row := row,
    col := getBits dpa 9 6 }

/-- The line at a location of a stack: its DPA under the stack's LOGICAL number (R193). -/
def Block.dpaOf (s : Block) (loc : LineLoc) : Nat :=
  let (ch, bg, ba, sid) :=
    s.hashSelects loc.stack loc.row (loc.pc % 8) (loc.bank / 4 % 4) (loc.bank % 4) (loc.bank / 16)
  s.fld (F.DRC_STACK_ID_LOGICAL loc.stack) * 2 ^ 37 + loc.pc / 8 * 2 ^ 34 + loc.row * 2 ^ 19
    + sid * 2 ^ 17 + ba * 2 ^ 15 + bg * 2 ^ 13 + ch * 2 ^ 10 + loc.col * 64

/-- ROLE of a physical stack (Table 5-7). -/
def Block.role (s : Block) (stk : Nat) : Nat := s.fld (F.DRC_STACK_ID_ROLE stk)

/-- ROLE codes (Table 5-7). -/
def roleServing : Nat := 0
def roleFilling : Nat := 1
def roleArmed : Nat := 2
def roleCopyIn : Nat := 3
def roleCopyOut : Nat := 4
def roleRetired : Nat := 5
def roleFailed : Nat := 6

/-- Whether a physical stack serves logical stack `l` (R148). -/
def Block.servesLogical (s : Block) (l stk : Nat) : Bool :=
  decide (s.role stk ∈ [roleServing, roleCopyIn, roleFailed])
    && decide (s.fld (F.DRC_STACK_ID_LOGICAL stk) = l)

/-- The physical stack that serves logical stack `l`. -/
def Block.servingStack (s : Block) (l : Nat) : Option Nat := [l, 16, 17].find? (s.servesLogical l)

/-- The spare of a stack's half (R22). -/
def spareOf (stk : Nat) : Nat := if stk < 8 then 16 else 17

/-- Whether a die is in service or on its way out (R23). -/
def Block.dieServing (s : Block) (d : Nat) : Bool := decide (s.fld (F.RAS_DIE_STATE_STATE d) ≤ 1)

/-- The logical devices that a port presents: those of the allocation in force, none in ADRIFT (R264). -/
def Block.presents (s : Block) (fn : Nat) : Bool := !s.boot.adrift && decide (fn % 16 < Assoc.get 0 (fn / 16) s.host.lds)

/-- The die of a stack's primary or alternate home. -/
def Block.homeDie (s : Block) (stk : Nat) (alt : Bool) : Nat :=
  s.fld (if alt then F.DRC_HOME_ALT_DIE stk else F.DRC_HOME_PRI_DIE stk)

/-- What the controllers hold about a stack. -/
def Block.stk (s : Block) (stk : Nat) : StackSt := Assoc.get {} stk s.pool.stks

/-- What the controllers hold about a stack, replaced. -/
def Block.setStk (s : Block) (stk : Nat) (v : StackSt) : Block :=
  { s with pool := { s.pool with stks := Assoc.put {} stk v s.pool.stks } }

/-- Whether a stack can be served by one of its homes: its die in service, its interface and its port sound (R167, R192). -/
def Block.homeUsable (s : Block) (stk : Nat) (alt : Bool) : Bool :=
  s.dieServing (s.homeDie stk alt) && !(s.stk stk).ifaceFailed.contains (if alt then 1 else 0)
    && !s.pool.badPorts.contains (s.homeDie stk alt, s.fld (if alt then F.DRC_HOME_ALT_PORT stk else F.DRC_HOME_PRI_PORT stk))

/-- Whether any home reaches a stack (R167, R170, R500). -/
def Block.reachable (s : Block) (stk : Nat) : Bool :=
  !(s.stk stk).failedWhole && !(s.stk stk).stranded && (s.homeUsable stk false || s.homeUsable stk true)

/-- The die that serves a stack now. -/
def Block.servingDie (s : Block) (stk : Nat) : Nat :=
  s.homeDie stk (s.isSet (F.DRC_HOME_ON_ALT stk))

/-- An owner byte of an owner array (R464): the partition, if OWNED. -/
def Block.ownerByte (s : Block) (base idx : Nat) : Option Nat :=
  let b := getBits (s.reg (base + 4 * (idx / 4))).toNat (8 * (idx % 4) + 7) (8 * (idx % 4))
  if b / 128 = 1 then some (b % 32) else none

/-- The owner of a channel block (Table 16-2). -/
def Block.blockOwner (s : Block) (cb : Nat) : Option Nat := s.ownerByte (R.PTN_BLOCK_OWN 0) cb

/-- The owner of a DRAM DPA. -/
def Block.ownerOf (s : Block) (dpa : Nat) : Option Nat := s.blockOwner (channelBlockOf dpa)

/-- The cave extents that are not OFF. -/
def Block.activeExtents (s : Block) : List Nat :=
  (s.listed (R.TIR_CX_BASE 0) (R.TIR_CX_BASE 1024) 0x20 0xC).filter
    fun x => decide (s.fld (F.TIR_CX_STATE_STATE x) ≠ 0)

/-- Whether an extent covers a cave block. -/
def Block.extentCovers (s : Block) (x block : Nat) : Bool :=
  let lo := s.fld (F.TIR_CX_BASE_BLK x)
  decide (lo ≤ block) && decide (block < lo + s.fld (F.TIR_CX_COUNT_COUNT x))

/-- The cave page of a cave-window DPA (R225). -/
def cavePageOf (dpa : Nat) : Nat := (dpa - caveBase) / 4096

/-- The partition that owns a line: its channel block's owner, or in the cave window the partition of the extent that covers it
(R225, R464). -/
def Block.lineOwner (s : Block) (dpa : Nat) : Option Nat :=
  if caveBase ≤ dpa ∧ dpa < caveEnd then
    (s.activeExtents.find? fun x => s.extentCovers x (cavePageOf dpa / 512)).map fun x => s.fld (F.TIR_CX_CFG_PARTITION x)
  else s.ownerOf dpa

/-- The attribution of an access to a line (R506): of an engine the descriptor whose work it does, or its partition; of a host
and of a node the partition that owns the line; of the module itself none. -/
def Block.accessAttr (s : Block) (q : Requester) (dpa : Nat) : Attr :=
  match q with
  | .engine p => s.workAttr p
  | .firmware => .none_
  | _ => { ptn := s.lineOwner dpa }

/-- The attribution of what concerns a line alone: the partition that owns it. -/
def Block.lineAttr (s : Block) (dpa : Nat) : Attr := { ptn := s.lineOwner dpa }

/-- The owner of a cluster, numbered die × 9 + cluster. -/
def Block.clusterOwner (s : Block) (i : Nat) : Option Nat := s.ownerByte (R.PTN_CLUSTER_OWN 0) i

/-- The owner of a cache way of a slice. -/
def Block.wayOwner (s : Block) (slice way : Nat) : Option Nat := s.ownerByte (R.PTN_WAY_OWN slice 0) way

/-- A tier block's entry (R220). -/
def Block.tier (s : Block) (block : Nat) : TierEntry := Assoc.get {} block s.pool.tiers

/-- The cores of a cluster. -/
def coresOf (cluster : Nat) : List Nat := (List.range 9).map (cluster * 9 + ·)

/-- Whether a cluster is in service: some core of it is. -/
def Block.clusterUp (s : Block) (cluster : Nat) : Bool :=
  (coresOf cluster).any fun k => decide (s.fld (F.ENG_CORE_STATE_STATE k) = 0)

/-- Tier classes (Table 7-4). -/
def clsOrdinary : Nat := 0
def clsFrame : Nat := 1
def clsPressed : Nat := 2
def clsFirmware : Nat := 3

/-- The slot of a DRAM line (R282). -/
def slotOf (dpa : Nat) : Nat := getBits dpa 11 6 ^^^ getBits dpa 17 12 ^^^ getBits dpa 23 18

/-- The cluster that a die's home map gives a slot. -/
def Block.homeCluster (s : Block) (die slot : Nat) : Nat :=
  getBits (s.reg (R.HPT_HOME_MAP die (slot / 8))).toNat (4 * (slot % 8) + 3) (4 * (slot % 8))

/-- The frame that holds a cave block, unless it is being evicted (R226, R229). -/
def Block.frameOf (s : Block) (block : Nat) : Option Nat :=
  (s.pool.frames.find? fun e => decide (e.2.block = some block) && !e.2.evicting).map (·.1)

/-- The DPA of a page of a frame block. -/
def framePage (b page : Nat) : Nat := b * 2 ^ 21 + page * 4096

/-- The DRAM line at whose home stop a line is ordered: a cave-window line's is the line of its frame (R211, R227); one with no
frame keeps its own DPA.  DESIGN CHOICE: the last, log 201. -/
def Block.homeLine (s : Block) (dpa : Nat) : Nat :=
  if caveBase ≤ dpa ∧ dpa < caveEnd then
    match s.frameOf (cavePageOf dpa / 512) with
    | some b => framePage b (cavePageOf dpa % 512) + dpa % 4096
    | none => dpa
  else dpa

/-- The cache slice of a line's home stop, numbered die × 9 + cluster (R211, R282). -/
def Block.homeSlice (s : Block) (dpa : Nat) : Nat :=
  let home := s.homeLine dpa
  let die := match s.servingStack (lstackOf home) with
    | some stk => s.servingDie stk
    | none => 0
  die * 9 + s.homeCluster die (slotOf home)

/-- The home stop of a line on the rose ring (R281). -/
def Block.homeStop (s : Block) (dpa : Nat) : Nat :=
  let sl := s.homeSlice dpa
  sl / 9 * 10 + sl % 9

/-- The beats of a message between two stops by the shorter way round: 1 for a hop within a die, 4 for one between dies (R281). -/
def ringBeats (a b : Nat) : Nat :=
  let x := a + 3 * (a / 10)
  let y := b + 3 * (b / 10)
  let n := max x y - min x y
  min n (52 - n)

/-- The fewest beats from a stop to any stop of a die. -/
def ringToDie (stop die : Nat) : Nat := (List.range 10).foldl (fun n k => min n (ringBeats stop (10 * die + k))) 52

/-- The rose ring changed. -/
def Block.setRose (s : Block) (r : Rose) : Block := { s with host := { s.host with rose := r } }

/-- The cache set of a line (R211). -/
def cacheSet (dpa : Nat) : Nat := getBits dpa 19 6 ^^^ getBits dpa 33 20

/-- The twin entries that are not OFF. -/
def Block.activeTwins (s : Block) : List Nat :=
  (s.listed (R.INT_TWIN_BASE_LO 0) (R.INT_TWIN_BASE_LO 256) 0x40 0x14).filter
    fun t => decide (s.fld (F.INT_TWIN_STATE_STATE t) ≠ 0)

/-- The start of a twin entry's copy A or copy B. -/
def Block.twinStart (s : Block) (t : Nat) (copyB : Bool) : Nat :=
  if copyB then s.pair (R.INT_TWIN_MIRROR_LO t) (R.INT_TWIN_MIRROR_HI t)
  else s.pair (R.INT_TWIN_BASE_LO t) (R.INT_TWIN_BASE_HI t)

/-- The bytes of one copy of a twin. -/
def Block.twinBytes (s : Block) (t : Nat) : Nat := s.fld (F.INT_TWIN_CFG_BLOCKS t) * 2 ^ 21

/-- The active twin a DPA lies in, and whether in its copy B. -/
def Block.twinOf (s : Block) (dpa : Nat) : Option (Nat × Bool) :=
  s.activeTwins.findSome? fun t =>
    [false, true].findSome? fun b =>
      let lo := s.twinStart t b
      if lo ≤ dpa ∧ dpa < lo + s.twinBytes t then some (t, b) else none

/-- The same line of a twin in its copy A or copy B. -/
def Block.twinAddr (s : Block) (t : Nat) (from_ to_ : Bool) (dpa : Nat) : Nat :=
  dpa - s.twinStart t from_ + s.twinStart t to_

/-- A twin entry's walk. -/
def Block.twin (s : Block) (t : Nat) : TwinSt := Assoc.get {} t s.pool.twins

/-- A twin entry's walk, replaced. -/
def Block.setTwin (s : Block) (t : Nat) (v : TwinSt) : Block :=
  { s with pool := { s.pool with twins := Assoc.put {} t v s.pool.twins } }

/-- Twin states (Table 6-10). -/
def twOff : Nat := 0
def twSyncing : Nat := 1
def twSynced : Nat := 2
def twDegraded : Nat := 3
def twResync : Nat := 4
def twLost : Nat := 5

/-- The key of a pseudo-channel. -/
def pcKey (stk pc : Nat) : Nat := stk * 64 + pc

/-- The copy that serves a twin's reads (Table 6-10). -/
def Block.twinPrimary (s : Block) (t : Nat) : Bool :=
  decide (s.fld (F.INT_TWIN_STATE_STATE t) ≠ twSyncing) && s.isSet (F.INT_TWIN_STATE_SERVING t)

/-- A pseudo-channel scheduler, keyed stack × 64 + channel. -/
def Block.pc (s : Block) (k : Nat) : PseudoChannel := Assoc.get {} k s.pool.pcs

/-- A pseudo-channel scheduler, replaced. -/
def Block.setPc (s : Block) (k : Nat) (v : PseudoChannel) : Block :=
  { s with pool := { s.pool with pcs := Assoc.put {} k v s.pool.pcs } }

/-- A frame block. -/
def Block.frame (s : Block) (b : Nat) : Frame := Assoc.get {} b s.pool.frames

/-- A frame block, replaced; the frame pool lists every FRAME block. -/
def Block.setFrame (s : Block) (b : Nat) (v : Frame) : Block :=
  { s with pool := { s.pool with frames := Assoc.ins b v s.pool.frames } }

end Sys2Proof.Machine
end

