-- ==== Sys2Proof/Machine/Queues.lean ====
section
/-! DEFINITION.  Cells and the queues they wait in (R411, R412, R420–R423, R443, R444): headers, the choice of a port,
entering a queue, notify cells. -/

namespace Sys2Proof.Machine

/-! ## Transport headers (Table 14-1) -/

def Cell.dst (c : Cell) : Nat := getBits c.hdr 63 44
def Cell.src (c : Cell) : Nat := getBits c.hdr 43 24
def Cell.cls (c : Cell) : Nat := getBits c.hdr 23 22
def Cell.fence (c : Cell) : Bool := decide (getBits c.hdr 21 21 = 1)
def Cell.poison (c : Cell) : Bool := decide (getBits c.hdr 20 20 = 1)
def Cell.kind (c : Cell) : Nat := getBits c.hdr 19 16
def Cell.info (c : Cell) : Nat := getBits c.hdr 15 0
def Cell.tag (c : Cell) : Nat := getBits c.hdr 15 4
def Cell.idx (c : Cell) : Nat := getBits c.hdr 3 0

/-- A u64 of a cell's payload. -/
def Cell.w (c : Cell) (off : Nat) : Nat := ofLeBytes ((c.payload.drop off).take 8)

/-- Bits of a payload word. -/
def Cell.f (c : Cell) (off hi lo : Nat) : Nat := getBits (c.w off) hi lo

/-- The classes. -/
def clsReq : Nat := 0
def clsRsp : Nat := 1
def clsFwd : Nat := 2
def clsColl : Nat := 3

/-- The KINDs of Table 14-2. -/
def kRead : Nat := 0x1
def kWrite : Nat := 0x2
def kWdata : Nat := 0x3
def kWriteShort : Nat := 0x4
def kAtomic : Nat := 0x5
def kLaunch : Nat := 0x6
def kBurst : Nat := 0x7
def kNotify : Nat := 0x8
def kMgmt : Nat := 0x9
def kTime : Nat := 0xA
def kRdata : Nat := 0xB
def kRsp : Nat := 0xC

/-- Whether a cell is of request origin (Table 14-2). -/
def Cell.isRequest (c : Cell) : Bool := decide (1 ≤ c.kind) && decide (c.kind ≤ 9)

/-- A cell. -/
def mkCell (dst src cls kind info : Nat) (poison : Bool) (payload : List Byte) : Cell :=
  { hdr := dst * 2 ^ 44 + src * 2 ^ 24 + cls * 2 ^ 22 + (if poison then 2 ^ 20 else 0) + kind * 2 ^ 16 + info
    payload := fitTo 0 64 payload }

/-- The cell in another class. -/
def Cell.inClass (c : Cell) (cls : Nat) : Cell := { c with hdr := setBits c.hdr 23 22 cls }

/-! ## Routes (R421–R423) -/

/-- The pool's node ID. -/
def Block.node (s : Block) : Nat := s.fld F.PFR_NODE_NODE

/-- Whether a link is UP. -/
def Block.linkUp (s : Block) (l : Nat) : Bool := decide (s.fld (F.PFL_STATUS_STATE l) = 4)

/-- Whether a port is available (R423). -/
def Block.portAvail (s : Block) (p : Nat) : Bool := s.linkUp p && s.isSet (F.PFR_PORT_CFG_ROUTE_EN p)

/-- The ports of a set, ascending; set 0 is empty. -/
def Block.setPorts (s : Block) (k : Nat) : List Nat :=
  if k = 0 then []
  else (List.range 96).filter fun p => decide (getBits (s.reg (R.PFR_SET k (p / 32))).toNat (p % 32) (p % 32) = 1)

/-- The sets of the table entry for a node: DOWN_SET and UP_SET (R421). -/
def Block.routeSets (s : Block) (dst : Nat) : Nat × Nat :=
  let e := if dst / 1024 = s.node / 1024 then s.reg (R.PFR_MEMBER (dst % 1024)) else s.reg (R.PFR_GROUP (dst / 1024))
  (getBits e.toNat 7 0, getBits e.toNat 15 8)

/-- The hash of R423. -/
def routeHash (dst src tag : Nat) : Nat := crc32c (leBytes 8 (dst * 2 ^ 44 + src * 2 ^ 24 + tag))

/-- The available port that the hash picks in a set. -/
def Block.pickIn (s : Block) (set dst src tag : Nat) : Option Nat :=
  let ps := (s.setPorts set).filter s.portAvail
  ps[routeHash dst src tag % ps.length]?

/-- The links in UP whose partner is a node. -/
def Block.directLink (s : Block) (dst : Nat) : Option Nat :=
  (List.range 96).find? fun l => s.linkUp l && decide (s.fld (F.PFL_PARTNER_NODE_NODE l) = dst)

/-- The set that a cell waits for when no port of it is available: DOWN_SET in the down phase, UP_SET in the up phase
(R422), or DOWN_SET where UP_SET is the empty set. -/
def Block.waitSet (s : Block) (up : Bool) (dst : Nat) : Nat :=
  let (down, upSet) := s.routeSets dst
  if up ∧ upSet ≠ 0 then upSet else down

/-- The port a cell goes to (R421–R423). -/
def Block.route (s : Block) (up : Bool) (dst src tag : Nat) : Option Nat :=
  match s.directLink dst with
  | some l => some l
  | none =>
    let (down, upSet) := s.routeSets dst
    match s.pickIn down dst src tag with
    | some p => some p
    | none => if up then s.pickIn upSet dst src tag else none

/-! ## Sources -/

/-- The lowest enabled source group that a node is in (Table 16-9). -/
def Block.groupOf (s : Block) (node : Nat) : Option Nat :=
  ((s.listed (R.PTN_SRC_GROUP 0) (R.PTN_SRC_GROUP 256) 4 0).filter fun g => s.isSet (F.PTN_SRC_GROUP_EN g)).find?
    fun g =>
      let low := 20 - s.fld (F.PTN_SRC_GROUP_PLEN g)
      decide (node / 2 ^ low = s.fld (F.PTN_SRC_GROUP_NODE g) / 2 ^ low)

/-- The partition of a source node, if a group binds it. -/
def Block.srcPtn (s : Block) (node : Nat) : Option Nat := (s.groupOf node).map fun g => s.fld (F.PTN_SRC_GROUP_PARTITION g)

/-- The attribution of a DATA cell (R506): forward-class traffic and TIME cells none; a cell of another node its source's
partition; a cell of the pool's own its descriptor, where a request of one is open, or its destination's partition. -/
def Block.cellAttr (s : Block) (c : Cell) : Attr :=
  if c.cls = 2 ∨ c.kind = 0xA then .none_
  else
    match s.net.router.reqs.find? fun r => decide (r.dst = c.dst) && decide (r.tag = c.tag) with
    | some r => s.entryAttr r.ring r.seq
    | none => { ptn := (s.srcPtn c.src).orElse fun _ => s.srcPtn c.dst }

/-! ## Queues (R443, R444) -/

/-- The queue of a port that a message enters (Table 15-2). -/
inductive QueueKind where
  | subscriber (stream : Nat)
  | forward
  | firmware
  | plain
  deriving DecidableEq, Repr

/-- The queues changed. -/
def Block.setShape (s : Block) (q : ShapeSt) : Block := { s with net := { s.net with shape := q } }

/-- The messages that wait in a port's own queues and in the service queues bound for it. -/
def Block.portQueue (s : Block) (p : Nat) : List Msg :=
  let q := s.net.shape
  ((q.svcs.filter fun e => decide (e.1 / 4 % 128 = p)).map (·.2)).flatten ++ Assoc.get [] p q.fwd
    ++ ((q.fw.filter fun e => decide (e.1 / 4 = p)).map (·.2)).flatten
    ++ ((q.dflt.filter fun e => decide (e.1 / 4 = p)).map (·.2)).flatten

/-- HELD of a link brought up to the cells that wait for it while it is not UP (R405, R454). -/
def Block.countHeld (s : Block) (p : Nat) : Block :=
  if p < 96 then s.setFld (F.PFL_HOLD_HELD p) (if s.linkUp p then 0 else min (s.portQueue p).length 65535) else s

/-- A subscriber's queue. -/
def Block.subQueue (s : Block) (st : Nat) : List Queued := Assoc.get [] st s.net.shape.subs

/-- A subscriber's queue replaced, with QUEUED. -/
def Block.setSubQueue (s : Block) (st : Nat) (q : List Queued) : Block :=
  (s.setShape { s.net.shape with subs := Assoc.put [] st q s.net.shape.subs }).setFld (F.SHP_SUB_STATUS_QUEUED st)
    (min q.length 255)

/-- Whether a subscriber holds SUB_DEPTH cells (R446). -/
def Block.subFull (s : Block) (st : Nat) : Bool := decide (s.fld F.SHP_CFG_SUB_DEPTH ≤ (s.subQueue st).length)

/-- A message put in a queue of a port. -/
def Block.enqueue (s : Block) (port cls : Nat) (k : QueueKind) (m : Msg) : Block :=
  let q := s.net.shape
  let add (key : Nat) (t : Assoc (List Msg)) : Assoc (List Msg) := Assoc.put [] key (Assoc.get [] key t ++ [m]) t
  match k with
  | .subscriber st => s.setSubQueue st (s.subQueue st ++ [{ port := port, cls := cls, msg := m }])
  | .forward => (s.setShape { q with fwd := add port q.fwd }).countHeld port
  | .firmware => (s.setShape { q with fw := add (4 * port + cls) q.fw }).countHeld port
  | .plain => (s.setShape { q with dflt := add (4 * port + cls) q.dflt }).countHeld port

/-- A cell created at this node, put in its queue; none where no port leads to its destination (R424). -/
def Block.sendCell (s : Block) (k : QueueKind) (c : Cell) : Option Block :=
  (s.route true c.dst c.src c.tag).map fun p => s.enqueue p c.cls k (.cell c none)

/-! ## Notify cells (R415, R419) -/

/-- The 32 bytes of a record (Tables 6-5, 9-3, 13-9).  A link record's FIRST_SEQ is `first`, and PARTNER and
PARTNER_INC are the low and high halves of `last`. -/
def Rec.bytes (r : Rec) : List Byte :=
  (match r.key with
  | .mem kind src =>
    leBytes 8 (kind * 2 ^ 56 + src.code * 2 ^ 52 + r.ptn * 2 ^ 47 + min r.count (2 ^ 32 - 1)) ++ leBytes 8 r.first
      ++ leBytes 8 r.last
  | .address src =>
    leBytes 8 (Config.addressKind % 256 * 2 ^ 56 + src.code * 2 ^ 52 + r.ptn * 2 ^ 47 + min r.count (2 ^ 32 - 1))
      ++ leBytes 8 r.first ++ leBytes 8 r.last
  | .gate kind port ld spid =>
    leBytes 8 (kind * 2 ^ 56 + port * 2 ^ 52 + ld * 2 ^ 48 + spid * 2 ^ 36 + r.ptn * 2 ^ 31 + min r.count (2 ^ 31 - 1))
      ++ leBytes 8 r.first ++ leBytes 8 r.last
  | .link kind link =>
    leBytes 8 (kind * 2 ^ 56 + link * 2 ^ 49 + r.ptn * 2 ^ 44 + r.first * 2 ^ 32 + min r.count (2 ^ 32 - 1))
      ++ leBytes 8 (r.last % 2 ^ 32) ++ leBytes 8 (r.last / 2 ^ 32 * 2 ^ 32)) ++ leBytes 8 r.time

/-- The payload of a NOTIFY cell (Table 14-3, R419). -/
def Notice.payload : Notice → List Byte
  | .ring r c => leBytes 8 (1 * 2 ^ 56 + r) ++ leBytes 8 c
  | .mailbox ch bits => leBytes 8 (2 * 2 ^ 56 + ch) ++ leBytes 8 bits
  | .faultQueue p n => leBytes 8 (3 * 2 ^ 56 + p) ++ leBytes 8 n
  | .error r => leBytes 8 (4 * 2 ^ 56) ++ List.replicate 24 0 ++ r.bytes
  | .burstOpen b slot resume total idle =>
    leBytes 8 (5 * 2 ^ 56 + b * 2 ^ 40 + slot * 2 ^ 36 + (if resume then 2 ^ 35 else 0)) ++ leBytes 8 total ++ leBytes 8 idle
  | .burstClose b slot complete n =>
    leBytes 8 (6 * 2 ^ 56 + b * 2 ^ 40 + slot * 2 ^ 36 + (if complete then 1 else 2) * 2 ^ 32) ++ leBytes 8 n

/-- A notify cell sent, if the pool has a node ID to send from (R420): through the subscriber of a stream, or a firmware
queue (Table 15-2); one that cannot be delivered is dropped (R123). -/
def Block.cellNotify (s : Block) (node : Nat) (n : Notice) (stream : Option Nat) : Block :=
  if !s.isSet F.PFR_NODE_VALID then s
  else
    let k := match stream with
      | some st => QueueKind.subscriber st
      | none => .firmware
    (s.sendCell k (mkCell node s.node clsReq kNotify 0 false n.payload)).getD (s.bump F.PFR_NO_ROUTE_COUNT)

end Sys2Proof.Machine
end

