-- ==== Sys2Proof/Machine/Records.lean ====
section
/-! DEFINITION.  Error records and their coalescing windows (R189): who is told of a memory fault, what is
sent at once and what when a window closes. -/

namespace Sys2Proof.Machine

/-- The KIND codes of Table 6-5. -/
def kindUncorrectable : Nat := 1
def kindCopyLost : Nat := 2
def kindTwinLost : Nat := 3
def kindWriteDropped : Nat := 4
def kindMirrorAccess : Nat := 5
def kindPartialOnPoison : Nat := 6

/-- The gates that are not OFF. -/
def Block.activeGates (s : Block) : List Nat :=
  (s.listed (R.HPT_GATE_BASE_LO 0) (R.HPT_GATE_BASE_LO 4096) 0x20 (R.HPT_GATE_STATE 0 - R.HPT_GATE_BASE_LO 0)).filter
    fun g => decide (s.fld (F.HPT_GATE_STATE_STATE g) ≠ 0)

/-- Whether a gate's range covers a DPA from `first` to `last`. -/
def Block.gateCovers (s : Block) (g first last : Nat) : Bool :=
  let lo := s.pair (R.HPT_GATE_BASE_LO g) (R.HPT_GATE_BASE_HI g)
  decide (lo ≤ last) && decide (first < lo + s.fld (F.HPT_GATE_BLOCKS_BLOCKS g) * 2 ^ 21)

/-- The logical device a gate names, as function number. -/
def Block.gateFn (s : Block) (g : Nat) : Nat :=
  s.fld (F.HPT_GATE_KEY_PORT g) * 16 + s.fld (F.HPT_GATE_KEY_LD g)

/-- The enabled source groups that have a context. -/
def Block.boundGroups (s : Block) : List Nat :=
  (s.listed (R.XLT_SRC_CTX 0) (R.XLT_SRC_CTX 256) 4 0).filter fun g => s.isSet (F.XLT_SRC_CTX_EN g)

/-- The lines from DPA `lo` to below `hi` that hold something other than a blank line, or lie in the cache. -/
def Block.listedLines (s : Block) (lo hi : Nat) : List Nat :=
  let stored := (s.mem.cells.map fun c => c.1 / 72).foldl
    (fun acc x => if acc.head? = some x then acc else x :: acc) []
  let dpas := stored.filterMap fun x =>
    let d := s.fld (F.DRC_STACK_ID_LOGICAL (x / linesPerStack)) * 2 ^ 37 + x % linesPerStack * 64
    if s.servingStack (lstackOf d) = some (x / linesPerStack) then some d else none
  (dpas ++ s.pool.cache.map (·.dpa)).filter fun d => decide (lo ≤ d) && decide (d < hi)

/-- The bytes of a line that holds data, in the cache or as stored. -/
def Block.storedBytes (s : Block) (l : Nat) : List Byte :=
  match s.pool.cache.find? fun c => decide (c.dpa = l) with
  | some c => c.val.bytes
  | none =>
    match (s.servingStack (lstackOf l)).map fun k => classify (s.mem.line k (lineIndex l)) with
    | some (.clean d) => ofSymbols d
    | some (.corrected d _) => ofSymbols d
    | _ => []

/-- The valid entries of a translation table of `n` entries, each with its place and the page it names, as the copy of
its twin that serves reads holds them (Tables 8-4, 8-5). -/
def Block.tableEntries (s : Block) (root n : Nat) : List (Nat × Nat) :=
  match s.twinOf root with
  | some (t, false) =>
    let lo := s.twinAddr t false (s.twinPrimary t) root
    ((s.listedLines (lineOf lo) (lo + 8 * n)).eraseDups.map fun l =>
      let bytes := s.storedBytes l
      (List.range 8).filterMap fun j =>
        let a := l + 8 * j
        let e := ofLeBytes ((bytes.drop (8 * j)).take 8)
        if lo ≤ a ∧ a < lo + 8 * n ∧ getBits e 63 63 = 1 then some ((a - lo) / 8, getBits e 51 12) else none).flatten
  | _ => []

/-- Whether a PAGED segment maps one of the pages from `first` to `last`. -/
def Block.pagedMaps (s : Block) (g : Segment) (first last : Nat) : Bool :=
  (s.tableEntries g.root ((g.pages + 511) / 512)).any fun d =>
    (s.tableEntries (d.2 * 4096) (min 512 (g.pages - 512 * d.1))).any fun p => decide (first ≤ p.2) && decide (p.2 ≤ last)

/-- Whether a context maps a page from DPA `first` to `last`: through a cached page translation, a RANGE segment, or the
tables of a PAGED one. -/
def Block.ctxMaps (s : Block) (ctx first last : Nat) : Bool :=
  let lo := first / 4096
  let hi := last / 4096
  (s.xlt.pages.any fun p => decide (p.ctx = ctx) && decide (lo ≤ p.frame) && decide (p.frame ≤ hi))
    || (Assoc.get {} ctx s.xlt.ctxs : CtxSt).segs.any fun g =>
        g.valid && !g.bad && !g.unusable
          && if g.range then decide (g.root / 4096 ≤ hi) && decide (lo < g.root / 4096 + g.pages) else s.pagedMaps g lo hi

/-- Every logical device and source group whose gates or contexts map a line from `first` to `last` (R189). -/
def Block.mappers (s : Block) (first last : Nat) : List Recipient :=
  (((s.activeGates.filter (s.gateCovers · first last)).map s.gateFn).eraseDups.map Recipient.ld)
    ++ ((s.boundGroups.filter fun g => s.ctxMaps (s.fld (F.XLT_SRC_CTX_CTX g)) first last).map Recipient.group)

/-- A record sent to one recipient: the fabric manager, a node by an error notify cell, a source group by one to the node
of its register.  A logical device takes it into its event log, and a full log sets
its overflow indication and counts the record dropped (R189). -/
def Block.deliver (s : Block) (dst : Recipient) (r : Rec) : Block :=
  match dst with
  | .ld fn =>
    let log : List Rec := Assoc.get [] fn s.host.eventLogs
    if log.length < Config.eventLogDepth then
      { s with host := { s.host with eventLogs := Assoc.put [] fn (log ++ [r]) s.host.eventLogs } }.emit
        (.record dst r)
    else
      ({ s with host := { s.host with
          overflowed := if s.host.overflowed.contains fn then s.host.overflowed
            else fn :: s.host.overflowed } } : Block).bump
        (match r.key with
         | .gate .. => F.HPT_RECORD_DROPPED_COUNT
         | _ => F.INT_RECORD_DROPPED_COUNT)
  | .fm => s.emit (.record .fm r)
  | .node n => s.cellNotify n (.error r) none
  | .group g => s.cellNotify (s.fld (F.PTN_SRC_GROUP_NODE g)) (.error r) none

/-- Whether an open window is the one for a key and recipient. -/
def RecWindow.isFor (w : RecWindow) (key : RecKey) (dst : Recipient) : Bool :=
  decide (w.key = key) && decide (w.recipient = dst)

/-- A window that has taken one more record, of `n` lines (R189). -/
def RecWindow.take (w : RecWindow) (ptn first last n : Nat) : RecWindow :=
  { w with
    ptn := if w.count = 0 then ptn else w.ptn
    first := if w.count = 0 then first else w.first
    last := last
    count := satAdd 32 w.count n }

/-- A record of `key` that covers `n` lines, for one recipient: sent at once, opening a window, or coalesced (R189). -/
def Block.recordTo (s : Block) (key : RecKey) (ptn first last n : Nat) (dst : Recipient) : Block :=
  if s.pool.records.any (·.isFor key dst) then
    { s with pool := { s.pool with
        records := s.pool.records.map fun w => if w.isFor key dst then w.take ptn first last n else w } }
  else
    ({ s with pool := { s.pool with
        records := s.pool.records ++ [{ key := key, recipient := dst, ptn := ptn }] } } : Block).deliver dst
      { key := key, ptn := ptn, count := min n (2 ^ 32 - 1), first := first, last := last, time := s.now }

/-- The requester's own copy of a record, if it takes one (R189). -/
def requesterRecipient : Requester → Option Recipient
  | .host fn => some (.ld fn)
  | .node n => some (.node n)
  | .engine _ => none
  | .firmware => none

/-- A record of `key` about `n` lines of partition `ptn` (R189): to the fabric manager, and to the requester or, with none,
to everyone who maps one of them. -/
def Block.tell (s : Block) (key : RecKey) (q : Option Requester) (ptn first last n : Nat) : Block :=
  let others := match q with
    | some r => (requesterRecipient r).toList
    | none => s.mappers first last
  forEach (.fm :: others) (fun r t => t.recordTo key ptn (lineOf first) (lineOf last) n r) (s.bump F.INT_RECORD_COUNT_COUNT n)

/-- A memory error record raised about a line of partition `ptn` (R189). -/
def Block.raiseFor (s : Block) (kind : Nat) (src : RecSource) (q : Option Requester) (ptn dpa : Nat) : Block :=
  s.tell (.mem kind src) q ptn dpa dpa 1

/-- A memory error record raised about a DRAM line, for its owner. -/
def Block.raise (s : Block) (kind : Nat) (src : RecSource) (q : Option Requester) (dpa : Nat) : Block :=
  s.raiseFor kind src q ((s.ownerOf dpa).getD 0) dpa

/-- A memory error record raised about `n` DRAM lines at once, for the owner of the first (R189). -/
def Block.raiseSpan (s : Block) (kind : Nat) (src : RecSource) (q : Option Requester) (first last n : Nat) : Block :=
  if n = 0 then s else s.tell (.mem kind src) q ((s.ownerOf first).getD 0) first last n

/-- An access to a DPA in neither range: an error record of its own, with no owner (R11). -/
def Block.addressRecord (s : Block) (q : Requester) (dpa : Nat) : Block := s.tell (.address .demand) (some q) 0 dpa dpa 1

/-- An access to a DPA in neither range completes with an address error and an error record (R11). -/
def Block.addressError (s : Block) (q : Requester) (dpa : Nat) : Block := (s.addressRecord q dpa).emit (.addressError q dpa)

/-- A coalescing window closes: the coalesced record is sent, if the window received any (R189). -/
def Block.closeWindow (s : Block) (key : RecKey) (dst : Recipient) : Block :=
  match s.pool.records.find? (·.isFor key dst) with
  | none => s
  | some w =>
    let s1 : Block := { s with pool := { s.pool with
      records := s.pool.records.filter fun w => !w.isFor key dst } }
    if w.count = 0 then s1
    else s1.deliver dst
      { key := key, ptn := w.ptn, count := w.count, first := w.first, last := w.last, time := s.now }

end Sys2Proof.Machine
end

