-- ==== Sys2Proof/Machine/Pool.lean ====
section
/-! DEFINITION.  Reads and writes of pool lines: the line code's classes and what each does (R181–R185,
R195, R197–R199), injection (R209), twins (R202–R206), spares under copy-in (R173–R175), the cave copy of
a frame (R226), the pool cache's part (R183, R214). -/

namespace Sys2Proof.Machine

/-- Whether the armed injection meets a write to `dpa` (R209). -/
def Block.injectionAt (s : Block) (dpa : Nat) : Bool :=
  s.isSet F.INT_INJECT_CTRL_ARM
    && decide (lineOf (s.pair R.INT_INJECT_DPA_LO R.INT_INJECT_DPA_HI) = lineOf dpa)

/-- A line as the armed injection alters it: poison, or COUNT symbols from POS XORed with VALUE (R209). -/
def Block.injected (s : Block) (syms : List Nat) : List Nat :=
  if s.fld F.INT_INJECT_CTRL_MODE = 2 then poisonOver (syms.take 64)
  else
    let pos := s.fld F.INT_INJECT_CTRL_POS
    (List.range 72).map fun j =>
      if pos ≤ j ∧ j < pos + s.fld F.INT_INJECT_CTRL_COUNT
      then syms.getD j 0 ^^^ s.fld F.INT_INJECT_CTRL_VALUE else syms.getD j 0

/-- Whether a rank 8 access is a write. -/
def BackReq.writes (b : BackReq) : Bool := decide (b.work ≠ .reRead)

/-- The rank 8 writes to a line that wait at a stack dropped, since another write to it has come (R184, R185). -/
def Block.dropBack (s : Block) (stk dpa : Nat) : Block :=
  let stale (b : BackReq) : Bool := b.writes && decide (b.dpa = dpa)
  forEach ((s.pool.pcs.filter fun e => decide (e.1 / 64 = stk) && e.2.back.any stale).map (·.1))
    (fun k t => t.setPc k { t.pc k with back := (t.pc k).back.filter fun b => !stale b }) s

/-- A rank 8 access queued at a line's scheduler; a write replaces one that waits for the same line (R184, R185). -/
def Block.queueBack (s : Block) (stk dpa : Nat) (src : RecSource) (w : BackWork) : Block :=
  let b : BackReq := { dpa := dpa, src := src, work := w }
  let s1 := if b.writes then s.dropBack stk dpa else s
  let k := pcKey stk (s.locOf stk dpa).pc
  s1.setPc k { s1.pc k with back := (s1.pc k).back ++ [b] }

/-- 72 symbols put in line `dpa` of a physical stack, as an injection armed there alters them (R209). -/
def Block.putLine (s : Block) (stk dpa : Nat) (syms : List Nat) : Block :=
  if s.injectionAt dpa then
    ({ s with mem := s.mem.setLine stk (lineIndex dpa) (s.injected syms) } : Block).setFld F.INT_INJECT_CTRL_ARM 0
  else { s with mem := s.mem.setLine stk (lineIndex dpa) syms }

/-- 72 symbols stored as line `dpa` of a physical stack: what waited at rank 8 to write the line is dropped (R184, R185). -/
def Block.store (s : Block) (stk dpa : Nat) (syms : List Nat) : Block := (s.dropBack stk dpa).putLine stk dpa syms

/-- The class of a line as stored in a physical stack. -/
def Block.classOn (s : Block) (stk dpa : Nat) : LineClass := classify (s.mem.line stk (lineIndex dpa))

/-- Whether a stack's line can be reached: a home reaches the stack, and the line lies on no FAILED pseudo-channel of a
FAILED stack (R488, R500). -/
def Block.lineReached (s : Block) (stk dpa : Nat) : Bool :=
  s.reachable stk
    && !(decide (s.role stk = roleFailed) && s.isSet (F.DRC_PC_STATE_FAILED stk (s.locOf stk dpa).pc))

/-- The stack that serves a DPA, if the line can be reached there. -/
def Block.reachedStack (s : Block) (dpa : Nat) : Option Nat :=
  match s.servingStack (lstackOf dpa) with
  | some stk => if s.lineReached stk dpa then some stk else none
  | none => none

/-- A line as read from the stack that serves it: none while it cannot be reached there. -/
def Block.rawRead (s : Block) (dpa : Nat) : Option (Nat × LineClass) :=
  (s.reachedStack dpa).map fun stk => (stk, s.classOn stk dpa)

/-- What a class supplies: data, poison, or nothing. -/
def LineClass.supplies : LineClass → Option LineVal
  | .clean d => some (.data (ofSymbols d))
  | .corrected d _ => some (.data (ofSymbols d))
  | .poison _ => some .poison
  | .vacant _ => none
  | .uncorrectable => none

/-- What the stored line of a DPA supplies. -/
def Block.copyVal (s : Block) (dpa : Nat) : Option LineVal := (s.rawRead dpa).bind fun r => r.2.supplies

/-- A partition's current cave key (R230). -/
def Block.caveKey (s : Block) (ptn : Nat) : Nat := Assoc.get 0 ptn s.pool.keyGen

/-- The XTS tweak of a partition's cave page: its partition ID above its page number (R230). -/
def caveTweak (ptn page : Nat) : Nat := ptn % 32 * 2 ^ 36 + page % 2 ^ 36

/-- Whether a place of a stripe can be read or written: a target in use and not failed, of a channel in service on a die in
service (R222–R224). -/
def Block.targetServes (s : Block) (m : Nat × Nat) : Bool :=
  decide (s.fld (F.TIR_CH_STATUS_STATE m.1) = 2) && s.dieServing (m.1 / 8)
    && decide (getBits (s.fld (F.TIR_CH_STATUS_TGT_FITTED m.1)) m.2 m.2 = 1)
    && decide (getBits (s.fld (F.TIR_CH_STATUS_TGT_FAILED m.1)) m.2 m.2 = 0)

/-- The places of a page's stripe that cannot be read now. -/
def Block.stripeOut (s : Block) (p : CavePage) : List (Nat × Nat) := p.stripe.filter fun m => !s.targetServes m

/-- Whether a page can be read: its own place serves, or it can be rebuilt from every other place of its stripe (R224). -/
def Block.pageReadable (s : Block) (p : CavePage) : Bool :=
  decide ((s.stripeOut p).length ≤ 1) || p.stripe.head?.all s.targetServes

/-- A page on flash, if it was written, and its key and tweak still open it (R225, R230). -/
def Block.cavePage (s : Block) (page : Nat) : Option CavePage :=
  (s.pool.cave.find? fun e => decide (e.1 = page)).bind fun e =>
    if s.caveKey e.2.ptn = e.2.keyGen ∧ e.2.tweak = caveTweak e.2.ptn page then some e.2 else none

/-- The current cave copy of a DRAM line: its frame's page is valid and not dirty (R226). -/
def Block.caveCopy (s : Block) (dpa : Nat) : Option LineVal :=
  let f := s.frame (tierBlockOf dpa)
  let i := dpa / 4096 % 512
  match f.block with
  | none => none
  | some b =>
    if f.valid.contains i && !f.dirty.contains i then
      ((s.cavePage (b * 512 + i)).filter s.pageReadable).map fun p => p.lines.getD (dpa / 64 % 64) .poison
    else none

/-- The stack that a spare under copy-in replaces (R175). -/
def Block.oldStackOf (s : Block) (stk : Nat) : Option Nat :=
  (List.range 18).find? fun o =>
    decide (s.role o = roleCopyOut)
      && decide (s.fld (F.DRC_STACK_ID_LOGICAL o) = s.fld (F.DRC_STACK_ID_LOGICAL stk))

/-- What fills a vacant line of a spare under copy-in: the first source of Table 5-9 that can supply it. -/
def Block.copyInVal (s : Block) (stk dpa : Nat) : Option LineVal :=
  match s.twinOf dpa with
  | some (t, b) =>
    match s.copyVal (s.twinAddr t b (!b) dpa) with
    | some v => some v
    | none => s.caveCopy dpa
  | none =>
    match (s.oldStackOf stk).bind fun o =>
        if s.reachable o then (s.classOn o dpa).supplies else none with
    | some v => some v
    | none => s.caveCopy dpa

/-- Whether a twin's other copy holds the line: always in SYNCED, and what the walk has passed in SYNCING and
RESYNC (R206). -/
def Block.otherCopyHolds (s : Block) (t dpa : Nat) : Bool :=
  let st := s.fld (F.INT_TWIN_STATE_STATE t)
  decide (st = twSynced)
    || (decide (st = twSyncing ∨ st = twResync)
        && decide ((dpa - s.twinStart t false) / 64 < (s.twin t).walked))

/-- What a twin's other copy supplies for the copy-A line `dpa`. -/
def Block.twinOther (s : Block) (t dpa : Nat) : Option LineVal :=
  if s.otherCopyHolds t dpa then s.copyVal (s.twinAddr t false (!s.twinPrimary t) dpa) else none

/-- What another source supplies for a stored line: its twin's other copy, else the cave copy (R185). -/
def Block.altFor (s : Block) (dpa : Nat) : Option LineVal :=
  match s.twinOf dpa with
  | some (t, b) =>
    let a := s.twinAddr t b false dpa
    if s.otherCopyHolds t a then
      match s.copyVal (s.twinAddr t b (!b) dpa) with
      | some v => some v
      | none => s.caveCopy a
    else s.caveCopy a
  | none => s.caveCopy dpa

/-- The primary's value of a line that lies in a twin's standby, with the twin (R203). -/
def Block.primaryFor (s : Block) (dpa : Nat) : Option (Nat × LineVal) :=
  match s.twinOf dpa with
  | some (t, b) =>
    if b != s.twinPrimary t && s.otherCopyHolds t (s.twinAddr t b false dpa) then
      (s.copyVal (s.twinAddr t b (!b) dpa)).map fun v => (t, v)
    else none
  | none => none

/-- The value of an ordinary line: its stored class, the copy-in sources, the cave copy, or poison
(R173, R175, R185, R500). -/
def Block.plainVal (s : Block) (dpa : Nat) : LineVal :=
  match s.rawRead dpa with
  | none => (s.caveCopy dpa).getD .poison
  | some (stk, .vacant _) =>
    if s.role stk = roleCopyIn then (s.copyInVal stk dpa).getD .poison else .poison
  | some (_, c) =>
    match c.supplies with
    | some v => v
    | none => (s.caveCopy dpa).getD .poison

/-- The value of a twin line, addressed in copy A (Table 6-10, R185, R203). -/
def Block.twinVal (s : Block) (t dpa : Nat) : LineVal :=
  if s.fld (F.INT_TWIN_STATE_STATE t) = twLost then .poison
  else
    match s.copyVal (s.twinAddr t false (s.twinPrimary t) dpa) with
    | some v => v
    | none =>
      match s.twinOther t dpa with
      | some v => v
      | none => (s.caveCopy dpa).getD .poison

/-- A cached line. -/
def Block.cached (s : Block) (dpa : Nat) : Option CacheLine :=
  s.pool.cache.find? fun c => decide (c.dpa = lineOf dpa)

/-- The value of a DRAM line as DRAM would return it. -/
def Block.dramVal (s : Block) (dpa : Nat) : LineVal :=
  match s.twinOf dpa with
  | some (_, true) => .poison
  | some (t, false) => s.twinVal t dpa
  | none => s.plainVal dpa

/-- The value of a DRAM line as a requester's read returns it (R29, R183). -/
def Block.lineVal (s : Block) (dpa : Nat) : LineVal :=
  match s.cached dpa with
  | some c => c.val
  | none => s.dramVal (lineOf dpa)

/-- A corrected read of a stack watched: the health event when more than CE_RATE_H have come within 1 h (Table 6-8). -/
def Block.countHour (s : Block) (stk : Nat) : Block :=
  let st := s.stk stk
  let most := s.fld F.INT_CE_THRESH_CE_RATE_H
  let recent := st.ceTimes.filter fun t => decide (s.now < t + 3600000000)
  let times := recent ++ [s.now]
  (s.setStk stk { st with ceTimes := times.drop (times.length - (most + 1)) }).when
    (decide (recent.length ≤ most ∧ most < times.length)) fun t => t.health (.ceRate stk)

/-- The pins both of whose symbols are bad (Tables 6-1, 6-8). -/
def wholePins (bad : List BadSymbol) : List Nat :=
  let pos := bad.map (·.1)
  (List.range 36).filter fun q => pos.contains (2 * q) && pos.contains (2 * q + 1)

/-- A full recalibration asked for at once, as if PERIOD_MS had elapsed (R165, Table 6-8). -/
def Block.wantRecal (s : Block) (k : Nat) : Block :=
  let p := s.pc k
  if p.slicesDue = 0 then s.setPc k { p with slicesDue := 6 } else s

/-- The pin watch of Table 6-8: a pin both of whose symbols were corrected becomes suspect, and PIN_ROWS
distinct rows within 1 h start a full recalibration. -/
def Block.watchPins (s : Block) (loc : LineLoc) (bad : List BadSymbol) : Block :=
  forEach (wholePins bad) (fun pin t =>
    let hit : PinRow := { stack := loc.stack, pc := loc.pc, pin := pin, bank := loc.bank, row := loc.row, time := t.now }
    let same (r : PinRow) := decide (r.stack = loc.stack ∧ r.pc = loc.pc ∧ r.pin = pin)
    let rows := (t.pool.pinRows.filter fun r => !(same r && decide (r.bank = loc.bank ∧ r.row = loc.row))) ++ [hit]
    let recent := rows.filter fun r => same r && decide (t.now < r.time + 3600000000)
    let sus := (loc.stack, loc.pc, pin)
    ({ t with pool := { t.pool with
        pinRows := rows
        suspectPins := if t.pool.suspectPins.contains sus then t.pool.suspectPins
          else sus :: t.pool.suspectPins } } : Block).when
      (decide (t.fld F.INT_CE_THRESH_PIN_ROWS ≤ recent.length))
      fun u => u.wantRecal (loc.stack * 64 + loc.pc)) s

/-- The entry of a stack's correctable-error log that holds a line (R198). -/
def Block.logEntryOf (s : Block) (stk dpa : Nat) : Option Nat :=
  (List.range 64).find? fun e =>
    decide (s.fld (F.INT_S_LOG_SYM_NSYM stk e) ≠ 0)
      && decide (lineOf (s.pair (R.INT_S_LOG_DPA_LO stk e)
            (R.INT_S_LOG_DPA_HI stk e) % 2 ^ 52) = dpa)

/-- The symbol fields and time of a log entry, from the latest correction (R198). -/
def Block.logSymbols (s : Block) (stk e : Nat) (bad : List BadSymbol) : Block :=
  let p (i : Nat) := ((bad.map (·.1))[i]?).getD 0x7F
  ((((s.setFld (F.INT_S_LOG_SYM_NSYM stk e) bad.length).setFld (F.INT_S_LOG_SYM_POS0 stk e) (p 0)).setFld
    (F.INT_S_LOG_SYM_POS1 stk e) (p 1)).setFld (F.INT_S_LOG_SYM_POS2 stk e) (p 2)).setPair
    (R.INT_S_LOG_TIME_LO stk e) (R.INT_S_LOG_TIME_HI stk e) s.now

/-- Hard lines that the log no longer holds forgotten (R199). -/
def Block.forgetHard (s : Block) (p : HardLine → Bool) : Block :=
  { s with pool := { s.pool with hardLines := s.pool.hardLines.filter fun h => !p h } }

/-- A corrected read entered in its stack's log (R198); the entry used is answered too. -/
def Block.logCorrected (s : Block) (src : RecSource) (loc : LineLoc) (dpa : Nat) (bad : List BadSymbol) :
    Nat × Block :=
  let stk := loc.stack
  match s.logEntryOf stk dpa with
  | some e => (e, (s.bump (F.INT_S_LOG_SYM_REPEAT stk e)).logSymbols stk e bad)
  | none =>
    let e := s.fld (F.INT_S_LOG_STATUS_HEAD stk)
    let full := decide (s.fld (F.INT_S_LOG_STATUS_USED stk) = 64)
    let old := s.pair (R.INT_S_LOG_DPA_LO stk e) (R.INT_S_LOG_DPA_HI stk e) % 2 ^ 52
    let s1 := if full then (s.forgetHard fun h => decide (h.stack = stk ∧ h.dpa = old)).bump (F.INT_S_LOG_STATUS_WRAPS stk)
      else s.bump (F.INT_S_LOG_STATUS_USED stk)
    let s2 := s1.setFld (F.INT_S_LOG_STATUS_HEAD stk) ((e + 1) % 64)
    let s3 := (s2.setReg (R.INT_S_LOG_DPA_LO stk e) (BitVec.ofNat 32 dpa)).setReg
      (R.INT_S_LOG_DPA_HI stk e) (BitVec.ofNat 32 (src.code * 2 ^ 28 + dpa / 2 ^ 32))
    let s4 := s3.setReg (R.INT_S_LOG_LOC stk e)
      (BitVec.ofNat 32 (loc.pc * 2 ^ 26 + loc.bank * 2 ^ 20 + loc.row * 2 ^ 5 + loc.col * 2))
    (e, (s4.setReg (R.INT_S_LOG_SYM stk e) 0).logSymbols stk e bad)

/-- Firmware's soft row repair is asked for when HARD_ROW lines of a row are hard, or one with two counted
symbols; symbols on suspect pins do not count (Table 6-8). -/
def Block.checkHardRow (s : Block) (loc : LineLoc) : Block :=
  let counted (h : HardLine) := h.pins.filter fun p => !s.pool.suspectPins.contains (h.stack, h.pc, p)
  let row := s.pool.hardLines.filter fun h =>
    decide (h.stack = loc.stack ∧ h.pc = loc.pc ∧ h.bank = loc.bank ∧ h.row = loc.row)
      && decide (counted h ≠ [])
  s.when (decide (s.fld F.INT_CE_THRESH_HARD_ROW ≤ row.length)
      || row.any fun h => decide (2 ≤ (counted h).length))
    fun t => t.emit (.wantsRepair loc.stack loc.pc loc.bank loc.row)

/-- A line found hard (R184): marked in its log entry and watched. -/
def Block.noteHard (s : Block) (loc : LineLoc) (e dpa : Nat) (bad : List BadSymbol) : Block :=
  let h : HardLine := { dpa := dpa, stack := loc.stack, pc := loc.pc, bank := loc.bank, row := loc.row,
                        pins := bad.map fun b => b.1 / 2 }
  ({ s with pool := { s.pool with
      hardLines := h :: s.pool.hardLines.filter fun x => decide (x.dpa ≠ dpa) } } : Block).setFld
      (F.INT_S_LOG_LOC_HARD loc.stack e) 1 |>.checkHardRow loc

/-- A CORRECTED read counted, watched and logged (R197–R199); the log entry used is answered too. -/
def Block.countCorrected (s : Block) (src : RecSource) (stk dpa : Nat) (bad : List BadSymbol) : Nat × Block :=
  let loc := s.locOf stk dpa
  (((s.bump (F.INT_S_CE_COUNT_COUNT stk)).countHour stk).watchPins loc bad).logCorrected src loc dpa bad

/-- The effects of a CORRECTED read (R184, R197–R199): counted and logged, the corrected line queued to be written back;
a twin's standby line is rewritten from the primary (R203). -/
def Block.noteCorrected (s : Block) (src : RecSource) (stk dpa : Nat) (data : List Nat)
    (bad : List BadSymbol) : Block :=
  let s1 := (s.countCorrected src stk dpa bad).2
  match s1.primaryFor dpa with
  | some (t, v) => (s1.queueBack stk dpa src (.writeBack v.symbols)).bump (F.INT_TWIN_STANDBY_CE_COUNT t)
  | none => s1.queueBack stk dpa src (.writeBack (rsEncode data))

/-- A line rewritten after an uncorrectable read is watched for its next read (Table 6-8). -/
def Block.watchRewritten (s : Block) (stk dpa : Nat) (bad : Bool) : Block :=
  if s.pool.ueRewritten.contains dpa then
    let loc := s.locOf stk dpa
    ({ s with pool := { s.pool with ueRewritten := s.pool.ueRewritten.filter (· ≠ dpa) } } : Block).when bad
      fun t => t.emit (.wantsRepair loc.stack loc.pc loc.bank loc.row)
  else s

/-- The effects of an UNCORRECTABLE read (R185): to be rewritten from `alt` when another source supplies it, else as
poison over the data as read, and recorded; a standby line rewritten counts (R203). -/
def Block.noteUncorrectable (s : Block) (src : RecSource) (q : Option Requester) (stk dpa : Nat)
    (alt : Option LineVal) : Block :=
  let s1 := s.bump (F.INT_S_UE_COUNT_COUNT stk)
  match alt with
  | some v =>
    let s2 := s1.queueBack stk dpa src (.source v.symbols)
    match s.primaryFor dpa with
    | some (t, _) => s2.bump (F.INT_TWIN_STANDBY_CE_COUNT t)
    | none => s2
  | none =>
    (s1.queueBack stk dpa src (.poison ((s.mem.line stk (lineIndex dpa)).take 64))).raise kindUncorrectable src q dpa

/-- The effects of reading one line as a stack stores it (Tables 6-2, 6-8, R195): `alt` is what another source of R185
supplies. -/
def Block.noteReadOn (s : Block) (src : RecSource) (q : Option Requester) (stk dpa : Nat) (alt : Option LineVal) : Block :=
  match s.classOn stk dpa with
  | .clean _ | .poison false | .vacant false => s.watchRewritten stk dpa false
  | .poison true => (s.watchRewritten stk dpa false).queueBack stk dpa src (.clean (zeroLine maskK))
  | .vacant true => (s.watchRewritten stk dpa false).queueBack stk dpa src (.clean (zeroLine maskV))
  | .corrected d bad => (s.watchRewritten stk dpa true).noteCorrected src stk dpa d bad
  | .uncorrectable => (s.watchRewritten stk dpa true).noteUncorrectable src q stk dpa alt

/-- The effects of reading a line at the stack that serves it. -/
def Block.noteRead (s : Block) (src : RecSource) (q : Option Requester) (dpa : Nat) (alt : Option LineVal) : Block :=
  match s.reachedStack dpa with
  | none => s
  | some stk => s.noteReadOn src q stk dpa alt

/-- Whether a line is vacant in a spare under copy-in. -/
def Block.vacantInCopy (s : Block) (dpa : Nat) : Option Nat :=
  match s.rawRead dpa with
  | some (stk, .vacant _) => if s.role stk = roleCopyIn then some stk else none
  | _ => none

/-- The read of a copy-in source counted (R197, R198): a corrected line is written back where it lies, an
uncorrectable one only counts, since Table 5-9 says what follows. -/
def Block.noteSource (s : Block) (src : RecSource) (stk dpa : Nat) : Block :=
  match s.classOn stk dpa with
  | .corrected d bad => s.noteCorrected src stk dpa d bad
  | .uncorrectable => s.bump (F.INT_S_UE_COUNT_COUNT stk)
  | .clean _ | .poison _ | .vacant _ => s

/-- The stack and line that a vacant line of a spare under copy-in is read from first (Table 5-9, orders 1 and 2). -/
def Block.copyInSource (s : Block) (stk dpa : Nat) : Option (Nat × Nat) :=
  match s.twinOf dpa with
  | some (t, b) =>
    let o := s.twinAddr t b (!b) dpa
    (s.reachedStack o).map fun k => (k, o)
  | none => (s.oldStackOf stk).bind fun k => if s.reachable k then some (k, dpa) else none

/-- A vacant line of a spare under copy-in filled from Table 5-9, or poisoned, counted and recorded. -/
def Block.fillVacant (s0 : Block) (src : RecSource) (q : Option Requester) (stk dpa : Nat) : Block :=
  let s := match s0.copyInSource stk dpa with
    | some (k, d) => s0.noteSource src k d
    | none => s0
  match s0.copyInVal stk dpa with
  | some v => s.store stk dpa v.symbols
  | none =>
    ((s.store stk dpa (zeroLine maskK)).bump (F.DRC_COPY_LOST_COUNT stk)).raise kindCopyLost src q dpa

/-- The effects of a requester's read of a line that DRAM serves. -/
def Block.noteDramRead (s : Block) (q : Requester) (dpa : Nat) : Block :=
  match s.twinOf dpa with
  | some (_, true) => s.raise kindMirrorAccess .demand (some q) dpa
  | some (t, false) =>
    if s.fld (F.INT_TWIN_STATE_STATE t) = twLost then s
    else
      let p := s.twinAddr t false (s.twinPrimary t) dpa
      let o := s.twinAddr t false (!s.twinPrimary t) dpa
      match s.vacantInCopy p with
      | some stk => s.fillVacant .demand (some q) stk p
      | none =>
        let s1 := s.noteRead .demand (some q) p (s.altFor p)
        if (s.copyVal p).isNone && s.otherCopyHolds t dpa then s1.noteRead .demand (some q) o (s.altFor o) else s1
  | none =>
    match s.vacantInCopy dpa with
    | some stk => s.fillVacant .demand (some q) stk dpa
    | none => s.noteRead .demand (some q) dpa (s.caveCopy dpa)

/-- A requester's read of a DRAM line: its value, and the state after the read. -/
def Block.readLine (s : Block) (q : Requester) (dpa : Nat) : LineVal × Block :=
  let v := s.lineVal dpa
  let s1 := if (s.cached dpa).isSome then s else s.noteDramRead q (lineOf dpa)
  (v, s1.when v.isPoison fun t => t.bump F.INT_POISON_READS_COUNT)

/-- An access looks a line up in its home slice: a hit or a miss (Table 18-1). -/
def Block.lookUp (s : Block) (q : Requester) (dpa : Nat) : Block :=
  s.event 4 (if (s.cached dpa).isSome then 0 else 1) (s.accessAttr q dpa)

/-- A full line written to a stored copy, if a home reaches its stack. -/
def Block.storeCopy (s : Block) (dpa : Nat) (v : LineVal) : Block :=
  match s.reachedStack dpa with
  | some stk => s.store stk dpa v.symbols
  | none => s

/-- Lines from `lo` up to `hi` have been written as poison: an injection armed at one of them alters it (R209). -/
def Block.injectWithin (s : Block) (lo hi : Nat) : Block :=
  let d := lineOf (s.pair R.INT_INJECT_DPA_LO R.INT_INJECT_DPA_HI)
  if s.isSet F.INT_INJECT_CTRL_ARM ∧ lo ≤ d ∧ d < hi then s.storeCopy d .poison else s

/-- A full line written to DRAM: to both copies of a twin in order, to the remaining copy in DEGRADED
(R202, R206); dropped and recorded in a MIRROR range, in LOST, and where no home reaches the stack
(R174, R204). -/
def Block.writeDram (s : Block) (q : Option Requester) (dpa : Nat) (v : LineVal) : Block :=
  match s.twinOf dpa with
  | some (_, true) => s.raise kindMirrorAccess .demand q dpa
  | some (t, false) =>
    let st := s.fld (F.INT_TWIN_STATE_STATE t)
    if st = twLost then s.raise kindWriteDropped .demand q dpa
    else if st = twDegraded then s.storeCopy (s.twinAddr t false (s.twinPrimary t) dpa) v
    else (s.storeCopy dpa v).storeCopy (s.twinAddr t false true dpa) v
  | none =>
    match s.reachedStack dpa with
    | some stk => s.store stk dpa v.symbols
    | none => s.raise kindWriteDropped .demand q dpa

/-- The cached lines that satisfy `p` written to DRAM where dirty, and dropped or kept clean (R214). -/
def Block.flushCache (s : Block) (p : CacheLine → Bool) (keep : Bool) : Block :=
  let s1 := forEach (s.pool.cache.filter fun c => p c && c.dirty)
    (fun c t => (t.writeDram none c.dpa c.val).event 4 2 (t.workAttr c.ptn)) s
  { s1 with pool := { s1.pool with
      cache := if keep then s1.pool.cache.map fun c => if p c then { c with dirty := false } else c
        else s1.pool.cache.filter fun c => !p c } }

/-- Lines that a stack's write shadow holds: 16 MiB (R489). -/
def shadowLines : Nat := 262144

/-- Room made in the write shadow of a line's stack before the line turns dirty: a full shadow's oldest dirty line is written
back (R489). -/
def Block.shadowRoom (s : Block) (dpa : Nat) : Block :=
  let mine := s.pool.cache.filter fun c => c.dirty && decide (lstackOf c.dpa = lstackOf dpa)
  if mine.length < shadowLines then s
  else
    match mine with
    | [] => s
    | x :: xs =>
      let old := xs.foldl (fun a c => if c.turned < a.turned then c else a) x
      s.flushCache (fun c => decide (c.dpa = old.dpa)) true

/-- A cached line given a new value; one that turns dirty takes its place in the write shadow (R489). -/
def Block.setCached (s0 : Block) (dpa : Nat) (v : LineVal) (dirty : Bool) : Block :=
  let l := lineOf dpa
  let turns := dirty && s0.pool.cache.any fun c => decide (c.dpa = l) && !c.dirty
  let s := if turns then s0.shadowRoom l else s0
  let n := if turns then s.pool.turnedDirty + 1 else s.pool.turnedDirty
  { s with pool := { s.pool with
      turnedDirty := n
      cache := s.pool.cache.map fun c =>
        if c.dpa = l then { c with val := v, dirty := dirty, turned := if turns then n else c.turned } else c } }

/-- The dirty bit of a written frame page is set; a write-back of the page that copied before this write
leaves it dirty (R228, R229). -/
def Block.dirtyFrame (s : Block) (dpa : Nat) : Block :=
  let b := tierBlockOf dpa
  let f := s.frame b
  let i := dpa / 4096 % 512
  if f.block.isSome then
    s.setFrame b { f with
      dirty := if f.dirty.contains i then f.dirty else i :: f.dirty
      dirtyAt := if f.dirty.contains i then f.dirtyAt else Assoc.ins i s.now f.dirtyAt
      ref := true
      writing := f.writing.map fun w => if w.page = i then { w with clean := false } else w }
  else s

/-- A host or Pefin write to a watched doorbell line marks its ring pending; a wake already pending takes it in
(R108). -/
def Block.ringAt (s : Block) (dpa : Nat) : Option Nat :=
  (s.ctl.rings.find? fun e => e.2.armed
    && decide (s.pair (R.RNG_CPL_LO e.1) (R.RNG_CPL_HI e.1) / 4096 * 4096 = lineOf dpa)).map (·.1)

/-- A ring's machine part. -/
def Block.ring (s : Block) (r : Nat) : RingSt := Assoc.get {} r s.ctl.rings

/-- A ring's machine part replaced. -/
def Block.setRing (s : Block) (r : Nat) (v : RingSt) : Block :=
  { s with ctl := { s.ctl with rings := Assoc.put {} r v s.ctl.rings } }

/-- A watch hit (R108): a wake, unless the ring is pending already; its place among the wakes decides who gets the next free
logbook entry (R115). -/
def Block.watchHit (s : Block) (dpa : Nat) : Block :=
  match s.ringAt dpa with
  | some r =>
    if (s.ring r).pending ∨ s.ctl.waiting.contains r then s.setRing r { s.ring r with pending := true }
    else
      let n := s.ctl.wakes + 1
      ({ s with ctl := { s.ctl with wakes := n } } : Block).setRing r { s.ring r with pending := true, woke := n }
  | none => s

/-- What a requester's write to a line does beside storing it: a frame page becomes dirty, and a host's or node's write to a
watched line marks its ring pending (R108, R228). -/
def Block.noteWrite (s : Block) (q : Requester) (l : Nat) : Block :=
  match q with
  | .host _ | .node _ => (s.dirtyFrame l).watchHit l
  | .engine _ | .firmware => s.dirtyFrame l

/-- Whether a write to a DRAM line is dropped: a MIRROR range, a twin in LOST, a line that cannot be reached and is not
cached (R174, R204, R206, R488). -/
def Block.dropsWrite (s : Block) (l : Nat) : Bool :=
  match s.twinOf l with
  | some (_, true) => true
  | some (t, false) => decide (s.fld (F.INT_TWIN_STATE_STATE t) = twLost)
  | none => (s.cached l).isNone && (s.reachedStack l).isNone

/-- A requester's full-line write: in place on a cache hit, written through for a twin line, else to DRAM
(R202, R213, R214). -/
def Block.writeLine (s : Block) (q : Requester) (dpa : Nat) (v : LineVal) : Block :=
  let l := lineOf dpa
  let s1 := if s.dropsWrite l then s else s.noteWrite q l
  match s1.cached l with
  | none => s1.writeDram (some q) l v
  | some _ =>
    if (s1.twinOf l).isSome then (s1.setCached l v false).writeDram (some q) l v else s1.setCached l v true

/-- The bytes of a line with the masked ones replaced. -/
def mergeBytes (old : List Byte) (mask : List Bool) (new : List Byte) : List Byte :=
  (List.range 64).map fun j => if mask.getD j false then new.getD j 0 else old.getD j 0

/-- Whether a write mask covers the whole line. -/
def fullMask (mask : List Bool) : Bool := (List.range 64).all fun j => mask.getD j false

/-- A requester's write of the masked bytes of a line (R153, R183, Table 6-4): a full write replaces the
line, poison included; a partial write merges, and leaves a poisoned line poisoned; a write that carries
poison poisons the line; a write to a line that takes none is dropped and recorded (R174).  Answers whether the line stays poison under a partial write. -/
def Block.writeMasked (s : Block) (q : Requester) (dpa : Nat) (mask : List Bool) (bytes : List Byte)
    (poison : Bool) : Bool × Block :=
  if poison then (false, s.writeLine q dpa .poison)
  else if fullMask mask then (false, s.writeLine q dpa (.data (fitTo 0 64 bytes)))
  else if s.dropsWrite (lineOf dpa) then (false, s.writeDram (some q) (lineOf dpa) .poison)
  else
    match s.readLine q dpa with
    | (.poison, s1) =>
      (true, match q with
        | .host _ => s1.raise kindPartialOnPoison .demand (some q) (lineOf dpa)
        | _ => s1)
    | (.data old, s1) => (false, s1.writeLine q dpa (.data (mergeBytes old mask bytes)))

/-- A tier block that requesters reach directly: none of FRAME and FIRMWARE (Table 7-4). -/
def Block.directBlock (s : Block) (dpa : Nat) : Bool :=
  decide ((s.tier (tierBlockOf dpa)).cls ≠ clsFrame) && decide ((s.tier (tierBlockOf dpa)).cls ≠ clsFirmware)

/-- The bytes of DRAM from `dpa`, and whether any line of them is poison, as the module itself reads them
(no effects). -/
def Block.peek (s : Block) (dpa n : Nat) : List Byte × Bool :=
  let first := dpa / 64
  let lines := (List.range ((dpa + n - 1) / 64 + 1 - first)).map fun i => s.lineVal ((first + i) * 64)
  (((lines.map LineVal.bytes).flatten.drop (dpa % 64)).take n, lines.any LineVal.isPoison)

/-- A little-endian number of `n` bytes in DRAM. -/
def Block.peekNat (s : Block) (dpa n : Nat) : Nat := ofLeBytes (s.peek dpa n).1

end Sys2Proof.Machine
end

