-- ==== Sys2Proof/Machine/Access.lean ====
section
/-! DEFINITION.  Who a management function is (R33, R135): full, scoped to a partition, or ungranted; and what a
write that only full functions may make does for the others. -/

namespace Sys2Proof.Machine

/-- The kind of a management function (R33). -/
inductive FnKind where
  | full
  | scoped (ptn : Nat)
  | ungranted
  deriving DecidableEq, Repr

/-- The partition states of Table 16-1. -/
def ptnFree : Nat := 0
def ptnDefined : Nat := 1
def ptnActive : Nat := 2
def ptnDraining : Nat := 3
def ptnWashing : Nat := 4

/-- The state of a partition. -/
def Block.ptnState (s : Block) (p : Nat) : Nat := s.fld (F.PTN_STATE_STATE p)

/-- The kind of a function: the FM-owned logical devices and the MCTP paths are full (R135, R522), a logical
device is as PTN_FN_GRANT says. -/
def Block.fnKind (s : Block) : Fn → FnKind
  | .fm _ => .full
  | .mctp _ => .full
  | .ld n =>
    let g := (s.reg (R.PTN_FN_GRANT n.val)).toNat
    if g / 2 ^ 31 = 1 then .full
    else if getBits g 7 7 = 1 then .scoped (g % 32)
    else .ungranted

/-- Whether a function is full. -/
def Block.isFull (s : Block) (f : Fn) : Bool := decide (s.fnKind f = .full)

/-- The partition in whose entries a scoped function may act: its own, in DEFINED and ACTIVE (R462). -/
def Block.scopeOf (s : Block) (f : Fn) : Option Nat :=
  match s.fnKind f with
  | .scoped p => if s.ptnState p = ptnDefined ∨ s.ptnState p = ptnActive then some p else none
  | _ => none

/-- Whether a function reaches an entry of partition `p`. -/
def Block.reaches (s : Block) (f : Fn) (p : Nat) : Bool :=
  s.isFull f || decide (s.scopeOf f = some p)

/-- An access outside a function's reach (R33). -/
def Block.scopeViol (s : Block) : Block := s.bump F.GID_SCOPE_VIOL_COUNT_COUNT

/-- An action by a register write that full functions and firmware may make (R33, R178). -/
def Block.byFull (s : Block) (a : Actor) (act : Block → Block) : Block :=
  match a with
  | .firmware => act s
  | .fn f => if s.isFull f then act s else s.scopeViol

/-- An action by a register write on an entry of partition `p`: by firmware, by a full function, or by a
scoped function of that partition. -/
def Block.byOwner (s : Block) (a : Actor) (p : Nat) (act : Block → Block) : Block :=
  match a with
  | .firmware => act s
  | .fn f => if s.reaches f p then act s else s.scopeViol

/-- Whether the actor is a full function or firmware. -/
def Block.actsFull (s : Block) : Actor → Bool
  | .firmware => true
  | .fn f => s.isFull f

end Sys2Proof.Machine
end

