-- ==== Sys2Proof/Machine/Numbers.lean ====
section
/-! DEFINITION.  Number formats (R291–R295): decoding an element to its exact value, rounding an exact value
once in a mode (R301, R302), MX blocks (R303), the comparison order (R305), and binary32 addition and
multiplication. -/

namespace Sys2Proof.Machine

/-- The parameters of a floating-point element format (Table 10-2). -/
structure FpFmt where
  ebits : Nat
  mbits : Nat
  bias : Nat
  hasInf : Bool
  hasNan : Bool
  maxCode : Nat
  emax : Nat := 0
  deriving DecidableEq, Repr

def fp32 : FpFmt := { ebits := 8, mbits := 23, bias := 127, hasInf := true, hasNan := true, maxCode := 0x7F7FFFFF }
def bf16 : FpFmt := { ebits := 8, mbits := 7, bias := 127, hasInf := true, hasNan := true, maxCode := 0x7F7F }
def fp16 : FpFmt := { ebits := 5, mbits := 10, bias := 15, hasInf := true, hasNan := true, maxCode := 0x7BFF }
def e4m3 : FpFmt :=
  { ebits := 4, mbits := 3, bias := 7, hasInf := false, hasNan := true, maxCode := 0x7E, emax := 8 }
def e5m2 : FpFmt :=
  { ebits := 5, mbits := 2, bias := 15, hasInf := true, hasNan := true, maxCode := 0x7B, emax := 15 }
def e3m2 : FpFmt :=
  { ebits := 3, mbits := 2, bias := 3, hasInf := false, hasNan := false, maxCode := 0x1F, emax := 4 }
def e2m3 : FpFmt :=
  { ebits := 2, mbits := 3, bias := 1, hasInf := false, hasNan := false, maxCode := 0x1F, emax := 2 }
def e2m1 : FpFmt :=
  { ebits := 2, mbits := 1, bias := 1, hasInf := false, hasNan := false, maxCode := 0x7, emax := 2 }

/-- The floating-point format of a code of Table 10-1; 0x8 is MXINT8, which is none. -/
def fpOf (fmt : Nat) : Option FpFmt :=
  [fp32, bf16, fp16, e4m3, e5m2, e3m2, e2m3, e2m1][fmt]?

/-- Element width in bits (Table 10-1). -/
def widthOf (fmt : Nat) : Nat := [32, 16, 16, 8, 8, 6, 6, 4, 8].getD fmt 8

/-- Whether a format code is an MX format. -/
def isMx (fmt : Nat) : Bool := decide (3 ≤ fmt) && decide (fmt ≤ 8)

/-- Bytes of an MX block's elements (R293). -/
def blockBytes (fmt : Nat) : Nat := 32 * widthOf fmt / 8

/-- The value of an input element: `fin n` is n × 2^-150, of which every finite input is a multiple. -/
inductive Num where
  | fin (n : Int)
  | inf (neg : Bool)
  | nan
  | poison
  deriving DecidableEq, Repr

/-- The exact value of an element code of a floating-point format, `2^shift` times its own value, in units of
2^-150 (R294, R295). -/
def decodeFp (f : FpFmt) (code : Nat) (shift : Int) : Num :=
  let e := code / 2 ^ f.mbits % 2 ^ f.ebits
  let m := code % 2 ^ f.mbits
  let neg := decide (code / 2 ^ (f.mbits + f.ebits) % 2 = 1)
  let mag := code % 2 ^ (f.mbits + f.ebits)
  if f.hasInf && decide (mag = (2 ^ f.ebits - 1) * 2 ^ f.mbits) then .inf neg
  else if f.hasNan && decide (f.maxCode < mag) then .nan
  else
    let sig := if e = 0 then m else 2 ^ f.mbits + m
    let up := (max e 1 : Nat) - (f.bias : Int) - f.mbits + 150 + shift
    let v : Int := sig * 2 ^ up.toNat
    .fin (if neg then -v else v)

/-- The exact value of an element: its code, and its block's scale byte for an MX format (R294, R295). -/
def decodeElem (fmt code scale : Nat) : Num :=
  if isMx fmt then
    if scale = 255 then .nan
    else
      match fpOf fmt with
      | some f => decodeFp f code ((scale : Int) - 127)
      | none =>
        let n : Int := if code < 128 then code else (code : Int) - 256
        .fin (n * 2 ^ (150 - 6 + scale - 127))
  else
    match fpOf fmt with
    | some f => decodeFp f code 0
    | none => .nan

/-- The value of an FP32 bit pattern. -/
def num32 (b : Nat) : Num := decodeFp fp32 b 0

/-- An exact non-zero real to be rounded: sign, and numerator over denominator. -/
structure Exact where
  neg : Bool
  num : Nat
  den : Nat
  deriving DecidableEq, Repr

/-- Rounding modes (Table 10-6): RNE, RTZ, RDN, RUP, RNA. -/
def rne : Nat := 0
def rtz : Nat := 1
def rdn : Nat := 2
def rup : Nat := 3
def rna : Nat := 4

/-- Whether a magnitude of `m` units and a remainder `r` of `d` rounds away from zero (Table 10-6). -/
def roundsUp (mode : Nat) (neg : Bool) (m r d : Nat) : Bool :=
  match mode with
  | 0 => decide (d < 2 * r) || (decide (2 * r = d) && decide (m % 2 = 1))
  | 2 => neg && decide (r ≠ 0)
  | 3 => !neg && decide (r ≠ 0)
  | 4 => decide (d ≤ 2 * r)
  | _ => false

/-- ⌊log2 (num / den)⌋ of a positive quotient. -/
def floorLog2 (num den : Nat) : Int :=
  let l : Int := (Nat.log2 num : Int) - Nat.log2 den
  let ge : Bool := if 0 ≤ l then decide (den * 2 ^ l.toNat ≤ num) else decide (den ≤ num * 2 ^ (-l).toNat)
  if ge then l else l - 1

/-- A positive quotient divided by 2^q and rounded to a whole number of units. -/
def roundUnits (mode : Nat) (x : Exact) (q : Int) : Nat :=
  let n := if 0 ≤ q then x.num else x.num * 2 ^ (-q).toNat
  let d := if 0 ≤ q then x.den * 2 ^ q.toNat else x.den
  let m := n / d
  if roundsUp mode x.neg m (n % d) d then m + 1 else m

/-- The magnitude code nearest to an exact value in a mode, with gradual underflow and no bound above. -/
def roundMag (f : FpFmt) (mode : Nat) (x : Exact) : Nat :=
  let e := max (floorLog2 x.num x.den) (1 - (f.bias : Int))
  let q := e - f.mbits
  (e + f.bias - 1).toNat * 2 ^ f.mbits + roundUnits mode x q

/-- The infinity code of a format without its sign. -/
def FpFmt.infCode (f : FpFmt) : Nat := (2 ^ f.ebits - 1) * 2 ^ f.mbits

/-- The sign bit of a format. -/
def FpFmt.signBit (f : FpFmt) (neg : Bool) : Nat := if neg then 2 ^ (f.ebits + f.mbits) else 0

/-- The canonical NaN (Table 10-7). -/
def FpFmt.nanCode (f : FpFmt) : Nat := f.infCode + 2 ^ (f.mbits - 1)

/-- An exact non-zero value rounded to FP32, BF16 or FP16 (Table 10-7 rows 6 and 7). -/
def roundFp (f : FpFmt) (mode : Nat) (sat : Bool) (x : Exact) : Nat :=
  let c := roundMag f mode x
  let toMax := sat || decide (mode = rtz) || (decide (mode = rup) && x.neg) || (decide (mode = rdn) && !x.neg)
  f.signBit x.neg + (if c < f.infCode then c else if toMax then f.maxCode else f.infCode)

/-- An exact value as a numerator and denominator: `none` for zero. -/
def exactOf (n : Int) (den : Nat) : Option Exact :=
  if n = 0 then none else some { neg := decide (n < 0), num := n.natAbs, den := den }

/-- An element of an MX block: the value divided by the block's 2^e, rounded with saturation (R303). -/
def roundElem (fmt mode : Nat) (e : Int) (x : Option Exact) : Nat :=
  match x with
  | none => 0
  | some x =>
    let y : Exact := if 0 ≤ e then { x with den := x.den * 2 ^ e.toNat } else { x with num := x.num * 2 ^ (-e).toNat }
    match fpOf fmt with
    | some f =>
      let c := min (roundMag f mode y) f.maxCode
      if c = 0 then 0 else f.signBit x.neg + c
    | none =>
      let n := min (roundUnits mode y (-6)) 127
      if x.neg then (256 - n) % 256 else n

/-- Compares the magnitudes of two exact values. -/
def Exact.le (x y : Exact) : Bool := decide (x.num * y.den ≤ y.num * x.den)

/-- EMAX of an MX format (Table 10-2). -/
def emaxOf (fmt : Nat) : Int := (((fpOf fmt).map FpFmt.emax).getD 0 : Nat)

/-- The exponent of an MX block (R303). -/
def blockExp (fmt : Nat) (vs : List (Option Exact)) : Int :=
  match vs.foldl (fun (b : Option Exact) v =>
      match b, v with
      | none, v => v
      | some b, some v => if b.le v then some v else some b
      | b, none => b) none with
  | none => 0
  | some x => max (-127) (min 127 (floorLog2 x.num x.den - emaxOf fmt))

/-- A block of exact values rounded to an MX format: scale byte and element codes (R303 step 3). -/
def roundBlock (fmt mode : Nat) (vs : List (Option Exact)) : Nat × List Nat :=
  let e := blockExp fmt vs
  ((e + 127).toNat, vs.map (roundElem fmt mode e))

/-- The rank and value by which R305 orders: −Infinity, finite, +Infinity, NaN. -/
def Num.orderKey : Num → Int × Int
  | .inf true => (0, 0)
  | .fin n => (1, n)
  | .inf false => (2, 0)
  | _ => (3, 0)

/-- Strictly below in the order of R305. -/
def Num.below (x y : Num) : Bool :=
  let a := x.orderKey
  let b := y.orderKey
  decide (a.1 < b.1) || (decide (a.1 = b.1) && decide (a.2 < b.2))

/-- FP32 NaN (Table 10-7). -/
def nan32 : Nat := 0x7FC00000

/-- The sign of an FP32 bit pattern. -/
def neg32 (b : Nat) : Bool := decide (b / 2 ^ 31 % 2 = 1)

/-- An exact sum or product in units of 2^-k rounded to FP32, a zero taking the given sign. -/
def pack32 (mode : Nat) (n : Int) (den : Nat) (zeroNeg : Bool) : Nat :=
  match exactOf n den with
  | none => fp32.signBit zeroNeg
  | some x => roundFp fp32 mode false x

/-- The sum of two exact values, rounded to FP32 with RNE; `neg` says that both operands were negative zeros. -/
def sum32 (x y : Num) (bothNeg : Bool) : Nat :=
  match x, y with
  | .fin m, .fin n => pack32 rne (m + n) (2 ^ 150) (bothNeg && decide (m = 0) && decide (n = 0))
  | .inf a, .inf b => if a = b then fp32.signBit a + fp32.infCode else nan32
  | .inf a, .fin _ => fp32.signBit a + fp32.infCode
  | .fin _, .inf b => fp32.signBit b + fp32.infCode
  | _, _ => nan32

/-- IEEE 754 binary32 addition with RNE (R370). -/
def add32 (a b : Nat) : Nat := sum32 (num32 a) (num32 b) (neg32 a && neg32 b)

/-- A value's negative. -/
def Num.negate : Num → Num
  | .fin n => .fin (-n)
  | .inf b => .inf (!b)
  | x => x

/-- IEEE 754 binary32 subtraction with RNE (R309, R370). -/
def sub32 (a b : Nat) : Nat := sum32 (num32 a) (num32 b).negate (neg32 a && !neg32 b)

/-- IEEE 754 binary32 multiplication with RNE (R309, R370). -/
def mul32 (a b : Nat) : Nat :=
  let s := neg32 a != neg32 b
  match num32 a, num32 b with
  | .fin m, .fin n => pack32 rne (m * n) (2 ^ 300) s
  | .inf _, .fin n => if n = 0 then nan32 else fp32.signBit s + fp32.infCode
  | .fin m, .inf _ => if m = 0 then nan32 else fp32.signBit s + fp32.infCode
  | .inf _, .inf _ => fp32.signBit s + fp32.infCode
  | _, _ => nan32

end Sys2Proof.Machine
end

