-- ==== Sys2Proof/Machine/Notify.lean ====
section
/-! DEFINITION.  Notifications (R123): MSI-X messages and Pefin notify cells. -/

namespace Sys2Proof.Machine

/-- A function's MSI-X state. -/
def Block.msix (s : Block) (fn : Nat) : Msix := Assoc.get {} fn s.ctl.msix

/-- An MSI-X vector of a logical device signalled, held pending or dropped (R123). -/
def Block.msixNotify (s : Block) (fn vector : Nat) : Block :=
  let m := s.msix fn
  if 256 ≤ fn ∨ !m.enable ∨ !s.isSet (F.HPT_PORT_STATUS_UP (fn / 16)) then s
  else if m.fnMask || m.masked.contains vector then
    { s with ctl := { s.ctl with
        msix := Assoc.put {} fn
          { m with pending := if m.pending.contains vector then m.pending else vector :: m.pending } s.ctl.msix } }
  else s.emit (.msix fn vector)

/-- A notification by KIND: MSI-X of a function, or a notify cell to a node. -/
def Block.notify (s : Block) (kind target fn : Nat) (n : Notice) (stream : Option Nat := none) : Block :=
  if kind = 0 then s.msixNotify fn target else s.cellNotify target n stream

end Sys2Proof.Machine
end

