-- ==== Sys2Proof/Machine/Objects.lean ====
section
/-! DEFINITION.  Synchronisation objects (R347–R350): who owns one, what each operation does to it, waits. -/

namespace Sys2Proof.Machine

/-- The KIND codes of R347. -/
def objNone : Nat := 0
def objCounter : Nat := 1
def objSemaphore : Nat := 2
def objBarrier : Nat := 3

/-- The operation codes of Table 11-16. -/
def opInit : Nat := 1
def opRead : Nat := 2
def opAdd : Nat := 3
def opSwap : Nat := 4
def opCas : Nat := 5
def opSignal : Nat := 6
def opAcquire : Nat := 7

/-- An object. -/
def Block.obj (s : Block) (o : Nat) : SyncObj := Assoc.get {} o s.eng.objs

/-- An object replaced. -/
def Block.setObj (s : Block) (o : Nat) (v : SyncObj) : Block :=
  { s with eng := { s.eng with objs := Assoc.put {} o v s.eng.objs } }

/-- The partition that owns an object (ENG_SYNC_OWN, R347). -/
def Block.objOwner (s : Block) (o : Nat) : Option Nat :=
  if s.isSet (F.ENG_SYNC_OWN_EN (o / 256)) then some (s.fld (F.ENG_SYNC_OWN_PARTITION (o / 256))) else none

/-- A 64-bit pattern as a signed number. -/
def signed64 (n : Nat) : Int := if n < 2 ^ 63 then n else (n : Int) - 2 ^ 64

/-- SIGNAL on an object of a kind that takes it (Table 11-16). -/
def SyncObj.signal (o : SyncObj) : Option SyncObj :=
  match o.kind with
  | 1 => some { o with value := (o.value + 1) % 2 ^ 64 }
  | 2 => some { o with value := min (o.value + 1) (2 ^ 63 - 1) }
  | 3 =>
    let gen := o.value / 2 ^ 32
    let count := o.value % 2 ^ 32 + 1
    some { o with value := if count = o.parties then (gen + 1) % 2 ^ 32 * 2 ^ 32
                           else gen * 2 ^ 32 + count % 2 ^ 32 }
  | _ => none

/-- ADD (Table 11-16): a SEMAPHORE takes it only if the signed result is in range. -/
def SyncObj.add (o : SyncObj) (x : Nat) : Option SyncObj :=
  match o.kind with
  | 1 => some { o with value := (o.value + x) % 2 ^ 64 }
  | 2 =>
    let r := (o.value : Int) + signed64 x
    some (if 0 ≤ r ∧ r < 2 ^ 63 then { o with value := r.toNat } else o)
  | _ => none

/-- Whether a kind takes SWAP and CAS of an operand. -/
def SyncObj.takesValue (o : SyncObj) (x : Nat) : Bool :=
  decide (o.kind = objCounter) || (decide (o.kind = objSemaphore) && decide (x < 2 ^ 63))

/-- An operation of Table 11-16 other than INIT and ACQUIRE: the new object, or none where its kind refuses. -/
def SyncObj.apply (o : SyncObj) (op operand compare : Nat) : Option SyncObj :=
  match op with
  | 2 => if o.kind = objNone then none else some o
  | 3 => o.add operand
  | 4 => if o.takesValue operand then some { o with value := operand } else none
  | 5 => if o.takesValue operand then some (if o.value = compare then { o with value := operand } else o) else none
  | 6 => o.signal
  | _ => none

/-- Whether an object has reached a threshold under its kind (R349, R374). -/
def SyncObj.reached (o : SyncObj) (threshold : Nat) : Bool :=
  match o.kind with
  | 1 => decide (threshold ≤ o.value)
  | 2 => decide (threshold ≤ o.value)
  | 3 => decide ((o.value / 2 ^ 32 + 2 ^ 32 - threshold % 2 ^ 32) % 2 ^ 32 < 2 ^ 31)
  | _ => false

/-- The attribution of an operation on an object: the descriptor whose work it is, or the object's partition. -/
def Block.objAttr (s : Block) (o : Nat) : Attr :=
  match s.objOwner o with
  | some p => s.workAttr p
  | none => .none_

/-- An operation from a cell or an AtomicOp, applied at once: the old VALUE and the state after, or a refusal,
which is counted (R348, R350). -/
def Block.objOp (s : Block) (o op operand compare : Nat) : Option Nat × Block :=
  match (s.obj o).apply op operand compare with
  | some v => (some (s.obj o).value, (s.setObj o v).event 11 0 (s.objAttr o))
  | none => (none, s.bump F.ENG_SYNC_DENIED_COUNT)

/-- The signal of SIGNAL_EN (R349): on an object of kind NONE it is dropped and counted. -/
def Block.signalObj (s : Block) (o : Nat) : Block :=
  match (s.obj o).signal with
  | some v => (s.setObj o v).event 11 0 (s.objAttr o)
  | none => (s.bump F.ENG_SIGNAL_DROPPED_COUNT).event 11 2 (s.objAttr o)

/-- Every object of a block set to NONE (R347). -/
def Block.clearObjBlock (s : Block) (b : Nat) : Block :=
  { s with eng := { s.eng with objs := Assoc.clear (fun o => decide (o / 256 = b)) s.eng.objs } }

end Sys2Proof.Machine
end

