-- ==== Sys2Proof/Machine/Descriptor.lean ====
section
/-! DEFINITION.  Descriptors (R110–R114): the fields of the head slot and of every opcode's body, the checks of
Table 4-2 and of the body tables, and the status of a descriptor that breaks one. -/

namespace Sys2Proof.Machine

/-- A descriptor's bytes: the head slot and its body slots. -/
abbrev Desc := List Byte

/-- The u64 at a byte offset. -/
def Desc.w (d : Desc) (off : Nat) : Nat := ofLeBytes ((d.drop off).take 8)

/-- Bits of the u64 at a byte offset. -/
def Desc.f (d : Desc) (off hi lo : Nat) : Nat := getBits (d.w off) hi lo

def Desc.opcode (d : Desc) : Nat := d.f 0x00 63 56
def Desc.bodySlots (d : Desc) : Nat := d.f 0x00 55 54
def Desc.flag (d : Desc) (n : Nat) : Bool := decide (d.f 0x00 (32 + n) (32 + n) = 1)
def Desc.fence (d : Desc) : Bool := d.flag 15
def Desc.waitEn (d : Desc) : Bool := d.flag 14
def Desc.signalEn (d : Desc) : Bool := d.flag 13
def Desc.notifyEn (d : Desc) : Bool := d.flag 12
def Desc.stepFlag (d : Desc) : Bool := d.flag 11
def Desc.layer (d : Desc) : Nat := d.f 0x00 31 16
def Desc.operatorId (d : Desc) : Nat := d.f 0x00 15 0
def Desc.seq (d : Desc) : Nat := d.w 0x08
def Desc.stream (d : Desc) : Nat := d.f 0x10 63 50
def Desc.ctx (d : Desc) : Nat := d.f 0x10 47 36
def Desc.partition (d : Desc) : Nat := d.f 0x10 35 31
def Desc.waitObj (d : Desc) : Nat := d.f 0x10 15 0
def Desc.waitThreshold (d : Desc) : Nat := d.f 0x18 63 32
def Desc.signalObj (d : Desc) : Nat := d.f 0x18 31 16
def Desc.userTag (d : Desc) : Nat := d.w 0x20
def Desc.runLimitUs (d : Desc) : Nat := d.f 0x28 63 32
def Desc.check (d : Desc) : Nat := d.f 0x38 31 0

/-- The CRC that CHECK must hold (Table 4-2). -/
def Desc.crc (d : Desc) : Nat := crc32c (d.take 0x38 ++ d.drop 0x40)

/-- The opcodes of Table 4-4. -/
def opcNop : Nat := 0x01
def opcSyncOp : Nat := 0x02
def opcGather : Nat := 0x10
def opcAttn : Nat := 0x11
def opcKvAppend : Nat := 0x12
def opcKvPress : Nat := 0x13
def opcTopk : Nat := 0x14
def opcReduce : Nat := 0x15
def opcBroadcast : Nat := 0x16
def opcCopy : Nat := 0x17
def opcFill : Nat := 0x18
def opcBexaRun : Nat := 0x20
def opcXltInval : Nat := 0x30
def opcPtnAdmin : Nat := 0x31

/-- The body slots an opcode's table requires; none for a reserved opcode (Table 4-4). -/
def bodySlotsOf (op : Nat) : Option Nat :=
  (([(0x01, 0), (0x02, 1), (0x10, 2), (0x11, 3), (0x12, 2), (0x13, 2), (0x14, 2), (0x15, 2), (0x16, 1),
    (0x17, 1), (0x18, 1), (0x20, 2), (0x30, 1), (0x31, 1)] : List (Nat × Nat)).find? fun e => decide (e.1 = op)).map
      (·.2)

/-- The completion status codes of Table 4-8. -/
def stOk : Nat := 0x00
def stOkReplayed : Nat := 0x01
def stNotExecuted : Nat := 0x02
def stBadOpcode : Nat := 0x03
def stBadField : Nat := 0x04
def stCheckFailed : Nat := 0x05
def stNotPermitted : Nat := 0x06
def stPoison : Nat := 0x07
def stAddressError : Nat := 0x08
def stTranslationFault : Nat := 0x09
def stCutOff : Nat := 0x0A
def stTruncated : Nat := 0x0B
def stVersionConflict : Nat := 0x0C
def stLostData : Nat := 0x0D
def stEmpty : Nat := 0xFF

/-- What a field's table allows (Tables 4-2, 8-5, 9-6, 11-5 to 11-17, 12-1, 16-8): any value, zero, a range, a
format, one of FP32, BF16 and FP16, a rounding mode, a CA aligned to `n` bytes, a CA that is zero unless the
named format is MX. -/
inductive Valid where
  | any
  | range (lo hi : Nat)
  | fmt | fmtF | round
  | aligned (n : Nat)
  | scaleOf (off hi lo : Nat)
  deriving DecidableEq, Repr

/-- A field of a body: its offset, bits and valid values. -/
structure BodyField where
  off : Nat
  hi : Nat
  lo : Nat
  ok : Valid := .any
  deriving DecidableEq, Repr

/-- Whether a field of a descriptor holds a valid value. -/
def BodyField.holds (b : BodyField) (d : Desc) : Bool :=
  let v := d.f b.off b.hi b.lo
  match b.ok with
  | .any => true
  | .range lo hi => decide (lo ≤ v) && decide (v ≤ hi)
  | .fmt => decide (v ≤ 8)
  | .fmtF => decide (v ≤ 2)
  | .round => decide (v ≤ 4)
  | .aligned n => decide (v % n = 0)
  | .scaleOf off hi lo => isMx (d.f off hi lo) || decide (v = 0)

/-- The fields of each opcode's body. -/
def bodyFields (op : Nat) : List BodyField :=
  match op with
  | 0x02 => [⟨0x40, 63, 60, .range 1 7⟩, ⟨0x40, 59, 56, .any⟩, ⟨0x40, 15, 0, .any⟩, ⟨0x48, 63, 0, .any⟩,
      ⟨0x50, 63, 0, .any⟩, ⟨0x58, 47, 0, .aligned 8⟩]
  | 0x10 => [⟨0x40, 63, 60, .fmt⟩, ⟨0x40, 47, 0, .aligned 64⟩, ⟨0x48, 47, 0, .scaleOf 0x40 63 60⟩,
      ⟨0x50, 63, 32, .range 1 (2 ^ 32 - 1)⟩, ⟨0x50, 31, 0, .range 1 65536⟩, ⟨0x58, 63, 63, .any⟩,
      ⟨0x58, 62, 62, .any⟩, ⟨0x58, 47, 0, .any⟩, ⟨0x60, 47, 0, .any⟩, ⟨0x68, 47, 0, .aligned 64⟩,
      ⟨0x70, 23, 0, .range 1 (2 ^ 24 - 1)⟩, ⟨0x80, 63, 60, .fmt⟩, ⟨0x80, 59, 57, .round⟩, ⟨0x80, 56, 56, .any⟩,
      ⟨0x80, 47, 0, .aligned 64⟩, ⟨0x88, 47, 0, .scaleOf 0x80 63 60⟩]
  | 0x11 => [⟨0x40, 63, 60, .fmtF⟩, ⟨0x40, 47, 0, .aligned 64⟩, ⟨0x48, 63, 60, .fmt⟩, ⟨0x48, 47, 0, .aligned 8⟩,
      ⟨0x50, 63, 60, .fmt⟩, ⟨0x50, 47, 0, .aligned 8⟩, ⟨0x58, 63, 48, .range 1 1024⟩, ⟨0x58, 47, 32, .range 1 1024⟩,
      ⟨0x58, 31, 24, .range 1 64⟩, ⟨0x58, 23, 20, .any⟩, ⟨0x58, 19, 17, .any⟩, ⟨0x60, 63, 32, .range 0 16777216⟩,
      ⟨0x60, 31, 0, .range 0 16777216⟩, ⟨0x68, 63, 32, .any⟩, ⟨0x68, 31, 19, .range 1 4096⟩,
      ⟨0x70, 47, 0, .any⟩, ⟨0x80, 63, 60, .fmt⟩, ⟨0x80, 59, 57, .round⟩, ⟨0x80, 56, 56, .any⟩,
      ⟨0x80, 47, 0, .aligned 64⟩, ⟨0x88, 47, 0, .scaleOf 0x80 63 60⟩]
  | 0x12 => [⟨0x40, 63, 60, .fmt⟩, ⟨0x40, 47, 0, .aligned 8⟩, ⟨0x48, 63, 60, .fmt⟩, ⟨0x48, 47, 0, .aligned 8⟩,
      ⟨0x50, 63, 48, .range 1 1024⟩, ⟨0x50, 47, 32, .range 1 1024⟩, ⟨0x50, 31, 24, .range 1 64⟩,
      ⟨0x50, 23, 11, .range 1 4096⟩, ⟨0x58, 47, 0, .aligned 8⟩, ⟨0x60, 63, 32, .range 1 65536⟩, ⟨0x60, 31, 28, .fmtF⟩,
      ⟨0x60, 27, 25, .round⟩, ⟨0x60, 24, 24, .any⟩, ⟨0x60, 23, 22, .range 0 1⟩, ⟨0x68, 47, 0, .aligned 64⟩,
      ⟨0x70, 63, 44, .any⟩, ⟨0x70, 43, 28, .any⟩, ⟨0x78, 63, 32, .any⟩]
  | 0x13 => [⟨0x40, 63, 60, .range 1 2⟩, ⟨0x40, 59, 59, .any⟩, ⟨0x40, 47, 0, .aligned 8⟩,
      ⟨0x48, 63, 32, .range 1 1048576⟩, ⟨0x50, 47, 0, .any⟩, ⟨0x58, 63, 32, .any⟩, ⟨0x60, 47, 0, .aligned 8⟩]
  | 0x14 => [⟨0x40, 63, 60, .fmt⟩, ⟨0x40, 59, 59, .any⟩, ⟨0x40, 47, 0, .aligned 64⟩, ⟨0x48, 47, 0, .scaleOf 0x40 63 60⟩,
      ⟨0x50, 63, 32, .range 1 16777216⟩, ⟨0x50, 31, 16, .range 1 1024⟩, ⟨0x50, 15, 0, .range 1 65535⟩,
      ⟨0x58, 63, 60, .fmtF⟩, ⟨0x58, 59, 57, .round⟩, ⟨0x58, 56, 56, .any⟩, ⟨0x58, 47, 0, .aligned 64⟩,
      ⟨0x60, 47, 0, .any⟩]
  | 0x15 => [⟨0x40, 63, 60, .fmt⟩, ⟨0x40, 59, 54, .any⟩, ⟨0x40, 53, 53, .any⟩, ⟨0x40, 47, 0, .aligned 8⟩,
      ⟨0x48, 47, 0, .scaleOf 0x40 63 60⟩, ⟨0x50, 63, 32, .range 1 (2 ^ 32 - 1)⟩, ⟨0x58, 63, 60, .fmt⟩,
      ⟨0x58, 59, 57, .round⟩, ⟨0x58, 56, 56, .any⟩, ⟨0x58, 47, 0, .aligned 64⟩, ⟨0x60, 47, 0, .scaleOf 0x58 63 60⟩]
  | 0x16 => [⟨0x40, 47, 0, .any⟩, ⟨0x48, 63, 32, .range 1 (2 ^ 32 - 1)⟩, ⟨0x48, 31, 19, .range 1 4096⟩,
      ⟨0x50, 47, 0, .aligned 8⟩]
  | 0x17 => [⟨0x40, 47, 0, .any⟩, ⟨0x48, 47, 0, .any⟩, ⟨0x50, 63, 0, .range 1 (2 ^ 40)⟩]
  | 0x18 => [⟨0x40, 47, 0, .aligned 64⟩, ⟨0x48, 63, 0, .range 1 (2 ^ 34)⟩, ⟨0x50, 63, 0, .any⟩, ⟨0x58, 63, 62, .range 0 1⟩]
  | 0x20 => [⟨0x40, 47, 0, .aligned 64⟩, ⟨0x48, 63, 0, .any⟩, ⟨0x50, 63, 0, .any⟩, ⟨0x58, 63, 0, .any⟩,
      ⟨0x60, 63, 0, .any⟩, ⟨0x68, 63, 0, .any⟩, ⟨0x70, 63, 0, .any⟩, ⟨0x78, 63, 48, .range 1 65535⟩,
      ⟨0x78, 47, 0, .aligned 32⟩]
  | 0x30 => [⟨0x40, 63, 60, .range 0 3⟩, ⟨0x40, 59, 56, .any⟩, ⟨0x48, 47, 12, .any⟩, ⟨0x50, 35, 0, .any⟩,
      ⟨0x58, 63, 63, .any⟩, ⟨0x58, 62, 62, .any⟩, ⟨0x58, 11, 0, .any⟩]
  | _ => []

/-- The fields of a PTN_ADMIN body, by SUBOP (Tables 9-6 and 16-8). -/
def adminFields (sub : Nat) : List BodyField :=
  if sub = 0x10 then [⟨0x40, 63, 56, .any⟩, ⟨0x40, 55, 50, .any⟩, ⟨0x48, 63, 0, .any⟩, ⟨0x50, 47, 12, .any⟩,
      ⟨0x58, 63, 48, .any⟩, ⟨0x58, 47, 32, .any⟩, ⟨0x60, 47, 3, .any⟩]
  else [⟨0x40, 63, 56, .any⟩, ⟨0x40, 55, 52, .any⟩, ⟨0x40, 51, 47, .any⟩, ⟨0x48, 47, 0, .any⟩, ⟨0x50, 63, 0, .any⟩,
      ⟨0x58, 47, 0, .any⟩]

/-- The fields of a descriptor's body. -/
def Desc.fields (d : Desc) : List BodyField :=
  if d.opcode = opcPtnAdmin then adminFields (d.f 0x40 63 56) else bodyFields d.opcode

/-- The bits of a u64 that the listed fields take; every other bit is reserved. -/
def maskAt (fs : List BodyField) (off : Nat) : Nat :=
  (fs.filter fun f => decide (f.off = off)).foldl (fun m f => setBits m f.hi f.lo (2 ^ 64 - 1)) 0

/-- The offsets from `off` of `n` u64s in which a bit outside the listed fields is set. -/
def reservedAt (d : Desc) (fs : List BodyField) (off n : Nat) : List Nat :=
  ((List.range n).map fun i => off + 8 * i).filter fun o => decide (d.w o &&& (2 ^ 64 - 1 - maskAt fs o) ≠ 0)

/-- A condition on several fields, at the offset its failure reports. -/
def requireAt (off : Nat) (c : Bool) : List Nat := if c then [] else [off]

/-- Bytes of a page of PPP positions of KV_HEADS rows of dimension `dim` (R333). -/
def pageBytes (fmt dim heads ppp : Nat) : Nat :=
  if isMx fmt then ppp * heads * (dim / 32) * (blockBytes fmt + 1) else ppp * heads * dim * widthOf fmt / 8

/-- A dimension suits a format: MX formats take multiples of 32. -/
def suits (fmt dim : Nat) : Bool := !isMx fmt || decide (dim % 32 = 0)

/-- The positions of one chunk of ATTN_DECODE (R334). -/
def Desc.attnChunk (d : Desc) : Nat := min 4096 (12288 / ((d.f 0x58 23 20 + 1) * (d.f 0x58 19 17 + 1)))

/-- PB, the source bytes of a position of KV_APPEND (R336). -/
def Desc.appendPb (d : Desc) : Nat :=
  d.f 0x50 31 24 * (d.f 0x50 63 48 + d.f 0x50 47 32) * widthOf (d.f 0x60 31 28) / 8

/-- How many pieces of `n` cover `total`. -/
def unitsOf (total n : Nat) : Nat := (total + n - 1) / n

/-- The bytes of an array of elements, without its scales. -/
def elemsBytes (fmt n : Nat) : Nat := if isMx fmt then n / 32 * blockBytes fmt else n * widthOf fmt / 8

/-- Bytes of a row of GATHER_REDUCE's table (ERB of R330). -/
def Desc.gatherErb (d : Desc) : Nat :=
  elemsBytes (d.f 0x40 63 60) (d.f 0x50 31 0)

/-- The offsets of body conditions that join several fields. -/
def Desc.joint (d : Desc) : List Nat :=
  match d.opcode with
  | 0x02 =>
    let op := d.f 0x40 63 60
    let kind := d.f 0x40 59 56
    let x := d.w 0x48
    requireAt 0x40 (if op = opInit then decide (kind ≤ 3) else decide (kind = 0))
      ++ requireAt 0x48 (if op = opAcquire then decide (1 ≤ x ∧ x < 2 ^ 63)
          else if op = opInit then
            (decide (kind ≠ objNone) || decide (x = 0)) && (decide (kind ≠ objSemaphore) || decide (x < 2 ^ 63))
          else true)
      ++ requireAt 0x50 (if op = opInit then decide (kind ≠ objBarrier) || decide (d.w 0x50 % 2 ^ 32 ≠ 0)
          else decide (op = opCas) || decide (d.w 0x50 = 0))
  | 0x10 =>
    let n := d.f 0x50 31 0
    requireAt 0x50 (suits (d.f 0x40 63 60) n && suits (d.f 0x80 63 60) n && decide (d.gatherErb % 64 = 0))
      ++ requireAt 0x58 (decide (d.f 0x58 63 63 = 0) || decide (d.f 0x58 47 0 % 8 = 0))
      ++ requireAt 0x68 (decide (d.f 0x58 62 62 = 1) || decide (d.f 0x68 47 0 = 0))
  | 0x11 =>
    let heads := d.f 0x58 31 24
    let ppp := d.f 0x68 31 19
    requireAt 0x58 (suits (d.f 0x48 63 60) (d.f 0x58 63 48) && suits (d.f 0x50 63 60) (d.f 0x58 47 32)
        && suits (d.f 0x80 63 60) (d.f 0x58 47 32))
      ++ requireAt 0x68 (decide (pageBytes (d.f 0x48 63 60) (d.f 0x58 63 48) heads ppp ≤ 4096)
        && decide (pageBytes (d.f 0x50 63 60) (d.f 0x58 47 32) heads ppp ≤ 4096))
      ++ requireAt 0x70 (decide (d.f 0x60 63 32 ≤ d.attnChunk) || decide (d.f 0x70 47 0 ≠ 0))
  | 0x12 =>
    let heads := d.f 0x50 31 24
    let ppp := d.f 0x50 23 11
    requireAt 0x50 (suits (d.f 0x40 63 60) (d.f 0x50 63 48) && suits (d.f 0x48 63 60) (d.f 0x50 47 32)
        && decide (pageBytes (d.f 0x40 63 60) (d.f 0x50 63 48) heads ppp ≤ 4096)
        && decide (pageBytes (d.f 0x48 63 60) (d.f 0x50 47 32) heads ppp ≤ 4096))
      ++ requireAt 0x60 (decide (d.f 0x60 63 32 * d.appendPb ≤ 2 ^ 30))
      ++ requireAt 0x70 (decide (d.f 0x60 23 22 = 1) || (decide (d.f 0x70 63 44 = 0) && decide (d.f 0x70 43 28 = 0)))
  | 0x13 =>
    let press := decide (d.f 0x40 63 60 = 1)
    let n := d.f 0x58 63 32
    requireAt 0x50 (press || decide (d.f 0x50 47 0 % 8 = 0))
      ++ requireAt 0x58 (if press then decide (64 ≤ n) && decide (n % 64 = 0) else decide (n = 0))
      ++ requireAt 0x60 (decide (d.f 0x40 59 59 = 0) || decide (d.f 0x60 47 0 = 0))
  | 0x14 =>
    requireAt 0x50 (suits (d.f 0x40 63 60) (d.f 0x50 63 32) && decide (d.f 0x50 31 16 ≤ d.f 0x50 63 32))
  | 0x15 => requireAt 0x48 (d.f 0x48 47 0 % 8 = 0)
  | 0x30 =>
    let scope := d.f 0x40 63 60
    let count := d.f 0x50 35 0
    let page := d.f 0x48 47 12
    let resolve := decide (d.f 0x58 63 63 = 1)
    requireAt 0x40 ((decide (scope ≠ 0) || resolve) && (decide (scope = 2) || decide (d.f 0x40 59 56 = 0)))
      ++ requireAt 0x48 (decide (scope = 1) || decide (page = 0))
      ++ requireAt 0x50 (if scope = 1 then decide (1 ≤ count) && decide (page + count ≤ 2 ^ 36) else decide (count = 0))
      ++ requireAt 0x58 (resolve || decide (d.f 0x58 62 62 = 0))
  | 0x31 =>
    let sub := d.f 0x40 63 56
    if sub = 0x01 then
      requireAt 0x48 (decide (d.w 0x48 = 0)) ++ requireAt 0x50 (decide (d.w 0x50 = 0)) ++ requireAt 0x58 (decide (d.w 0x58 = 0))
    else if sub = 0x10 then []
    else if sub ∈ [0x20, 0x21, 0x22] then
      requireAt 0x40 (decide (d.f 0x40 55 47 = 0))
        ++ requireAt 0x50 (decide ((if sub = 0x22 then 1792 else 12019) ≤ d.w 0x50))
        ++ requireAt 0x58 (if sub = 0x22 then decide (d.f 0x58 47 0 % 64 = 0) else decide (d.w 0x58 = 0))
    else [0x40]
  | _ => []

/-- The offsets of head fields that break Table 4-2 or 4-3. -/
def Desc.headBad (d : Desc) : List Nat :=
  requireAt 0x00 (decide (some d.bodySlots = bodySlotsOf d.opcode) && decide (d.f 0x00 53 48 = 0)
      && decide (d.f 0x00 42 32 = 0))
    ++ requireAt 0x10 (decide (d.f 0x10 49 48 = 0) && decide (d.f 0x10 30 16 = 0))
    ++ requireAt 0x18 (decide (d.f 0x18 15 0 = 0))
    ++ requireAt 0x28 (decide (d.runLimitUs ≤ 90000) && decide (d.f 0x28 31 0 = 0))
    ++ requireAt 0x30 (decide (d.w 0x30 = 0))
    ++ requireAt 0x38 (decide (d.f 0x38 63 32 = 0))

/-- The offsets of body fields that break the opcode's table; none while BODY_SLOTS is not what it requires. -/
def Desc.bodyBad (d : Desc) : List Nat :=
  if some d.bodySlots = bodySlotsOf d.opcode then
    ((d.fields.filter fun f => !f.holds d).map (·.off)) ++ reservedAt d d.fields 0x40 (8 * d.bodySlots) ++ d.joint
  else []

/-- The commons conditions of a PUBLISH body (Table 9-6): an enabled region, COUNT within it. -/
def Block.publishBad (s : Block) (d : Desc) : List Nat :=
  if d.opcode = opcPtnAdmin ∧ d.f 0x40 63 56 = 0x10 then
    let r := d.f 0x40 55 50
    requireAt 0x40 (decide (s.fld (F.HPT_CMN_STATE_STATE r) ≠ 0))
      ++ requireAt 0x58 (decide (1 ≤ d.f 0x58 47 32)
          && decide (d.f 0x58 63 48 + d.f 0x58 47 32 ≤ s.fld (F.HPT_CMN_CFG_BLOCKS r)))
  else []

/-- Whether a stream takes new descriptors of a partition (R318, R319). -/
def Block.streamTakes (s : Block) (stream ptn : Nat) : Bool :=
  s.isSet (F.ENG_ST_CFG_ENABLE stream) && decide (s.fld (F.ENG_ST_CFG_PARTITION stream) = ptn)

/-- Whether a descriptor names something outside its ring's partition or rights (Table 4-2, R112, R288,
R351). -/
def Block.notPermitted (s : Block) (ring : Nat) (d : Desc) : Bool :=
  let p := s.fld (F.RNG_CFG_PARTITION ring)
  !s.streamTakes d.stream p || decide (s.fld (F.XLT_CTX_CFG_PARTITION d.ctx) ≠ p) || decide (d.partition ≠ p)
    || (d.waitEn && decide (s.objOwner d.waitObj ≠ some p))
    || (d.signalEn && decide (s.objOwner d.signalObj ≠ some p))
    || (decide (d.opcode = opcPtnAdmin) && !s.isSet (F.RNG_CFG_ADMIN ring))
    || (decide (d.opcode = opcPtnAdmin) && decide (d.f 0x40 63 56 = 0x10)
        && decide (getBits (s.fld (F.HPT_CMN_PUB_PTNS (d.f 0x40 55 50))) p p = 0))
    || (decide (d.opcode = opcSyncOp) && decide (s.objOwner (d.f 0x40 15 0) ≠ some p))

/-- The first of a list of offsets in ascending order. -/
def lowest : List Nat → Option Nat
  | [] => none
  | x :: xs => some (xs.foldl min x)

/-- The status of a descriptor that breaks a rule of its own fields, in the order of R110; none when it may
execute. -/
def Block.refusal (s : Block) (ring : Nat) (d : Desc) (checkFailed : Bool) : Option (Nat × Nat) :=
  if checkFailed then some (stCheckFailed, 0)
  else if (bodySlotsOf d.opcode).isNone then some (stBadOpcode, 0)
  else if s.notPermitted ring d then some (stNotPermitted, 0)
  else (lowest (d.headBad ++ d.bodyBad ++ s.publishBad d)).map fun o => (stBadField, o)

end Sys2Proof.Machine
end

