-- ==== Sys2Proof/Machine/Crossing.lean ====
section
/-! DEFINITION.  The crossing buffers between the clocked units and the clockless cores (R68–R71): their entries, the
handshake of Table 2-12, and when a crossing is full. -/

namespace Sys2Proof.Machine

/-- The number of a unit among all that cross. -/
def crossKey : CrossUnit → Nat
  | .pc stk p => stk.val * 64 + p.val
  | .link l => 2000 + l.val
  | .port p => 3000 + p.val
  | .cave c => 4000 + c.val
  | .binnacle => 5000

/-- The entries of a unit's crossing buffer in each direction (Table 2-11); an x8 port has half of an x16 port's. -/
def Block.crossDepth (s : Block) : CrossUnit → Nat
  | .pc _ _ => 16
  | .link _ => 64
  | .port _ => if getBits (s.fld F.GID_STRAPS_RSEL) 0 0 = 1 then 16 else 32
  | .cave _ => 8
  | .binnacle => 16

/-- The bytes of an entry (Table 2-11): a line, a cell, a flit, a message. -/
def crossBytes : CrossUnit → Nat
  | .pc _ _ => 64
  | .link _ => 80
  | .port _ => 256
  | .cave _ => 64
  | .binnacle => 64

/-- Data of an entry's size: what is missing reads zero, what is beyond it is not carried. -/
def crossFit (u : CrossUnit) (data : List Byte) : List Byte :=
  (data ++ List.replicate (crossBytes u) 0).take (crossBytes u)

/-- A unit's crossing buffer in a direction. -/
def Block.crossing (s : Block) (inbound : Bool) (u : CrossUnit) : Crossing :=
  Assoc.get {} (2 * crossKey u + (if inbound then 0 else 1)) s.pwr.crossings

/-- A unit's crossing buffer in a direction replaced. -/
def Block.setCrossing (s : Block) (inbound : Bool) (u : CrossUnit) (x : Crossing) : Block :=
  { s with pwr := { s.pwr with
    crossings := Assoc.put {} (2 * crossKey u + (if inbound then 0 else 1)) x s.pwr.crossings } }

/-- An entry of a crossing buffer. -/
def Crossing.entry (x : Crossing) (i : Nat) : CrossEntry := Assoc.get {} i x.entries

/-- Whether a crossing is full: the filling side sees the flag of the next entry still set (R71). -/
def Block.crossFull (s : Block) (inbound : Bool) (u : CrossUnit) : Bool :=
  let x := s.crossing inbound u
  (x.entry x.fill).seen

/-- Steps 1 and 2 of Table 2-12: the filling side writes the next entry and sets its flag, if its copy of the flag reads
clear; a full crossing takes nothing, and the entry waits at its source. -/
def Block.crossFill (s : Block) (inbound : Bool) (u : CrossUnit) (data : List Byte) : Block :=
  let x := s.crossing inbound u
  if (x.entry x.fill).seen then s
  else s.setCrossing inbound u { x with
    entries := Assoc.put {} x.fill { data := crossFit u data, flag := true, seen := true } x.entries
    fill := (x.fill + 1) % s.crossDepth u }

/-- Steps 3 and 4: the taking side, seeing the flag set, takes the data and clears the flag; a request that still sees the
old value takes nothing (R70). -/
def Block.crossTake (s : Block) (inbound : Bool) (u : CrossUnit) : Block :=
  let x := s.crossing inbound u
  let e := x.entry x.take
  if e.flag then
    (s.setCrossing inbound u { x with
      entries := Assoc.put {} x.take { seen := e.seen } x.entries
      take := (x.take + 1) % s.crossDepth u }).emit (.crossed inbound u e.data)
  else s

/-- Step 5: the flag that was cleared passes the synchroniser to the filling side, and the entry is free. -/
def Block.crossFree (s : Block) (inbound : Bool) (u : CrossUnit) : Block :=
  let x := s.crossing inbound u
  let e := x.entry x.free
  if e.seen ∧ !e.flag then
    s.setCrossing inbound u { x with
      entries := Assoc.put {} x.free {} x.entries
      free := (x.free + 1) % s.crossDepth u }
  else s

/-- A step of an entry's way through a crossing buffer. -/
def Block.cross (s : Block) (inbound : Bool) (u : CrossUnit) : CrossStep → Block
  | .fill data => s.crossFill inbound u data
  | .take => s.crossTake inbound u
  | .free => s.crossFree inbound u

/-- The crossing buffers of the units that satisfy a condition emptied, as a reset of both sides leaves them. -/
def Block.dropCrossings (s : Block) (mine : Nat → Bool) : Block :=
  { s with pwr := { s.pwr with crossings := s.pwr.crossings.filter fun e => !mine (e.1 / 2) } }

end Sys2Proof.Machine
end

