-- ==== Sys2Proof/Machine/Dram.lean ====
section
/-! DEFINITION.  Pseudo-channel schedulers, refresh, the real-time port, recalibration, row repair, changes of
home and spares (R152–R176). -/

namespace Sys2Proof.Machine

/-- Whether a stack is in self-refresh; an unused spare and a retired stack rest in it (R22, R176). -/
def Block.asleep (s : Block) (stk : Nat) : Bool :=
  (s.stk stk).selfRefresh || decide (s.role stk = roleArmed ∨ s.role stk = roleRetired)

/-- Whether a stream's context marks it real-time (R160). -/
def Block.isRealtime (s : Block) (stream : Nat) : Bool := s.isSet (F.ENG_ST_CFG_REALTIME stream)

/-- Whether the home stop must hold a request: its queue is full, or an older request of its queue or to its line is
held (R152, R153). -/
def PseudoChannel.mustHold (p : PseudoChannel) (r : DramReq) : Bool :=
  (if r.rt then decide (16 ≤ p.rtQueue.length) else decide (64 ≤ p.queue.length))
    || p.held.any fun h => decide (h.rt = r.rt) || decide (h.dpa = r.dpa)

/-- Every request queued at a pseudo-channel, oldest first. -/
def PseudoChannel.queued (p : PseudoChannel) : List DramReq :=
  (p.queue ++ p.rtQueue).mergeSort fun a b => decide (a.seq ≤ b.seq)

/-- The last queued request to a line. -/
def PseudoChannel.lastTo (p : PseudoChannel) (dpa : Nat) : Option DramReq :=
  (p.queued.filter fun r => decide (r.dpa = dpa)).getLast?

/-- Whether an older request to the same line is still queued (R153). -/
def PseudoChannel.waitsBehind (p : PseudoChannel) (r : DramReq) : Bool :=
  p.queued.any fun o => decide (o.dpa = r.dpa ∧ o.seq < r.seq)

/-- A scheduler without a request. -/
def PseudoChannel.without (p : PseudoChannel) (r : DramReq) : PseudoChannel :=
  let others (x : DramReq) : Bool := decide (x.seq ≠ r.seq)
  { p with queue := p.queue.filter others, rtQueue := p.rtQueue.filter others, held := p.held.filter others }

/-- A write drain starts at WR_HI queued writes and ends at WR_LO (R154). -/
def Block.setDrain (s : Block) (stk k : Nat) : Block :=
  let p := s.pc k
  let writes := (p.queue.filter (·.write)).length
  let on := if s.fld (F.DRC_SCHED_WR_HI stk) ≤ writes then true
    else if writes ≤ s.fld (F.DRC_SCHED_WR_LO stk) then false else p.drain
  s.setPc k { p with drain := on }

/-- A request enters its queue (R152, R153): a read behind a queued full-line write to the same line is answered from
that write's data; a write ends the rank 8 writes that wait for its line (R184). -/
def Block.enterQueue (s : Block) (stk k : Nat) (r : DramReq) : Block :=
  let put (t : Block) : Block :=
    let p := t.pc k
    (t.setPc k (if r.rt then { p with rtQueue := p.rtQueue ++ [r] } else { p with queue := p.queue ++ [r] })).setDrain stk k
  if r.write then put (s.dropBack stk r.dpa)
  else
    match (s.pc k).lastTo r.dpa with
    | some w =>
      if w.write && (fullMask w.mask || w.poison) then
        if r.turner then s else s.emit (.read r.from_ r.dpa (if w.poison then .poison else .data (fitTo 0 64 w.bytes)))
      else put s
    | none => put s

/-- A request offered to its scheduler: admitted, or held at the home stop, as while its stack is in self-refresh (R152,
Table 5-8). -/
def Block.offerReq (s : Block) (stk k : Nat) (r : DramReq) : Block :=
  if s.asleep stk || (s.pc k).mustHold r then s.setPc k { s.pc k with held := (s.pc k).held ++ [r] } else s.enterQueue stk k r

/-- Held requests enter as entries free, in their order (R152). -/
def Block.admitHeld (s : Block) (stk k : Nat) : Block :=
  forEach (s.pc k).held (fun r t => t.offerReq stk k r) (s.setPc k { s.pc k with held := [] })

/-- Whether the owner of a line's channel block is being washed (R195). -/
def Block.ownerWashing (s : Block) (dpa : Nat) : Bool :=
  match s.ownerOf dpa with
  | some p => decide (s.ptnState p = ptnWashing)
  | none => false

/-- A request's data read or written, and the request gone from its queue; what the turner reads is classed alone (R195). -/
def Block.perform (s : Block) (k : Nat) (r : DramReq) : Block :=
  let s2 :=
    if r.turner then
      if s.ownerWashing r.dpa then s else s.noteRead .turner none r.dpa (s.altFor r.dpa)
    else
      let s1 :=
        if r.write then
          let (stays, t) := s.writeMasked r.from_ r.dpa r.mask r.bytes r.poison
          t.emit (.written r.from_ r.dpa stays)
        else
          let (v, t) := s.readLine r.from_ r.dpa
          t.emit (.read r.from_ r.dpa v)
      s1.event 5 (if r.write then 2 else 1) (s1.accessAttr r.from_ r.dpa)
  s2.setPc k ((s2.pc k).without r)

/-- What is held for a stack that no home reaches settled as R174 and R500 settle an access to it: a twin's other copy, a
current cave copy, poison, a dropped write. -/
def Block.settleHeld (s : Block) (stk : Nat) : Block :=
  forEach ((s.pool.pcs.filter fun e => decide (e.1 / 64 = stk)).map (·.1)) (fun k t =>
    forEach (t.pc k).held (fun r u => u.perform k r) t) s

/-- A request that reaches a pseudo-channel's home stop (R152, R160); a stack that no home reaches, and that is not on its way
to one, takes none, and the request is settled at once (R174, R500). -/
def execDramRequestEnqueue (id : Nat) (q : Requester) (dpa : BitVec 52) (write : Bool)
    (stream : Option (BitVec 14)) (mask : List Bool) (bytes : List Byte) (poison : Bool) (s : State) : Out :=
  s.act fun s => (
    let l := lineOf dpa.toNat
    match s.servingStack (lstackOf l) with
    | some stk =>
      if dramBytes ≤ dpa.toNat then s.addressError q dpa.toNat
      else
        let k := pcKey stk (s.locOf stk l).pc
        let p := s.pc k
        let r : DramReq :=
          { id := id, seq := p.nextSeq, dpa := l, write := write, stream := stream.map BitVec.toNat, mask := mask
            bytes := bytes, poison := poison, from_ := q
            rt := match stream with
              | some st => s.isRealtime st.toNat
              | none => false }
        let s1 := s.setPc k { p with nextSeq := p.nextSeq + 1 }
        if s.reachable stk || (s.stk stk).moveTo.isSome then s1.offerReq stk k r else s1.perform k r
    | none => s.addressError q dpa.toNat)

/-- The open row of a bank, if any. -/
def PseudoChannel.openRow (p : PseudoChannel) (bank : Nat) : Option Nat :=
  let v := Assoc.get 0 bank p.openRows
  if v = 0 then none else some (v - 1)

/-- A scheduler with a bank precharged. -/
def PseudoChannel.precharge (p : PseudoChannel) (bank : Nat) : PseudoChannel :=
  { p with openRows := Assoc.put 0 bank 0 p.openRows }

/-- Whether a bank is being repaired, or a row of it, if one is named (R168). -/
def Block.underRepair (s : Block) (stk pc bank : Nat) (row : Option Nat) : Bool :=
  match (s.stk stk).repairing with
  | some (c, b, r) => decide (c = pc ∧ b = bank) && (row.isNone || decide (row = some r))
  | none => false

/-- Whether a request hits an open row, or a row that the repair buffer holds (R168). -/
def Block.hitsRow (s : Block) (stk : Nat) (p : PseudoChannel) (r : DramReq) : Bool :=
  let loc := s.locOf stk r.dpa
  decide (p.openRow loc.bank = some loc.row) || s.underRepair stk loc.pc loc.bank (some loc.row)

/-- A request's column access: the data read or written, its row closed when no queued access hits it (R155). -/
def Block.columnAccess (s : Block) (stk k : Nat) (r : DramReq) : Block :=
  let loc := s.locOf stk r.dpa
  let s1 := s.perform k r
  let p := s1.pc k
  let p1 := { p with
    hits := if p.hitRow = some (loc.bank, loc.row) then p.hits + 1 else 1
    hitRow := some (loc.bank, loc.row) }
  let last := !(p1.queued.any fun x => decide ((s1.locOf stk x.dpa).bank = loc.bank
    ∧ (s1.locOf stk x.dpa).row = loc.row))
  ((s1.setPc k (if last then p1.precharge loc.bank else p1)).setDrain stk k).admitHeld stk k

/-- The next command for a line's row: `go` if it is open, a precharge if its bank holds another, else an activate. -/
def Block.openThen (s : Block) (stk k dpa : Nat) (attr : Attr) (go : Block → Block) : Block :=
  let loc := s.locOf stk dpa
  let p := s.pc k
  match p.openRow loc.bank with
  | none =>
    (s.event 5 0 attr).setPc k
      { p with openRows := Assoc.put 0 loc.bank (loc.row + 1) p.openRows, lastGroup := some (loc.bank / 4 % 4) }
  | some row => if row = loc.row then go s else s.setPc k (p.precharge loc.bank)

/-- The next command of a request: its column access if its row is open, else what opens it. -/
def Block.issueReq (s : Block) (stk k : Nat) (r : DramReq) : Block :=
  if s.hitsRow stk (s.pc k) r then s.columnAccess stk k r
  else s.openThen stk k r.dpa (s.accessAttr r.from_ r.dpa) fun t => t.columnAccess stk k r

/-- The second read of a corrected line (R184): counted and logged as a read, a line CORRECTED again is hard. -/
def Block.reRead (s : Block) (src : RecSource) (stk dpa : Nat) : Block :=
  match s.classOn stk dpa with
  | .corrected _ bad =>
    let (e, s1) := s.countCorrected src stk dpa bad
    s1.noteHard (s.locOf stk dpa) e dpa bad
  | .uncorrectable => s.noteUncorrectable src none stk dpa (s.altFor dpa)
  | .poison true => s.queueBack stk dpa src (.clean (zeroLine maskK))
  | .vacant true => s.queueBack stk dpa src (.clean (zeroLine maskV))
  | .clean _ | .poison false | .vacant false => s

/-- A line rewritten after an uncorrectable read is watched from now (Table 6-8). -/
def Block.watchLine (s : Block) (dpa : Nat) : Block :=
  { s with pool := { s.pool with
      ueRewritten := if s.pool.ueRewritten.contains dpa then s.pool.ueRewritten else dpa :: s.pool.ueRewritten } }

/-- A rank 8 access carried out: after a write-back the line is to be read once more (R184, R185). -/
def Block.doBack (s : Block) (stk k : Nat) (b : BackReq) : Block :=
  let s1 := s.setPc k { s.pc k with back := (s.pc k).back.erase b }
  match b.work with
  | .writeBack syms => (s1.store stk b.dpa syms).queueBack stk b.dpa b.src .reRead
  | .reRead => s1.reRead b.src stk b.dpa
  | .clean syms => s1.store stk b.dpa syms
  | .source syms => (s1.store stk b.dpa syms).watchLine b.dpa
  | .poison data => ((s1.store stk b.dpa (poisonOver data)).watchLine b.dpa).bump (F.INT_S_POISON_WRITTEN_COUNT stk)

/-- Every request queued at a stack issued, and what waits at rank 8 carried out (Table 5-8 step 2). -/
def Block.drainStack (s : Block) (stk : Nat) : Block :=
  forEach ((s.pool.pcs.filter fun e => decide (e.1 / 64 = stk)).map (·.1)) (fun k t =>
    let t1 := forEach (t.pc k).queued (fun r u => u.perform k r) t
    let t2 := forEach (t1.pc k).back (fun b u => u.doBack stk k b) t1
    forEach (t2.pc k).back (fun b u => u.doBack stk k b) t2) s

/-- The requests to a line that wait at its scheduler issued in their order, with a re-read that waits: an access that
reaches the line at its home stop comes after them (R153). -/
def Block.settleLine (s : Block) (dpa : Nat) : Block :=
  match s.servingStack (lstackOf dpa) with
  | none => s
  | some stk =>
    let k := pcKey stk (s.locOf stk dpa).pc
    let p := s.pc k
    let waits := (p.queued ++ p.held).filter fun r => decide (r.dpa = dpa)
    let again := p.back.filter fun b => decide (b.dpa = dpa) && !b.writes
    if dramBytes ≤ dpa ∨ (waits = [] ∧ again = []) then s
    else ((forEach again (fun b t => t.doBack stk k b) (forEach waits (fun r t => t.perform k r) s)).setDrain stk k).admitHeld
      stk k

/-- A line read by the module itself: after what waits for it, with every effect of a read (R153, R183–R185, R197, R198). -/
def Block.moduleRead (s : Block) (dpa : Nat) : LineVal × Block := (s.settleLine (lineOf dpa)).readLine .firmware (lineOf dpa)

/-- Lines read by the module itself, in ascending order. -/
def Block.moduleLines (s : Block) (dpa : Nat) : Nat → List LineVal × Block
  | 0 => ([], s)
  | n + 1 =>
    let (v, t) := s.moduleRead dpa
    let (rest, u) := t.moduleLines (dpa + 64) n
    (v :: rest, u)

/-- Bytes read by the module itself, and whether any line of them is poison, whose bytes are 0x00 (R183). -/
def Block.moduleBytes (s : Block) (dpa n : Nat) : (List Byte × Bool) × Block :=
  let (ls, t) := s.moduleLines (lineOf dpa) ((dpa + n - 1) / 64 + 1 - dpa / 64)
  (((((ls.map LineVal.bytes).flatten.drop (dpa % 64)).take n), ls.any LineVal.isPoison), t)

/-- An access that reaches a line at its home slice: what waits for the line goes first, and the slice is looked up
(R153, Table 18-1). -/
def Block.arriveHome (s : Block) (q : Requester) (dpa : Nat) : Block := (s.settleLine dpa).lookUp q dpa

/-- Where refresh stands at a pseudo-channel: the row group × 64 + the bank that the next command refreshes, counted from
what the base die reported when the stack left self-refresh (R157, R159). -/
def Block.refreshPlace (s : Block) (stk pc : Nat) : Nat :=
  let start := match (s.stk stk).reported[pc]?, (s.stk stk).woken with
    | some place, _ => place
    | none, some n => (Config.freeValue (n + pc)).toNat
    | none, none => 0
  (start + (s.pc (pcKey stk pc)).turned) % 16384

/-- The bank that the next refresh takes. -/
def Block.refreshBankNo (s : Block) (stk pc : Nat) : Nat := s.refreshPlace stk pc % 64

/-- A refresh of the next bank in rotation: the debt falls by one, make-up ends at debt 0 (R157, R158). -/
def Block.refreshBank (s : Block) (stk pc k : Nat) : Block :=
  let p := s.pc k
  let s1 := s.drop (F.DRC_PC_STATE_DEBT stk pc)
  let ends := p.makeup && decide (s1.fld (F.DRC_PC_STATE_DEBT stk pc) = 0)
  (s1.setPc k { p.precharge (s.refreshBankNo stk pc) with
    turned := (p.turned + 1) % 16384
    refreshed := true
    makeup := p.makeup && !ends }).when ends fun t =>
      (t.bump (F.DRC_REF_STATUS_MAKEUP_COUNT stk)).event 5 4 .none_

/-- Panic's budget is charged (R161). -/
def Block.chargePanic (s : Block) (k ns : Nat) : Block := s.setPc k { s.pc k with budgetNs := (s.pc k).budgetNs + ns }

/-- Panic ignored until the window rolls over, since its budget is used up (R161). -/
def Block.overrunPanic (s : Block) (stk k : Nat) : Block :=
  (s.setPc k { s.pc k with panicIgnored := true }).bump (F.DRC_RT_STATUS_OVERRUN stk)

/-- Rank 6 of Table 5-5 under R155: the oldest request whose bank is precharged, of another bank group
than the last activate if there is one. -/
def Block.rank6 (s : Block) (stk : Nat) (p : PseudoChannel) (cands : List DramReq) : Option DramReq :=
  let closed := cands.filter fun r => (p.openRow (s.locOf stk r.dpa).bank).isNone
  match closed.find? fun r => decide (some ((s.locOf stk r.dpa).bank / 4 % 4) ≠ p.lastGroup) with
  | some r => some r
  | none => closed.head?

/-- Rank 5's cap: no more than HIT_CAP consecutive hits to one row while a request to another row waits. -/
def Block.hitAllowed (s : Block) (stk : Nat) (p : PseudoChannel) (r : DramReq) : Bool :=
  let loc := s.locOf stk r.dpa
  let other := p.queued.any fun x => decide ((s.locOf stk x.dpa).bank ≠ loc.bank
    ∨ (s.locOf stk x.dpa).row ≠ loc.row)
  !(decide (p.hitRow = some (loc.bank, loc.row)) && decide (s.fld (F.DRC_SCHED_HIT_CAP stk) ≤ p.hits) && other)

/-- The banks closed before a slot: those whose last access lies OPEN_MAX ns back (R155). -/
def PseudoChannel.shutRows (p : PseudoChannel) (banks : List Nat) : PseudoChannel := banks.foldl PseudoChannel.precharge p

/-- What a scheduler's refresh may do in a slot: the timings allow it, and its bank is not under repair (R154, R168). -/
def Block.refreshFits (s : Block) (stk pc : Nat) (t : SlotTiming) : Bool :=
  t.refreshFits && !s.underRepair stk pc (s.refreshBankNo stk pc) none

/-- Ranks 3 to 7 of Table 5-5: the command that a slot issues once make-up and panic have passed it by; none leaves the slot
unused.  A turner read has rank 3 once it has aged, else rank 8 (R194). -/
def Block.ranks3to7 (s : Block) (stk pc : Nat) (t : SlotTiming) (ready : List DramReq) : Option Block :=
  let k := pcKey stk pc
  let p := s.pc k
  let asked := ready.filter fun r => !r.turner
  let drains := if p.drain then asked.filter (·.write) else []
  match ready.find? fun r => t.aged.contains r.id with
  | some r => some (s.issueReq stk k r)
  | none =>
    match (match drains.find? (s.hitsRow stk p) with
           | some r => some r
           | none => drains.head?) with
    | some r => some (s.issueReq stk k r)
    | none =>
      match asked.find? fun r => s.hitsRow stk p r && s.hitAllowed stk p r with
      | some r => some (s.columnAccess stk k r)
      | none =>
        match s.rank6 stk p asked with
        | some r => some (s.issueReq stk k r)
        | none =>
          if decide (1 ≤ s.fld (F.DRC_PC_STATE_DEBT stk pc)) && s.refreshFits stk pc t
              && (p.openRow (s.refreshBankNo stk pc)).isNone then some (s.refreshBank stk pc k) else none

/-- Whether a line can be accessed as far as row repair goes: its bank is not under repair, or the repair buffer holds its row
(R168). -/
def Block.repairLets (s : Block) (stk dpa : Nat) : Bool :=
  let loc := s.locOf stk dpa
  !s.underRepair stk loc.pc loc.bank none || s.underRepair stk loc.pc loc.bank (some loc.row)

/-- Whether a pseudo-channel's crossing is full, so that its scheduler issues no access (R71). -/
def Block.pcFull (s : Block) (stk pc : Nat) : Bool := s.crossFull true (.pc (Fin.ofNat 18 stk) (Fin.ofNat 64 pc))

/-- Rank 8 of Table 5-5: the oldest turner read, else the first rewrite or second read that waits. -/
def Block.rank8 (s : Block) (stk pc : Nat) (ready : List DramReq) : Block :=
  let k := pcKey stk pc
  match ready.find? (·.turner) with
  | some r => s.issueReq stk k r
  | none =>
    match if s.pcFull stk pc then none else (s.pc k).back.find? fun b => s.repairLets stk b.dpa with
    | some b => s.openThen stk k b.dpa (s.lineAttr b.dpa) fun u => u.doBack stk k b
    | none => s

/-- Ranks 3 to 8 of Table 5-5. -/
def Block.slotByAge (s : Block) (stk pc : Nat) (t : SlotTiming) (ready : List DramReq) : Block :=
  match s.ranks3to7 stk pc t ready with
  | some u => u
  | none => s.rank8 stk pc ready

/-- The requests of a scheduler that may be issued in a slot, oldest first: the timings allow them, no older request to
their line waits, their bank is not under repair but for the row in the repair buffer, and the crossing has room (R71,
R153, R168). -/
def Block.readyReqs (s : Block) (stk pc : Nat) (t : SlotTiming) : List DramReq :=
  let p := s.pc (pcKey stk pc)
  if s.pcFull stk pc then []
  else p.queued.filter fun r => !t.blocked.contains r.id && !p.waitsBehind r && s.repairLets stk r.dpa

/-- Whether panic puts real-time requests at rank 2 (R161). -/
def Block.panicOn (s : Block) (stk k : Nat) : Bool :=
  s.isSet (F.DRC_RT_CFG_EN stk) && decide ((s.pc k).panic ≠ []) && !(s.pc k).panicIgnored

/-- Whether a slot goes unused by ranks 1 to 7, so that a copy-in may take it (R154). -/
def Block.slotUnused (s : Block) (stk pc : Nat) (t : SlotTiming) : Bool :=
  let k := pcKey stk pc
  let ready := s.readyReqs stk pc t
  (s.pc k).slice.isNone && !s.asleep stk && !s.pcFull stk pc && !((s.pc k).makeup && s.refreshFits stk pc t)
    && !(s.panicOn stk k && ready.any (·.rt)) && (s.ranks3to7 stk pc t ready).isNone

/-- A command slot: the first candidate of Table 5-5 that the timings allow is issued (R154), in the order make-up, panic
within its budget, then ranks 3 to 8. -/
def execSchedSlot (stack : Fin 18) (pc : Fin 64) (t : SlotTiming) (s : State) : Out :=
  s.act fun s => (
    let stk := stack.val
    let k := pcKey stk pc.val
    if (s.pc k).slice.isSome || s.asleep stk then s
    else
      let d := s.fld (F.DRC_PC_STATE_DEBT stk pc.val)
      let late := decide (0 < d ∧ s.fld (F.DRC_REF_CFG_POSTPONE_MAX stk) ≤ d)
      let s1 := s.setPc k { (s.pc k).shutRows t.shut with refreshed := false, makeup := (s.pc k).makeup || late }
      let p := s1.pc k
      let ready := s1.readyReqs stk pc.val t
      let urgent := if s1.panicOn stk k then ready.find? (·.rt) else none
      if p.makeup && s1.refreshFits stk pc.val t then s1.refreshBank stk pc.val k
      else
        match urgent with
        | some r =>
          if p.budgetNs + t.ns ≤ s1.fld (F.DRC_RT_CFG_PANIC_MAX_NS stk) then
            ((s1.chargePanic k t.ns).event 5 3 (s1.accessAttr r.from_ r.dpa)).issueReq stk k r
          else (s1.overrunPanic stk k).slotByAge stk pc.val t ready
        | none => s1.slotByAge stk pc.val t ready)

/-- A coalescing window closes (R189, R270). -/
def execErrorRecordWindowClose (key : RecKey) (recipient : Recipient) (s : State) : Out :=
  s.act fun s => (s.closeWindow key recipient)

/-- Make-up starts when the debt has reached POSTPONE_MAX (R158). -/
def Block.checkMakeup (s : Block) (stk pc k : Nat) : Block :=
  let p := s.pc k
  let d := s.fld (F.DRC_PC_STATE_DEBT stk pc)
  s.when (decide (0 < d) && decide (s.fld (F.DRC_REF_CFG_POSTPONE_MAX stk) ≤ d))
    fun t => t.setPc k { p with makeup := true }

/-- A refresh tick adds one command to the debt, beyond POSTPONE_MAX only during a slice and by at most 2
(R157, R158, R165). -/
def execRefreshTick (stack : Fin 18) (pc : Fin 64) (s : State) : Out :=
  s.act fun s => (
    let stk := stack.val
    let k := pcKey stk pc.val
    if s.asleep stk then s
    else
      let m := s.fld (F.DRC_REF_CFG_POSTPONE_MAX stk)
      let cap := if (s.pc k).slice.isSome then m + 2 else max m 1
      let d := s.fld (F.DRC_PC_STATE_DEBT stk pc.val)
      let s1 := s.setFld (F.DRC_PC_STATE_DEBT stk pc.val) (max d (min (d + 1) cap))
      if (s.pc k).slice.isSome then s1 else s1.checkMakeup stk pc.val k)

/-- The debts of a stack made up to 0 (R159). -/
def Block.debtsZero (s : Block) (stk : Nat) : Block :=
  forEach (s.listed (R.DRC_PC_STATE stk 0) (R.DRC_PC_STATE stk 64) 4 0)
    (fun p t => t.setFld (F.DRC_PC_STATE_DEBT stk p) 0) s

/-- Every scheduler of a stack changed. -/
def Block.mapPcs (s : Block) (stk : Nat) (f : PseudoChannel → PseudoChannel) : Block :=
  forEach ((s.pool.pcs.filter fun e => decide (e.1 / 64 = stk)).map (·.1)) (fun k t => t.setPc k (f (t.pc k))) s

/-- A stack put into self-refresh: debts made up, every bank precharged (R159). -/
def Block.sleepStack (s : Block) (stk : Nat) : Block :=
  let s1 := (s.debtsZero stk).mapPcs stk fun p => { p with makeup := false, openRows := [], hitRow := none, hits := 0 }
  s1.setStk stk { s1.stk stk with selfRefresh := true }

/-- What is held for a stack offered to its schedulers (R152). -/
def Block.admitStack (s : Block) (stk : Nat) : Block :=
  forEach ((s.pool.pcs.filter fun e => decide (e.1 / 64 = stk)).map (·.1)) (fun k t => t.admitHeld stk k) s

/-- A stack taken out of self-refresh: every pseudo-channel restarts with debt 0, at the bank and row group that the base
die reports as next, which are free values (R159), and what was held for it is admitted. -/
def Block.wakeStack (s : Block) (stk : Nat) : Block :=
  if (s.stk stk).selfRefresh then
    let s1 := (s.debtsZero stk).mapPcs stk fun p => { p with turned := 0 }
    let s2 := s1.setStk stk
      { s1.stk stk with selfRefresh := false, stranded := false, woken := some s1.free, reported := [] }
    ({ s2 with free := s2.free + 64 } : Block).admitStack stk
  else (s.setStk stk { s.stk stk with stranded := false }).admitStack stk

/-- A stack enters self-refresh (R159). -/
def execSelfRefreshEnter (stack : Fin 18) (s : State) : Out := s.act fun s => (s.sleepStack stack.val)

/-- A stack taken out of self-refresh, unless PWR_FAIL_N holds the module: it then stays there until the hold ends (R53). -/
def Block.wakeUnlessHeld (s : Block) (stk : Nat) : Block :=
  if s.pwr.held then s.setPwr { s.pwr with slept := if s.pwr.slept.contains stk then s.pwr.slept else s.pwr.slept ++ [stk] }
  else s.wakeStack stk

/-- A stack exits self-refresh (R159), which none does while PWR_FAIL_N holds the module (R53); the operand is the place that
the base die reports as next for each pseudo-channel, the row group × 64 + the bank: one that it leaves out is a free value. -/
def execSelfRefreshExit (stack : Fin 18) (bank : List (BitVec 14)) (s : State) : Out :=
  s.act fun s => (
    let s1 := s.wakeStack stack.val
    if s.pwr.held then s
    else if (s.stk stack.val).selfRefresh then
      s1.setStk stack.val { s1.stk stack.val with reported := (bank.take 64).map (·.toNat) }
    else s1)

/-- The pseudo-channels that hold a queued request of a stream. -/
def Block.pcsOfStream (s : Block) (stream : Nat) : List Nat :=
  (s.pool.pcs.filter fun e => e.2.queued.any fun r => decide (r.stream = some stream)).map (·.1)

/-- The staging level of a stream: the lines staged and not yet consumed (R218). -/
def Block.stagingLevel (s : Block) (stream : Nat) : Nat :=
  ((s.pool.prefetchers.filter fun e => decide (e.2.stream = stream)).map fun e => e.2.staged.length).foldl (· + ·) 0

/-- Whether a real-time stream's staging level is below its panic threshold (R161). -/
def Block.starved (s : Block) (stream : Nat) : Bool :=
  s.isRealtime stream && decide (s.stagingLevel stream < s.fld (F.ENG_ST_CFG_PANIC_LINES stream))

/-- The attribution of what a stream does: that of its first task's descriptor. -/
def Block.streamAttr (s : Block) (st : Nat) : Attr :=
  match s.eng.tasks.find? fun t => decide (t.stream = st) with
  | some t => s.entryAttr t.ring t.seq
  | none => .none_

/-- Panic reaches every pseudo-channel that holds a queued request of the stream (R161). -/
def execPanicRaise (stream : BitVec 14) (s : State) : Out :=
  s.act fun s => (
    let st := stream.toNat
    if s.starved st then
      forEach (s.pcsOfStream st)
        (fun k t => if (t.pc k).panic.contains st then t
          else t.setPc k { t.pc k with panic := st :: (t.pc k).panic })
        (if (s.pcsOfStream st).all fun k => (s.pc k).panic.contains st then s else s.event 3 2 (s.streamAttr st))
    else s)

/-- Panic clears on the level's recovery, or where the stream has no queued request (R161). -/
def execPanicClear (stream : BitVec 14) (s : State) : Out :=
  s.act fun s => (
    let st := stream.toNat
    forEach (s.pool.pcs.map (·.1))
      (fun k t =>
        if !s.starved st || !(s.pcsOfStream st).contains k then
          t.setPc k { t.pc k with panic := (t.pc k).panic.filter (· ≠ st) }
        else t) s)

/-- The panic budget window rolls over (R161). -/
def execPanicWindowRoll (stack : Fin 18) (pc : Fin 64) (s : State) : Out :=
  s.act fun s => (
    let k := pcKey stack.val pc.val
    s.setPc k { s.pc k with budgetNs := 0, panicIgnored := false })

/-- A full recalibration falls due: PERIOD_MS has passed, or the case temperature has moved by TEMP_DELTA
since the last one, from 0 °C before the first (R165; DESIGN CHOICE, log 147). -/
def execRecalTrigger (stack : Fin 18) (pc : Fin 64) (period : Bool) (s : State) : Out :=
  s.act fun s => (
    let stk := stack.val
    let k := pcKey stk pc.val
    let c := s.fld (F.DRC_TEMP_CASE_C stk)
    let b := (s.pc k).recalTemp
    let moved := decide (s.fld (F.DRC_RECAL_CFG_TEMP_DELTA stk) ≤ max c b - min c b)
    if period || moved then s.wantRecal k else s)

/-- The slices running on a stack. -/
def Block.slicesRunning (s : Block) (stk : Nat) : Nat :=
  (s.pool.pcs.filter fun e => decide (e.1 / 64 = stk) && e.2.slice.isSome).length

/-- A recalibration slice starts within the limits of R162 and R165; with POSTPONE_MAX 0, in the slot after a refresh, which the
operand claims and the pseudo-channel must show. -/
def execRecalSliceStart (stack : Fin 18) (pc : Fin 64) (deferred afterRefresh : Bool) (s : State) : Out :=
  s.act fun s => (
    let stk := stack.val
    let k := pcKey stk pc.val
    let p := s.pc k
    let m := s.fld (F.DRC_REF_CFG_POSTPONE_MAX stk)
    let spaced := match p.lastSlice with
      | none => true
      | some t => decide (t + 1000 ≤ s.now)
    let debtOk := (if m = 0 then afterRefresh else decide (s.fld (F.DRC_PC_STATE_DEBT stk pc.val) < m))
      && (!afterRefresh || p.refreshed)
    if s.isSet (F.DRC_RECAL_CFG_EN stk) && decide (0 < p.slicesDue) && p.slice.isNone && !s.asleep stk
        && decide (s.slicesRunning stk < s.fld (F.DRC_RECAL_CFG_MAX_CONC stk)) && debtOk && spaced
        && (decide (p.panic = []) || deferred) then
      s.setPc k { p with slice := some (6 - p.slicesDue), lastSlice := some s.now }
    else s)

/-- GID_DRAM_GIB brought up to the channel blocks that FAILED stacks serve no longer (R488). -/
def Block.countDram (s : Block) : Block :=
  let failed (k : Nat) : Bool :=
    decide (s.role k = roleFailed) && decide (s.servingStack (s.fld (F.DRC_STACK_ID_LOGICAL k)) = some k)
  let gone := (((List.range 18).filter failed).map fun k =>
    ((List.range 8).filter fun b => (s.stk k).failedWhole
      || (List.range 8).any fun c => s.isSet (F.DRC_PC_STATE_FAILED k (8 * b + c))).length).foldl (· + ·) 0
  s.setFld F.GID_DRAM_GIB_GIB (2048 - 16 * gone)

/-- A stack with a FAILED pseudo-channel, or unreadable, whose half has no spare left stays in service (R488). -/
def Block.leaveFailed (s : Block) (stk : Nat) : Block := (s.setFld (F.DRC_STACK_ID_ROLE stk) roleFailed).countDram

/-- Whether a spare can still be brought in: it is armed or being filled, and takes no stack's place yet (R174, R488). -/
def Block.spareFree (s : Block) (sp : Nat) : Bool :=
  (s.stk sp).replaces.isNone && (s.stk sp).switching.isNone && decide (s.role sp ∈ [roleArmed, roleFilling])

/-- The lines of a stack whose frame pages the cave holds current, by DPA (R226). -/
def Block.caveCurrent (s : Block) (l : Nat) : List Nat :=
  ((s.pool.frames.filter fun e => decide (lstackOf (e.1 * 2 ^ 21) = l) && e.2.block.isSome).map fun e =>
    ((e.2.valid.filter fun i => !e.2.dirty.contains i).map fun i =>
      (List.range 64).map fun j => e.1 * 2 ^ 21 + i * 4096 + j * 64).flatten).flatten

/-- The lines of a logical stack that twins hold. -/
def Block.twinLinesOn (s : Block) (l : Nat) : Nat :=
  ((s.activeTwins.map fun t => ([false, true].map fun b =>
    let lo := s.twinStart t b
    let hi := lo + s.twinBytes t
    (min hi ((l + 1) * 2 ^ 37) - max lo (l * 2 ^ 37)) / 64).foldl (· + ·) 0)).foldl (· + ·) 0

/-- A spare fails under copy-in (Table 17-5): it is FAILED, and the old stack, if readable, serves again with ROLE FAILED,
its lines poison but for those that a twin or a current cave copy holds; each line lost counts and is recorded. -/
def Block.spareFails (s : Block) (sp : Nat) : Block :=
  match s.oldStackOf sp with
  | none => s.leaveFailed sp
  | some o =>
    let l := s.fld (F.DRC_STACK_ID_LOGICAL o)
    let s1 := (s.setFld (F.DRC_SPARE_STATUS_BUSY o) 0).setFld (F.DRC_SPARE_STATUS_DONE o) 1
    if s.reachable o then
      let kept := s.caveCurrent l
      let lost := linesPerStack - s.twinLinesOn l - kept.length
      let s2 := ({ s1 with mem := s1.mem.blankStack o false } : Block).injectWithin (l * 2 ^ 37) ((l + 1) * 2 ^ 37)
      let s3 := forEach kept (fun d t => match s.caveCopy d with
        | some v => t.store o d v.symbols
        | none => t) s2
      let s4 := s3.setFld (F.DRC_STACK_ID_ROLE sp) roleFailed
      let top := (l + 1) * 2 ^ 37 - 64
      ((s4.leaveFailed o).loseLines (l * 2 ^ 37) top lost).raiseSpan kindCopyLost .copyIn none (l * 2 ^ 37) top lost
    else (s1.setStk sp { s1.stk sp with failedWhole := true }).leaveFailed sp

/-- A pseudo-channel of a stack has failed (R166, R488, R499): firmware is asked to bring in the spare of a serving stack, or
the stack is left FAILED where there is none; a stack already being replaced, or out of use, stays as it is. -/
def Block.wantSpare (s : Block) (stk : Nat) : Block :=
  let r := s.role stk
  if r = roleServing then
    if stk < 16 ∧ s.spareFree (spareOf stk) then s.emit (.wantsSpare stk) else s.leaveFailed stk
  else if r = roleCopyIn then s.spareFails stk
  else if r = roleFailed then s.countDram
  else s

/-- Lanes moved onto spare DQ within a slice; a lane beyond the two spares fails the pseudo-channel, and
firmware brings in the stack's spare (R166). -/
def Block.spareLanes (s : Block) (stk pc bad : Nat) : Block :=
  let used := s.fld (F.DRC_PC_STATE_LANES_SPARED stk pc)
  let s1 := s.setFld (F.DRC_PC_STATE_LANES_SPARED stk pc) (min (used + bad) 2)
  if 2 < used + bad ∧ ¬ s.isSet (F.DRC_PC_STATE_FAILED stk pc) then
    (((s1.setFld (F.DRC_PC_STATE_FAILED stk pc) 1).bump (F.DRC_TRAIN_STATUS_FAILED_PCS stk)).health
      (.pcFailed stk pc)).wantSpare stk
  else s1

/-- A slice ends: bad lanes are moved, the sixth slice ends the full recalibration and the suspicion of its
pins, and make-up follows if due (R165, R166, Table 6-8). -/
def execRecalSliceEnd (stack : Fin 18) (pc : Fin 64) (badLanes : Fin 39) (s : State) : Out :=
  s.act fun s => (
    let stk := stack.val
    let k := pcKey stk pc.val
    let p := s.pc k
    match p.slice with
    | none => s
    | some _ =>
      let due := p.slicesDue - 1
      let done := decide (due = 0)
      let s1 := (s.setPc k { p with
        slice := none, slicesDue := due
        recalTemp := if done then s.fld (F.DRC_TEMP_CASE_C stk) else p.recalTemp }).bump
        (F.DRC_PC_STATE_RECAL_SLICES stk pc.val)
      let s2 := s1.spareLanes stk pc.val badLanes.val
      let s3 : Block :=
        if done then
          let sus (x : Nat × Nat × Nat) := decide (x.1 = stk ∧ x.2.1 = pc.val)
          { s2 with pool := { s2.pool with
              suspectPins := s2.pool.suspectPins.filter fun x => !sus x
              pinRows := s2.pool.pinRows.filter fun r => !decide (r.stack = stk ∧ r.pc = pc.val)
              hardLines := (s2.pool.hardLines.map fun h =>
                if h.stack = stk ∧ h.pc = pc.val then
                  { h with pins := h.pins.filter fun q => !s2.pool.suspectPins.contains (h.stack, h.pc, q) }
                else h).filter fun h => decide (h.pins ≠ []) } }
        else s2
      s3.checkMakeup stk pc.val k)

/-- The interface a stack is served by: 0 primary, 1 alternate. -/
def Block.activeIface (s : Block) (stk : Nat) : Nat := s.fld (F.DRC_HOME_ON_ALT stk)

/-- A stack asleep on its way to its other home (Table 5-8 step 3). -/
def Block.sleepToMove (s : Block) (stk : Nat) (alt : Bool) : Block :=
  let s1 := (s.setFld (F.DRC_HOME_STATUS_BUSY stk) 1).sleepStack stk
  s1.setStk stk { s1.stk stk with moveTo := some alt }

/-- A move of a stack to its other home begins (Table 5-8 steps 1–3): what was queued is issued, then it sleeps. -/
def Block.beginMove (s : Block) (stk : Nat) (alt : Bool) : Block := (s.drainStack stk).sleepToMove stk alt

/-- The requests queued at a stack's schedulers go back to the stops that asked, which issue them again to its new home after
step 6 of Table 5-8 (Table 17-2). -/
def Block.holdQueued (s : Block) (stk : Nat) : Block :=
  s.mapPcs stk fun p => { p with queue := [], rtQueue := [], held := p.queued ++ p.held, drain := false }

/-- A stack interface is marked failed: a single-part fault, and a double one within the recovery of another (R167, R499).
The stack, if it was served there, moves to its other home without a command; with both interfaces failed its spare is to
be brought in (R167, R175). -/
def Block.failIface (s : Block) (stk iface : Nat) : Block :=
  let st := s.stk stk
  if st.ifaceFailed.contains iface then s
  else
    let s1 := ((s.setStk stk { st with ifaceFailed := iface :: st.ifaceFailed }).health (.ifaceFailed stk iface)).bump
      F.RAS_SINGLE_COUNT_COUNT
    let s2 := if s1.recovering then s1.bump F.RAS_DOUBLE_COUNT_COUNT else s1
    if st.moveTo.isNone ∧ st.ifaceFailed = [] ∧ s.activeIface stk = iface ∧ s.role stk ∉ [roleFilling, roleArmed, roleRetired] then
      s2.beginMove stk (decide (iface = 0))
    else if st.ifaceFailed ≠ [] then s2.wantSpare stk
    else s2

/-- A parity error on a stack interface: one retry; a second error on the transfer, or 16 on the interface in 1 ms, fails it
(R167). -/
def execInterfaceParityError (stack : Fin 18) (second : Bool) (s : State) : Out :=
  s.act fun s => (
    let stk := stack.val
    let st := s.stk stk
    let iface := s.activeIface stk
    let errors := (st.parityErrors.filter fun e => decide (s.now < e.2 + 1000)) ++ [(iface, s.now)]
    let s1 := s.setStk stk { st with parityErrors := errors }
    if second || decide (16 ≤ (errors.filter fun e => decide (e.1 = iface)).length) then s1.failIface stk iface else s1)

/-- The spare rows used in a bank (R168, R169). -/
def StackSt.rowsUsed (st : StackSt) (pc bank : Nat) : Nat :=
  ((st.repairs ++ st.burned).filter fun r => decide (r.1 = pc ∧ r.2.1 = bank)).length

/-- A line of a row under repair, read into the repair buffer and written to the spare row: corrected where it can be, poisoned
where it was uncorrectable (R168).  Its read counts as any other, what R184 and R185 queue for it waiting at rank 8 for the
spare row (R197; DESIGN CHOICE, log 199). -/
def Block.repairLine (s : Block) (stk dpa : Nat) : Block :=
  let old := s.mem.line stk (lineIndex dpa)
  (s.noteReadOn .demand none stk dpa (s.altFor dpa)).putLine stk dpa
    (match s.classOn stk dpa with
    | .corrected d _ => rsEncode d
    | .uncorrectable => poisonOver (old.take 64)
    | .poison true => zeroLine maskK
    | .vacant true => zeroLine maskV
    | .clean _ | .poison false | .vacant false => old)

/-- The lines of a row. -/
def Block.rowLines (s : Block) (stk pc bank row : Nat) : List Nat :=
  (List.range 16).map fun c => s.dpaOf { stack := stk, pc := pc, bank := bank, row := row, col := c }

/-- A refused repair command. -/
def Block.pprRefuse (s : Block) (stk code : Nat) : Block := s.setFld (F.DRC_PPR_STATUS_ERR stk) code

/-- A soft row repair starts, or is refused with its code (R168, R169, Table 5-7): the row's lines go through the repair
buffer, and its bank is precharged. -/
def Block.pprSoft (s : Block) (stk pc bank row : Nat) : Block :=
  let st := s.stk stk
  if s.isSet (F.DRC_PPR_STATUS_BUSY stk) then s.pprRefuse stk 0x03
  else if s.isSet (F.DRC_PC_STATE_FAILED stk pc) then s.pprRefuse stk 0x04
  else if 4 ≤ st.rowsUsed pc bank then (s.pprRefuse stk 0x01).health (.repairRefused stk pc bank row)
  else if 4096 ≤ s.fld (F.DRC_PPR_STATUS_SOFT_COUNT stk) then
    (s.pprRefuse stk 0x02).health (.repairRefused stk pc bank row)
  else
    let s1 := (s.setFld (F.DRC_PPR_STATUS_ERR stk) 0).setFld (F.DRC_PPR_STATUS_BUSY stk) 1
    let s2 := forEach (s.rowLines stk pc bank row) (fun d t => t.repairLine stk d)
      (s1.setStk stk { st with repairing := some (pc, bank, row) })
    s2.setPc (pcKey stk pc) ((s2.pc (pcKey stk pc)).precharge bank)

/-- DRC_PPR_CMD SOFT (R168). -/
def execPprSoft (by_ : Actor) (stack : Fin 18) (pc bank : Fin 64) (row : BitVec 15) (s : State) : Out :=
  s.act fun s => (s.byFull by_ fun t => t.pprSoft stack.val pc.val bank.val row.toNat)

/-- A row repair ends: the spare row is used and the map holds the repair (R168, R169). -/
def execPprDone (stack : Fin 18) (s : State) : Out :=
  s.act fun s => (
    let stk := stack.val
    let st := s.stk stk
    match st.repairing with
    | none => s
    | some r =>
      let s1 := s.setStk stk { st with repairing := none, repairs := st.repairs ++ [r] }
      ((((s1.setFld (F.DRC_PPR_STATUS_BUSY stk) 0).setFld (F.DRC_PPR_STATUS_DONE stk) 1).bump
        (F.DRC_PPR_STATUS_SOFT_COUNT stk)).drop (F.DRC_PC_STATE_SPARE_ROWS_LEFT stk r.1)))

/-- DRC_PPR_CMD HARDEN_ALL marks every soft repair to be burned at the next Cold training (R169). -/
def execHardenAll (by_ : Actor) (stack : Fin 18) (s : State) : Out :=
  s.act fun s => (s.byFull by_ fun t =>
    if t.isSet (F.DRC_PPR_STATUS_BUSY stack.val) then t.pprRefuse stack.val 0x03
    else (t.setFld (F.DRC_PPR_STATUS_ERR stack.val) 0).setFld (F.DRC_PPR_STATUS_HARDEN_PENDING stack.val) 1)

/-- DRC_HOME_CMD: a move to the named home begins, or is refused with ERR (R172). -/
def Block.homeCmd (s : Block) (stk : Nat) (alt : Bool) : Block :=
  if s.isSet (F.DRC_HOME_STATUS_BUSY stk) || decide (s.isSet (F.DRC_HOME_ON_ALT stk) = alt)
      || !decide (s.role stk ∈ [roleServing, roleCopyIn, roleFailed]) then
    s.setFld (F.DRC_HOME_STATUS_ERR stk) 1
  else s.beginMove stk alt

/-- DRC_HOME_CMD MOVE_TO_ALT (R170). -/
def execMoveToAlt (by_ : Actor) (stack : Fin 18) (s : State) : Out :=
  s.act fun s => (s.byFull by_ fun t => t.homeCmd stack.val true)

/-- DRC_HOME_CMD MOVE_TO_PRI (R172). -/
def execMoveToPri (by_ : Actor) (stack : Fin 18) (s : State) : Out :=
  s.act fun s => (s.byFull by_ fun t => t.homeCmd stack.val false)

/-- The cached lines of a stack written back and invalidated (R283 step 3). -/
def Block.flushStackLines (s : Block) (stk : Nat) : Block :=
  let served (c : CacheLine) : Bool := decide (s.servingStack (lstackOf c.dpa) = some stk)
  s.flushCache served false

/-- Whether a physical stack serves a line. -/
def Block.onStack (s : Block) (stk line : Nat) : Bool := decide (s.servingStack (lstackOf (s.homeLine line)) = some stk)

/-- Whether a line's stack is on its way to another home (R283). -/
def Block.lineMoves (s : Block) (line : Nat) : Bool :=
  match s.servingStack (lstackOf (s.homeLine line)) with
  | some k => (s.stk k).moveTo.isSome
  | none => false

/-- Whether the old homes of a stack's lines have finished: no transaction open, no writeback on its way (R283 step 2). -/
def Block.roseQuiet (s : Block) (stk : Nat) : Bool :=
  (s.host.rose.txns.all fun t => !s.onStack stk t.req.line) && s.host.rose.writebacks.all fun w => !s.onStack stk w.1

/-- The requests held for a stack's lines released to be issued again (R283 step 5). -/
def Block.freeHeld (s : Block) (stk : Nat) : Block :=
  let r := s.host.rose
  s.setRose { r with
    waiting := r.waiting ++ r.held.filter fun q => s.onStack stk q.line
    held := r.held.filter fun q => !s.onStack stk q.line }

/-- A stack on a new home (Table 5-8 steps 5 and 6): its shadowed lines in DRAM, its parity errors forgotten, awake, so that
the requests held for it are admitted. -/
def Block.settleHome (s : Block) (stk : Nat) (alt : Bool) : Block :=
  let s1 := ((s.flushStackLines stk).setBit (F.DRC_HOME_ON_ALT stk) alt).bump (F.DRC_HOME_STATUS_MOVES stk)
  ((s1.setStk stk { s1.stk stk with parityErrors := [] }).wakeUnlessHeld stk).freeHeld stk

/-- A change of home that step 5 ended: ERR, and the stack on its old home again, or unreachable in self-refresh where that
is out of service (R170). -/
def Block.failHome (s : Block) (stk : Nat) (old : Bool) : Block :=
  let s1 := (s.setFld (F.DRC_HOME_STATUS_ERR stk) 1).freeHeld stk
  if s.homeUsable stk old then s1.wakeUnlessHeld stk
  else
    let s2 := s1.sleepStack stk
    (s2.setStk stk { s2.stk stk with stranded := true }).settleHeld stk

/-- A change of home ends (Table 5-8 steps 5 and 6): on the new home, or back on the old with ERR; with the
old home out of service too the stack stays in self-refresh, unreachable (R170).  None ends before what was open at the old homes
on the rose ring has completed (R283). -/
def execHomeMoveComplete (stack : Fin 18) (ok : Bool) (s : State) : Out :=
  s.act fun s => (
    let stk := stack.val
    match (s.stk stk).moveTo with
    | none => s
    | some alt =>
      if !s.roseQuiet stk then s
      else
      let s1 := (s.setStk stk { s.stk stk with moveTo := none }).setFld (F.DRC_HOME_STATUS_BUSY stk) 0
        |>.setFld (F.DRC_HOME_STATUS_DONE stk) 1
      if ok && s.homeUsable stk alt then s1.settleHome stk alt else s1.failHome stk (!alt))

/-- The roles of the stacks that are read or written: those that serve, and an old stack under copy-in. -/
def rolesInUse : List Nat := [roleServing, roleCopyIn, roleCopyOut, roleFailed]

/-- A base die that sees neither command nor keep-alive enters self-refresh on its own; firmware completes
the move to the other home, if that can take it, and the requests queued on the old one are issued again there (R171,
Table 17-2). -/
def execBaseDieSelfRefresh (stack : Fin 18) (s : State) : Out :=
  s.act fun s => (
    let stk := stack.val
    let other := !s.isSet (F.DRC_HOME_ON_ALT stk)
    if s.homeUsable stk other && (s.stk stk).moveTo.isNone && decide (s.role stk ∈ rolesInUse) then
      (s.holdQueued stk).sleepToMove stk other
    else ((s.holdQueued stk).sleepStack stk))


end Sys2Proof.Machine
end

