-- ==== Sys2Proof/Machine/Integrity.lean ====
section
/-! DEFINITION.  The turner, the correctable-error log, injection, and twins (R193–R209). -/

namespace Sys2Proof.Machine

/-- How far the slowest walked pseudo-channel of a stack is, as passes not yet counted × 32,768 + the row reached (R193). -/
def Block.slowest (s : Block) (stk : Nat) : Nat :=
  let walked := s.pool.pcs.filter fun e => decide (e.1 / 64 = stk) && !s.isSet (F.DRC_PC_STATE_FAILED stk (e.1 % 64))
  if walked.length + s.fld (F.DRC_TRAIN_STATUS_FAILED_PCS stk) < 64 then 0
  else
    match walked.map fun e => e.2.passes * 32768 + e.2.turnerRow with
    | [] => 0
    | x :: xs => xs.foldl min x

/-- The stacks that the turner reads: serving or under copy-in, and not in self-refresh (R193, R195). -/
def Block.turnedStacks (s : Block) : List Nat :=
  (List.range 18).filter fun k => decide (s.role k ∈ [roleServing, roleCopyIn]) && !s.asleep k
    && decide (s.fld (F.DRC_TRAIN_STATUS_FAILED_PCS k) < 64)

/-- The turner's progress registers; a pass that every walked pseudo-channel has completed is counted (R193, Table 6-9). -/
def Block.turnerProgress (s : Block) (stk : Nat) : Block :=
  let s1 := s.setFld (F.INT_S_TURNER_ROW_ROW stk) (s.slowest stk % 32768)
  match s1.turnedStacks.map s1.slowest with
  | [] => s1
  | x :: xs =>
    let slow := xs.foldl min x
    let s2 := s1.setFld F.INT_TURNER_PROGRESS_FRAC (slow % 32768 / 32)
    if slow < 32768 then s2
    else forEach s1.turnedStacks (fun k t => t.mapPcs k fun p => { p with passes := p.passes - 1 })
      (s2.bump F.INT_TURNER_STATUS_PASSES)

/-- A read of the turner offered to its scheduler, named 2^32 + its place in the order of entry (R160, R194). -/
def Block.askTurner (s : Block) (stk k dpa : Nat) : Block :=
  let n := (s.pc k).nextSeq
  (s.setPc k { s.pc k with nextSeq := n + 1 }).offerReq stk k
    { id := 2 ^ 32 + n, seq := n, dpa := dpa, write := false, turner := true }

/-- The reads of the 16 lines of the turner's next row and bank enter the request queue; it skips what R195 names.
Nothing is read where the even spacing of the pass does not bring the row yet (R160, R193–R195; DESIGN CHOICE, log 215). -/
def execTurnerRowRead (stack : Fin 18) (pc : Fin 64) (s : State) (early : Bool := false) : Out :=
  s.act fun s => (
    let stk := stack.val
    let k := pcKey stk pc.val
    let p := s.pc k
    if !early && s.isSet F.INT_TURNER_CFG_EN && s.turnedStacks.contains stk
        && !s.isSet (F.DRC_PC_STATE_FAILED stk pc.val) then
      let lines := s.rowLines stk pc.val p.turnerBank p.turnerRow
      let skipped := decide ((s.stk stk).repairing = some (pc.val, p.turnerBank, p.turnerRow))
        || s.ownerWashing (lines.headD 0)
      let s1 := if skipped then s
        else forEach lines (fun d t => t.askTurner stk k d) s
      let lastBank := decide (p.turnerBank = 63)
      let lastRow := decide (p.turnerRow = 32767)
      (s1.setPc k { s1.pc k with
        turnerBank := (p.turnerBank + 1) % 64
        turnerRow := if lastBank then (p.turnerRow + 1) % 32768 else p.turnerRow
        passes := if lastBank && lastRow then (s1.pc k).passes + 1 else (s1.pc k).passes }).turnerProgress stk
    else s)

/-- A pseudo-channel has not completed its pass within 1.25 × PASS_MIN (R196). -/
def execTurnerLag (stack : Fin 18) (pc : Fin 64) (s : State) : Out :=
  s.act fun s => (
    if s.turnedStacks.contains stack.val && !s.isSet (F.DRC_PC_STATE_FAILED stack.val pc.val) then
      (s.setFld F.INT_TURNER_STATUS_LAG 1).health (.turnerLag stack.val)
    else s)

/-- INT_S_LOG_CLEAR empties a stack's log, and what was watched of it (R198, R199). -/
def execCeLogClear (by_ : Actor) (stack : Fin 18) (s : State) : Out :=
  s.act fun s => (s.byFull by_ fun t =>
    let stk := stack.val
    let lo := R.INT_S_LOG_DPA_LO stk 0
    let s1 := forEach (Assoc.keysIn lo (lo + 0x800) t.regs) (fun a u => u.setReg a (regDefault a))
      (t.forgetHard fun h => decide (h.stack = stk))
    (s1.setFld (F.INT_S_LOG_STATUS_USED stk) 0).setFld (F.INT_S_LOG_STATUS_HEAD stk) 0)

/-- Whether the injection fields allow ARM (R209, Table 6-9). -/
def Block.mayArm (s : Block) (mode count value : Nat) : Bool :=
  decide (s.pair R.INT_INJECT_DPA_LO R.INT_INJECT_DPA_HI < dramBytes)
    && (decide (mode = 2) || (decide (mode = 1) && decide (1 ≤ count ∧ count ≤ 6) && decide (value ≠ 0)))

/-- INT_INJECT_CTRL written with ARM: the fields are set, and the injection armed where R209 allows it; while
SETUP_LOCK is set every field keeps its value and the write is counted (R525). -/
def execInjectArm (by_ : Actor) (mode : BitVec 2) (pos : BitVec 7) (count : BitVec 3) (value : BitVec 8)
    (s : State) : Out :=
  s.act fun s => (s.byFull by_ fun t =>
    let v := BitVec.ofNat 32 ((if t.mayArm mode.toNat count.toNat value.toNat then 2 ^ 31 else 0)
      + mode.toNat * 2 ^ 29 + pos.toNat * 2 ^ 11 + count.toNat * 2 ^ 8 + value.toNat)
    if t.isSet F.GID_SETUP_LOCK_SETUP_LOCK then
      if v = t.reg R.INT_INJECT_CTRL then t else t.bump F.GID_LOCK_VIOL_COUNT_COUNT
    else t.setReg R.INT_INJECT_CTRL v)

/-- A write to a twin line, applied to both copies in order at the copy-A home stop (R202). -/
def execTwinWrite (q : Requester) (dpa : BitVec 52) (bytes : List Byte) (poison : Bool) (s : State) : Out :=
  s.act fun s => (
    if (s.twinOf (lineOf dpa.toNat)).isSome then
      (s.settleLine (lineOf dpa.toNat)).writeLine q dpa.toNat (if poison then .poison else .data (fitTo 0 64 bytes))
    else s)

/-- Whether two ranges of bytes overlap. -/
def overlaps (a n b m : Nat) : Bool := decide (a < b + m) && decide (b < a + n)

/-- The first reason for which ENABLE of a twin entry is refused, as ERR code (R201, Table 6-9); the order is
DESIGN CHOICE, log 149. -/
def Block.twinRefusal (s : Block) (t : Nat) : Option Nat :=
  let a := s.twinStart t false
  let b := s.twinStart t true
  let n := s.twinBytes t
  let ptn := s.fld (F.INT_TWIN_CFG_PARTITION t)
  let blocks := List.range (s.fld (F.INT_TWIN_CFG_BLOCKS t))
  let chans := ((List.range 128).filter fun c => overlaps a n (c * 2 ^ 34) (2 ^ 34)
    || overlaps b n (c * 2 ^ 34) (2 ^ 34))
  if n = 0 ∨ a % 2 ^ 21 ≠ 0 ∨ b % 2 ^ 21 ≠ 0 ∨ dramBytes < a + n ∨ dramBytes < b + n then some 1
  else if overlaps a n b n || (s.activeTwins.any fun u =>
      let m := s.twinBytes u
      let c := s.twinStart u false
      let d := s.twinStart u true
      overlaps a n c m || overlaps a n d m || overlaps b n c m || overlaps b n d m) then some 2
  else if blocks.any fun i => decide (lstackOf (a + i * 2 ^ 21) / 4 = lstackOf (b + i * 2 ^ 21) / 4) then some 3
  else if chans.any fun c => decide (s.blockOwner c ≠ some ptn) then some 4
  else none

/-- The cache holds none of `n` lines from `first`: what a twin has lost reads as poison (R206). -/
def Block.dropLines (s : Block) (first n : Nat) : Block :=
  { s with pool := { s.pool with
      cache := s.pool.cache.filter fun c => !(decide (first ≤ c.dpa) && decide (c.dpa < first + 64 * n)) } }

/-- A twin entry enters a state, with its walk at the first line. -/
def Block.twinEnter (s0 : Block) (t st : Nat) (servingB : Bool) : Block :=
  let s := s0.when (decide (st = twLost)) fun u => u.dropLines (u.twinStart t false) (u.twinBytes t / 64)
  let s1 := (s.setFld (F.INT_TWIN_STATE_STATE t) st).setBit (F.INT_TWIN_STATE_SERVING t) servingB
  let s2 := (s1.setFld (F.INT_TWIN_STATE_HEALTH t) (if st = twDegraded ∨ st = twLost then 3 else 0)).resyncPhase t
    (decide (st = twResync)) (decide (st = twSynced))
  if st = twSyncing ∨ st = twResync then
    (s2.setFld (F.INT_TWIN_PROGRESS_UNITS t) 0).setTwin t { s2.twin t with walked := 0 }
  else s2

/-- ENABLE 1 on a twin entry: checked, and the entry enters SYNCING, or ERR is set (R201, R206); what the cache holds of
both ranges goes to DRAM first, since a twin's lines are written through and copy B is reached by none (R202, R204). -/
def Block.twinEnable (s : Block) (t : Nat) : Block :=
  if s.fld (F.INT_TWIN_STATE_STATE t) ≠ twOff then s
  else
    match s.twinRefusal t with
    | some c => s.setFld (F.INT_TWIN_STATE_ERR t) c
    | none =>
      let mine (c : CacheLine) : Bool := [false, true].any fun b =>
        decide (s.twinStart t b ≤ c.dpa ∧ c.dpa < s.twinStart t b + s.twinBytes t)
      let s1 := ((s.flushCache mine false).setFld (F.INT_TWIN_CFG_ENABLE t) 1).setFld (F.INT_TWIN_STATE_ERR t) 0
      (s1.setTwin t {}).twinEnter t twSyncing false

/-- A write to a twin entry by a register write: firmware's entries 0–15 drop every write (R200); a scoped
function reaches the entries of its partition (R209). -/
def Block.twinAccess (s : Block) (a : Actor) (t : Nat) (act : Block → Block) : Block :=
  match a with
  | .firmware => act s
  | .fn f =>
    if s.reaches f (s.fld (F.INT_TWIN_CFG_PARTITION t)) then (if t < 16 then s else act s) else s.scopeViol

/-- ENABLE 1 on a twin entry (R201). -/
def execTwinEnable (by_ : Actor) (t : Fin 256) (s : State) : Out :=
  s.act fun s => (s.twinAccess by_ t.val fun u => u.twinEnable t.val)

/-- A twin entry becomes OFF: BASE is ordinary memory (R206). -/
def Block.twinOff (s : Block) (t : Nat) : Block :=
  ((s.setFld (F.INT_TWIN_CFG_ENABLE t) 0).twinEnter t twOff false).setTwin t {}

/-- ENABLE 0 on a twin entry (R206). -/
def execTwinDisable (by_ : Actor) (t : Fin 256) (s : State) : Out :=
  s.act fun s => (s.twinAccess by_ t.val fun u => u.twinOff t.val)

/-- The lines of one copy of a twin. -/
def Block.twinLines (s : Block) (t : Nat) : Nat := s.twinBytes t / 64

/-- The read of a walk's source that is UNCORRECTABLE counted (R197). -/
def Block.countUncorrectable (s : Block) (dpa : Nat) : Block :=
  match s.rawRead dpa with
  | some (stk, .uncorrectable) => s.bump (F.INT_S_UE_COUNT_COUNT stk)
  | _ => s

/-- Whether a twin's line lies in a copy that a spare's copy-in has filled already (R207). -/
def Block.copiedIn (s : Block) (t dpa : Nat) : Bool :=
  (s.twin t).viaCopyIn && match s.reachedStack dpa with
    | some k => decide (16 ≤ k) && match s.classOn k dpa with
      | .vacant _ => false
      | _ => true
    | none => false

/-- Lines of a twin left poisoned in both copies: counted, recorded, and lost to a pair of faults if they were being
resynchronised (R206, R499). -/
def Block.twinLost (s : Block) (t first n : Nat) : Block :=
  let s1 := ((s.dropLines first n).bump (F.INT_TWIN_LOST_COUNT t) n).raiseSpan kindTwinLost .resync none first (first + 64 * (n - 1)) n
  if s.fld (F.INT_TWIN_STATE_STATE t) = twResync then s1.loseLines first (first + 64 * (n - 1)) n else s1

/-- A walk of a twin takes one line: the source is copied to the target, or the line is poisoned in both
copies when the source cannot supply it (R206, R207); the copy-in of a spare is the walk for the lines it has filled.  A RESYNC
walk pauses while a critical phase acts on the stack of either copy (R498). -/
def execTwinWalkStep (t : Fin 256) (s : State) : Out :=
  s.act fun s => (
    let e := t.val
    let st := s.fld (F.INT_TWIN_STATE_STATE e)
    let w := (s.twin e).walked
    if (st = twSyncing ∨ st = twResync) ∧ w < s.twinLines e then
      let p := s.twinPrimary e
      let a := s.twinStart e p + 64 * w
      let b := s.twinStart e (!p) + 64 * w
      let paused := decide (st = twResync) && [a, b].any fun x =>
        match s.servingStack (lstackOf x) with
        | some k => !s.backgroundRuns k
        | none => false
      if paused then s else
      let s1 :=
        if s.copiedIn e b then s
        else match s.copyVal a with
          | some v => (s.noteRead .resync none a none).storeCopy b v
          | none =>
            (((s.countUncorrectable a).storeCopy a .poison).storeCopy b .poison).twinLost e (s.twinStart e false + 64 * w) 1
      (s1.setTwin e { s1.twin e with walked := w + 1 }).setFld (F.INT_TWIN_PROGRESS_UNITS e) ((w + 1) / 64)
    else s)

/-- The walk has ended: the twin is SYNCED (R206). -/
def execTwinWalkDone (t : Fin 256) (s : State) : Out :=
  s.act fun s => (
    let e := t.val
    let st := s.fld (F.INT_TWIN_STATE_STATE e)
    if (st = twSyncing ∨ st = twResync) ∧ s.twinLines e ≤ (s.twin e).walked then
      s.twinEnter e twSynced (s.isSet (F.INT_TWIN_STATE_SERVING e))
    else s)

/-- Whether a copy of a twin is unreadable: a stack that carries it is reached by no interface, or a pseudo-channel that
carries it is FAILED (R206). -/
def Block.copyUnreadable (s : Block) (t : Nat) (copyB : Bool) : Bool :=
  let a := s.twinStart t copyB
  let n := s.twinBytes t
  (List.range 128).any fun c =>
    overlaps a n (c * 2 ^ 34) (2 ^ 34) &&
      match s.servingStack (c / 8) with
      | none => true
      | some stk =>
        !s.reachable stk || (List.range 8).any fun i => s.isSet (F.DRC_PC_STATE_FAILED stk (c % 8 * 8 + i))

/-- Lines from `dpa` read as poison, in DRAM and in the cache (R206, R470). -/
def Block.poisonSpan (s : Block) (dpa n : Nat) : Block :=
  let stop := dpa + 64 * n
  let s1 := forEach (List.range 16) (fun l t =>
    let lo := max dpa (l * 2 ^ 37)
    let hi := min stop ((l + 1) * 2 ^ 37)
    if lo < hi then
      match t.servingStack l with
      | some stk => { t with mem := t.mem.poisonRange stk (lineIndex lo) ((hi - lo) / 64) }
      | none => t
    else t) s
  (s1.dropLines dpa n).injectWithin dpa stop

/-- The lines of a walk not yet copied are poisoned in copy `toB`, counted and recorded (R206). -/
def Block.poisonUnwalked (s : Block) (t : Nat) (toB : Bool) : Block :=
  let w := (s.twin t).walked
  let n := s.twinLines t - w
  if n = 0 then s
  else (s.poisonSpan (s.twinStart t toB + 64 * w) n).twinLost t (s.twinStart t false + 64 * w) n

/-- The transition of Table 6-10 when a copy becomes unreadable. -/
def Block.copyGone (s : Block) (e : Nat) (copyB : Bool) : Block :=
  let st := s.fld (F.INT_TWIN_STATE_STATE e)
  let serving := s.isSet (F.INT_TWIN_STATE_SERVING e)
  if st = twSyncing then
    if copyB then s.twinEnter e twDegraded false
    else (s.poisonUnwalked e true).twinEnter e twDegraded true
  else if st = twSynced then s.twinEnter e twDegraded (!copyB)
  else if st = twDegraded then
    if copyB = serving then s.twinEnter e twLost serving else s
  else if st = twResync then
    if copyB = serving then (s.poisonUnwalked e (!serving)).twinEnter e twDegraded (!serving)
    else s.twinEnter e twDegraded serving
  else s

/-- A copy of a twin has become unreadable: the transition of Table 6-10. -/
def execTwinCopyUnreadable (t : Fin 256) (copyB : Bool) (s : State) : Out :=
  s.act fun s => (if s.copyUnreadable t.val copyB then s.copyGone t.val copyB else s)

/-- The stack of a lost copy serves again: the twin resynchronises, or, from LOST with both copies readable,
both are rewritten as poison (R206). -/
def Block.copyBack (s : Block) (e : Nat) (copyB viaCopyIn : Bool) : Block :=
  let st := s.fld (F.INT_TWIN_STATE_STATE e)
  let serving := s.isSet (F.INT_TWIN_STATE_SERVING e)
  if st = twDegraded ∧ copyB ≠ serving then
    let s1 := s.twinEnter e twResync serving
    s1.setTwin e { s1.twin e with viaCopyIn := viaCopyIn }
  else if st = twLost ∧ ¬ s.copyUnreadable e (!copyB) then
    (((s.poisonSpan (s.twinStart e false) (s.twinLines e)).poisonSpan (s.twinStart e true)
      (s.twinLines e)).bump (F.INT_TWIN_LOST_COUNT e) (s.twinLines e)).twinEnter e twSynced serving
  else s

/-- The stack of a lost copy serves again (R206). -/
def execTwinStackReturn (t : Fin 256) (copyB : Bool) (s : State) : Out :=
  s.act fun s => (if s.copyUnreadable t.val copyB then s else s.copyBack t.val copyB false)

/-- Whether a copy of a twin lies on a logical stack. -/
def Block.copyOn (s : Block) (t l : Nat) (copyB : Bool) : Bool :=
  overlaps (s.twinStart t copyB) (s.twinBytes t) (l * 2 ^ 37) (2 ^ 37)

/-- The twins with a copy on a logical stack whose spare has switched in: the copy left with the old stack, COPY_OUT, and the
spare that serves it is resynchronised, its copy-in being the walk (R206, R207). -/
def Block.twinsReplaced (s : Block) (l : Nat) : Block :=
  forEach s.activeTwins (fun t u =>
    forEach ([false, true].filter fun b => s.copyOn t l b) (fun b v => (v.copyGone t b).copyBack t b true) u) s

/-- The read of a stored copy counted and logged; one that nothing can supply is handled as R185 says. -/
def Block.countRead (s : Block) (src : RecSource) (dpa : Nat) (lost : Bool) : Block :=
  match s.rawRead dpa with
  | some (stk, .corrected _ bad) => ((s.watchRewritten stk dpa true).countCorrected src stk dpa bad).2
  | some (stk, .uncorrectable) =>
    let s1 := s.watchRewritten stk dpa true
    if lost then s1.noteUncorrectable src none stk dpa none else s1.bump (F.INT_S_UE_COUNT_COUNT stk)
  | some (stk, _) => s.watchRewritten stk dpa false
  | none => s

/-- The patrol reads both copies of the next line of a SYNCED twin: a standby line that is not CLEAN is to be rewritten from
the good copy, the primary's or what restores it, and so is one that differs from a CLEAN primary (R203, R205). -/
def execTwinPatrolRead (t : Fin 256) (s : State) : Out :=
  s.act fun s => (
    let e := t.val
    let i := (s.twin e).patrolled
    if s.fld (F.INT_TWIN_STATE_STATE e) = twSynced ∧ i < s.twinLines e then
      let p := s.twinPrimary e
      let a := s.twinStart e p + 64 * i
      let b := s.twinStart e (!p) + 64 * i
      let ca := (s.rawRead a).map (·.2)
      let cb := (s.rawRead b).map (·.2)
      let ue := decide (cb = some .uncorrectable)
      let clean (c : Option LineClass) : Option (List Nat) := match c with
        | some (.clean d) => some d
        | _ => none
      let s1 := s.noteRead .patrol none a (s.altFor a)
      let good := match s.copyVal a with
        | some v => some v
        | none => s.altFor a
      let bump (u : Block) (f : TwinSt → TwinSt) := u.setTwin e (f (u.twin e))
      let rewrite (u : Block) : Block := match good, s.reachedStack b with
        | some v, some k => u.queueBack k b .patrol (match cb with
          | some (.corrected _ _) => .writeBack v.symbols
          | some .uncorrectable => .source v.symbols
          | _ => .clean v.symbols)
        | _, _ => u
      let s3 := match clean cb, clean ca with
        | none, _ =>
          bump ((rewrite (s1.countRead .patrol b good.isNone)).bump (F.INT_TWIN_STANDBY_CE_COUNT e)) fun w =>
            { w with passRewrites := w.passRewrites + 1, passBad := w.passBad || ue }
        | some x, some y =>
          if x = y then s1
          else bump (((rewrite s1).bump (F.INT_TWIN_MISMATCH_COUNT e)).setFld
            (F.INT_TWIN_STATE_HEALTH e) 2) fun w => { w with passBad := true }
        | some _, none => s1
      bump s3 fun w => { w with patrolled := i + 1 }
    else s)

/-- A patrol pass ends: HEALTH is set from it (R205); the passes in succession that leave it FAILING are counted (Table 17-6). -/
def execTwinPatrolPassEnd (t : Fin 256) (s : State) : Out :=
  s.act fun s => (
    let e := t.val
    if s.fld (F.INT_TWIN_STATE_STATE e) = twSynced then
      let w := s.twin e
      (s.setFld (F.INT_TWIN_STATE_HEALTH e) (if w.passBad then 2 else if 16 ≤ w.passRewrites then 1 else 0)).setTwin
        e { w with patrolled := 0, passRewrites := 0, passBad := false, failPasses := if w.passBad then w.failPasses + 1 else 0 }
    else s)

end Sys2Proof.Machine
end

