-- ==== Sys2Proof/Machine/Spares.lean ====
section
/-! DEFINITION.  Spares (R173–R176): the fill, the replacement of a stack, its switch and the copy-in. -/

namespace Sys2Proof.Machine

/-- The replacement of a stack by the spare of its half starts: the switch is under way (R175). -/
def Block.beginSwitch (s : Block) (stk : Nat) : Block :=
  let sp := spareOf stk
  let s0 := s.fault rcStack stk
  let s1 := s0.setStk stk { s0.stk stk with replaceWaiting := false }
  s1.setStk sp { s1.stk sp with switching := some stk }

/-- An unused spare's fill ends: every line vacant, ROLE SPARE_ARMED; a waiting replacement goes on (R173,
R174). -/
def execSpareFillDone (spare : Fin 2) (s : State) : Out :=
  s.act fun s => (
    let sp := 16 + spare.val
    if s.role sp = roleFilling then
      let s0 : Block := { s with mem := s.mem.blankStack sp true }
      let s1 := ((s0.setFld (F.DRC_STACK_ID_ROLE sp) roleArmed).setStk sp { s0.stk sp with filled := true }).sleepStack sp
      match (List.range 8).find? fun i => (s1.stk (8 * spare.val + i)).replaceWaiting with
      | some i => s1.beginSwitch (8 * spare.val + i)
      | none => s1
    else s)

/-- DRC_SPARE_CMD REPLACE: accepted, waiting for the fill when the stack is unreachable, or refused with its
code (R174). -/
def Block.replaceStack (s : Block) (stk : Nat) : Block :=
  let sp := spareOf stk
  let refuse (c : Nat) := s.setFld (F.DRC_SPARE_STATUS_ERR stk) c
  let accepted := (s.setFld (F.DRC_SPARE_STATUS_ERR stk) 0).setFld (F.DRC_SPARE_STATUS_BUSY stk) 1
  if s.role stk ≠ roleServing then refuse 0x02
  else if (s.stk sp).replaces.isSome || (s.stk sp).switching.isSome
      || (List.range 8).any (fun i => (s.stk (8 * (sp - 16) + i)).replaceWaiting) then refuse 0x03
  else if s.role sp = roleArmed then accepted.beginSwitch stk
  else if s.role sp = roleFilling ∧ ¬ s.reachable stk then
    accepted.setStk stk { s.stk stk with replaceWaiting := true }
  else refuse 0x01

/-- DRC_SPARE_CMD REPLACE written in a spare's own registers (R174): its half's spare is in use, or it does not serve. -/
def Block.replaceSpare (s : Block) (sp : Nat) : Block :=
  s.setFld (F.DRC_SPARE_STATUS_ERR sp)
    (if s.role sp ≠ roleServing then 0x02 else if (s.stk sp).replaces.isSome then 0x03 else 0x01)

/-- DRC_SPARE_CMD REPLACE (R174). -/
def execReplace (by_ : Actor) (stack : Fin 16) (s : State) : Out :=
  s.act fun s => (s.byFull by_ fun t => t.replaceStack stack.val)

/-- The homes of a spare that replaces a stack: the stack's primary port, and the same port on the other
die of the half (R22). -/
def Block.spareHomes (s : Block) (sp stk : Nat) : Block :=
  let d := s.fld (F.DRC_HOME_PRI_DIE stk)
  let p := s.fld (F.DRC_HOME_PRI_PORT stk)
  ((((s.setFld (F.DRC_HOME_PRI_DIE sp) d).setFld (F.DRC_HOME_PRI_PORT sp) p).setFld (F.DRC_HOME_ALT_DIE sp)
    (d / 2 * 2 + (1 - d % 2))).setFld (F.DRC_HOME_ALT_PORT sp) p).setFld (F.DRC_HOME_ON_ALT sp) 0

/-- The hash masks of a stack, both copies, taken by its spare (R150). -/
def Block.copyMasks (s : Block) (sp stk : Nat) : Block :=
  forEach (List.range 9) (fun k t =>
    t.setReg (R.DRC_HASH_CH0 sp + 4 * k) (t.reg (R.DRC_HASH_CH0 stk + 4 * k))) s

/-- The requests held for a stack offered to its spare, which holds its lines at the same places (R150, R175). -/
def Block.passHeld (s : Block) (stk sp : Nat) : Block :=
  forEach ((s.pool.pcs.filter fun e => decide (e.1 / 64 = stk) && decide (e.2.held ≠ [])).map (·.1)) (fun k t =>
    let k1 := pcKey sp (k % 64)
    forEach (t.pc k).held (fun r u =>
      let n := (u.pc k1).nextSeq
      (u.setPc k1 { u.pc k1 with nextSeq := n + 1 }).offerReq sp k1 { r with seq := n }) (t.setPc k { t.pc k with held := [] })) s

/-- The spare's switch ends (R175): the old stack's queued requests are issued, the spare serves the logical stack as COPY_IN
on its new home (Table 5-8 step 6) and the old stack becomes COPY_OUT; a failed switch ends the replacement with ERR 0x04
and leaves the spare armed (DESIGN CHOICE, log 148). -/
def execSpareSwitchDone (spare : Fin 2) (ok : Bool) (s : State) : Out :=
  s.act fun s => (
    let sp := 16 + spare.val
    match (s.stk sp).switching with
    | none => s
    | some stk =>
      if ok then
        let s0 := (s.drainStack stk).flushStackLines stk
        let s1 := (((s0.setStk stk { s0.stk stk with replacedBy := some sp }).copyMasks sp stk).spareHomes sp stk).bump
          (F.DRC_HOME_STATUS_MOVES sp)
        let s2 := (s1.setFld (F.DRC_STACK_ID_LOGICAL sp) (s1.fld (F.DRC_STACK_ID_LOGICAL stk))).setFld
          (F.DRC_STACK_ID_ROLE sp) roleCopyIn |>.setFld (F.DRC_STACK_ID_ROLE stk) roleCopyOut
        let s3 := s2.setFld (F.DRC_COPY_PROGRESS_UNITS sp) 0
        let s4 := s3.setRas { s3.ras with checkTwins := true }
        let s5 := (s4.setStk sp { s4.stk sp with switching := none, replaces := some stk, walkLine := 0 }).wakeUnlessHeld sp
        (s5.passHeld stk sp).twinsReplaced (s1.fld (F.DRC_STACK_ID_LOGICAL stk))
      else
        let s1 := ((s.setFld (F.DRC_SPARE_STATUS_ERR stk) 0x04).setFld (F.DRC_SPARE_STATUS_BUSY stk) 0).setFld
          (F.DRC_SPARE_STATUS_DONE stk) 1
        s1.setStk sp { s1.stk sp with switching := none })

/-- The DPA of a line of a stack, by its number in ascending DPA order. -/
def Block.stackLine (s : Block) (stk i : Nat) : Nat := s.fld (F.DRC_STACK_ID_LOGICAL stk) * 2 ^ 37 + i * 64

/-- The copy-in walk of a spare visits its next line: filled if still vacant, skipped otherwise (R175); at rank 8 of the
line's scheduler (R154), while the spare can be reached. -/
def Block.copyInStep (s : Block) (spare : Fin 2) (t : SlotTiming) : Block :=
  let sp := 16 + spare.val
  let st := s.stk sp
  if s.role sp = roleCopyIn ∧ st.moveTo = none ∧ s.reachable sp ∧ st.walkLine < linesPerStack ∧ s.backgroundRuns sp
      ∧ s.repairLets sp (s.stackLine sp st.walkLine)
      ∧ s.slotUnused sp (s.locOf sp (s.stackLine sp st.walkLine)).pc t then
    let dpa := s.stackLine sp st.walkLine
    let s1 := match s.classOn sp dpa with
      | .vacant _ => s.fillVacant .copyIn none sp dpa
      | _ => s
    (s1.setStk sp { s1.stk sp with walkLine := st.walkLine + 1 }).setFld (F.DRC_COPY_PROGRESS_UNITS sp)
      ((st.walkLine + 1) / 16)
  else s

/-- The copy-in walk visits one line: filled if still vacant, skipped otherwise (R175). -/
def execCopyInStep (spare : Fin 2) (s : State) (t : SlotTiming := {}) : Out := s.act fun s => (s.copyInStep spare t)

/-- A requester's access to a vacant line fills it first (R175). -/
def execDemandFill (q : Requester) (dpa : BitVec 52) (s : State) : Out :=
  s.act fun s => (
    match s.vacantInCopy (lineOf dpa.toNat) with
    | some stk => s.fillVacant .demand (some q) stk (lineOf dpa.toNat)
    | none => s)

/-- The walk has ended: the spare serves, the old stack is retired (R176). -/
def execCopyInDone (spare : Fin 2) (s : State) : Out :=
  s.act fun s => (
    let sp := 16 + spare.val
    if s.role sp = roleCopyIn ∧ linesPerStack ≤ (s.stk sp).walkLine then
      let s1 := s.setFld (F.DRC_STACK_ID_ROLE sp) roleServing
      match s.oldStackOf sp with
      | some o =>
        (((s1.setFld (F.DRC_STACK_ID_ROLE o) roleRetired).setFld (F.DRC_SPARE_STATUS_BUSY o) 0).setFld
          (F.DRC_SPARE_STATUS_DONE o) 1).sleepStack o
      | none => s1
    else s)

end Sys2Proof.Machine
end

