-- ==== Sys2Proof/Machine/Tracking.lean ====
section
/-! DEFINITION.  Host tracking (R277, R280): which logical devices may hold a line, and which accesses their copies
conflict with. -/

namespace Sys2Proof.Machine

/-- The COHERENT gates, enabled or closing, that cover a DPA. -/
def Block.coherentGates (s : Block) (dpa : Nat) : List Nat :=
  s.activeGates.filter fun g =>
    s.isSet (F.HPT_GATE_CFG_COHERENT g) && decide (s.fld (F.HPT_GATE_STATE_STATE g) ≠ 4) && s.gateCovers g dpa dpa

/-- What a lost die's tracking is remembered by: a DRAM line's logical stack, or 16 + the block of a cave-window line. -/
def assumedKey (line : Nat) : Nat :=
  if caveBase ≤ line ∧ line < caveEnd then 16 + cavePageOf line / 512 else lstackOf line

/-- Whether a line's tracking was lost with a die and is not precise again (R280). -/
def Block.assumedLine (s : Block) (line : Nat) : Bool :=
  s.host.assumed.contains (assumedKey line) && !s.host.precise.contains line

/-- The tracking of a line. -/
def Block.trackedAt (s : Block) (line : Nat) : Tracked :=
  if s.assumedLine line then
    let fns := ((s.coherentGates line).map s.gateFn).eraseDups
    { holders := fns, excl := fns }
  else Assoc.get {} line s.host.tracked

/-- The tracking of a line set; it is precise from then on. -/
def Block.setTracked (s : Block) (line : Nat) (v : Tracked) : Block :=
  { s with host := { s.host with
      tracked := Assoc.put {} line v s.host.tracked
      precise := if s.assumedLine line then line :: s.host.precise else s.host.precise } }

/-- A logical device no longer tracked at a line. -/
def Block.untrack (s : Block) (line fn : Nat) : Block :=
  let t := s.trackedAt line
  s.setTracked line { holders := t.holders.filter (· ≠ fn), excl := t.excl.filter (· ≠ fn) }

/-- A logical device that holds a line shared only. -/
def Block.trackShared (s : Block) (line fn : Nat) : Block :=
  let t := s.trackedAt line
  s.setTracked line { t with excl := t.excl.filter (· ≠ fn) }

/-- What a logical device may hold of a line after its request: 0 nothing, 1 shared, 2 exclusive (R277). -/
def Block.track (s : Block) (line fn keep : Nat) : Block :=
  let t := s.trackedAt line
  let hs := t.holders.filter (· ≠ fn)
  let es := t.excl.filter (· ≠ fn)
  s.setTracked line
    { holders := if keep = 0 then hs else hs ++ [fn]
      excl := if keep = 2 then es ++ [fn] else es }

/-- The logical device that a requester is. -/
def hostFn : Requester → Option Nat
  | .host f => some f
  | _ => none

/-- The logical devices whose copies an access conflicts with: another's exclusive copy for a read, any other's copy
for a write (R277). -/
def Block.conflicts (s : Block) (q : Requester) (write : Bool) (line : Nat) : List Nat :=
  let t := s.trackedAt line
  (if write then t.holders else t.excl).filter fun f => decide (some f ≠ hostFn q)

/-- Whether an access must wait for recalls (R277). -/
def Block.mustRecall (s : Block) (q : Requester) (write : Bool) (line : Nat) : Bool :=
  decide (s.conflicts q write line ≠ [])

/-- An access that waits for recalls, if it does, noted: what BISnp are sent for (R277). -/
def Block.noteWant (s : Block) (q : Requester) (write : Bool) (line : Nat) : Block :=
  let w : Want := { q := q, write := write, line := line }
  if s.mustRecall q write line && !s.host.wants.contains w then
    { s with host := { s.host with wants := s.host.wants ++ [w] } }
  else s

/-- Whether one of an access's lines must be recalled first. -/
def Block.blocked (s : Block) (q : Requester) (write : Bool) (lines : List Nat) : Bool := lines.any (s.mustRecall q write)

/-- The lines of an access that wait for recalls noted. -/
def Block.noteWants (s : Block) (q : Requester) (write : Bool) (lines : List Nat) : Block :=
  forEach lines (fun l t => t.noteWant q write l) s

/-- What the module does on lines that hosts may hold: done once no copy conflicts with it (R277). -/
def Block.afterRecall (s : Block) (q : Requester) (write : Bool) (lines : List Nat) (act : Block → Block) : Block :=
  if s.blocked q write lines then s.noteWants q write lines else act s

/-- The accesses that no longer wait for a recall forgotten. -/
def Block.pruneWants (s : Block) : Block :=
  { s with host := { s.host with wants := s.host.wants.filter fun w => s.mustRecall w.q w.write w.line } }

end Sys2Proof.Machine
end

