-- ==== Sys2Proof/Machine/Tiers.lean ====
section
/-! DEFINITION.  The pool cache, tier classes, cave extents, frames and the cave (R210–R233). -/

namespace Sys2Proof.Machine

/-- The cache modes of Table 7-2. -/
def modeNormal : Nat := 0
def modeStream : Nat := 1
def modeNoAlloc : Nat := 2

/-- The ways of a slice that a partition may fill in a set: those it owns, less the disabled ones of the
set's group (R212, R216). -/
def Block.usableWays (s : Block) (slice ptn set : Nat) : List Nat :=
  (List.range 16).filter fun w =>
    decide (s.wayOwner slice w = some ptn) && !s.pool.disabledWays.contains (slice, set / 64, w)

/-- The way a new line takes: a free one, or that of the least recently used line of the partition in the
set (R213). -/
def Block.victimWay (s : Block) (slice ptn set : Nat) : Option Nat :=
  let here := s.pool.cache.filter fun c => decide (c.slice = slice) && decide (cacheSet c.dpa = set)
  let ways := s.usableWays slice ptn set
  match ways.find? fun w => !here.any fun c => decide (c.way = w) with
  | some w => some w
  | none => ((here.filter fun c => decide (c.ptn = ptn) && ways.contains c.way).getLast?).map (·.way)

/-- A line put into the cache, its way's old line written back if dirty (R213, R214). -/
def Block.allocate (s : Block) (dpa : Nat) (v : LineVal) (dirty : Bool) : Block :=
  let slice := s.homeSlice dpa
  let set := cacheSet dpa
  match s.ownerOf dpa with
  | none => s
  | some ptn =>
    match s.victimWay slice ptn set with
    | none => s
    | some w =>
      let here (c : CacheLine) : Bool := decide (c.slice = slice ∧ cacheSet c.dpa = set ∧ c.way = w)
      let s0 := (s.flushCache here false).when (s.pool.cache.any here) fun t => t.event 4 3 (t.workAttr ptn)
      let s1 := if dirty then s0.shadowRoom dpa else s0
      let n := if dirty then s1.pool.turnedDirty + 1 else s1.pool.turnedDirty
      let line : CacheLine :=
        { dpa := dpa, slice := slice, way := w, ptn := ptn, dirty := dirty, turned := if dirty then n else 0, val := v }
      { s1 with pool := { s1.pool with
          turnedDirty := n
          cache := if (s.tier (tierBlockOf dpa)).mode = modeStream then s1.pool.cache ++ [line]
            else line :: s1.pool.cache } }

/-- A line that would allocate on a miss: its mode allows it, and its partition has a way (R212, Table 7-2); a line of a
MIRROR range, or of a twin in LOST, is held nowhere (R204, R206). -/
def Block.allocates (s : Block) (dpa : Nat) : Bool :=
  decide ((s.tier (tierBlockOf dpa)).mode ≠ modeNoAlloc)
    && (match s.twinOf dpa with
      | some (t, b) => !b && decide (s.fld (F.INT_TWIN_STATE_STATE t) ≠ twLost)
      | none => true)
    && match s.ownerOf dpa with
      | some p => decide (s.usableWays (s.homeSlice dpa) p (cacheSet dpa) ≠ [])
      | none => false

/-- A cached line made most recently used; a STREAM line keeps its place (R213). -/
def Block.touch (s : Block) (dpa : Nat) : Block :=
  if (s.tier (tierBlockOf dpa)).mode = modeStream then s
  else { s with pool := { s.pool with
    cache := (s.pool.cache.filter fun c => decide (c.dpa = dpa))
      ++ s.pool.cache.filter fun c => decide (c.dpa ≠ dpa) } }

/-- A read at the home slice: a hit, or a miss served from DRAM and allocated (R213–R215). -/
def Block.cacheRead (s : Block) (q : Requester) (dpa : Nat) : LineVal × Block :=
  let (v, s1) := s.readLine q dpa
  if (s.cached dpa).isSome then (v, s1.touch dpa)
  else if s.allocates dpa then (v, s1.allocate dpa v false)
  else (v, s1)

/-- A full-line write at the home slice (R213, R214): in place on a hit; on a miss it allocates without
reading DRAM; twin lines are written through. -/
def Block.cacheWrite (s : Block) (q : Requester) (dpa : Nat) (v : LineVal) : Block :=
  let twin := (s.twinOf dpa).isSome
  if s.dropsWrite dpa then s.writeDram (some q) dpa v
  else if (s.cached dpa).isSome then (s.writeLine q dpa v).touch dpa
  else if s.allocates dpa then
    if twin then (s.writeLine q dpa v).allocate dpa v false
    else (s.noteWrite q dpa).allocate dpa v true
  else s.writeLine q dpa v

/-- A write of the masked bytes at the home slice: a partial write that misses reads the line into the way
and merges (R214). -/
def Block.cacheMasked (s : Block) (q : Requester) (dpa : Nat) (mask : List Bool) (bytes : List Byte)
    (poison : Bool) : Bool × Block :=
  if poison then (false, s.cacheWrite q dpa .poison)
  else if fullMask mask then (false, s.cacheWrite q dpa (.data (fitTo 0 64 bytes)))
  else if s.dropsWrite dpa then (false, s.writeDram (some q) dpa .poison)
  else
    match s.cacheRead q dpa with
    | (.poison, s1) =>
      (true, match q with
        | .host _ => s1.raise kindPartialOnPoison .demand (some q) dpa
        | _ => s1)
    | (.data old, s1) => (false, s1.cacheWrite q dpa (.data (mergeBytes old mask bytes)))

/-- A line read at its home slice, after what waits for it (R153, R213). -/
def Block.readAt (s : Block) (q : Requester) (dpa : Nat) : LineVal × Block := (s.arriveHome q dpa).cacheRead q dpa

/-- A full line written at its home slice, after what waits for it. -/
def Block.writeAt (s : Block) (q : Requester) (dpa : Nat) (v : LineVal) : Block := (s.arriveHome q dpa).cacheWrite q dpa v

/-- The masked bytes of a line written at its home slice, after what waits for it. -/
def Block.writeMaskedAt (s : Block) (q : Requester) (dpa : Nat) (mask : List Bool) (bytes : List Byte) (poison : Bool) :
    Bool × Block :=
  (s.arriveHome q dpa).cacheMasked q dpa mask bytes poison

/-- Bytes written from `dpa` by the module itself, line by line. -/
def Block.poke (s : Block) (q : Requester) (dpa : Nat) (bytes : List Byte) : Block :=
  let first := dpa / 64
  let count := (dpa + bytes.length - 1) / 64 + 1 - first
  forEach (List.range count) (fun i t =>
    let base := (first + i) * 64
    let mask := (List.range 64).map fun j => decide (dpa ≤ base + j) && decide (base + j < dpa + bytes.length)
    let data := (List.range 64).map fun j => if dpa ≤ base + j then bytes.getD (base + j - dpa) 0 else 0
    (t.writeMaskedAt q base mask data false).2) s

/-- An access looks up its home slice (R211–R215). -/
def execCacheLookup (q : Requester) (dpa : BitVec 52) (write : Bool) (mask : List Bool) (bytes : List Byte)
    (poison : Bool) (s : State) : Out :=
  s.act fun s => (
    let l := lineOf dpa.toNat
    if dramBytes ≤ l ∨ ¬ s.directBlock l then s.addressError q dpa.toNat
    else if (s.twinOf l).any (·.2) then
      if write then s.writeLine q l .poison else (s.readLine q l).2.emit (.read q l .poison)
    else if write then
      let (stays, s1) := s.writeMaskedAt q l mask bytes poison
      s1.emit (.written q l stays)
    else
      let (v, s1) := s.readAt q l
      s1.emit (.read q l v))

/-- A cache command that has ended: DONE is set (R214). -/
def Block.cacheCmdDone (s : Block) : Block := s.setFld F.TIR_CACHE_CMD_STATUS_DONE 1

/-- TIR_CACHE_CMD FLUSH_PTN writes every dirty line of a partition to DRAM (R214). -/
def execFlushPtn (by_ : Actor) (ptn : Fin 32) (s : State) : Out :=
  s.act fun s => (s.byOwner by_ ptn.val fun t =>
    if t.isSet F.TIR_CACHE_CMD_STATUS_BUSY then t.setFld F.TIR_CACHE_CMD_STATUS_ERR 1
    else (t.flushCache (fun c => decide (c.ptn = ptn.val)) true).cacheCmdDone)

/-- TIR_CACHE_CMD FLUSH_ALL writes every dirty line to DRAM (R214). -/
def execFlushAll (by_ : Actor) (s : State) : Out :=
  s.act fun s => (s.byFull by_ fun t =>
    if t.isSet F.TIR_CACHE_CMD_STATUS_BUSY then t.setFld F.TIR_CACHE_CMD_STATUS_ERR 1
    else (t.flushCache (fun _ => true) true).cacheCmdDone)

/-- A way is retired in a set group: its dirty lines go to DRAM and its lines are invalidated; the group's
spare way takes its place, or the way is disabled once the spare is used (R216). -/
def Block.retireWay (s : Block) (sl g way : Nat) : Block :=
  let s1 := (s.fault rcWay sl).flushCache (fun c => decide (c.slice = sl ∧ cacheSet c.dpa / 64 = g ∧ c.way = way)) false
  if s.pool.disabledWays.contains (sl, g, way) then s1
  else if s.pool.retiredWays.any fun r => decide (r.1 = sl ∧ r.2.1 = g) then
    let first := !s.pool.disabledWays.any fun r => decide (r.1 = sl ∧ r.2.1 = g)
    let s2 : Block := { s1 with pool := { s1.pool with disabledWays := (sl, g, way) :: s1.pool.disabledWays } }
    (s2.when first fun t => t.bump (F.TIR_SLICE_WAYS_GROUPS_15WAY sl)).health (.sliceWay sl)
  else
    ({ s1 with pool := { s1.pool with retiredWays := (sl, g, way) :: s1.pool.retiredWays } } : Block).bump
      (F.TIR_SLICE_WAYS_SPARES_USED sl)

/-- A way is retired in a set group (R216). -/
def execWayRetire (slice : Fin 36) (group : BitVec 8) (way : Fin 16) (s : State) : Out :=
  s.act fun s => (s.retireWay slice.val group.toNat way.val)

/-- The extent in force that covers a cave block for a partition (R225). -/
def Block.extentFor (s : Block) (ptn block : Nat) : Option Nat :=
  s.activeExtents.find? fun x =>
    s.extentCovers x block && decide (s.fld (F.TIR_CX_CFG_PARTITION x) = ptn)
      && decide (s.fld (F.TIR_CX_STATE_STATE x) ≠ 3)

/-- The frames of a partition, in block order. -/
def Block.framesOf (s : Block) (ptn : Nat) : List (Nat × Frame) :=
  s.pool.frames.filter fun e => decide (s.ownerOf (e.1 * 2 ^ 21) = some ptn)

/-- A frame that may be evicted without a write-back: clean, unpinned, nothing staged or written (R227). -/
def Frame.cleanVictim (f : Frame) : Bool :=
  f.block.isSome && !f.pinned && !f.evicting && decide (f.dirty = []) && decide (f.staging = [])
    && decide (f.writing = [])

/-- The clock policy: the frames from the hand onward, the first without its reference bit, else the first
(R229). -/
def clockPick (hand : Nat) (fs : List (Nat × Frame)) : Option (Nat × Frame) :=
  let turned := (fs.filter fun e => decide (hand < e.1)) ++ fs.filter fun e => decide (e.1 ≤ hand)
  match turned.find? fun e => !e.2.ref with
  | some e => some e
  | none => turned.head?

/-- The clock hand of a partition moved to `b`, the reference bits it passed cleared: those between, or all of them
where the sweep went round to a frame whose bit was set (R229). -/
def Block.advanceHand (s : Block) (ptn b : Nat) : Block :=
  let hand := Assoc.get 0 ptn s.pool.hands
  let fs := ((s.framesOf ptn).filter fun e => !e.2.pinned && decide (e.2.staging = [])).map (·.1)
  let turned := (fs.filter fun k => decide (hand < k)) ++ fs.filter fun k => decide (k ≤ hand)
  let passed := if (s.frame b).ref then turned else turned.takeWhile fun k => decide (k ≠ b)
  let s1 : Block := { s with pool := { s.pool with hands := Assoc.put 0 ptn b s.pool.hands } }
  forEach passed (fun k t => t.setFrame k { t.frame k with ref := false }) s1

/-- The lines of a frame block that the cache holds, written back to it and invalidated (R229 step 3). -/
def Block.flushFrame (s : Block) (b : Nat) : Block :=
  s.flushCache (fun c => decide (tierBlockOf c.dpa = b)) false

/-- The extent count of resident blocks (TIR_CX_RESIDENT). -/
def Block.countResident (s : Block) (block : Nat) (up : Bool) : Block :=
  forEach (s.activeExtents.filter fun x => s.extentCovers x block) (fun x t =>
    if up then t.bump (F.TIR_CX_RESIDENT_BLOCKS x) else t.drop (F.TIR_CX_RESIDENT_BLOCKS x)) s

/-- A frame freed: no block, nothing valid. -/
def Block.freeFrame (s : Block) (b : Nat) : Block :=
  match (s.frame b).block with
  | some blk => (s.countResident blk false).setFrame b {}
  | none => s.setFrame b {}

/-- The 64 lines of a frame page as the cleaner reads them, as their home stops order them (R228). -/
def Block.pageLines (s : Block) (b page : Nat) : List LineVal × Block := s.moduleLines (framePage b page) 64

/-- The places that can take a page now. -/
def Block.servingTargets (s : Block) : List (Nat × Nat) :=
  ((List.range 32).map fun c => (List.range 8).map fun t => (c, t)).flatten.filter s.targetServes

/-- Places of which no two give the same `key`, the first of each taken. -/
def spread (key : Nat × Nat → Nat) (ms : List (Nat × Nat)) : List (Nat × Nat) :=
  ms.foldl (fun acc m => if acc.any fun x => decide (key x = key m) then acc else acc ++ [m]) []

/-- The places of a new stripe (R223, R224): four channels of four dies, or four channels where some die has none that is usable;
while a die is out of service, three channels of three dies.  Which of them is a free value. -/
def Block.placeStripe (s : Block) : List (Nat × Nat) × Block :=
  let (v, t) := s.fresh
  let ms := s.servingTargets
  let turned := ms.drop (v.toNat % ms.length) ++ ms.take (v.toNat % ms.length)
  let dies := spread (fun m => m.1 / 8) turned
  let chans := spread (fun m => m.1) turned
  if (List.range 4).any fun d => !s.dieServing d then ((if 3 ≤ dies.length then dies else chans).take 3, t)
  else ((if dies.length = 4 then dies else chans).take 4, t)

/-- A page put on flash. -/
def Block.putCave (s : Block) (n : Nat) (p : CavePage) : Block :=
  { s with pool := { s.pool with cave := Assoc.ins n p s.pool.cave } }

/-- A page written to flash under its partition's key, in a new stripe (R223, R228, R230). -/
def Block.programPage (s : Block) (ptn cavePage : Nat) (lines : List LineVal) : Block :=
  let (stripe, t) := s.placeStripe
  ((t.putCave cavePage { lines := lines, ptn := ptn, keyGen := s.caveKey ptn, tweak := caveTweak ptn cavePage, stripe := stripe }).bump
    F.TIR_CAVE_WRITTEN_COUNT).event 10 1 .none_

/-- A page moved to a new stripe (Table 7-7). -/
def Block.relocate (s : Block) (n : Nat) : Block :=
  match s.cavePage n with
  | none => s
  | some p =>
    let (stripe, t) := s.placeStripe
    t.putCave n { p with stripe := stripe }

/-- A page that cannot be read or rebuilt: its lines read as poison until it is fully rewritten, or, where only a die out of
service keeps it from being read, until the die returns (R223, Table 7-7). -/
def Block.loseCavePage (s : Block) (n : Nat) (p : CavePage) (forGood : Bool) : Block :=
  ((s.when forGood fun t => t.putCave n { p with lines := List.replicate 64 .poison }).bump F.TIR_CAVE_LOST_COUNT).raiseFor
    kindUncorrectable .demand none p.ptn (caveBase + 4096 * n)

/-- The lines of a page as flash supplies them (R224, R225, Table 7-7): rebuilt from its stripe where its own place is out, moved
away where a target or a channel failed; none, which is poison, where it was never written or a second place is out too. -/
def Block.flashLines (s : Block) (n : Nat) : List LineVal × Block :=
  match s.cavePage n with
  | none => ([], s)
  | some p =>
    let out := s.stripeOut p
    let failed := out.any fun m => s.dieServing (m.1 / 8)
    if p.stripe.head?.all s.targetServes then (p.lines, s)
    else if out.length ≤ 1 then (p.lines, (s.bump F.TIR_CAVE_REBUILT_COUNT).when failed fun t => t.relocate n)
    else ([], s.loseCavePage n p failed)

/-- Every dirty page of a frame written to the cave (R228, R229). -/
def Block.cleanFrame (s : Block) (b : Nat) : Block :=
  let f := s.frame b
  match f.block, s.ownerOf (b * 2 ^ 21) with
  | some blk, some ptn =>
    let s1 := forEach f.dirty (fun i t =>
      let (lines, u) := t.pageLines b i
      u.programPage ptn (blk * 512 + i) lines) s
    s1.setFrame b { s1.frame b with dirty := [], dirtyAt := [], writing := [] }
  | _, _ => s

/-- A flash page read: one that the code corrected counts for its channel, one read only after retry counts and is relocated
(Table 7-7). -/
def Block.countFlashRead (s : Block) (n : Nat) (how : FlashRead) : Block :=
  match how, (s.cavePage n).bind fun p => p.stripe.head? with
  | .corrected, some m => s.bump (F.TIR_CH_CE_COUNT m.1)
  | .retried, some _ => (s.bump F.TIR_CAVE_RETRY_COUNT).relocate n
  | _, _ => s

/-- A page's staging ends: its lines, or poison if never written, stand in the frame, and it is valid
(R225, R227 step 5). -/
def Block.stagePage (s0 : Block) (b page : Nat) (how : FlashRead) : Block :=
  let f := s0.frame b
  match f.block with
  | none => s0
  | some blk =>
    let (lines, s) := (s0.countFlashRead (blk * 512 + page) how).flashLines (blk * 512 + page)
    let s1 := forEach (List.range 64)
      (fun j t => t.storeCopy (framePage b page + 64 * j) (lines.getD j .poison)) s
    ((s1.setFrame b { f with
      valid := if f.valid.contains page then f.valid else page :: f.valid
      staging := f.staging.filter (· ≠ page) }).bump F.TIR_CAVE_STAGED_COUNT).event 10 0
      (match s.ownerOf (b * 2 ^ 21) with
       | some p => s.workAttr p
       | none => .none_)

/-- A page staged by a command other than CAVE_PAGE_STAGED: how its flash read went is a free value. -/
def Block.stageNow (s : Block) (b page : Nat) : Block :=
  let (v, t) := s.fresh
  t.stagePage b page (match v.toNat % 3 with
    | 0 => .clean
    | 1 => .corrected
    | _ => .retried)

/-- A page put among those being staged. -/
def Block.startStage (s : Block) (b page : Nat) : Block :=
  let f := s.frame b
  if f.valid.contains page || f.staging.contains page then s
  else s.setFrame b { f with staging := f.staging ++ [page] }

/-- With STAGE_WHOLE, the block's remaining pages are staged in the background, in ascending order (R227). -/
def Block.stageRest (s : Block) (x b : Nat) : Block :=
  if s.isSet (F.TIR_CX_CFG_STAGE_WHOLE x) then forEach (List.range 512) (fun i t => t.startStage b i) s else s

/-- An access to a frame line that is present (R227 step 6, R228). -/
def Block.serveCave (s : Block) (w : CaveWait) (b : Nat) : Block :=
  let d := framePage b (cavePageOf w.dpa % 512) + w.dpa % 4096 / 64 * 64
  if w.write then
    let (stays, t) := s.writeMaskedAt w.q d w.mask w.bytes w.poison
    t.emit (.written w.q w.dpa stays)
  else
    let (v, t) := s.readAt w.q d
    t.emit (.read w.q w.dpa v)

/-- The accesses held for a page released in arrival order (R227). -/
def Block.releasePage (s : Block) (b page : Nat) : Block :=
  let mine (w : CaveWait) : Bool := !w.forFrame && decide (cavePageOf w.dpa = page)
  let waiting := s.pool.caveWaits.filter mine
  let s1 : Block := { s with pool := { s.pool with caveWaits := s.pool.caveWaits.filter fun w => !mine w } }
  forEach waiting (fun w t => t.serveCave w b) s1

/-- The staging that accesses wait for completed, and what else is being staged given up: accesses already past step 2
complete before a frame is evicted (R229). -/
def Block.endStaging (s : Block) (b : Nat) : Block :=
  match (s.frame b).block with
  | none => s
  | some blk =>
    let waited (t : Block) (i : Nat) : Bool :=
      t.pool.caveWaits.any fun w => !w.forFrame && decide (cavePageOf w.dpa = blk * 512 + i)
    let s1 := forEach ((s.frame b).staging.filter (waited s)) (fun i t => (t.stageNow b i).releasePage b (blk * 512 + i)) s
    s1.setFrame b { s1.frame b with staging := [] }

/-- A frame evicted: accesses past step 2 complete, its lines are written back from the cache, its dirty pages to the cave,
the frame is freed; a frame with dirty pages stays while the cave is read-only (R229, R231). -/
def Block.evictFrame (s : Block) (b : Nat) (writeBack : Bool) : Block :=
  let s1 := s.endStaging b
  if writeBack && s.isSet F.TIR_CAVE_STATUS_READ_ONLY && decide ((s1.frame b).dirty ≠ []) then s1
  else
    let s2 := s1.flushFrame b
    (if writeBack then s2.cleanFrame b else s2).freeFrame b

/-- A frame for a block of a partition: a free one, or the clock policy's clean one, evicted (R227 step 3). -/
def Block.takeFrame (s : Block) (ptn block : Nat) (pinned : Bool) : Option (Nat × Block) :=
  let fs := s.framesOf ptn
  let give (t : Block) (b : Nat) : Nat × Block :=
    (b, (t.setFrame b { block := some block, pinned := pinned, ref := true }).countResident block true)
  match fs.find? fun e => decide (e.2.block = none) with
  | some e => some (give s e.1)
  | none =>
    match clockPick (Assoc.get 0 ptn s.pool.hands) (fs.filter fun e => e.2.cleanVictim) with
    | some e => some (give ((s.advanceHand ptn e.1).evictFrame e.1 true) e.1)
    | none => none

/-- A cave-window access past its extent check (Table 7-6 steps 2 to 6): served, or waiting for its page or
for a frame. -/
def Block.caveStep (s : Block) (w : CaveWait) (x : Nat) : Block :=
  let page := cavePageOf w.dpa
  let block := page / 512
  let wait (t : Block) (forFrame : Bool) : Block :=
    { t with pool := { t.pool with caveWaits := t.pool.caveWaits ++ [{ w with forFrame := forFrame }] } }
  match s.frameOf block with
  | some b =>
    if (s.frame b).valid.contains (page % 512) then s.serveCave w b
    else wait ((s.startStage b (page % 512)).stageRest x b) false
  | none =>
    match s.takeFrame w.ptn block (s.isSet (F.TIR_CX_CFG_PIN x)) with
    | some (b, s1) => wait ((s1.startStage b (page % 512)).stageRest x b) false
    | none => wait ((s.bump F.TIR_FRAME_WAIT_COUNT).event 10 2 (s.accessAttr w.q w.dpa)) true

/-- An access to the cave window (R225, R227): no extent of the partition covers it, R11; a write without
WRITABLE is dropped and recorded. -/
def Block.caveAccess (s : Block) (w : CaveWait) : Block :=
  if w.dpa < caveBase ∨ caveEnd ≤ w.dpa then s.addressError w.q w.dpa
  else
    match s.extentFor w.ptn (cavePageOf w.dpa / 512) with
    | none => s.addressError w.q w.dpa
    | some x =>
      if w.write && !s.isSet (F.TIR_CX_CFG_WRITABLE x) then
        (s.raiseFor kindWriteDropped .demand (some w.q) w.ptn w.dpa).emit (.written w.q w.dpa false)
      else s.caveStep w x

/-- An access to the cave window (R227). -/
def execCaveAccess (q : Requester) (ptn : Fin 32) (dpa : BitVec 52) (write : Bool) (mask : List Bool)
    (bytes : List Byte) (poison : Bool) (s : State) : Out :=
  s.act fun s => (s.caveAccess
    { q := q, dpa := dpa.toNat, ptn := ptn.val, write := write, mask := mask, bytes := bytes, poison := poison,
      forFrame := false })

/-- A flash page is read, decrypted and written into its frame, and the held accesses are released
(R227, R232). -/
def execCavePageStaged (page : BitVec 36) (s : State) (how : FlashRead := .clean) : Out :=
  s.act fun s => (
    match s.frameOf (page.toNat / 512) with
    | some b =>
      if (s.frame b).staging.contains (page.toNat % 512) then
        (s.stagePage b (page.toNat % 512) how).releasePage b page.toNat
      else s
    | none => s)

/-- A frame has become free: the first access that waited for one proceeds (R227). -/
def execFrameWaitResume (s : State) : Out :=
  s.act fun s => (
    match s.pool.caveWaits.find? fun w => w.forFrame && match s.extentFor w.ptn (cavePageOf w.dpa / 512) with
        | some _ => (s.takeFrame w.ptn (cavePageOf w.dpa / 512) false).isSome
            || (s.frameOf (cavePageOf w.dpa / 512)).isSome
        | none => true with
    | none => s
    | some w => ({ s with pool := { s.pool with caveWaits := s.pool.caveWaits.erase w } } : Block).caveAccess w)

/-- Whether the cleaner writes back a dirty page of a frame: it has been dirty for CLEAN_MS, its partition has fewer than
CLEAN_RESERVE clean unpinned frames, or an access waits for a frame (R227, R228). -/
def Block.cleanDue (s : Block) (b page : Nat) : Bool :=
  let f := s.frame b
  let clean (ptn : Nat) := ((s.framesOf ptn).filter fun e => !e.2.pinned && decide (e.2.dirty = [])).length
  decide (Assoc.get 0 page f.dirtyAt + 1000 * s.fld F.TIR_CAVE_CFG_CLEAN_MS ≤ s.now)
    || match s.ownerOf (b * 2 ^ 21) with
      | some p => decide (clean p < s.fld F.TIR_CAVE_CFG_CLEAN_RESERVE)
          || (s.pool.caveWaits.any fun w => w.forFrame && decide (w.ptn = p))
          || s.pool.frameWaits.any fun w => decide (s.lineOwner (caveBase + w.2 * 2 ^ 21) = some p)
      | none => false

/-- The lines of the cave window that a page of a frame holds. -/
def Block.windowLines (s : Block) (b page : Nat) : List Nat :=
  match (s.frame b).block with
  | some blk => (List.range 64).map fun i => caveBase + (blk * 512 + page) * 4096 + 64 * i
  | none => []

/-- The cleaner copies a dirty page, as ordered at its home stop, and its write-back begins (R228, R229), once no host holds a line
of it exclusive (R277). -/
def execCaveClean (frame : BitVec 20) (page : Fin 512) (s : State) : Out :=
  s.act fun s => (
    let b := frame.toNat
    let f := s.frame b
    if !s.isSet F.TIR_CAVE_STATUS_READ_ONLY && f.block.isSome && f.dirty.contains page.val && s.cleanDue b page.val
        && !f.writing.any fun w => decide (w.page = page.val) then
      s.afterRecall .firmware false (s.windowLines b page.val) fun s =>
      let (lines, t) := s.pageLines b page.val
      t.setFrame b { t.frame b with writing := (t.frame b).writing ++ [{ page := page.val, lines := lines }] }
    else s)

/-- A page of a frame programmed to flash: its dirty bit clears unless a later write was ordered after the copy (R229). -/
def Block.writeBackDone (s : Block) (frame : BitVec 20) (page : Fin 512) : Block :=
  let b := frame.toNat
  let f := s.frame b
  match f.block, s.ownerOf (b * 2 ^ 21), f.writing.find? fun w => decide (w.page = page.val) with
  | some blk, some ptn, some w =>
    (s.programPage ptn (blk * 512 + page.val) w.lines).setFrame b { f with
      dirty := if w.clean then f.dirty.filter (· ≠ page.val) else f.dirty
      dirtyAt := if w.clean then Assoc.drop page.val f.dirtyAt else f.dirtyAt
      writing := f.writing.filter fun x => decide (x.page ≠ page.val) }
  | _, _, _ => s

/-- TIR_CAVE_CMD SYNC_PTN writes back every dirty page of a partition (R228); a read-only cave refuses it. -/
def execSyncPtn (by_ : Actor) (ptn : Fin 32) (s : State) : Out :=
  s.act fun s => (s.byOwner by_ ptn.val fun t =>
    if t.isSet F.TIR_CAVE_STATUS_READ_ONLY || t.isSet F.TIR_CAVE_CMD_STATUS_BUSY then
      t.setFld F.TIR_CAVE_CMD_STATUS_ERR 1
    else
      (forEach ((t.framesOf ptn.val).map (·.1)) (fun b u => u.cleanFrame b) t).setFld
        F.TIR_CAVE_CMD_STATUS_DONE 1)

/-- The clock policy evicts a frame of a partition (R229). -/
def execFrameEvict (ptn : Fin 32) (s : State) : Out :=
  s.act fun s => (
    let fs := (s.framesOf ptn.val).filter fun e =>
      e.2.block.isSome && !e.2.pinned && decide (e.2.staging = [])
    match clockPick (Assoc.get 0 ptn.val s.pool.hands) fs with
    | some e => (s.advanceHand ptn.val e.1).evictFrame e.1 true
    | none => s)

/-- The mean erase count reaches a limit: a health event at 90, a read-only cave at 100 (R231). -/
def execCaveWearLimit (pct : BitVec 8) (s : State) : Out :=
  s.act fun s => (
    let s1 := ({ s with pool := { s.pool with caveWear := pct.toNat } } : Block).setFld F.TIR_CAVE_WEAR_LIFE_PCT pct.toNat
    if 100 ≤ pct.toNat then (s1.setFld F.TIR_CAVE_STATUS_READ_ONLY 1).health .caveReadOnly
    else if 90 ≤ pct.toNat then s1.health .caveWear
    else s1)

/-- The reason a TIR_BLOCK_CMD SET is refused, as ERR code (Table 7-10). -/
def Block.blockRefusal (s : Block) (a : Actor) (cls mode : Nat) : Option Nat :=
  let first := s.fld F.TIR_BLOCK_FIRST_BLOCK
  let count := s.fld F.TIR_BLOCK_COUNT_COUNT
  let chans := (List.range 128).filter fun c => overlaps (first * 2 ^ 21) (count * 2 ^ 21) (c * 2 ^ 34) (2 ^ 34)
  if count = 0 ∨ 2 ^ 20 < first + count then some 1
  else if !s.actsFull a && chans.any (fun c => match a with
      | .firmware => false
      | .fn f => match s.blockOwner c with
        | some p => !s.reaches f p
        | none => true) then some 2
  else if 4 ≤ cls ∨ cls = clsFirmware then some 3
  else if mode = 3 then some 4
  else if s.isSet F.TIR_BLOCK_STATUS_BUSY then some 5
  else if s.pool.tiers.any fun e =>
      decide (first ≤ e.1 ∧ e.1 < first + count) && decide (e.2.cls = clsFirmware) then some 6
  else none

/-- One tier block given a class and mode (R221): a block that joins the frame pool joins empty, one that
leaves it is evicted and poisoned; where it cannot be evicted, since the cave is read-only, the change waits (R231). -/
def Block.setBlock (s : Block) (cls mode b : Nat) : Block :=
  let old := (s.tier b).cls
  let put (t : Block) : Block :=
    { t with pool := { t.pool with tiers := Assoc.put {} b { cls := cls, mode := mode } t.pool.tiers } }
  if old = cls then put s
  else if cls = clsFrame then (put (s.flushFrame b)).setFrame b {}
  else if old = clsFrame then
    let s0 := s.evictFrame b true
    if (s0.frame b).block.isSome then { s0 with pool := { s0.pool with blockWaits := s0.pool.blockWaits ++ [(b, cls, mode)] } }
    else
      let s1 := s0.poisonSpan (b * 2 ^ 21) (2 ^ 15)
      put { s1 with pool := { s1.pool with frames := Assoc.drop b s1.pool.frames } }
  else put s

/-- TIR_BLOCK_CMD brought up to the changes of class that wait: BUSY while one does, then DONE (R221). -/
def Block.showBlockCmd (s : Block) : Block :=
  let busy := decide (s.pool.blockWaits ≠ [])
  (s.setBit F.TIR_BLOCK_STATUS_BUSY busy).when (!busy) fun t => t.setFld F.TIR_BLOCK_STATUS_DONE 1

/-- The changes of class that waited for an eviction made, where it can be now (R221, R229). -/
def Block.endBlockWaits (s : Block) : Block :=
  if s.pool.blockWaits = [] then s
  else (forEach s.pool.blockWaits (fun x t => t.setBlock x.2.1 x.2.2 x.1)
    { s with pool := { s.pool with blockWaits := [] } }).showBlockCmd

/-- A page write-back has been programmed: its dirty bit clears unless a later write was ordered after the
copy (R229). -/
def execCaveWriteBackDone (frame : BitVec 20) (page : Fin 512) (s : State) : Out :=
  s.act fun s => (s.writeBackDone frame page).endBlockWaits

/-- TIR_BLOCK_CMD SET applies a class and a mode to a run of tier blocks, or is refused (R221). -/
def execBlockSet (by_ : Actor) (cls : BitVec 4) (mode : BitVec 2) (s : State) : Out :=
  s.act fun s => (
    match s.blockRefusal by_ cls.toNat mode.toNat with
    | some c => s.setFld F.TIR_BLOCK_STATUS_ERR c
    | none =>
      let first := s.fld F.TIR_BLOCK_FIRST_BLOCK
      ((forEach (List.range (s.fld F.TIR_BLOCK_COUNT_COUNT))
        (fun i t => t.setBlock cls.toNat mode.toNat (first + i)) s).setFld F.TIR_BLOCK_STATUS_ERR 0).showBlockCmd)

/-- A register write on an extent by its owner (R241). -/
def Block.extentAccess (s : Block) (a : Actor) (x : Nat) (act : Block → Block) : Block :=
  s.byOwner a (s.fld (F.TIR_CX_CFG_PARTITION x)) act

/-- The reason ENABLE of an extent is refused, as ERR code (R225). -/
def Block.extentRefusal (s : Block) (x : Nat) : Option Nat :=
  let lo := s.fld (F.TIR_CX_BASE_BLK x)
  let n := s.fld (F.TIR_CX_COUNT_COUNT x)
  let ptn := s.fld (F.TIR_CX_CFG_PARTITION x)
  let free := ((s.framesOf ptn).filter fun e => decide (e.2.block = none)).length
  if n = 0 ∨ s.fld F.TIR_CAVE_CAPACITY_GIB * 512 < lo + n then some 1
  else if s.activeExtents.any fun y =>
      overlaps lo n (s.fld (F.TIR_CX_BASE_BLK y)) (s.fld (F.TIR_CX_COUNT_COUNT y)) then some 2
  else if s.isSet (F.TIR_CX_CFG_PIN x) && decide (free < n) then some 3
  else none

/-- A partition's key pair generated when its first extent is enabled (R230); an odd generation is a key in
force. -/
def Block.makeKey (s : Block) (ptn : Nat) : Block :=
  let g := s.caveKey ptn
  if g % 2 = 1 then s else { s with pool := { s.pool with keyGen := Assoc.put 0 ptn (g + 1) s.pool.keyGen } }

/-- A partition's keys destroyed: its cave pages can no longer be read (R230). -/
def Block.destroyKey (s : Block) (ptn : Nat) : Block :=
  let g := s.caveKey ptn
  if g % 2 = 1 then { s with pool := { s.pool with keyGen := Assoc.put 0 ptn (g + 1) s.pool.keyGen } } else s

/-- A block of a pinned extent given a frame, every page to be staged (R225). -/
def Block.pinBlock (s : Block) (ptn block : Nat) : Block :=
  match s.frameOf block with
  | some b => forEach (List.range 512) (fun i t => t.startStage b i) s
  | none =>
    match s.takeFrame ptn block true with
    | some (b, s1) => forEach (List.range 512) (fun i t => t.startStage b i) s1
    | none => s

/-- ENABLE 1 on a cave extent: checked; with PIN its blocks are staged (R225). -/
def Block.extentEnable (s : Block) (x : Nat) : Block :=
  if s.fld (F.TIR_CX_STATE_STATE x) ≠ 0 then s
  else
    match s.extentRefusal x with
    | some c => s.setFld (F.TIR_CX_STATE_ERR x) c
    | none =>
      let ptn := s.fld (F.TIR_CX_CFG_PARTITION x)
      let pin := s.isSet (F.TIR_CX_CFG_PIN x)
      let s1 := ((s.setFld (F.TIR_CX_CFG_ENABLE x) 1).setFld (F.TIR_CX_STATE_ERR x) 0).setFld
        (F.TIR_CX_STATE_STATE x) (if pin then 1 else 2)
      let s2 := (s1.setFld (F.TIR_CX_RESIDENT_BLOCKS x) 0).makeKey ptn
      if pin then
        forEach (List.range (s.fld (F.TIR_CX_COUNT_COUNT x)))
          (fun i t => t.pinBlock ptn (s.fld (F.TIR_CX_BASE_BLK x) + i)) s2
      else s2

/-- ENABLE 1 on a cave extent (R225). -/
def execExtentEnable (by_ : Actor) (x : Fin 1024) (s : State) : Out :=
  s.act fun s => (s.extentAccess by_ x.val fun t => t.extentEnable x.val)

/-- The frames that hold blocks of an extent. -/
def Block.extentFrames (s : Block) (x : Nat) : List (Nat × Frame) :=
  s.pool.frames.filter fun e => match e.2.block with
    | some blk => s.extentCovers x blk
    | none => false

/-- A pinned extent's staging ends, and it reads ON (R225). -/
def execExtentPinDone (x : Fin 1024) (s : State) : Out :=
  s.act fun s => (
    if s.fld (F.TIR_CX_STATE_STATE x.val) = 1 then
      (forEach (s.extentFrames x.val)
        (fun e t => forEach e.2.staging (fun i u =>
          (u.stageNow e.1 i).releasePage e.1 ((e.2.block.getD 0) * 512 + i)) t) s).setFld (F.TIR_CX_STATE_STATE x.val) 2
    else s)

/-- An extent released: its frames are evicted, and it is OFF once none is left (R229). -/
def Block.extentRelease (s : Block) (x : Nat) (writeBack : Bool) : Block :=
  if s.fld (F.TIR_CX_STATE_STATE x) = 0 then s.setFld (F.TIR_CX_CFG_ENABLE x) 0
  else
    let s1 := forEach ((s.extentFrames x).map (·.1)) (fun b t => t.evictFrame b writeBack) s
    (s1.setFld (F.TIR_CX_CFG_ENABLE x) 0).setFld (F.TIR_CX_STATE_STATE x)
      (if s1.extentFrames x = [] then 0 else 3)

/-- ENABLE 0 on a cave extent evicts its frames, and then it ends (R229). -/
def execExtentDisable (by_ : Actor) (x : Fin 1024) (s : State) : Out :=
  s.act fun s => (s.extentAccess by_ x.val fun t => t.extentRelease x.val true)

/-- A channel marked FAILED, its pages rebuilt in the background (Table 7-7). -/
def Block.failChannel (s : Block) (ch : Nat) : Block :=
  let st := s.fld (F.TIR_CH_STATUS_STATE ch)
  if st = 3 ∨ st = 4 then s
  else (((s.fault rcCave ch).setFld (F.TIR_CH_STATUS_STATE ch) 4).bump F.TIR_CAVE_STATUS_CH_FAILED).health (.channelFailed ch)

/-- A flash command times out: its target is reset and the command retried; a second timeout fails the
target, and the channel when no target is left (R232, Table 7-7). -/
def execFlashTimeout (ch : Fin 32) (target : Fin 8) (second : Bool) (s : State) : Out :=
  s.act fun s => (
    let c := ch.val
    let s1 := s.bump (F.TIR_CH_TIMEOUT_COUNT c)
    if second then
      let s2 := s1.setFld (F.TIR_CH_STATUS_TGT_FAILED c)
        (s1.fld (F.TIR_CH_STATUS_TGT_FAILED c) ||| 2 ^ target.val)
      let left := (List.range 8).any fun t =>
        decide (getBits (s2.fld (F.TIR_CH_STATUS_TGT_FITTED c)) t t = 1)
          && decide (getBits (s2.fld (F.TIR_CH_STATUS_TGT_FAILED c)) t t = 0)
      if left then s2 else s2.failChannel c
    else s1)

/-- A flash page is uncorrectable: rebuilt from its stripe, served and relocated, or lost: its lines read as
poison until fully rewritten (Table 7-7). -/
def execFlashReadUncorrectable (page : BitVec 36) (rebuilt : Bool) (s : State) : Out :=
  s.act fun s => (
    match s.cavePage page.toNat with
    | none => s
    | some p =>
      if rebuilt && p.stripe.tail.all s.targetServes then (s.bump F.TIR_CAVE_REBUILT_COUNT).relocate page.toNat
      else s.loseCavePage page.toNat p true)

/-- A program failure: the data is rewritten elsewhere and the flash block retired (Table 7-7). -/
def execFlashProgramFail (ch : Fin 32) (s : State) : Out :=
  s.act fun s => ((s.bump (F.TIR_CH_PFAIL_COUNT ch.val)).bump (F.TIR_CH_BAD_BLOCKS_COUNT ch.val))

/-- An erase failure: the flash block is retired (Table 7-7). -/
def execFlashEraseFail (ch : Fin 32) (s : State) : Out :=
  s.act fun s => ((s.bump (F.TIR_CH_EFAIL_COUNT ch.val)).bump (F.TIR_CH_BAD_BLOCKS_COUNT ch.val))

/-- A channel fails training, or all its targets fail (Table 7-7). -/
def execChannelFail (ch : Fin 32) (s : State) : Out := s.act fun s => (s.failChannel ch.val)

/-- The background rebuild of a failed channel's pages ends (Table 7-7): each that its stripe could restore lies elsewhere. -/
def execChannelRebuildDone (ch : Fin 32) (s : State) : Out :=
  s.act fun s => (
    if s.fld (F.TIR_CH_STATUS_STATE ch.val) = 4 then
      (forEach ((s.pool.cave.filter fun e => e.2.stripe.any fun m => decide (m.1 = ch.val)).map (·.1))
        (fun n t => match t.cavePage n with
          | some p => t.when (t.pageReadable p) fun u => u.relocate n
          | none => t) s).setFld (F.TIR_CH_STATUS_STATE ch.val) 3
    else s)

/-- The half that a consumed flush used is erased, and descriptors are accepted again (R233). -/
def execFlushRegionErase (s : State) : Out :=
  s.act fun s => { s with ctl := { s.ctl with flush := { s.ctl.flush with eraseHalf := none } } }

end Sys2Proof.Machine
end

