-- ==== Sys2Proof/Machine/Reach.lean ====
section
/-! DEFINITION.  One line reached at a DPA by a requester of a partition: DRAM, the cave window through its frames
(R225–R228), commons regions (R287), and the addresses that reach nothing (R11, Table 7-4). -/

namespace Sys2Proof.Machine

/-- What a read of one line gives: its value, nothing as R11 provides, or no answer yet. -/
inductive Got where
  | val (v : LineVal)
  | addressError
  | wait
  deriving DecidableEq, Repr

/-- What a write of one line gives: done, and whether the line stays poison; nothing as R11 provides; not yet. -/
inductive Put where
  | done (stays : Bool)
  | addressError
  | wait
  deriving DecidableEq, Repr

/-- The enabled commons regions: STATE other than OFF. -/
def Block.commonsOn (s : Block) : List Nat :=
  (List.range 64).filter fun r => decide (s.fld (F.HPT_CMN_STATE_STATE r) ≠ 0)

/-- The start of a bank of a commons region. -/
def Block.bankStart (s : Block) (r : Nat) (one : Bool) : Nat :=
  if one then s.pair (R.HPT_CMN_BANK1_LO r) (R.HPT_CMN_BANK1_HI r)
  else s.pair (R.HPT_CMN_BANK0_LO r) (R.HPT_CMN_BANK0_HI r)

/-- The bytes of a bank. -/
def Block.bankBytes (s : Block) (r : Nat) : Nat := s.fld (F.HPT_CMN_CFG_BLOCKS r) * 2 ^ 21

/-- The enabled region whose bank 0 (or bank 1) range holds a DPA. -/
def Block.commonsAt (s : Block) (one : Bool) (dpa : Nat) : Option Nat :=
  s.commonsOn.find? fun r =>
    decide (s.bankStart r one ≤ dpa) && decide (dpa < s.bankStart r one + s.bankBytes r)

/-- Where a read of a bank 0 DPA is served: the same place of bank `b` (R287). -/
def Block.commonsServe (s : Block) (r dpa b : Nat) : Nat :=
  dpa - s.bankStart r false + s.bankStart r (decide (b = 1))

/-- The bank a descriptor's reads of a region come from: the one it has sampled, or CURRENT, which it then
samples (R287). -/
def Block.sampleBank (s : Block) (d : Option (Nat × Nat)) (r : Nat) : Nat × Block :=
  let cur := s.fld (F.HPT_CMN_STATE_CURRENT r)
  match d with
  | none => (cur, s)
  | some (ring, seq) =>
    match s.host.samples.find? fun x => decide (x.ring = ring ∧ x.seq = seq ∧ x.region = r) with
    | some x => (x.bank, s)
    | none =>
      (cur, { s with host := { s.host with
        samples := { ring := ring, seq := seq, region := r, bank := cur } :: s.host.samples } })

/-- A cave-window line brought to its frame for partition `ptn` (R227): the frame line's DPA when its page is
there or can be staged now, the accesses held for the page going first; none while no frame is free. -/
def Block.bringIn (s : Block) (x ptn dpa : Nat) : Option (Nat × Block) :=
  let page := cavePageOf dpa
  let block := page / 512
  let place (b : Nat) (t : Block) : Nat × Block :=
    let t1 := if (t.frame b).valid.contains (page % 512) then t
      else (((t.startStage b (page % 512)).stageNow b (page % 512)).releasePage b page).stageRest x b
    (framePage b (page % 512) + dpa % 4096 / 64 * 64, t1)
  match s.frameOf block with
  | some b => some (place b s)
  | none => (s.takeFrame ptn block (s.isSet (F.TIR_CX_CFG_PIN x))).map fun e => place e.1 e.2

/-- Whether an access to the cave window waits for a frame (R227 step 3). -/
def Block.frameBlocked (s : Block) (ptn dpa : Nat) : Bool :=
  decide (caveBase ≤ dpa ∧ dpa < caveEnd) && match s.extentFor ptn (cavePageOf dpa / 512) with
    | none => false
    | some x => (s.bringIn x ptn (lineOf dpa)).isNone

/-- A requester's access that waits for a frame, if it does, counted once while it waits (R227). -/
def Block.noteFrameWait (s : Block) (q : Requester) (ptn dpa : Nat) : Block :=
  let k := (q, cavePageOf dpa / 512)
  if !s.frameBlocked ptn dpa || s.pool.frameWaits.contains k then s
  else
    (({ s with pool := { s.pool with frameWaits := s.pool.frameWaits ++ [k] } } : Block).bump F.TIR_FRAME_WAIT_COUNT).event 10 2
      (s.accessAttr q dpa)

/-- What an access's lines wait for noted: recalls, and the first frame. -/
def Block.noteWaits (s : Block) (q : Requester) (ptn : Nat) (write : Bool) (dpas : List Nat) : Block :=
  let s1 := s.noteWants q write (dpas.map lineOf).eraseDups
  match dpas.find? (s1.frameBlocked ptn) with
  | some d => s1.noteFrameWait q ptn d
  | none => s1

/-- A requester's access has its frame: it waits for none. -/
def Block.gotFrame (s : Block) (q : Requester) (dpa : Nat) : Block :=
  { s with pool := { s.pool with frameWaits := s.pool.frameWaits.filter fun w => decide (w ≠ (q, cavePageOf dpa / 512)) } }

/-- A run that waits and leaves everything as it was, but for what it waits for. -/
def Block.keepWaits (s s1 : Block) : Block :=
  let t : Block := { s with host := { s.host with wants := s1.host.wants } }
  if s1.pool.frameWaits = s.pool.frameWaits then t
  else ({ t with pool := { t.pool with frameWaits := s1.pool.frameWaits } } : Block).setFld F.TIR_FRAME_WAIT_COUNT
    (s1.fld F.TIR_FRAME_WAIT_COUNT)

/-- A DRAM address that requesters reach (R11, Table 7-4, R287). -/
def Block.dramReached (s : Block) (dpa : Nat) : Bool :=
  decide (dpa < dramBytes) && s.directBlock dpa && (s.commonsAt true dpa).isNone

/-- Whether a write of a partition's reaches something at a line: its own memory, or a place where writes are dropped and
recorded (R11, R225, R287). -/
def Block.writeReaches (s : Block) (ptn l : Nat) : Bool :=
  if caveBase ≤ l ∧ l < caveEnd then (s.extentFor ptn (cavePageOf l / 512)).isSome
  else (s.commonsAt false l).isSome || s.dramReached l

/-- A descriptor that has read a line which a pair of faults left poisoned (R499). -/
def Block.noteLost (s : Block) (d : Option (Nat × Nat)) (dpa : Nat) (v : LineVal) : Block :=
  match d with
  | none => s
  | some (ring, seq) =>
    if v.isPoison && s.lineLost dpa then
      { s with ctl := { s.ctl with
          logbook := s.ctl.logbook.map fun e => if e.ring = ring ∧ e.seq = seq then { e with sawLost := true } else e } }
    else s

/-- A DRAM line read at its home slice for a descriptor (R153, R213). -/
def Block.readHome (s : Block) (q : Requester) (d : Option (Nat × Nat)) (dpa : Nat) : Got × Block :=
  let (v, s1) := s.readAt q dpa
  (.val v, s1.noteLost d dpa v)

/-- A line read by a requester working for partition `ptn`; `d` is the descriptor it works for, if any.  It waits while
hosts hold copies that it conflicts with (R277). -/
def Block.fetch (s : Block) (q : Requester) (d : Option (Nat × Nat)) (ptn dpa : Nat) : Got × Block :=
  let l := lineOf dpa
  if s.mustRecall q false l then (.wait, s.noteWant q false l)
  else if caveBase ≤ l ∧ l < caveEnd then
    match s.extentFor ptn (cavePageOf l / 512) with
    | none => (.addressError, s.addressRecord q dpa)
    | some x =>
      match s.bringIn x ptn l with
      | none => (.wait, s.noteFrameWait q ptn l)
      | some (f, s1) => (s1.gotFrame q l).readHome q d f
  else if !s.dramReached l then (.addressError, s.addressRecord q dpa)
  else
    match s.commonsAt false l with
    | some r =>
      let (b, s1) := s.sampleBank d r
      s1.readHome q d (s.commonsServe r l b)
    | none => s.readHome q d l

/-- The masked bytes of a line written by a requester working for partition `ptn` (R153, R225, R277, R287). -/
def Block.deposit (s : Block) (q : Requester) (ptn dpa : Nat) (mask : List Bool) (bytes : List Byte)
    (poison : Bool) : Put × Block :=
  let l := lineOf dpa
  if s.mustRecall q true l then (.wait, s.noteWant q true l)
  else if caveBase ≤ l ∧ l < caveEnd then
    match s.extentFor ptn (cavePageOf l / 512) with
    | none => (.addressError, s.addressRecord q dpa)
    | some x =>
      if !s.isSet (F.TIR_CX_CFG_WRITABLE x) then (.done false, s.raiseFor kindWriteDropped .demand (some q) ptn l)
      else
        match s.bringIn x ptn l with
        | none => (.wait, s.noteFrameWait q ptn l)
        | some (f, s1) =>
          let (stays, s2) := (s1.gotFrame q l).writeMaskedAt q f mask bytes poison
          (.done stays, s2)
  else if (s.commonsAt false l).isSome then (.done false, s.raise kindWriteDropped .demand (some q) l)
  else if (s.commonsAt true l).isSome then
    (.addressError, (s.raise kindWriteDropped .demand (some q) l).addressRecord q dpa)
  else if !s.dramReached l then (.addressError, s.addressRecord q dpa)
  else
    let (stays, s1) := s.writeMaskedAt q l mask bytes poison
    (.done stays, s1)

end Sys2Proof.Machine
end

