-- ==== Sys2Proof/Machine/Walk.lean ====
section
/-! DEFINITION.  Address translation (R242–R249): segments, the two-level walk, its denials and faults, and
the translation cache. -/

namespace Sys2Proof.Machine

/-- Access rights, as the bits of RIGHTS (Table 8-1). -/
def accRead : Nat := 4
def accWrite : Nat := 2
def accAtomic : Nat := 1

/-- The denial codes of Table 8-3. -/
def denNoSegment : Nat := 0x01
def denBadSegment : Nat := 0x02
def denCtxOff : Nat := 0x03
def denRangeNotPriv : Nat := 0x04
def denTableError : Nat := 0x05
def denNotOwned : Nat := 0x06
def denDenied : Nat := 0x07
def denTimeout : Nat := 0x08
def denFnDisabled : Nat := 0x09
def denNoQueue : Nat := 0x0A
def denNoRights : Nat := 0x0B
def denNotMapped : Nat := 0x0C
def denPageRights : Nat := 0x0D

/-- The reasons of a fault (REASON of Table 8-7). -/
def faultDirInvalid : Nat := 1
def faultPageInvalid : Nat := 2
def faultRights : Nat := 3

/-- The result of a translation: a DPA, a denial code, a fault with its reason and the table line that caused it, or no result
yet. -/
inductive Xlat where
  | ok (dpa : Nat)
  | wait
  | deny (code : Nat)
  | fault (reason line : Nat)
  deriving DecidableEq, Repr

/-- Rights that `have_` lacks for an access. -/
def lacks (acc have_ : Nat) : Bool := decide (acc &&& (7 - have_ % 8) ≠ 0)

/-- A context's partition. -/
def Block.ctxPtn (s : Block) (c : Nat) : Nat := s.fld (F.XLT_CTX_CFG_PARTITION c)

/-- A context's loaded part. -/
def Block.ctx (s : Block) (c : Nat) : CtxSt := Assoc.get {} c s.xlt.ctxs

/-- A context's loaded part replaced. -/
def Block.setCtx (s : Block) (c : Nat) (v : CtxSt) : Block :=
  { s with xlt := { s.xlt with ctxs := Assoc.put {} c v s.xlt.ctxs } }

/-- Whether `n` bytes from a DPA lie wholly within copy A of an enabled twin entry of a partition. -/
def Block.inTwinOf (s : Block) (ptn dpa n : Nat) : Bool :=
  s.activeTwins.any fun t =>
    decide (s.fld (F.INT_TWIN_CFG_PARTITION t) = ptn) && decide (s.twinStart t false ≤ dpa)
      && decide (dpa + n ≤ s.twinStart t false + s.twinBytes t)

/-- A page of a partition that translation may give (R247): an ORDINARY or PRESSED DRAM page of its channel
blocks, a cave page in one of its enabled extents, or for reads of a commons reader a bank 0 page (R467). -/
def Block.ownsPage (s : Block) (ptn acc dpa : Nat) : Bool :=
  if caveBase ≤ dpa then decide (dpa < caveEnd) && (s.extentFor ptn (cavePageOf dpa / 512)).isSome
  else
    (decide (dpa < dramBytes) && decide (s.ownerOf dpa = some ptn)
        && decide ((s.tier (tierBlockOf dpa)).cls = clsOrdinary ∨ (s.tier (tierBlockOf dpa)).cls = clsPressed))
      || (decide (acc = accRead) && s.isSet F.PTN_COMMONS_EN
          && decide (getBits (s.fld F.PTN_CMN_READERS_READERS) ptn ptn = 1) && (s.commonsAt false dpa).isSome)

/-- What a read of a table entry gives. -/
inductive TableEntry where
  | word (w : Nat)
  | bad
  | wait
  deriving DecidableEq, Repr

/-- A table entry read at its home stop: bad outside the partition's twins or where it reads as poison (Table 8-3 code 0x05);
it waits while a host holds its line exclusive (R277). -/
def Block.readEntry (s : Block) (ptn dpa : Nat) : TableEntry × Block :=
  if !s.inTwinOf ptn dpa 8 then (.bad, s)
  else if s.mustRecall (.engine ptn) false (lineOf dpa) then (.wait, s.noteWant (.engine ptn) false (lineOf dpa))
  else
    match s.readAt (.engine ptn) (lineOf dpa) with
    | (.poison, s1) => (.bad, s1)
    | (.data b, s1) => (.word (ofLeBytes ((b.drop (dpa % 64)).take 8)), s1)

/-- The number of segments and whether a segment covers a CA. -/
def Segment.covers (g : Segment) (ca : Nat) : Bool :=
  g.valid && decide (g.caBase ≤ ca) && decide (ca < g.caBase + g.pages * 4096)

/-- The segment that serves a CA (R247): the lowest valid one that covers it, unless an unusable one stands
before it. -/
def findSegment (ca : Nat) : List Segment → Except Nat Segment
  | [] => .error denNoSegment
  | g :: gs => if g.unusable then .error denTableError else if g.covers ca then .ok g else findSegment ca gs

/-- The cluster whose caches serve a translation (Table 8-4): of a task on a core its cluster; of what no core does, a helm
core's and the network's, the last (DESIGN CHOICE, log 28). -/
def Block.walker (s : Block) : Nat :=
  match s.dbg.work with
  | none => 36
  | some (ring, seq) =>
    ((s.eng.tasks.find? fun t => decide (t.ring = ring) && decide (t.seq = seq) && t.core.isSome).bind (·.cluster)).getD 36

/-- The first `n` elements of those that are `mine`, and every other one: what a cache of `n` entries holds after one has
entered it, the latest first. -/
def keepFirst {α : Type} (mine : α → Bool) : Nat → List α → List α
  | _, [] => []
  | n, x :: xs =>
    if mine x then
      match n with
      | 0 => keepFirst mine 0 xs
      | m + 1 => x :: keepFirst mine m xs
    else x :: keepFirst mine n xs

/-- A translation put into its cluster's cache of 2,048 pages; the entry that entered first makes room (R249, Table 8-4;
DESIGN CHOICE, log 28). -/
def Block.fillPage (s : Block) (p : CachedPage) : Block :=
  let others := s.xlt.pages.filter fun x => !(decide (x.cluster = p.cluster) && decide (x.ctx = p.ctx) && decide (x.page = p.page))
  { s with xlt := { s.xlt with pages := keepFirst (fun x => decide (x.cluster = p.cluster)) 2048 (p :: others) } }

/-- A directory entry put into its cluster's cache of 256. -/
def Block.fillDir (s : Block) (d : CachedDir) : Block :=
  let others := s.xlt.dirs.filter fun x => !(decide (x.cluster = d.cluster) && decide (x.ctx = d.ctx) && decide (x.first = d.first))
  { s with xlt := { s.xlt with dirs := keepFirst (fun x => decide (x.cluster = d.cluster)) 256 (d :: others) } }

/-- A cached directory entry. -/
def Block.cachedDir (s : Block) (c first : Nat) : Option CachedDir :=
  s.xlt.dirs.find? fun d => decide (d.cluster = s.walker) && decide (d.ctx = c) && decide (d.first = first)

/-- The second step of a walk: the page entry in the leaf table at `leaf` (R247). -/
def Block.walkLeaf (s : Block) (c pg leaf ca acc : Nat) : Xlat × Block :=
  let ptn := s.ctxPtn c
  let pAddr := leaf * 4096 + 8 * (pg % 512)
  match s.readEntry ptn pAddr with
  | (.wait, s1) => (.wait, s1)
  | (.bad, s1) => (.deny denTableError, s1)
  | (.word p, s1) =>
    if getBits p 55 52 ≠ 0 ∨ getBits p 11 0 ≠ 0 then (.deny denTableError, s1)
    else if getBits p 63 63 = 0 then (.fault faultPageInvalid (lineOf pAddr), s1)
    else if lacks acc (getBits p 62 60) then (.fault faultRights (lineOf pAddr), s1)
    else
      let frame := getBits p 51 12
      if !s1.ownsPage ptn acc (frame * 4096) then (.deny denNotOwned, s1)
      else (.ok (frame * 4096 + ca % 4096),
        s1.fillPage { cluster := s1.walker, ctx := c, page := ca / 4096, frame := frame, rights := getBits p 62 60 })

/-- The walk of a PAGED segment (R247): the directory entry, from its cluster's cache or from the table, then the page entry.
Invalid entries are never cached (R249). -/
def Block.walkPaged (s : Block) (c : Nat) (g : Segment) (ca acc : Nat) : Xlat × Block :=
  let ptn := s.ctxPtn c
  let pg := ca / 4096 - g.caBase / 4096
  let first := g.caBase / 4096 + pg / 512 * 512
  let s := (s.event 6 0 (s.workAttr ptn)).event 6 1 (s.workAttr ptn)
  match s.cachedDir c first with
  | some d => s.walkLeaf c pg d.leaf ca acc
  | none =>
    let dAddr := g.root + 8 * (pg / 512)
    match s.readEntry ptn dAddr with
    | (.wait, s1) => (.wait, s1)
    | (.bad, s1) => (.deny denTableError, s1)
    | (.word d, s1) =>
      if getBits d 62 52 ≠ 0 ∨ getBits d 11 0 ≠ 0 then (.deny denTableError, s1)
      else if getBits d 63 63 = 0 then (.fault faultDirInvalid (lineOf dAddr), s1)
      else
        (s1.fillDir { cluster := s1.walker, ctx := c, first := first, leaf := getBits d 51 12 }).walkLeaf c pg (getBits d 51 12) ca acc

/-- A cached translation of a CA whose rights allow the access (R249). -/
def Block.cachedPage (s : Block) (c ca acc : Nat) : Option CachedPage :=
  s.xlt.pages.find? fun p =>
    decide (p.cluster = s.walker) && decide (p.ctx = c) && decide (p.page = ca / 4096) && !lacks acc p.rights
      && s.ownsPage (s.ctxPtn c) acc (p.frame * 4096)

/-- The translation of a CA for an access (R247, R248), without the count of denials. -/
def Block.walk (s : Block) (c ca acc : Nat) (priv : Bool) : Xlat × Block :=
  if !s.isSet (F.XLT_CTX_CFG_ENABLE c) then (.deny denCtxOff, s)
  else
    match findSegment ca (s.ctx c).segs with
    | .error code => (.deny code, s)
    | .ok g =>
      if g.bad then (.deny denBadSegment, s)
      else if lacks acc g.rights then (.deny denNoRights, s)
      else if g.range then
        if priv then (.ok (g.root + (ca / 4096 * 4096 - g.caBase) + ca % 4096), s)
        else (.deny denRangeNotPriv, s)
      else
        match s.cachedPage c ca acc with
        | some p => (.ok (p.frame * 4096 + ca % 4096), s)
        | none => s.walkPaged c g ca acc

/-- The translation of a CA; a denial is counted (XLT_DENY_COUNT). -/
def Block.translate (s : Block) (c ca acc : Nat) (priv : Bool) : Xlat × Block :=
  match s.walk c ca acc priv with
  | (.deny code, s1) => (.deny code, s1.bump F.XLT_DENY_COUNT_COUNT)
  | r => r

/-! ## The module's own writes -/

/-- A write of the module's ordered now, or held up by the recalls or the frame that it waits for, which are noted. -/
def Block.orderWrite (s : Block) (w : LateWrite) : Bool × Block :=
  match w.at_ with
  | .line l =>
    if s.mustRecall w.q true l then (false, s.noteWant w.q true l) else (true, (s.writeMaskedAt w.q l w.mask w.bytes false).2)
  | .ca c p ca =>
    match s.translate c ca accWrite false with
    | (.ok dpa, t) =>
      match t.deposit w.q p (lineOf dpa) w.mask w.bytes false with
      | (.wait, u) => (false, s.keepWaits u)
      | (_, u) => (true, u)
    | (.wait, t) => (false, s.keepWaits t)
    | (_, t) => (true, t)

/-- A write of the module's, ordered once the copies that hosts hold of its line have been recalled (R277) and its frame is there
(R227), after those to the same place that wait. -/
def Block.writeModule (s : Block) (w : LateWrite) : Block :=
  let later (t : Block) : Block := { t with host := { t.host with late := t.host.late ++ [w] } }
  if s.host.late.any fun x => decide (x.at_ = w.at_) then later s
  else
    match s.orderWrite w with
    | (true, t) => t
    | (false, t) => later t

/-- The module's writes that wait tried again, oldest first. -/
def Block.settleLate (s : Block) : Block :=
  if s.host.late = [] then s
  else forEach s.host.late (fun w t => t.writeModule w) { s with host := { s.host with late := [] } }

end Sys2Proof.Machine
end

