-- ==== Sys2Proof/Machine/Tasks.lean ====
section
/-! DEFINITION.  Tasks and cores (R314, R318–R325): where a task stands, what a core and a stream show of their
tasks, placing and ending tasks, the logit slots. -/

namespace Sys2Proof.Machine

/-- A task by its descriptor and index. -/
def Task.is (t : Task) (ring seq idx : Nat) : Bool :=
  decide (t.ring = ring) && decide (t.seq = seq) && decide (t.idx = idx)

/-- Whether a task belongs to a descriptor. -/
def Task.of (t : Task) (ring seq : Nat) : Bool := decide (t.ring = ring) && decide (t.seq = seq)

/-- A task. -/
def Block.task (s : Block) (ring seq idx : Nat) : Option Task := s.eng.tasks.find? fun t => t.is ring seq idx

/-- The tasks of a descriptor. -/
def Block.tasksOf (s : Block) (ring seq : Nat) : List Task := s.eng.tasks.filter fun t => t.of ring seq

/-- Tasks changed. -/
def Block.mapTasks (s : Block) (f : Task → Task) : Block :=
  { s with eng := { s.eng with tasks := s.eng.tasks.map f } }

/-- A task changed. -/
def Block.mapTask (s : Block) (ring seq idx : Nat) (f : Task → Task) : Block :=
  s.mapTasks fun t => if t.is ring seq idx then f t else t

/-- The tasks on a core, numbered 81 × die + 9 × cluster + core. -/
def Block.tasksOn (s : Block) (k : Nat) : List Task := s.eng.tasks.filter fun t => decide (t.core = some k)

/-- The task that holds a core's grant. -/
def Block.holder (s : Block) (k : Nat) : Option Task := (s.tasksOn k).find? fun t => decide (t.state = .running)

/-- Whether a core is in service (STATE of ENG_CORE_STATE). -/
def Block.coreUp (s : Block) (k : Nat) : Bool := decide (s.fld (F.ENG_CORE_STATE_STATE k) = 0)

/-- The program space that tasks of one core take: a window each, and each text once (R359). -/
def programSpace (ts : List Task) : Nat :=
  let ps := ts.filterMap (·.prog)
  (ps.map fun p => p.window.length).foldl (· + ·) 0
    + ((ps.map (·.text)).eraseDups.map fun w => 4 * w.length).foldl (· + ·) 0

/-- Whether a core can take a task (R314, R359). -/
def Block.hasRoom (s : Block) (t : Task) (k : Nat) : Bool :=
  s.coreUp k && decide ((s.tasksOn k).length < 16) && decide (programSpace (t :: s.tasksOn k) ≤ 131072)

/-- The core of a cluster that takes a task: the one with the fewest tasks, the lowest-numbered of those (R314). -/
def Block.pickCore (s : Block) (cluster : Nat) (t : Task) : Option Nat :=
  (((List.range 9).map (9 * cluster + ·)).filter (s.hasRoom t)).foldl
    (fun best k =>
      match best with
      | none => some k
      | some b => if (s.tasksOn k).length < (s.tasksOn b).length then some k else some b) none

/-- The lowest free save-area slot of a core. -/
def Block.freeSlot (s : Block) (k : Nat) : Nat :=
  ((List.range 16).find? fun n => !(s.tasksOn k).any fun t => decide (t.slot = n)).getD 0

/-- TASKS of a core brought up to its tasks. -/
def Block.countCore (s : Block) (k : Nat) : Block := s.setFld (F.ENG_CORE_STATE_TASKS k) (s.tasksOn k).length

/-- Stream states (Table 11-3). -/
def strOff : Nat := 0
def strIdle : Nat := 1
def strActive : Nat := 2
def strStopping : Nat := 3

/-- The tasks of a stream that have not ended. -/
def Block.streamTasks (s : Block) (st : Nat) : Nat :=
  (s.eng.tasks.filter fun t => decide (t.stream = st) && decide (t.state ≠ .ended)).length

/-- TASKS and STATE of a stream brought up to its tasks (Table 11-3). -/
def Block.countStream (s : Block) (st : Nat) : Block :=
  let n := s.streamTasks st
  let s1 := s.setFld (F.ENG_ST_STATUS_TASKS st) (min n 4096)
  let cur := s.fld (F.ENG_ST_STATUS_STATE st)
  s1.setFld (F.ENG_ST_STATUS_STATE st)
    (if cur = strIdle ∧ 0 < n then strActive
     else if cur = strActive ∧ n = 0 then strIdle
     else if cur = strStopping ∧ n = 0 then strOff
     else cur)

/-- Whether a task is one of ATTN_DECODE that waits for a logit slot or holds one. -/
def Block.logitHeld (s : Block) (k : Nat) : Nat := ((s.tasksOn k).filter (·.logit)).length

/-- The first task of a core that waits for a logit slot, by save-area slot, takes one that is free (R334). -/
def Block.giveSlot (s : Block) (k : Nat) : Block :=
  if 4 ≤ s.logitHeld k then s
  else
    match (List.range 16).findSome? fun n =>
        (s.tasksOn k).find? fun t => decide (t.slot = n) && decide (t.state = .waiting .slot) with
    | some t => s.mapTask t.ring t.seq t.idx fun x => { x with state := .ready, logit := true }
    | none => s

/-- A task put on a core of its cluster, or in the cluster's queue (R314); an ATTN_DECODE task takes a logit slot or
waits for one (R334). -/
def Block.seat (s : Block) (t : Task) (attn : Bool) : Block :=
  match t.cluster.bind fun c => s.pickCore c t with
  | none => s
  | some k =>
    let full := attn && decide (4 ≤ s.logitHeld k)
    ((s.mapTask t.ring t.seq t.idx fun x => { x with
        core := some k
        slot := s.freeSlot k
        state := if full then .waiting .slot else .ready
        logit := attn && !full }).countCore k).countStream t.stream

/-- Whether a queued task comes before another: its descriptor was accepted earlier, or its index in it is lower (R314). -/
def Block.queuesBefore (s : Block) (a b : Task) : Bool :=
  let place (t : Task) : Nat := s.ctl.logbook.findIdx fun e => decide (e.ring = t.ring) && decide (e.seq = t.seq)
  decide (place a < place b) || (decide (place a = place b) && decide (a.idx < b.idx))

/-- The first task of a cluster's queue, which is in acceptance order (R314). -/
def Block.queueHead (s : Block) (cluster : Nat) : Option Task :=
  (s.eng.tasks.filter fun t => decide (t.state = .queued) && decide (t.cluster = some cluster)).foldl
    (fun best t =>
      match best with
      | none => some t
      | some b => if s.queuesBefore t b then some t else some b) none

/-- Whether a task's descriptor is an ATTN_DECODE, which needs logit slots. -/
def Block.isAttn (s : Block) (t : Task) : Bool :=
  s.ctl.logbook.any fun e => decide (e.ring = t.ring) && decide (e.seq = t.seq)
    && decide (Desc.opcode e.bytes = opcAttn)

/-- The tasks of a cluster's queue seated in order, as far as there is room (R314). -/
def Block.seatQueue (cluster : Nat) : Nat → Block → Block
  | 0, s => s
  | n + 1, s =>
    match s.queueHead cluster with
    | none => s
    | some t => if (s.pickCore cluster t).isSome then Block.seatQueue cluster n (s.seat t (s.isAttn t)) else s

/-- What leaves a core settled: its counts, its logit slots, its cluster's queue. -/
def Block.leaveCore (s : Block) (k : Nat) : Block :=
  Block.seatQueue (k / 9) (s.eng.tasks.length) ((s.countCore k).giveSlot k)

/-- The prefetchers of a core, keyed core × 8 + index, let go: their staged lines are discarded. -/
def Block.dropPrefetchers (s : Block) (k : Nat) : Block :=
  { s with pool := { s.pool with prefetchers := Assoc.clear (fun j => decide (j / 8 = k)) s.pool.prefetchers } }

/-- Tasks taken off their cores: `f` says what becomes of each. -/
def Block.release (s : Block) (ts : List Task) (f : Block → Task → Block) : Block :=
  let s0 := forEach ((ts.filter fun t => decide (t.state = .running)).filterMap (·.core)) (fun k t => t.dropPrefetchers k) s
  let s1 := ts.foldl f s0
  let s2 := forEach (ts.map (·.stream)).eraseDups (fun st t => t.countStream st) s1
  forEach (ts.filterMap (·.core)).eraseDups (fun k t => t.leaveCore k) s2

/-- A task ended: it has left its core, and what it did stays known until its descriptor is done. -/
def Block.endTask (s : Block) (t : Task) : Block :=
  s.release [t] fun u t => u.mapTask t.ring t.seq t.idx fun x => { x with state := .ended, core := none, logit := false }

/-- Every task of a descriptor gone. -/
def Block.dropTasks (s : Block) (ring seq : Nat) : Block :=
  let ts := s.tasksOf ring seq
  ({ s with eng := { s.eng with tasks := s.eng.tasks.filter fun t => !t.of ring seq } } : Block).release ts
    fun u _ => u

end Sys2Proof.Machine
end

