-- ==== Sys2Proof/Machine/Rings.lean ====
section
/-! DEFINITION.  Rings and the logbook (R103–R124): service and acceptance, completion records in ring order,
function disable, RNG_CMD, the logbook limit. -/

namespace Sys2Proof.Machine

/-- The MODE codes of RNG_STATE (Table 4-12). -/
def mdOff : Nat := 0
def mdRunning : Nat := 1
def mdFnDisabled : Nat := 2
def mdError : Nat := 3
def mdReplay : Nat := 4
def mdColdHold : Nat := 5
def mdStepping : Nat := 6
def mdDraining : Nat := 7

/-- MODE of a ring. -/
def Block.ringMode (s : Block) (r : Nat) : Nat := s.fld (F.RNG_STATE_MODE r)

/-- A ring's partition. -/
def Block.ringPtn (s : Block) (r : Nat) : Nat := s.fld (F.RNG_CFG_PARTITION r)

/-- N, the slots of a ring (R103). -/
def Block.ringSlots (s : Block) (r : Nat) : Nat := 2 ^ s.fld (F.RNG_DESC_LO_LOG2_SLOTS r)

/-- The start of a ring's descriptor array. -/
def Block.descBase (s : Block) (r : Nat) : Nat := s.pair (R.RNG_DESC_LO r) (R.RNG_DESC_HI r) / 4096 * 4096

/-- The start of a ring's completion region. -/
def Block.cplBase (s : Block) (r : Nat) : Nat := s.pair (R.RNG_CPL_LO r) (R.RNG_CPL_HI r) / 4096 * 4096

/-- Whether a function is disabled (RNG_FN_DIS). -/
def Block.fnDisabled (s : Block) (fn : Nat) : Bool :=
  decide (getBits (s.fld (F.RNG_FN_DIS_DIS (fn / 32))) (fn % 32) (fn % 32) = 1)

/-- The disable state of a function set. -/
def Block.setFnDisabled (s : Block) (fn : Nat) (b : Bool) : Block :=
  let f := F.RNG_FN_DIS_DIS (fn / 32)
  s.setFld f (setBits (s.fld f) (fn % 32) (fn % 32) (if b then 1 else 0))

/-- The rings whose MODE is not OFF. -/
def Block.ringsOn (s : Block) : List Nat :=
  (s.listed (R.RNG_DESC_LO 0) (R.RNG_DESC_LO 4096) 0x20 (R.RNG_STATE 0 - R.RNG_DESC_LO 0)).filter
    fun r => decide (s.ringMode r ≠ mdOff)

/-- The rings of a function whose MODE is not OFF. -/
def Block.ringsOfFn (s : Block) (fn : Nat) : List Nat :=
  s.ringsOn.filter fun r => decide (s.fld (F.RNG_CFG_FUNCTION r) = fn)

/-! ## The logbook -/

/-- An entry of the logbook. -/
def Block.entry (s : Block) (ring seq : Nat) : Option LogEntry :=
  s.ctl.logbook.find? fun e => decide (e.ring = ring) && decide (e.seq = seq)

/-- An entry changed. -/
def Block.mapEntry (s : Block) (ring seq : Nat) (f : LogEntry → LogEntry) : Block :=
  { s with ctl := { s.ctl with
      logbook := s.ctl.logbook.map fun e => if e.ring = ring ∧ e.seq = seq then f e else e } }

/-- The entries of a ring. -/
def Block.entriesOf (s : Block) (ring : Nat) : List LogEntry := s.ctl.logbook.filter fun e => decide (e.ring = ring)

/-- INFLIGHT of a ring and USED and PEAK of the logbook brought up to its entries. -/
def Block.countEntries (s : Block) (ring : Nat) : Block :=
  let used := s.ctl.logbook.length
  let s1 := (s.setFld (F.RNG_STATE_INFLIGHT ring) (s.entriesOf ring).length).setFld F.RNG_LOGBOOK_USED_USED used
  s1.setFld F.RNG_LOGBOOK_PEAK_PEAK (max (s1.fld F.RNG_LOGBOOK_PEAK_PEAK) used)

/-- Whether an entry has begun (R136: its first tile, or any commit unit). -/
def LogEntry.begun (e : LogEntry) : Bool := decide (e.state ≠ .accepted)

/-- Whether an entry has finished. -/
def LogEntry.settled (e : LogEntry) : Bool := decide (e.state = .done) || decide (e.state = .completed)

/-- Whether an entry still owes the signal of SIGNAL_EN for its completion record (R123, R127). -/
def LogEntry.owesSignal (e : LogEntry) : Bool := decide (e.state = .completed) && !e.signalled

/-! ## Status line and modes -/

/-- The status line of a ring (Table 4-1). -/
def Block.statusLine (s : Block) (r : Nat) : List Byte :=
  let g := s.ring r
  leBytes 8 g.accept ++ leBytes 8 g.nextSeq ++ leBytes 8 g.completed
    ++ leBytes 8 (s.ringMode r * 2 ^ 28 + s.fld (F.RNG_STATE_ERR r) * 2 ^ 20) ++ leBytes 8 g.errSeq
    ++ List.replicate 24 0

/-- The status line written (R104), once no host's copy of it conflicts (R277). -/
def Block.putStatus (s : Block) (r : Nat) : Block :=
  s.writeModule { q := .engine (s.ringPtn r), ring := some r, at_ := .line (s.cplBase r + 64), mask := List.replicate 64 true
                  bytes := s.statusLine r }

/-- The step slots that name a ring. -/
def Block.stepSlots (s : Block) (r : Nat) : List Nat :=
  (List.range 16).filter fun k => s.isSet (F.DBG_STEP_CFG_EN k) && decide (s.fld (F.DBG_STEP_CFG_RING k) = r)

/-- A ring no longer paused at a step (R516). -/
def Block.unpause (s : Block) (r : Nat) : Block :=
  let s1 := forEach (s.stepSlots r) (fun k t => t.setFld (F.DBG_STEP_CFG_PAUSED k) 0) s
  s1.setRing r { s1.ring r with paused := none }

/-- A ring put in a MODE. -/
def Block.setMode (s : Block) (r m : Nat) : Block := (s.setFld (F.RNG_STATE_MODE r) m).putStatus r

/-- A ring in MODE ERROR with an ERR (R109). -/
def Block.ringError (s : Block) (r err : Nat) : Block :=
  let s1 := s.unpause r
  let g := s1.ring r
  (((s1.setRing r { g with errSeq := g.nextSeq, seqWait := false, checkWait := false }).setFld
    (F.RNG_STATE_ERR r) err).setMode r mdError).trace ttRingErr (.ofPtn (s.ringPtn r)) g.nextSeq (r * 2 ^ 48 + err)

/-- A DRAINING ring whose entries are all freed is OFF, its ERR 0x00 and its watch entry gone (R138). -/
def Block.drained (s : Block) (r : Nat) : Block :=
  if s.ringMode r = mdDraining ∧ s.entriesOf r = [] then
    let g := s.ring r
    ((s.setFld (F.RNG_STATE_ERR r) 0).setMode r mdOff).setRing r
      { g with armed := false, pending := false, produce := 0 }
  else s

/-- The MODE that a ring takes at the end of its replay (R132, R137, R138): ERROR and DRAINING rings have theirs back, a ring
of a disabled function is FN_DISABLED, every other enabled one RUNNING. -/
def Block.dueMode (s : Block) (r : Nat) : Nat :=
  let m := (s.ring r).after.getD mdRunning
  if m = mdError then mdError
  else if m = mdDraining ∨ !s.isSet (F.RNG_CFG_ENABLE r) then mdDraining
  else if s.fnDisabled (s.fld (F.RNG_CFG_FUNCTION r)) then mdFnDisabled
  else if m = mdFnDisabled then mdRunning
  else m

/-- A ring in REPLAY whose replayed entries have all finished takes the MODE it is due (R132, R138). -/
def Block.endReplay (s : Block) (r : Nat) : Block :=
  if s.ringMode r = mdReplay ∧ (s.entriesOf r).all fun e => !e.replayed || e.settled then
    let m := s.dueMode r
    ((s.setRing r { s.ring r with after := none, armed := decide (m ≠ mdFnDisabled) }).setMode r m).drained r
  else s

/-! ## Waits on objects (R349, R374) -/

/-- Whether every earlier descriptor of the ring has its completion written. -/
def Block.earlierDone (s : Block) (e : LogEntry) : Bool := decide (e.seq ≤ (s.ring e.ring).completed)

/-- Whether an entry could start but for its WAIT_EN condition; none of a ring held after a Cold restore does (R134). -/
def Block.couldStart (s : Block) (e : LogEntry) : Bool :=
  decide (e.state = .accepted) && e.fin.isNone && !e.held && (!Desc.fence e.bytes || s.earlierDone e)
    && decide (s.ringMode e.ring ≠ mdColdHold)

/-- An entry's WAIT_EN condition evaluated (R349). -/
def Block.evalWait (s : Block) (e : LogEntry) : LogEntry :=
  if s.couldStart e && Desc.waitEn e.bytes && !e.waitMet then
    let o := s.obj (Desc.waitObj e.bytes)
    if o.kind = objNone then { e with fin := some { status := stNotPermitted } }
    else { e with waitMet := o.reached (Desc.waitThreshold e.bytes) }
  else e

/-- A task's wait on an object evaluated (R374): a task whose threshold is reached is ready, a program past its SWAIT;
one whose object is of kind NONE is ready too, to find that out. -/
def Block.evalTask (s : Block) (t : Task) : Task :=
  match t.state with
  | .waiting (.object o th) =>
    if (s.obj o).kind = objNone then { t with state := .ready }
    else if (s.obj o).reached th then
      { t with
        state := .ready
        prog := t.prog.map fun p => { p with core := { p.core with pc := p.core.pc + 4 } } }
    else t
  | _ => t

/-- Whether a task's wait is met now: its threshold is reached. -/
def Block.taskMet (s : Block) (t : Task) : Bool :=
  match t.state with
  | .waiting (.object o th) => decide ((s.obj o).kind ≠ objNone) && (s.obj o).reached th
  | _ => false

/-- The waits that are met now, as events of their descriptors. -/
def Block.countMet (s : Block) : Block :=
  forEach (s.eng.tasks.filter s.taskMet) (fun t u => u.event 11 1 (u.entryAttr t.ring t.seq))
    (forEach (s.ctl.logbook.filter fun e => (s.evalWait e).waitMet && !e.waitMet) (fun e u =>
      u.event 11 1 (e.attr (u.ringPtn e.ring))) s)

/-- The waits of entries and tasks evaluated: when an object has changed, and when an entry could start. -/
def Block.evalWaits (s : Block) : Block :=
  { s.countMet with
    ctl := { s.ctl with logbook := s.ctl.logbook.map s.evalWait }
    eng := { s.eng with tasks := s.eng.tasks.map s.evalTask } }

/-! ## Starting -/

/-- Whether an entry is at a pause point of a step slot (R515): of a RUNNING ring, or one that is paused; others start
unstepped (R132, R138, R516). -/
def Block.pausesAt (s : Block) (e : LogEntry) : Bool :=
  decide (e.state = .accepted) && !e.released
    && (decide (s.ringMode e.ring = mdRunning) || decide (s.ringMode e.ring = mdStepping))
    && (s.stepSlots e.ring).any fun k => s.isSet (F.DBG_STEP_CFG_ALL k) || Desc.stepFlag e.bytes

/-- Whether a paused descriptor of its ring holds an entry back (R515). -/
def Block.heldBack (s : Block) (e : LogEntry) : Bool :=
  match (s.ring e.ring).paused with
  | some p => decide (e.state = .accepted) && decide (p ≤ e.seq)
  | none => false

/-- Whether an entry may start but for a pause point (R111). -/
def Block.startable (s : Block) (e : LogEntry) : Bool :=
  s.couldStart e && (!Desc.waitEn e.bytes || e.waitMet) && !s.heldBack e && !s.ctl.stopped

/-- Whether an entry may start, or go on: it has not finished, nothing holds it back, the engines run. -/
def Block.mayStart (s : Block) (e : LogEntry) : Bool :=
  if e.state = .accepted then s.startable e && !s.pausesAt e
  else e.fin.isNone && !e.held && !e.settled && !s.ctl.stopped && decide (s.ringMode e.ring ≠ mdColdHold)

/-- An entry marked STARTED, its run begun (R124). -/
def Block.begin (s : Block) (e : LogEntry) : Block :=
  let t := s.mapEntry e.ring e.seq fun x => { x with
    state := if x.state = .accepted then .started else x.state
    startedAt := some (x.startedAt.getD s.now) }
  if e.state = .accepted then
    t.trace ttStart (e.attr (s.ringPtn e.ring)) e.seq (e.ring * 2 ^ 48 + (s.tasksOf e.ring e.seq).length)
  else t

/-! ## Service and acceptance -/

/-- The limit of entries of the logbook (R119). -/
def Block.logbookLimit (s : Block) : Nat := s.fld F.RNG_LOGBOOK_LIMIT_LIMIT

/-- The entries of a partition's rings. -/
def Block.ptnEntries (s : Block) (p : Nat) : Nat :=
  (s.ctl.logbook.filter fun e => decide (s.ringPtn e.ring = p)).length

/-- Whether a logbook entry is free for a partition (R115, R119). -/
def Block.entryFree (s : Block) (p : Nat) : Bool :=
  decide (s.ctl.logbook.length < s.logbookLimit) && decide (s.ptnEntries p < s.fld (F.RNG_PTN_QUOTA_QUOTA p))

/-- A line read by a ring engine. -/
def Block.ringRead (s : Block) (r dpa : Nat) : Option (List Byte) × Block :=
  match s.readAt (.engine (s.ringPtn r)) dpa with
  | (.data b, s1) => (some b, s1)
  | (.poison, s1) => (none, s1)

/-- The slots of a descriptor at slot number `a` of a ring; none where one reads as poison. -/
def Block.readSlots (s : Block) (r : Nat) : Nat → Nat → Option (List Byte) × Block
  | 0, _ => (some [], s)
  | n + 1, a =>
    let (h, s1) := s.ringRead r (s.descBase r + 64 * (a % s.ringSlots r))
    let (t, s2) := s1.readSlots r n (a + 1)
    (h.bind fun b => t.map (b ++ ·), s2)

/-- What a ring engine finds at slot ACCEPT. -/
inductive Found where
  | none_
  | held
  | notYet
  | badCheck (d : Desc)
  | ready (d : Desc)
  deriving DecidableEq, Repr

/-- The lines of `n` slots of a ring from slot number `a`. -/
def Block.slotLines (s : Block) (r n a : Nat) : List Nat :=
  (List.range n).map fun k => s.descBase r + 64 * ((a + k) % s.ringSlots r)

/-- The descriptor at slot ACCEPT of a ring, read under the PRODUCE of its last service (R114, R115); held while hosts hold
copies of its lines that the read conflicts with (R277). -/
def Block.look (s : Block) (r : Nat) : Found × Block :=
  let g := s.ring r
  let q := Requester.engine (s.ringPtn r)
  if g.produce ≤ g.accept then (.none_, s)
  else if s.blocked q false (s.slotLines r 1 g.accept) then (.held, s.noteWants q false (s.slotLines r 1 g.accept))
  else
    match s.readSlots r 1 g.accept with
    | (none, s1) => (.notYet, s1)
    | (some h, s1) =>
      let n := 1 + Desc.bodySlots h
      if Desc.seq h ≠ g.nextSeq then (.notYet, s1)
      else if g.produce - g.accept < n then (.none_, s1)
      else if s1.blocked q false (s.slotLines r n g.accept) then (.held, s1.noteWants q false (s.slotLines r n g.accept))
      else
        match s1.readSlots r n g.accept with
        | (none, s2) => (.notYet, s2)
        | (some d, s2) =>
          if s.isSet (F.RNG_CFG_CRC_REQ r) ∧ Desc.check d ≠ Desc.crc d then (.badCheck d, s2) else (.ready d, s2)

/-- Whether a ring's partition is ACTIVE: doorbell stores to the rings of others are not acted on (R462). -/
def Block.ptnLive (s : Block) (r : Nat) : Bool := decide (s.ptnState (s.ringPtn r) = ptnActive)

/-- The conditions of R115 that do not depend on the descriptor, but for the logbook entry. -/
def Block.mayAccept (s : Block) (r : Nat) : Bool :=
  let g := s.ring r
  decide (s.ringMode r = mdRunning) && s.ptnLive r && !s.fnDisabled (s.fld (F.RNG_CFG_FUNCTION r))
    && decide (g.nextSeq - g.consume < s.ringSlots r) && !s.ctl.stopped && s.ctl.flush.eraseHalf.isNone

/-- A descriptor accepted (R116): its logbook entry, the counters, the status line. -/
def Block.takeIn (s : Block) (r : Nat) (d : Desc) (checkFailed : Bool) : Block :=
  let g := s.ring r
  let slots := 1 + Desc.bodySlots d
  let e : LogEntry :=
    { ring := r, seq := g.nextSeq, slot := g.accept, bytes := d, bodySlots := Desc.bodySlots d
      fin := (s.refusal r d checkFailed).map fun x => { status := x.1, detail := x.2 } }
  let s1 := ({ s with ctl := { s.ctl with logbook := s.ctl.logbook ++ [e] } } : Block).setRing r
    { g with accept := g.accept + slots, nextSeq := g.nextSeq + 1, seqWait := false, checkWait := false }
  let s2 := s1.setPair R.RNG_ACCEPT_LO R.RNG_ACCEPT_HI (s1.pair R.RNG_ACCEPT_LO R.RNG_ACCEPT_HI + 1)
  let a := e.attr (s.ringPtn r)
  ((((s2.countEntries r).putStatus r).event 1 0 a).trace ttAccept a e.seq (r * 2 ^ 48 + Desc.opcode d)).evalWaits

/-- A ring put among those that wait for a logbook entry, behind those whose wakes arrived before its own (R115). -/
def Block.awaitEntry (s : Block) (r : Nat) : Block :=
  if s.ctl.waiting.contains r then s
  else
    let before (x : Nat) : Bool := decide ((s.ring x).woke ≤ (s.ring r).woke)
    { s with ctl := { s.ctl with waiting := s.ctl.waiting.takeWhile before ++ r :: s.ctl.waiting.dropWhile before } }

/-- A ring that waits for no logbook entry any more: it has no descriptor to accept. -/
def Block.leaveWait (s : Block) (r : Nat) : Block :=
  { s with ctl := { s.ctl with waiting := s.ctl.waiting.filter (· ≠ r) } }

/-- Whether a logbook entry is free for a ring: one for its partition that no ring whose wake came earlier waits for (R115). -/
def Block.entryFor (s : Block) (r : Nat) : Bool :=
  s.entryFree (s.ringPtn r)
    && !(s.ctl.waiting.takeWhile (· ≠ r)).any fun w => s.mayAccept w && s.entryFree (s.ringPtn w)

/-- A descriptor offered to the logbook: accepted, or its ring put among those that wait; whether it was accepted. -/
def Block.offerEntry (s : Block) (r : Nat) (d : Desc) (checkFailed : Bool) : Bool × Block :=
  if s.entryFor r then (true, s.takeIn r d checkFailed)
  else (false, (s.setRing r { s.ring r with seqWait := false, checkWait := checkFailed }).awaitEntry r)

/-- One descriptor accepted if R114 and R115 allow; whether one was.  A ring that waits for an entry with a descriptor whose
CHECK has failed for its 1 ms offers it again. -/
def Block.acceptOne (s : Block) (r : Nat) : Bool × Block :=
  if !s.mayAccept r then (false, s)
  else
    let expired := (s.ring r).checkWait && s.ctl.waiting.contains r
    match s.look r with
    | (.none_, s1) => (false, (s1.setRing r { s1.ring r with seqWait := false, checkWait := false }).leaveWait r)
    | (.held, s1) => (false, s1.setRing r { s1.ring r with pending := true })
    | (.notYet, s1) => (false, (s1.setRing r { s1.ring r with seqWait := true, checkWait := false }).leaveWait r)
    | (.badCheck d, s1) =>
      if expired then s1.offerEntry r d true
      else (false, (s1.setRing r { s1.ring r with seqWait := false, checkWait := true }).leaveWait r)
    | (.ready d, s1) => s1.offerEntry r d false

/-- Descriptors accepted until the conditions of R115 fail. -/
def Block.acceptAll (r : Nat) : Nat → Block → Block
  | 0, s => s
  | n + 1, s =>
    match s.acceptOne r with
    | (true, s1) => Block.acceptAll r n s1
    | (false, s1) => s1

/-- Descriptors accepted as far as the PRODUCE of the last service covers them. -/
def Block.accept (s : Block) (r : Nat) : Block :=
  Block.acceptAll r ((s.ring r).produce - (s.ring r).accept + 1) s

/-- The entries that CONSUME has passed freed; a signal that one of them still owes is kept (R120, R123). -/
def Block.freeEntries (s : Block) (r : Nat) : Block :=
  let c := (s.ring r).consume
  let passed (e : LogEntry) : Bool := decide (e.ring = r) && decide (e.seq < c) && decide (e.state = .completed)
  (({ s with ctl := { s.ctl with
      logbook := s.ctl.logbook.filter fun e => !passed e
      owed := s.ctl.owed ++ s.ctl.logbook.filter fun e => passed e && e.owesSignal } } :
    Block).countEntries r).drained r

/-- A ring serviced (R108, R109); it stays pending while hosts hold its doorbell line exclusive (R277). -/
def Block.service (s : Block) (r : Nat) : Block :=
  let m := s.ringMode r
  if m = mdOff ∨ m = mdFnDisabled ∨ (m ≠ mdDraining ∧ !s.ptnLive r) then s
  else if s.mustRecall (.engine (s.ringPtn r)) false (s.cplBase r) then
    (s.setRing r { s.ring r with pending := true }).noteWant (.engine (s.ringPtn r)) false (s.cplBase r)
  else
    let s0 := s.setRing r { s.ring r with pending := false }
    match s0.ringRead r (s0.cplBase r) with
    | (none, s1) => s1.ringError r 0x05
    | (some b, s1) =>
      let g := s1.ring r
      let produce := ofLeBytes (b.take 8)
      let consume := ofLeBytes ((b.drop 8).take 8)
      if m = mdRunning ∧ produce < g.accept then s1.ringError r 0x01
      else if m = mdRunning ∧ s1.ringSlots r < produce - g.accept then s1.ringError r 0x02
      else if g.completed < consume ∨ consume < g.consume then s1.ringError r 0x04
      else
        ((s1.setRing r { g with produce := produce, consume := consume }).freeEntries r).accept r

/-- A write to a watched doorbell line marks its ring pending (R108). -/
def execWatchHit (dpa : BitVec 52) (s : State) : Out := s.act fun s => (s.watchHit dpa.toNat)

/-- The ring engine services a pending ring (R108, R109). -/
def execRingService (ring : Fin 4096) (s : State) : Out :=
  s.act fun s => (if (s.ring ring.val).pending ∧ (s.ring ring.val).armed then s.service ring.val else s)

/-- The ring engine reads a descriptor again that did not yet match (R114). -/
def execDescriptorReread (ring : Fin 4096) (s : State) : Out :=
  s.act fun s => (
    let g := s.ring ring.val
    if g.seqWait || g.checkWait then s.accept ring.val else s)

/-- 1 ms without a match: MODE ERROR with ERR 0x03 (R114). -/
def execSeqStuckTimeout (ring : Fin 4096) (s : State) : Out :=
  s.act fun s => (if (s.ring ring.val).seqWait then s.ringError ring.val 0x03 else s)

/-- 1 ms of CHECK failures: the descriptor is accepted and completes CHECK_FAILED (R114). -/
def execCheckRetryTimeout (ring : Fin 4096) (s : State) : Out :=
  s.act fun s => (
    let r := ring.val
    if (s.ring r).checkWait && s.mayAccept r then
      match s.look r with
      | (.badCheck d, s1) =>
        match s1.offerEntry r d true with
        | (true, s2) => s2.accept r
        | (false, s2) => s2
      | (_, s1) => s1.accept r
    else s)

/-- A freed logbook entry goes to the waiting ring whose wake arrived first (R115). -/
def execLogbookWaitResume (s : State) : Out :=
  s.act fun s => (
    match s.ctl.waiting.find? fun r => s.mayAccept r && s.entryFree (s.ringPtn r) with
    | some r => s.accept r
    | none => s)

/-- One descriptor of a ring is accepted where R115 holds (R116). -/
def execAcceptDescriptor (ring : Fin 4096) (s : State) : Out :=
  s.act fun s => ((s.acceptOne ring.val).2)

/-! ## Completion -/

/-- The place of a status in the order of R327. -/
def statusRank (st : Nat) : Nat :=
  ([stCutOff, stTranslationFault, stNotPermitted, stBadField, stLostData, stAddressError, stTruncated, stPoison].findIdx
    fun x => decide (x = st))

/-- The status of a descriptor that has run: LOST_DATA where it touched a line that a pair of faults left poisoned and nothing
earlier in the order of R327 applies (R499), OK_REPLAYED where it was replayed (R125). -/
def LogEntry.finalStatus (e : LogEntry) (st : Nat) : Nat :=
  if e.sawLost && decide (statusRank stLostData ≤ statusRank st) && decide (st ≠ stNotExecuted) then stLostData
  else if st = stOk && e.replayed then stOkReplayed else st

/-- A descriptor that has finished waits in state DONE (R123); its tasks, bank samples and stage are gone.  One whose outcome
arose during execution has RUN_US and RESULT_LEN whatever its status (R121, R327). -/
def Block.finishEntry (s : Block) (e : LogEntry) (f : Finish) : Block :=
  let ran := f.ran || decide (f.status ∉ [stNotExecuted, stBadOpcode, stBadField, stCheckFailed, stNotPermitted])
  let run := match e.startedAt with
    | some t => if ran then min (s.now - t) (2 ^ 32 - 1) else 0
    | none => 0
  let s1 := s.mapEntry e.ring e.seq fun x => { x with
    state := .done
    cplStatus := x.finalStatus f.status
    cplDetail := f.detail
    resultLen := if ran then f.len else 0
    runUs := run
    stage := []
    stageObj := none
    src := [] }
  (({ s1 with
    host := { s1.host with
      samples := s1.host.samples.filter fun x => !(decide (x.ring = e.ring) && decide (x.seq = e.seq)) } } :
    Block).dropTasks e.ring e.seq).endReplay e.ring

/-- A descriptor finishes and its entry waits in state DONE (R123). -/
def execDescriptorDone (ring : Fin 4096) (seq : BitVec 64) (s : State) : Out :=
  s.act fun s => (
    match s.entry ring.val seq.toNat with
    | some e =>
      match e.fin with
      | some f => if e.settled || e.held then s else s.finishEntry e f
      | none => s
    | none => s)

/-- The completion record of an entry (Table 4-7). -/
def Block.completionRecord (s : Block) (e : LogEntry) (c : Nat) : List Byte :=
  let phase := 1 - c / s.ringSlots e.ring % 2
  leBytes 8 e.seq ++ leBytes 8 (Desc.userTag e.bytes)
    ++ leBytes 8 (e.cplStatus * 2 ^ 56 + e.cplDetail * 2 ^ 48 + Desc.operatorId e.bytes * 2 ^ 32 + e.resultLen)
    ++ leBytes 8 (phase * 2 ^ 63 + e.ring * 2 ^ 48 + Desc.layer e.bytes * 2 ^ 32 + e.runUs)

/-- 32 bytes written into their completion slot, in one write (R121). -/
def Block.putRecord (s : Block) (r c : Nat) (bytes : List Byte) : Block :=
  let dpa := s.cplBase r + 128 + 32 * (c % s.ringSlots r)
  s.writeModule { q := .engine (s.ringPtn r), ring := some r, at_ := .line (lineOf dpa)
                  mask := (List.range 64).map fun j => decide (dpa % 64 ≤ j ∧ j < dpa % 64 + 32)
                  bytes := List.replicate (dpa % 64) 0 ++ bytes ++ List.replicate (32 - dpa % 64) 0 }

/-- Whether a completed entry's signal is applied to an object (R123). -/
def Block.signals (s : Block) (e : LogEntry) : Bool :=
  Desc.signalEn e.bytes && decide (e.cplStatus ≠ stNotExecuted)
    && decide (s.objOwner (Desc.signalObj e.bytes) = some (s.ringPtn e.ring))

/-- The notification of NOTIFY (R123). -/
def Block.notifyRing (s : Block) (e : LogEntry) : Block :=
  let r := e.ring
  if Desc.notifyEn e.bytes && s.isSet (F.RNG_NOTIFY_EN r) then
    s.notify (s.fld (F.RNG_NOTIFY_KIND r)) (s.fld (F.RNG_NOTIFY_TARGET r)) (s.fld (F.RNG_CFG_FUNCTION r))
      (.ring r (s.ring r).completed) (some (Desc.stream e.bytes))
  else s

/-- Steps 3 and 4 of R123 for a completed entry; its signal waits while another entry reserves the object
(R350). -/
def Block.signalEntry (s : Block) (e : LogEntry) : Block :=
  let o := Desc.signalObj e.bytes
  let mark (t : Block) : Block :=
    let u := t.mapEntry e.ring e.seq fun x => { x with signalled := true }
    { u with ctl := { u.ctl with owed := u.ctl.owed.filter fun x => !(decide (x.ring = e.ring) && decide (x.seq = e.seq)) } }
  if !s.signals e then (mark s).notifyRing e
  else if (s.obj o).reserved.isSome then s
  else ((mark (s.forWork e.ring e.seq fun t => t.signalObj o)).evalWaits).notifyRing e

/-- Steps 1 and 2 of R123: the record written, COMPLETED advanced. -/
def Block.complete (s : Block) (e : LogEntry) : Block :=
  let r := e.ring
  let g := s.ring r
  let s1 := (s.putRecord r g.completed (s.completionRecord e g.completed)).mapEntry r e.seq
    fun x => { x with state := .completed }
  let a := e.attr (s.ringPtn r)
  ((((s1.setRing r { g with completed := g.completed + 1 }).putStatus r).event 1 1 a).trace ttComplete a e.seq
    (e.cplStatus * 2 ^ 56 + e.cplDetail * 2 ^ 48 + r * 2 ^ 36 + e.runUs)).evalWaits

/-- The lines of a ring's next completion: its record's and the status line. -/
def Block.recordLines (s : Block) (r : Nat) : List Nat :=
  [lineOf (s.cplBase r + 128 + 32 * ((s.ring r).completed % s.ringSlots r)), s.cplBase r + 64]

/-- The next completion of a ring, in SEQ order (R123), once hosts hold no copy of the lines it writes (R277) and no earlier write
for the ring waits; a signal that an earlier one still owes goes first. -/
def Block.completeNext (s0 : Block) (r : Nat) : Block :=
  let s := s0.settleLate
  match (s.ctl.owed.filter (fun e => decide (e.ring = r)) ++ s.entriesOf r).find? LogEntry.owesSignal with
  | some e => s.signalEntry e
  | none =>
    match s.entry r (s.ring r).completed with
    | some e =>
      if e.state ≠ .done ∨ s.host.late.any (fun w => decide (w.ring = some r)) then s
      else s.afterRecall (.engine (s.ringPtn r)) true (s.recordLines r) fun t => (t.complete e).signalEntry e
    | none => s

/-- The completion record of a ring's next descriptor is written (R123). -/
def execCompletionWrite (ring : Fin 4096) (s : State) : Out := s.act fun s => (s.completeNext ring.val)

/-! ## RNG_CMD (R144) -/

/-- A command refused: RNG_CMD_STATUS.ERR. -/
def Block.rngRefused (s : Block) : Block := s.setFld F.RNG_CMD_STATUS_ERR 1

/-- A command finished: RNG_CMD_STATUS.DONE. -/
def Block.rngDone (s : Block) : Block := (s.setFld F.RNG_CMD_STATUS_DONE 1).setFld F.RNG_CMD_STATUS_BUSY 0

/-- A command on a ring, by an actor that may issue it; a second command is refused while one runs. -/
def Block.rngCmd (s : Block) (a : Actor) (r : Nat) (act : Block → Block) : Block :=
  s.byOwner a (s.ringPtn r) fun t => if t.isSet F.RNG_CMD_STATUS_BUSY then t.rngRefused else act t

/-- The entries of a ring in MODE COLD_HOLD replayed: the ring passes through REPLAY (R134, R138). -/
def Block.leaveHold (s : Block) (r : Nat) : Block :=
  let s1 : Block := { s with ctl := { s.ctl with
    logbook := s.ctl.logbook.map fun e => if e.ring = r ∧ !e.settled then { e with replayed := true } else e } }
  let s2 := forEach ((s.entriesOf r).filter fun e => !e.settled) (fun e t => t.event 1 3 (e.attr (t.ringPtn r))) s1
  (((s2.setRing r { s2.ring r with after := some ((s2.ring r).after.getD mdRunning) }).setMode r mdReplay).evalWaits).endReplay r

/-- RNG_CMD RESUME releases a ring from COLD_HOLD, or is refused (R134). -/
def execResumeRing (by_ : Actor) (ring : Fin 4096) (s : State) : Out :=
  s.act fun s => (s.rngCmd by_ ring.val fun t =>
    if t.ringMode ring.val = mdColdHold then ((t.leaveHold ring.val).service ring.val).rngDone
    else t.rngRefused)

/-- RNG_CMD RESTART clears ERR and services the ring again (R109). -/
def execRestartRing (by_ : Actor) (ring : Fin 4096) (s : State) : Out :=
  s.act fun s => (s.rngCmd by_ ring.val fun t =>
    let r := ring.val
    let t1 := t.setFld (F.RNG_STATE_ERR r) 0
    let t2 := if t.ringMode r = mdError then
        t1.setMode r (if t.isSet (F.RNG_CFG_ENABLE r) then mdRunning else mdDraining)
      else if t.ringMode r = mdOff then t1 else t1.putStatus r
    ((t2.service r).drained r).rngDone)

/-! ## ENABLE and the logbook limit -/

/-- Whether `n` bytes from a DPA lie in DRAM and belong to a partition. -/
def Block.ownsRange (s : Block) (p dpa n : Nat) : Bool :=
  decide (dpa + n ≤ dramBytes)
    && (List.range ((dpa % 2 ^ 34 + n + 2 ^ 34 - 1) / 2 ^ 34)).all fun i =>
      decide (s.ownerOf (dpa + i * 2 ^ 34) = some p)

/-- The ERR with which a ring refuses ENABLE, if it does (R103, R107, Table 4-12). -/
def Block.enableRefusal (s : Block) (r : Nat) : Option Nat :=
  let p := s.ringPtn r
  let l := s.fld (F.RNG_DESC_LO_LOG2_SLOTS r)
  let ms := s.fld (F.RNG_CFG_DEFAULT_RUN_MS r)
  let stop := s.homeStop (s.cplBase r)
  if l < 6 ∨ 16 < l ∨ ms < 1 ∨ 90 < ms then some 0x07
  else if !s.ownsRange p (s.descBase r) (64 * 2 ^ l) || !s.ownsRange p (s.cplBase r) (128 + 32 * 2 ^ l) then some 0x07
  else if 512 ≤ (s.ringsOn.filter fun x => decide (s.homeStop (s.cplBase x) = stop)).length then some 0x08
  else none

/-- The held entries of a defined ring replayed (R100). -/
def Block.unhold (s : Block) (r : Nat) : Block :=
  if s.isSet (F.RNG_CFG_ENABLE r) ∧ (s.entriesOf r).any (·.held) then
    let s1 : Block := { s with ctl := { s.ctl with
      logbook := s.ctl.logbook.map fun e =>
        if e.ring = r ∧ e.held then { e with held := false, replayed := e.replayed || !e.settled } else e } }
    (((s1.setRing r { s1.ring r with armed := true, after := some (s.ringMode r) }).setMode r mdReplay).evalWaits).endReplay r
  else s

/-- ENABLE 1 written to a ring (R138); written while its MODE is not OFF it is dropped, and ERR reads 0x06.  A ring that still
has held entries keeps its counters (DESIGN CHOICE, log 138). -/
def Block.ringEnable (s : Block) (r : Nat) : Block :=
  if s.ringMode r ≠ mdOff then (s.setFld (F.RNG_STATE_ERR r) 0x06).putStatus r
  else
    match s.enableRefusal r with
    | some e => s.setFld (F.RNG_STATE_ERR r) e
    | none =>
      let off := s.fnDisabled (s.fld (F.RNG_CFG_FUNCTION r))
      let s1 := (s.setFld (F.RNG_CFG_ENABLE r) 1).setFld (F.RNG_STATE_ERR r) 0
      let held := (s.entriesOf r).any (·.held)
      let s2 := (s1.setRing r { (if held then s.ring r else { errSeq := (s.ring r).errSeq }) with armed := !off }).setMode r
        (if off then mdFnDisabled else mdRunning)
      if s.boot.adrift then s2 else s2.unhold r

/-- ENABLE 1 written from OFF (R138). -/
def execRingEnable (by_ : Actor) (ring : Fin 4096) (s : State) : Out :=
  s.act fun s => (s.byOwner by_ (s.ringPtn ring.val) fun t => t.ringEnable ring.val)

/-- ENABLE 0 written to a ring (R138). -/
def Block.ringDisable (s : Block) (r : Nat) : Block :=
  let m := s.ringMode r
  if m = mdOff then s.setFld (F.RNG_CFG_ENABLE r) 0
  else
    let s1 := (s.setFld (F.RNG_CFG_ENABLE r) 0).unpause r
    if m = mdReplay then s1.setRing r { s1.ring r with after := some mdDraining }
    else if m = mdColdHold then s1.leaveHold r
    else ((s1.setRing r { s1.ring r with armed := true, seqWait := false, checkWait := false }).setMode r
      mdDraining).drained r

/-- ENABLE 0 written (R138). -/
def execRingDisable (by_ : Actor) (ring : Fin 4096) (s : State) : Out :=
  s.act fun s => (s.byOwner by_ (s.ringPtn ring.val) fun t => t.ringDisable ring.val)

/-- DEVICE_ID (R472). -/
def Block.deviceId (s : Block) : List Byte :=
  ((List.range 4).map fun w => leBytes 4 (s.fld (F.SEC_DEVICE_ID_ID w))).flatten

/-- The cave channels in service: fitted, not FAILED, on a die in service (R119). -/
def Block.serviceChannels (s : Block) : List Nat :=
  (List.range 32).filter fun c => decide (s.fld (F.TIR_CH_STATUS_STATE c) = 2) && s.dieServing (c / 8)

/-- How many cave channels are in service. -/
def Block.channelsInService (s : Block) : Nat := s.serviceChannels.length

/-- The logbook limit follows the channels in service (R119). -/
def Block.followChannels (s : Block) : Block :=
  let n := s.channelsInService
  (s.setFld F.RNG_LOGBOOK_LIMIT_LIMIT (if n = 0 then 65536 else 2048 * n)).setBit F.RNG_LOGBOOK_LIMIT_NO_FLUSH
    (decide (n = 0))

/-- The quotas that a configuration does not hold take their default, the limit over 32 (R144). -/
def Block.defaultQuotas (s : Block) (held : List Nat) : Block :=
  forEach ((List.range 32).filter fun p => !held.contains (R.RNG_PTN_QUOTA p))
    (fun p t => t.setFld (F.RNG_PTN_QUOTA_QUOTA p) (t.logbookLimit / 32)) s

/-- The logbook limit follows the channels in service (R119). -/
def execLogbookLimitUpdate (s : State) : Out := s.act fun s => s.followChannels

end Sys2Proof.Machine
end

