-- ==== Sys2Proof/Machine/Faults.lean ====
section
/-! DEFINITION.  Failed tasks and page faults (R254–R259, R327, R378, R379): how a task's failure becomes its
descriptor's outcome, program reports, fault records and the fault queues. -/

namespace Sys2Proof.Machine

/-! ## Outcomes -/

/-- The outcome of two that comes first in the order of R327. -/
def Finish.first (a b : Finish) : Finish :=
  { (if statusRank a.status ≤ statusRank b.status then a else b) with ran := a.ran || b.ran }

/-- An outcome of a descriptor, joined with the one it already has. -/
def Block.setFin (s : Block) (ring seq : Nat) (f : Finish) : Block :=
  s.mapEntry ring seq fun e =>
    if e.settled then e
    else { e with fin := some (match e.fin with
      | some g => g.first f
      | none => f) }

/-- The elements that 4 KiB of a format holds, in whole blocks for an MX format. -/
def elemsPerUnit (fmt : Nat) : Nat := if isMx fmt then 4096 / blockBytes fmt * 32 else 4096 / (widthOf fmt / 8)

/-- The committed prefix of a burst: the largest c with cells 0 to c − 1 committed. -/
def prefixFrom (cells : List Nat) : Nat → Nat → Nat
  | 0, c => c
  | n + 1, c => if cells.contains c then prefixFrom cells n (c + 1) else c

/-- The committed prefix of a burst, in cells. -/
def Burst.prefixCells (b : Burst) : Nat := prefixFrom b.cells (b.cells.length + 1) 0

/-- The committed bytes of a burst. -/
def Burst.committed (b : Burst) : Nat := min (64 * b.prefixCells) b.total

/-- The burst that feeds a descriptor. -/
def Block.burstOf (s : Block) (ring seq : Nat) : Option Burst :=
  s.eng.bursts.find? fun b => decide (b.ring = ring) && decide (b.seq = seq)

/-- How the burst of a descriptor has ended. -/
def Block.burstEndOf (s : Block) (ring seq : Nat) : Option BurstEnd :=
  s.eng.burstEnds.find? fun b => decide (b.ring = ring) && decide (b.seq = seq)

/-- The source bytes that a KV_APPEND has committed (Table 11-4): those its burst has, or those of the positions whose key and
value pages are both written. -/
def Block.appended (s : Block) (e : LogEntry) : Nat :=
  let d := e.bytes
  if Desc.f d 0x60 23 22 = 0 then
    let ppp := Desc.f d 0x50 23 11
    min (Desc.f d 0x60 63 32) ((e.result / ppp + e.unitsDone / 2) * ppp - e.result) * Desc.appendPb d
  else
    match s.burstEndOf e.ring e.seq, s.burstOf e.ring e.seq with
    | some b, _ => b.bytes
    | none, some b => b.committed
    | none, none => 0

/-- The RESULT_LEN of an in-place entry of which some units are applied (Table 11-4). -/
def Block.partLen (s : Block) (e : LogEntry) : Nat :=
  let d := e.bytes
  match Desc.opcode d with
  | 0x12 => s.appended e
  | 0x13 => min e.result (2 ^ 32 - 1)
  | 0x15 => min (elemsPerUnit (Desc.f d 0x58 63 60) * e.unitsDone) (Desc.f d 0x50 63 32)
  | 0x17 => min (min (4096 * e.unitsDone) (Desc.w d 0x50)) (2 ^ 32 - 1)
  | _ => 0

/-- A descriptor's context. -/
def LogEntry.ctx (e : LogEntry) : Nat := Desc.ctx e.bytes

/-- A program report written to REPORT, where the descriptor names one and its context lets it be written (R358,
R379). -/
def Block.putReport (s : Block) (e : LogEntry) (kind code task word ca : Nat) : Block :=
  let at_ := Desc.f e.bytes 0x78 47 0
  if at_ = 0 then s
  else
    let ptn := s.ringPtn e.ring
    let bytes := leBytes 8 (kind * 2 ^ 56 + code * 2 ^ 48 + task * 2 ^ 32 + word) ++ leBytes 8 ca ++ leBytes 8 0
      ++ leBytes 8 s.now
    s.writeModule { q := .engine ptn, ring := some e.ring, at_ := .ca e.ctx ptn at_
                    mask := (List.range 64).map fun j => decide (at_ % 64 ≤ j ∧ j < at_ % 64 + 32)
                    bytes := List.replicate (at_ % 64) 0 ++ bytes ++ List.replicate (32 - at_ % 64) 0 }

/-- How an ended task of a program counts towards its descriptor (R378). -/
def Task.outcome (t : Task) : Finish :=
  match t.trap, t.prog with
  | some x, _ => { status := x.status, detail := x.detail }
  | none, some p =>
    { status := if p.core.seenAddr then stAddressError else if p.core.seenPoison then stPoison else stOk }
  | none, none => { status := stOk }

/-- The trapped task with the lowest index. -/
def firstTrap (ts : List Task) : Option (Task × Trap) :=
  ts.foldl (fun best t =>
    match t.trap, best with
    | some x, none => some (t, x)
    | some x, some (b, y) => if t.idx < b.idx then some (t, x) else some (b, y)
    | none, b => b) none

/-- A BEXA_RUN whose tasks have all ended: its report and its outcome (R360, R378, R379). -/
def Block.settleProgram (s : Block) (ring seq : Nat) : Block :=
  match s.entry ring seq with
  | none => s
  | some e =>
    let ts := s.tasksOf ring seq
    if Desc.opcode e.bytes = opcBexaRun ∧ ts ≠ [] ∧ ts.all fun t => decide (t.state = .ended) then
      let s1 := match firstTrap ts with
        | some (t, x) => s.putReport e 0x02 x.code t.idx x.word x.ca
        | none => s
      let f : Finish := ts.foldl (fun (f : Finish) t => f.first t.outcome) { status := stOk }
      let f := f.first { status := if e.sawAddr then stAddressError else stOk }
      s1.setFin ring seq { f with len := (ts.filter (·.exited)).length, ran := true }
    else s

/-- A task of a program ended with a trap (R378): the descriptor's other tasks stop at their next TILE or EXIT. -/
def Block.trapTask (s : Block) (t : Task) (x : Trap) : Block :=
  let s1 := s.mapTasks fun y =>
    if y.is t.ring t.seq t.idx then { y with trap := some x } else if y.of t.ring t.seq then { y with stop := true } else y
  (s1.endTask t).settleProgram t.ring t.seq

/-- A descriptor that completes TRANSLATION_FAULT with a code; the units it has committed stay (R257). -/
def Block.failEntry (s : Block) (ring seq code : Nat) : Block :=
  let len := match s.entry ring seq with
    | some e => s.partLen e
    | none => 0
  s.setFin ring seq { status := stTranslationFault, detail := code, len := len }

/-- A task whose access is denied, or that is resolved as a denial: its descriptor completes TRANSLATION_FAULT with
the code (Table 4-8). -/
def Block.failTask (s : Block) (ring seq idx code ca : Nat) : Block :=
  match s.task ring seq idx with
  | some t =>
    match t.prog with
    | some p =>
      if t.state = .ended then s
      else s.trapTask t { status := stTranslationFault, detail := code, code := 0, word := p.core.pc / 4, ca := ca }
    | none => s.failEntry ring seq code
  | none => s.failEntry ring seq code

/-! ## Switching tasks out -/

/-- A program back at its last checkpoint: its vector registers read zero, an open unit is discarded (R377). -/
def Prog.restore (p : Prog) : Prog := { p with core := p.saved, vregs := [], unit := none }

/-- A task switched out to wait; a program resumes from its last checkpoint (R254, R377). -/
def Block.switchOut (s : Block) (ring seq idx : Nat) (w : WaitFor) : Block :=
  match s.task ring seq idx with
  | none => s
  | some t =>
    let s1 := s.mapTask ring seq idx fun x => { x with state := .waiting w, prog := x.prog.map Prog.restore }
    match t.core with
    | some k => if t.state = .running then s1.dropPrefetchers k else s1
    | none => s1

/-- A waiting task runnable again. -/
def Block.wakeTask (s : Block) (r : Nat × Nat × Nat) : Block :=
  s.mapTask r.1 r.2.1 r.2.2 fun x =>
    match x.state with
    | .waiting _ => { x with state := .ready }
    | _ => x

/-! ## Fault records (R255–R258) -/

/-- A partition's fault queue. -/
def Block.fq (s : Block) (p : Nat) : FaultQueue := Assoc.get {} p s.xlt.queues

/-- A partition's fault queue replaced. -/
def Block.setFq (s : Block) (p : Nat) (v : FaultQueue) : Block :=
  { s with xlt := { s.xlt with queues := Assoc.put {} p v s.xlt.queues } }

/-- The records of a fault queue: 2^LOG2. -/
def Block.fqSize (s : Block) (p : Nat) : Nat := 2 ^ s.fld (F.XLT_FQ_BASE_LO_LOG2 p)

/-- The start of a fault queue's region. -/
def Block.fqBase (s : Block) (p : Nat) : Nat := s.pair (R.XLT_FQ_BASE_LO p) (R.XLT_FQ_BASE_HI p) / 4096 * 4096

/-- A record given to a partition's queue; one that finds it full waits in the pool (R256). -/
def Block.enqueueRec (s : Block) (p : Nat) (q : QueueRec) : Block :=
  let f := s.fq p
  let s1 := s.setFq p { f with waiting := f.waiting ++ [q] }
  if s.fqSize p ≤ f.produce - f.consume + f.waiting.length then s1.bump F.XLT_FQ_FULL_COUNT else s1

/-- XLT_STATUS.OPEN brought up to the open records. -/
def Block.countFaults (s : Block) : Block := s.setFld F.XLT_STATUS_OPEN s.xlt.faults.length

/-- The lowest free FAULT_ID (DESIGN CHOICE, log 44). -/
def Block.freeFaultId (s : Block) : Nat :=
  ((List.range 4096).find? fun i => !s.xlt.faults.any fun f => decide (f.id = i)).getD 0

/-- A fault merged into an open record (R255). -/
def Block.mergeFault (s : Block) (f : FaultRec) (p : PendingFault) : Block :=
  let access := f.access ||| p.access
  let s1 : Block := ({ s with xlt := { s.xlt with
      faults := s.xlt.faults.map fun x =>
        if x.id = f.id then { x with access := access, tasks := x.tasks ++ [p.task] } else x } } : Block).bump
    F.XLT_MERGE_COUNT_COUNT
  let s1 := s1.event 6 3 (s.entryAttr p.task.1 p.task.2.1)
  let s2 := s1.switchOut p.task.1 p.task.2.1 p.task.2.2 (.fault f.id)
  if access = f.access ∨ (s.fq p.ptn).waiting.any fun q => !q.cell && decide (q.id = f.id) then s2
  else s2.enqueueRec p.ptn
    { id := f.id, ctx := f.ctx, reason := f.reason, access := access, update := true, cell := false, tasks := 0
      page := f.page, layer := f.layer, op := f.op, stream := f.stream }

/-- A fault that opens a record (R255). -/
def Block.openRecord (s : Block) (p : PendingFault) : Block :=
  let id := s.freeFaultId
  let f : FaultRec :=
    { id := id, ctx := p.ctx, ptn := p.ptn, reason := p.reason, access := p.access, page := p.page, die := p.die
      layer := p.layer, op := p.op, stream := p.stream, tasks := [p.task] }
  let a := s.entryAttr p.task.1 p.task.2.1
  let s1 := ((({ s with xlt := { s.xlt with faults := s.xlt.faults ++ [f] } } : Block).bump F.XLT_FAULT_COUNT_COUNT).event 6 2
    a).trace ttFault a (p.page * 4096) (id * 2 ^ 52 + p.ctx * 2 ^ 40 + p.reason * 2 ^ 36)
  ((s1.countFaults).switchOut p.task.1 p.task.2.1 p.task.2.2 (.fault id)).enqueueRec p.ptn
    { id := id, ctx := p.ctx, reason := p.reason, access := p.access, update := false, cell := false, tasks := 0
      page := p.page, layer := p.layer, op := p.op, stream := p.stream }

/-- A task's fault: denied where its partition has no enabled queue, merged, opened, or held until a record is free
(R255, R256). -/
def Block.takeFault (s : Block) (p : PendingFault) : Block :=
  if !s.isSet (F.XLT_FQ_CFG_ENABLE p.ptn) then
    (s.bump F.XLT_DENY_COUNT_COUNT).failTask p.task.1 p.task.2.1 p.task.2.2 denNoQueue (p.page * 4096)
  else
    match s.xlt.faults.find? fun f => decide (f.ctx = p.ctx) && decide (f.page = p.page) with
    | some f => s.mergeFault f p
    | none =>
      if s.xlt.faults.length < 4096 then s.openRecord p
      else
        (({ s with xlt := { s.xlt with waiting := s.xlt.waiting ++ [p] } } : Block).bump
          F.XLT_RECORD_WAIT_COUNT).switchOut p.task.1 p.task.2.1 p.task.2.2 .faultRecord

/-- A fault of a task of an entry's descriptor: the address, the access, the reason and the table line that caused
it. -/
def Block.faultOf (s : Block) (e : LogEntry) (idx ca acc reason line : Nat) : Block :=
  s.takeFault
    { ctx := e.ctx, ptn := s.ctxPtn e.ctx, reason := reason, access := acc, page := ca / 4096
      die := s.homeSlice line / 9, layer := Desc.layer e.bytes, op := Desc.operatorId e.bytes
      stream := Desc.stream e.bytes, task := (e.ring, e.seq, idx) }

/-- Whether a task waits on a fault. -/
def Block.faulting (s : Block) (ring seq idx : Nat) : Bool :=
  (s.xlt.faults.any fun f => f.tasks.contains (ring, seq, idx))
    || s.xlt.waiting.any fun p => decide (p.task = (ring, seq, idx))

/-- A task that runs again from its start leaves its record, which stays open (R258). -/
def Block.leaveRecord (s : Block) (r : Nat × Nat × Nat) : Block :=
  { s with xlt := { s.xlt with
    faults := s.xlt.faults.map fun f => { f with tasks := f.tasks.filter fun x => decide (x ≠ r) }
    waiting := s.xlt.waiting.filter fun p => decide (p.task ≠ r) } }

/-- A record closed. -/
def Block.closeFault (s : Block) (id : Nat) : Block :=
  ({ s with xlt := { s.xlt with faults := s.xlt.faults.filter fun f => decide (f.id ≠ id) } } : Block).countFaults

/-- A record resolved (R257): its tasks walk again, or their descriptors complete TRANSLATION_FAULT with a code. -/
def Block.resolveFault (s : Block) (f : FaultRec) (deny : Option Nat) : Block :=
  let s1 := s.closeFault f.id
  match deny with
  | none => forEach f.tasks (fun r t => t.wakeTask r) s1
  | some code =>
    forEach f.tasks (fun r t => (t.bump F.XLT_DENY_COUNT_COUNT).failTask r.1 r.2.1 r.2.2 code (f.page * 4096)) s1

/-- Every record, open or waiting to open, that satisfies a condition on its context and partition denied (R258). -/
def Block.denyFaults (s : Block) (mine : Nat → Nat → Bool) (code : Nat) : Block :=
  let s1 := forEach (s.xlt.faults.filter fun f => mine f.ctx f.ptn) (fun f t => t.resolveFault f (some code)) s
  let ws := s1.xlt.waiting.filter fun p => mine p.ctx p.ptn
  forEach ws
    (fun p t => (t.bump F.XLT_DENY_COUNT_COUNT).failTask p.task.1 p.task.2.1 p.task.2.2 code (p.page * 4096))
    { s1 with xlt := { s1.xlt with waiting := s1.xlt.waiting.filter fun p => !mine p.ctx p.ptn } }

/-- The waiting tasks of a disabled function's rings leave their records and complete with FN_DISABLED; a record
that no task waits on closes (R258). -/
def Block.faultsOfFn (s : Block) (fn : Nat) : Block :=
  let mine (r : Nat × Nat × Nat) : Bool := decide (s.fld (F.RNG_CFG_FUNCTION r.1) = fn)
  let hit := ((s.xlt.faults.map (·.tasks)).flatten ++ s.xlt.waiting.map (·.task)).filter mine
  let s1 : Block := { s with xlt := { s.xlt with
    faults := (s.xlt.faults.map fun f => { f with tasks := f.tasks.filter (!mine ·) }).filter fun f => decide (f.tasks ≠ [])
    waiting := s.xlt.waiting.filter fun p => !mine p.task } }
  forEach hit (fun r t => (t.bump F.XLT_DENY_COUNT_COUNT).failTask r.1 r.2.1 r.2.2 denFnDisabled 0) s1.countFaults

/-! ## The fault queue in memory (R256, Table 8-7) -/

/-- A record's 32 bytes. -/
def Block.queueBytes (s : Block) (p : Nat) (q : QueueRec) : List Byte :=
  let open_ := if q.cell then none else s.xlt.faults.find? fun f => decide (f.id = q.id)
  let tasks := match open_ with
    | some f => min f.tasks.length 0x7FFF
    | none => q.tasks
  let access := match open_ with
    | some f => f.access
    | none => q.access
  let bit (b : Bool) (n : Nat) : Nat := if b then 2 ^ n else 0
  let phase := 1 - (s.fq p).produce / s.fqSize p % 2
  leBytes 8 ((if q.cell then 0 else q.id) * 2 ^ 52 + q.ctx * 2 ^ 40 + q.reason * 2 ^ 36 + access * 2 ^ 33
      + bit q.update 32 + bit q.cell 31 + tasks * 2 ^ 16)
    ++ leBytes 8 (q.page * 2 ^ 12) ++ leBytes 8 (q.layer * 2 ^ 48 + q.op * 2 ^ 32 + q.stream * 2 ^ 18)
    ++ leBytes 8 (phase * 2 ^ 63 + s.now % 2 ^ 63)

/-- Whether a queue's MSI-X function may be notified (R256). -/
def Block.fqFnOk (s : Block) (p fn : Nat) : Bool :=
  match s.fnKind (.ld (Fin.ofNat 256 fn)) with
  | .full => true
  | .scoped q => decide (q = p)
  | .ungranted => false

/-- A queue's notification. -/
def Block.fqNotify (s : Block) (p : Nat) : Block :=
  let fn := s.fld (F.XLT_FQ_NOTIFY_FUNCTION p)
  let kind := s.fld (F.XLT_FQ_NOTIFY_KIND p)
  if s.isSet (F.XLT_FQ_NOTIFY_EN p) && (decide (kind = 1) || s.fqFnOk p fn) then
    s.notify kind (s.fld (F.XLT_FQ_NOTIFY_TARGET p)) fn (.faultQueue p (s.fq p).produce)
  else s

/-- The first waiting record written to its queue, where there is space and no host's copy is in the way (R277); whether one
was. -/
def Block.writeRec (s : Block) (p : Nat) : Bool × Block :=
  let f := s.fq p
  match f.waiting with
  | [] => (false, s)
  | q :: rest =>
    if s.fqSize p ≤ f.produce - f.consume then (false, s)
    else
      let at_ := s.fqBase p + 64 + 32 * (f.produce % s.fqSize p)
      let lines := [lineOf at_, s.fqBase p]
      if s.blocked (.engine p) true lines then (false, s.noteWants (.engine p) true lines)
      else
      let s1 := (s.poke (.engine p) at_ (s.queueBytes p q)).setFq p
        { f with produce := f.produce + 1, waiting := rest }
      (true, (s1.poke (.engine p) (s.fqBase p) (leBytes 8 (f.produce + 1))).fqNotify p)

/-- Waiting records written as long as there is space. -/
def Block.writeRecs (p : Nat) : Nat → Block → Block
  | 0, s => s
  | n + 1, s =>
    match s.writeRec p with
    | (true, s1) => Block.writeRecs p n s1
    | (false, s1) => s1

end Sys2Proof.Machine
end

