-- ==== Sys2Proof/Machine/Bursts.lean ====
section
/-! DEFINITION.  Bursts (R337–R340): opening and closing a pair, its committed prefix, what a closed burst leaves. -/

namespace Sys2Proof.Machine

/-- ENG_BURST_STATUS.OPEN brought up to the open bursts. -/
def Block.countBursts (s : Block) : Block := s.setFld F.ENG_BURST_STATUS_OPEN s.eng.bursts.length

/-- An open pair. -/
def Block.burst (s : Block) (source tag : Nat) : Option Burst :=
  s.eng.bursts.find? fun b => decide (b.source = source) && decide (b.tag = tag)

/-- The lowest free SLOT of a source, 0 to 15 (R419). -/
def Block.burstSlot (s : Block) (source : Nat) : Option Nat :=
  (List.range 16).find? fun n => !s.eng.bursts.any fun b => decide (b.source = source) && decide (b.slot = n)

/-- The bytes that a KV_APPEND takes from its source. -/
def Desc.appendBytes (d : Desc) : Nat := d.f 0x60 63 32 * d.appendPb

/-- The idle time of a descriptor's burst in µs: its IDLE_US, or that of ENG_BURST_CFG (Table 11-7). -/
def Block.burstIdle (s : Block) (d : Desc) : Nat :=
  let idle := Desc.f d 0x78 63 32
  if idle = 0 then s.fld F.ENG_BURST_CFG_IDLE_US else idle

/-- A pair opened for a descriptor, and its source told (R337, R338, R340). -/
def Block.openBurst (s : Block) (e : LogEntry) (slot : Nat) : Block :=
  let d := e.bytes
  let source := Desc.f d 0x70 63 44
  let tag := Desc.f d 0x70 43 28
  let b : Burst :=
    { source := source, tag := tag, ring := e.ring, seq := e.seq, ctx := e.ctx, src := Desc.f d 0x68 47 0
      total := Desc.appendBytes d, slot := slot }
  (({ s with eng := { s.eng with
      bursts := s.eng.bursts ++ [b]
      closed := s.eng.closed.filter fun x => !(decide (x.1 = source) && decide (x.2.1 = tag))
      burstEnds := s.eng.burstEnds.filter fun x => !(decide (x.ring = e.ring) && decide (x.seq = e.seq)) } } :
    Block).countBursts).cellNotify source
    (.burstOpen tag slot e.replayed b.total (s.burstIdle d))
    (some (Desc.stream d))

/-- The tasks of a descriptor that wait for its burst runnable again. -/
def Block.wakeBurst (s : Block) (ring seq : Nat) : Block :=
  s.mapTasks fun t => if t.of ring seq ∧ t.state = .waiting .burst then { t with state := .ready } else t

/-- A burst closed, COMPLETE or TRUNCATED: its pair is remembered, its source told (R338, R339). -/
def Block.closeBurst (s : Block) (b : Burst) (complete : Bool) : Block :=
  let closed := s.eng.closed ++ [(b.source, b.tag, b.slot)]
  let s1 : Block := { s with eng := { s.eng with
    bursts := s.eng.bursts.erase b
    closed := closed.drop (closed.length - 4096)
    burstEnds := s.eng.burstEnds ++ [{ ring := b.ring, seq := b.seq, complete := complete, bytes := b.committed }] } }
  let s2 := if complete then s1 else s1.bump F.ENG_BURST_TRUNC_COUNT
  ((s2.countBursts).wakeBurst b.ring b.seq).cellNotify b.source (.burstClose b.tag b.slot complete b.committed)
    ((s.entry b.ring b.seq).map fun e => Desc.stream e.bytes)

/-- Every open burst that satisfies a condition closed TRUNCATED (R339). -/
def Block.truncateBursts (s : Block) (mine : Burst → Bool) : Block :=
  forEach (s.eng.bursts.filter mine) (fun b t => t.closeBurst b false) s

/-- No cell has committed for IDLE_US: the burst closes TRUNCATED, unless that time is unlimited (R339). -/
def execBurstIdleTimeout (source : BitVec 20) (tag : BitVec 16) (s : State) : Out :=
  s.act fun s => (
    match s.burst source.toNat tag.toNat with
    | some b => if (s.entry b.ring b.seq).any (fun e => decide (s.burstIdle e.bytes = 0xFFFFFFFF)) then s else s.closeBurst b false
    | none => s)

/-- A closed pair is no longer remembered (R338). -/
def execBurstRecordExpiry (source : BitVec 20) (tag : BitVec 16) (s : State) : Out :=
  s.act fun s => { s with eng := { s.eng with
    closed := s.eng.closed.filter fun x => !(decide (x.1 = source.toNat) && decide (x.2.1 = tag.toNat)) } }

end Sys2Proof.Machine
end

