-- ==== Sys2Proof/Machine/Pressed.lean ====
section
/-! DEFINITION.  Pressed pages (R234–R239): the line codes, the canonical encoder, the decoder. -/

namespace Sys2Proof.Machine

/-- The 16 little-endian words of a line (R237). -/
def lineWords (b : List Byte) : List Nat := (List.range 16).map fun i => ofLeBytes ((b.drop (4 * i)).take 4)

/-- The deltas of words 1 to 15 to word 0, modulo 2^32 (R237). -/
def deltasOf (ws : List Nat) : List Nat :=
  (List.range 15).map fun i => (ws.getD (i + 1) 0 + 2 ^ 32 - ws.headD 0) % 2 ^ 32

/-- Whether a delta, read as signed, fits `w` bits. -/
def deltaFits (w d : Nat) : Bool := decide (d < 2 ^ (w - 1)) || decide (2 ^ 32 - 2 ^ (w - 1) ≤ d)

/-- The delta encoding of a line with deltas of `n` bytes, if every delta fits (R237). -/
def encodeDelta (n : Nat) (b : List Byte) : Option (List Byte) :=
  let ws := lineWords b
  let ds := deltasOf ws
  if ds.all (deltaFits (8 * n)) then
    let mask := (List.range 15).foldl (fun m i => if ds.getD i 0 = 0 then m else m + 2 ^ (i + 1)) 0
    some (leBytes 4 (ws.headD 0) ++ leBytes 2 mask ++ ((ds.filter (· ≠ 0)).map (leBytes n)).flatten)
  else none

/-- The canonical code and body bytes of a line after the line `prev` (R238). -/
def encodeLine (prev : Option (List Byte)) (b : List Byte) : Nat × List Byte :=
  if b = List.replicate 64 0 then (0, [])
  else if prev = some b then (1, [])
  else
    let cands := [(2, encodeDelta 1 b), (3, encodeDelta 2 b), (4, encodeDelta 4 b), (5, some b)]
    (cands.filterMap fun c => c.2.map fun e => (c.1, e)).foldl
      (fun best c => if c.2.length < best.2.length then c else best) (6, List.replicate 65 0)

/-- The codes and bodies of the lines from one after `prev`. -/
def encodeLines : List (List Byte) → Option (List Byte) → List (Nat × List Byte)
  | [], _ => []
  | b :: bs, prev => encodeLine prev b :: encodeLines bs (some b)

/-- The lines of a page. -/
def pageLinesOf (page : List Byte) : List (List Byte) := (List.range 64).map fun i => (page.drop (64 * i)).take 64

/-- The pressed form of a page: header line, body, and padding to the next line (R235, R238). -/
def encodePage (page : List Byte) : List Byte :=
  let es := encodeLines (pageLinesOf page) none
  let body := (es.map (·.2)).flatten
  let codes := (List.range 64).foldl (fun n i => n + (es.getD i (0, [])).1 * 2 ^ (3 * i)) 0
  let off (g : Nat) : Nat := ((es.take (8 * g)).map fun e => e.2.length).foldl (· + ·) 0
  let groups := (List.range 8).foldl (fun n g => n + off g % 4096 * 2 ^ (12 * g)) 0
  let header := leBytes 4 (0xC5 * 2 ^ 24 + 1 * 2 ^ 20 + body.length) ++ leBytes 4 (crc32c page)
    ++ leBytes 24 codes ++ leBytes 12 groups ++ List.replicate 20 0
  fitTo 0 (64 + (body.length + 63) / 64 * 64) (header ++ body)

/-- A line decoded from its code and the body from its place on, after the line `prev`: the line and the bytes
it took; none where decoding fails (R236, R237, R239). -/
def decodeLine (code : Nat) (prev : Option (List Byte)) (body : List Byte) : Option (List Byte × Nat) :=
  match code with
  | 0 => some (List.replicate 64 0, 0)
  | 1 => prev.map fun p => (p, 0)
  | 5 => if 64 ≤ body.length then some (body.take 64, 64) else none
  | 2 | 3 | 4 =>
    let n := if code = 2 then 1 else if code = 3 then 2 else 4
    let w0 := ofLeBytes (body.take 4)
    let mask := ofLeBytes ((body.drop 4).take 2)
    let at_ (i : Nat) : Nat := ((List.range i).filter fun j => getBits mask j j = 1).length
    let len := 6 + n * at_ 16
    if mask % 2 = 1 ∨ body.length < len then none
    else
      let ws := (List.range 16).map fun i =>
        if getBits mask i i = 1 then
          let d := ofLeBytes ((body.drop (6 + n * at_ i)).take n)
          let sx := if d < 2 ^ (8 * n - 1) then d else d + 2 ^ 32 - 2 ^ (8 * n)
          (w0 + sx) % 2 ^ 32
        else w0
      some ((ws.map (leBytes 4)).flatten, len)
  | _ => none

/-- The lines from number `i` on, `n` of them, decoded from place `pos` of the body. -/
def decodeLines (codes groups : Nat) (body : List Byte) :
    Nat → Nat → Nat → Option (List Byte) → Option (List Byte × Nat)
  | 0, _, pos, _ => some ([], pos)
  | n + 1, i, pos, prev =>
    if i % 8 = 0 ∧ getBits groups (12 * (i / 8) + 11) (12 * (i / 8)) ≠ pos then none
    else
      match decodeLine (getBits codes (3 * i + 2) (3 * i)) prev (body.drop pos) with
      | none => none
      | some (l, k) =>
        match decodeLines codes groups body n (i + 1) (pos + k) (some l) with
        | none => none
        | some (rest, fin) => some (l ++ rest, fin)

/-- BODY_BYTES of a header line. -/
def pressedBody (header : List Byte) : Nat := getBits (ofLeBytes (header.take 4)) 12 0

/-- Whether a header line keeps Table 7-8, but for the CRC of the page. -/
def headerOk (header : List Byte) : Bool :=
  let w := ofLeBytes (header.take 4)
  decide (getBits w 31 24 = 0xC5) && decide (getBits w 23 20 = 1) && decide (getBits w 19 13 = 0)
    && decide (pressedBody header ≤ 4096) && decide (ofLeBytes ((header.drop 0x2C).take 20) = 0)

/-- The 4,096 bytes of a pressed page, from its header line and its body; none where decoding fails (R239). -/
def decodePage (header body : List Byte) : Option (List Byte) :=
  if !headerOk header then none
  else
    match decodeLines (ofLeBytes ((header.drop 8).take 24)) (ofLeBytes ((header.drop 0x20).take 12))
        (body.take (pressedBody header)) 64 0 0 none with
    | none => none
    | some (page, used) =>
      if used = pressedBody header ∧ crc32c page = ofLeBytes ((header.drop 4).take 4) then some page else none

end Sys2Proof.Machine
end

