-- ==== Sys2Proof/Machine/Functions.lean ====
section
/-! DEFINITION.  The correctly rounded functions EXP2, LOG2, RCP, RSQRT and TANH of FP32 arguments (R307,
Table 10-8).  An irrational result is formed in fixed point far beyond the precision at which any FP32 argument's
result could meet a rounding boundary, and rounded once. -/

namespace Sys2Proof.Machine

/-- The fixed-point precision in bits. -/
def fixBits : Nat := 400

/-- One in fixed point. -/
def fixOne : Nat := 2 ^ fixBits

/-- Σ 1 / (k × 2^k), k from 1: the natural logarithm of 2, in fixed point. -/
def ln2Sum : Nat → Nat
  | 0 => 0
  | k + 1 => ln2Sum k + fixOne / ((k + 1) * 2 ^ (k + 1))

/-- ln 2 in fixed point. -/
def ln2Fix : Nat := ln2Sum 400

/-- The Taylor terms of e^y from term `k` on, the last term formed being `term`. -/
def expTerms : Nat → Nat → Nat → Nat → Nat
  | 0, _, _, _ => 0
  | fuel + 1, k, y, term => term + expTerms fuel (k + 1) y (term * y / fixOne / (k + 1))

/-- A fixed-point number squared `n` times. -/
def squareTimes : Nat → Nat → Nat
  | 0, v => v
  | n + 1, v => squareTimes n (v * v / fixOne)

/-- e^y for a fixed-point y from 0 to 64. -/
def expFix (y : Nat) : Nat := squareTimes 8 (expTerms 90 0 (y / 256) fixOne)

/-- The fractional bits of log2 of a fixed-point number in [1, 2), `n` of them. -/
def log2Bits : Nat → Nat → Nat
  | 0, _ => 0
  | n + 1, m =>
    let sq := m * m / fixOne
    if 2 * fixOne ≤ sq then 2 ^ n + log2Bits n (sq / 2) else log2Bits n sq

/-- The integer square root by `n` binary digits, from the digit 2^(n−1) down. -/
def sqrtBits : Nat → Nat → Nat → Nat
  | 0, _, r => r
  | n + 1, x, r => if (r + 2 ^ n) * (r + 2 ^ n) ≤ x then sqrtBits n x (r + 2 ^ n) else sqrtBits n x r

/-- An irrational magnitude known to lie just above `t / d`: a half unit of a far finer grid is added, which
stands for every digit below it. -/
def justAbove (neg : Bool) (t d : Nat) : Exact := { neg := neg, num := 2 * t + 1, den := 2 * d }

/-- An irrational magnitude known to lie just below `t / d`. -/
def justBelow (neg : Bool) (t d : Nat) : Exact :=
  { neg := neg, num := t * 2 ^ fixBits - 1, den := d * 2 ^ fixBits }

/-- The magnitude of an FP32 value of `n` units of 2^-150 is below 2^k. -/
def magBelow (n k : Int) : Bool := decide (n.natAbs < 2 ^ (k + 150).toNat)

/-- An FP32 infinity. -/
def inf32 (neg : Bool) : Nat := fp32.signBit neg + fp32.infCode

/-- EXP2 (R307). -/
def exp2Of (mode b : Nat) : Nat :=
  match num32 b with
  | .inf true => 0
  | .inf false => inf32 false
  | .fin n =>
    if n = 0 then 0x3F800000
    else if magBelow n (-60) then
      roundFp fp32 mode false (if n < 0 then justBelow false 1 1 else justAbove false (2 ^ 100) (2 ^ 100))
    else if !magBelow n 10 then
      roundFp fp32 mode false (if n < 0 then { neg := false, num := 1, den := 2 ^ 1000 }
        else { neg := false, num := 2 ^ 1000, den := 1 })
    else
      let whole := n / 2 ^ 150
      let frac := (n % 2 ^ 150).toNat
      let m : Exact :=
        if frac = 0 then { neg := false, num := fixOne, den := fixOne }
        else justAbove false (expFix (frac * 2 ^ (fixBits - 150) * ln2Fix / fixOne)) fixOne
      roundFp fp32 mode false
        (if 0 ≤ whole then { m with num := m.num * 2 ^ whole.toNat } else { m with den := m.den * 2 ^ (-whole).toNat })
  | _ => nan32

/-- LOG2 (R307). -/
def log2Of (mode b : Nat) : Nat :=
  match num32 b with
  | .inf false => inf32 false
  | .fin n =>
    if n = 0 then inf32 true
    else if n < 0 then nan32
    else
      let l := Nat.log2 n.toNat
      let e : Int := (l : Int) - 150
      if n.toNat = 2 ^ l then pack32 mode e 1 false
      else
        let bits := log2Bits 160 (n.toNat * 2 ^ fixBits / 2 ^ l)
        let v : Int := (2 * (e * 2 ^ 160 + bits)) + 1
        match exactOf v (2 ^ 161) with
        | some x => roundFp fp32 mode false x
        | none => 0
  | _ => nan32

/-- RCP (R307). -/
def rcpOf (mode b : Nat) : Nat :=
  match num32 b with
  | .inf neg => fp32.signBit neg
  | .fin n =>
    if n = 0 then inf32 (neg32 b)
    else roundFp fp32 mode false { neg := decide (n < 0), num := 2 ^ 150, den := n.natAbs }
  | _ => nan32

/-- RSQRT (R307). -/
def rsqrtOf (mode b : Nat) : Nat :=
  match num32 b with
  | .inf false => 0
  | .fin n =>
    if n = 0 then inf32 (neg32 b)
    else if n < 0 then nan32
    else
      let q := 2 ^ 650 / n.toNat
      let r := sqrtBits 330 q 0
      if r * r = q ∧ 2 ^ 650 % n.toNat = 0 then
        roundFp fp32 mode false { neg := false, num := r, den := 2 ^ 250 }
      else roundFp fp32 mode false (justAbove false r (2 ^ 250))
  | _ => nan32

/-- TANH (R307). -/
def tanhOf (mode b : Nat) : Nat :=
  match num32 b with
  | .inf neg => fp32.signBit neg + 0x3F800000
  | .fin n =>
    let neg := decide (n < 0)
    if n = 0 then fp32.signBit (neg32 b)
    else if magBelow n (-40) then roundFp fp32 mode false (justBelow neg n.natAbs (2 ^ 150))
    else if !magBelow n 5 then roundFp fp32 mode false (justBelow neg 1 1)
    else
      let e := expFix (2 * n.natAbs * 2 ^ (fixBits - 150))
      roundFp fp32 mode false (justAbove neg ((e - fixOne) * fixOne / (e + fixOne)) fixOne)
  | _ => nan32

end Sys2Proof.Machine
end

