-- ==== Sys2Proof/Machine/Accum.lean ====
section
/-! DEFINITION.  The long accumulator (R297–R300): its operations, its image, and the one rounding of what
leaves it (R301–R304, R308). -/

namespace Sys2Proof.Machine

/-- A number as 640-bit two's complement. -/
def wrap640 (n : Int) : Int :=
  let m := n % 2 ^ 640
  if m < 2 ^ 639 then m else m - 2 ^ 640

/-- A + n, setting OVF when the true result is out of range (R298). -/
def Acc.add (c : Acc) (n : Int) : Acc :=
  let t := c.a + n
  { c with a := wrap640 t, ovf := c.ovf || decide (wrap640 t ≠ t) }

/-- The infinity flag of a sign set. -/
def Acc.setInf (c : Acc) (neg : Bool) : Acc :=
  if neg then { c with ninf := true } else { c with pinf := true }

/-- ADD_PROD (Table 10-4); a poisoned operand has no value that could be a NaN, an infinity or zero (DESIGN CHOICE, log 203). -/
def Acc.addProd (c : Acc) (x y : Num) : Acc :=
  match x, y with
  | .poison, .nan | .nan, .poison => { c with poison := true, nan := true }
  | .poison, _ | _, .poison => { c with poison := true }
  | .nan, _ => { c with nan := true }
  | _, .nan => { c with nan := true }
  | .fin m, .fin n => c.add (m * n)
  | .inf s, .fin n => if n = 0 then { c with nan := true } else c.setInf (s != decide (n < 0))
  | .fin m, .inf s => if m = 0 then { c with nan := true } else c.setInf (s != decide (m < 0))
  | .inf s, .inf t => c.setInf (s != t)

/-- ADD_VAL (Table 10-4). -/
def Acc.addVal (c : Acc) (x : Num) : Acc :=
  match x with
  | .fin n => c.add (n * 2 ^ 150)
  | .inf s => c.setInf s
  | .nan => { c with nan := true }
  | .poison => { c with poison := true }

/-- MERGE (Table 10-4). -/
def Acc.merge (c b : Acc) : Acc :=
  let t := c.add b.a
  { t with
    nan := c.nan || b.nan
    pinf := c.pinf || b.pinf
    ninf := c.ninf || b.ninf
    poison := c.poison || b.poison
    ovf := t.ovf || b.ovf }

/-- The 96-byte image of an accumulator (Table 10-5). -/
def Acc.image (c : Acc) : List Byte :=
  leBytes 80 (c.a % 2 ^ 640).toNat
    ++ leBytes 8 (c.nan.toNat + 2 * c.pinf.toNat + 4 * c.ninf.toNat + 8 * c.poison.toNat + 16 * c.ovf.toNat)
    ++ leBytes 8 0

/-- The accumulator that an image holds; a non-zero reserved bit sets NAN (R300). -/
def Acc.ofImage (b : List Byte) : Acc :=
  let fl := ofLeBytes ((b.drop 80).take 8)
  let bad := decide (32 ≤ fl) || decide (ofLeBytes ((b.drop 88).take 8) ≠ 0)
  { a := wrap640 (ofLeBytes (b.take 80))
    nan := decide (getBits fl 0 0 = 1) || bad
    pinf := decide (getBits fl 1 1 = 1)
    ninf := decide (getBits fl 2 2 = 1)
    poison := decide (getBits fl 3 3 = 1)
    ovf := decide (getBits fl 4 4 = 1) }

/-- The partial sums of the engines or dies of a division combined by MERGE of their images (R38, R300, R310). -/
def Acc.mergeImages (cs : List Acc) : Acc := cs.foldl (fun a c => a.merge (Acc.ofImage c.image)) {}

/-- A value about to be rounded: poison, NaN, an infinity, or an exact value (zero is `none`). -/
inductive OutVal where
  | poison | nan
  | inf (neg : Bool)
  | exact (x : Option Exact)
  deriving DecidableEq, Repr

/-- What an accumulator rounds to before rounding: rows 1 to 5 of Table 10-7, or its value. -/
def Acc.out (c : Acc) : OutVal :=
  if c.poison then .poison
  else if c.ovf || c.nan || (c.pinf && c.ninf) then .nan
  else if c.pinf then .inf false
  else if c.ninf then .inf true
  else .exact (exactOf c.a (2 ^ 300))

/-- Whether an accumulator counts as infinite, and its sign (R308 step 2). -/
def Acc.isInf (c : Acc) : Option Bool :=
  if c.pinf != c.ninf then some c.ninf else none

/-- The exact quotient of two accumulators, its flags resolved (R308). -/
def Acc.div (n d : Acc) : OutVal :=
  if n.poison || d.poison then .poison
  else if n.ovf || n.nan || d.ovf || d.nan || (n.pinf && n.ninf) || (d.pinf && d.ninf) then .nan
  else
    match n.isInf, d.isInf with
    | some _, some _ => .nan
    | some s, none => if d.a = 0 then .nan else .inf (s != decide (d.a < 0))
    | none, some _ => .exact none
    | none, none =>
      if d.a = 0 then .nan
      else if n.a = 0 then .exact none
      else .exact (some { neg := decide (n.a < 0) != decide (d.a < 0), num := n.a.natAbs, den := d.a.natAbs })

/-- A value rounded to FP32, BF16 or FP16 (Table 10-7): `none` is poison. -/
def OutVal.round (fmt mode : Nat) (sat : Bool) (v : OutVal) : Option Nat :=
  match fpOf fmt with
  | none => some 0
  | some f =>
    match v with
    | .poison => none
    | .nan => some f.nanCode
    | .inf s => some (f.signBit s + f.infCode)
    | .exact none => some 0
    | .exact (some x) => some (roundFp f mode sat x)

/-- An accumulator rounded to FP32, BF16 or FP16 (R302). -/
def Acc.round (c : Acc) (fmt mode : Nat) (sat : Bool) : Option Nat := c.out.round fmt mode sat

/-- A block written to an MX format: its scale byte, its 32 element codes, and whether its element lines are
poison. -/
structure MxBlock where
  scale : Nat
  codes : List Nat
  poison : Bool
  deriving DecidableEq, Repr

/-- The exact value of an output that is one. -/
def OutVal.exact? : OutVal → Option Exact
  | .exact x => x
  | _ => none

/-- Up to 32 values rounded to one MX block (R303), pad elements as code 0. -/
def roundMx (fmt mode : Nat) (vs : List OutVal) : MxBlock :=
  if vs.contains .poison then { scale := 255, codes := List.replicate 32 0, poison := true }
  else if vs.any fun v => match v with
      | .exact _ => false
      | _ => true then { scale := 255, codes := List.replicate 32 0, poison := false }
  else
    let r := roundBlock fmt mode (vs.map OutVal.exact?)
    { scale := r.1, codes := fitTo 0 32 r.2, poison := false }

/-- Element codes of width `w` packed little-endian into bytes (R293). -/
def packBits (w : Nat) (codes : List Nat) : List Byte :=
  let n := (codes.foldr (fun c acc => c % 2 ^ w + 2 ^ w * acc) 0 : Nat)
  leBytes ((w * codes.length + 7) / 8) n

/-- Element `i` of width `w` in packed bytes (R293). -/
def unpackAt (w i : Nat) (bytes : List Byte) : Nat :=
  let first := w * i / 8
  ofLeBytes ((bytes.drop first).take ((w * i + w - 1) / 8 + 1 - first)) / 2 ^ (w * i - 8 * first) % 2 ^ w

/-- A single value as an accumulator (R304). -/
def Acc.ofNum (x : Num) : Acc := ({} : Acc).addVal x

end Sys2Proof.Machine
end

