-- ==== Sys2Proof/Machine/Run.lean ====
section
/-! DEFINITION.  How an operator runs (R126, R326–R329): it reads every input it needs through translation, forms
its output, and applies the whole output at the end; a denial, a fault or a wait leaves the output
unwritten. -/

namespace Sys2Proof.Machine

/-- Why a run does not reach its end: a denial, a page fault, a wait (for a frame or an object), or a completion
that the operator's table gives before any effect. -/
inductive Stop where
  | deny (code : Nat)
  | fault (ca acc reason line : Nat)
  | wait
  | finish (f : Finish)
  deriving DecidableEq, Repr

/-- An operator's run: the state as its reads leave it, who it runs for, the lines it has read, the output
formed so far, whether it read poison or an unreachable address, and the pressed pages that it has found to fail (R239). -/
structure Run where
  s : Block
  ring : Nat
  seq : Nat
  ctx : Nat
  ptn : Nat
  priv : Bool
  lines : Assoc Got := []
  outs : List LineOut := []
  poison : Bool := false
  addrErr : Bool := false
  failedPages : List Nat := []
  quiet : Bool := false
  deriving DecidableEq, Repr

/-- What an operator does: from a run to a result, or a stop with the state reached. -/
abbrev Op (α : Type) := StateT Run (Except (Stop × Block)) α

/-- Ends the run. -/
def Op.stop {α : Type} (why : Stop) : Op α := fun r => .error (why, r.s)

/-- A change to the state that the run carries along. -/
def Op.tell (f : Block → Block) : Op Unit := modify fun r => { r with s := f r.s }

/-- Marks that a poisoned input was read (R188). -/
def Op.sawPoison : Op Unit := modify fun r => { r with poison := true }

/-- Marks that an address fell under R11 or that an element was an ADDRESS_ERROR. -/
def Op.sawAddrErr : Op Unit := modify fun r => { r with addrErr := true }

/-- The DPA of a CA for an access (R247). -/
def Op.xlate (ca acc : Nat) : Op Nat := do
  let r ← get
  let (x, s1) := r.s.translate r.ctx ca acc r.priv
  set { r with s := s1 }
  match x with
  | .ok dpa => pure dpa
  | .wait => Op.stop .wait
  | .deny code => Op.stop (.deny code)
  | .fault reason line => Op.stop (.fault ca acc reason line)

/-- The line at a DPA, read once in a run. -/
def Op.lineAt (dpa : Nat) : Op Got := do
  let r ← get
  match r.lines.find? fun e => decide (e.1 = dpa) with
  | some e => pure e.2
  | none =>
    let (g, s1) := r.s.fetch (.engine r.ptn) (some (r.ring, r.seq)) r.ptn dpa
    set { r with s := s1, lines := Assoc.ins dpa g r.lines }
    match g with
    | .wait => Op.stop .wait
    | g => pure g

/-- `n` bytes at DPAs given line by line, with whether any line is poison and whether any is unreachable. -/
structure Bytes where
  bytes : List Byte
  poison : Bool := false
  addrErr : Bool := false
  deriving DecidableEq, Repr

/-- The bytes of a line part. -/
def Got.part (g : Got) (first n : Nat) : Bytes :=
  match g with
  | .val v => { bytes := (v.bytes.drop first).take n, poison := v.isPoison }
  | _ => { bytes := List.replicate n 0, addrErr := true }

/-- Byte strings joined. -/
def Bytes.join (a b : Bytes) : Bytes :=
  { bytes := a.bytes ++ b.bytes, poison := a.poison || b.poison, addrErr := a.addrErr || b.addrErr }

/-- The pieces of `n` bytes from an address that lie in one line each: (address, length). -/
def linePieces : Nat → Nat → Nat → List (Nat × Nat)
  | 0, _, _ => []
  | fuel + 1, a, n =>
    if n = 0 then []
    else
      let k := min n (64 - a % 64)
      (a, k) :: linePieces fuel (a + k) (n - k)

/-- The pieces of `n` bytes from an address. -/
def pieces (a n : Nat) : List (Nat × Nat) := linePieces (n / 64 + 2) a n

/-- `n` bytes from a DPA. -/
def Op.dpaBytes (dpa n : Nat) : Op Bytes :=
  (pieces dpa n).foldlM (fun acc p => do
    let g ← Op.lineAt (lineOf p.1)
    pure (acc.join (g.part (p.1 % 64) p.2))) { bytes := [] }

/-- `n` bytes from a CA, as the context's rights allow. -/
def Op.caBytes (ca n : Nat) : Op Bytes :=
  (pieces ca n).foldlM (fun acc p => do
    let dpa ← Op.xlate p.1 accRead
    let g ← Op.lineAt (lineOf dpa)
    pure (acc.join (g.part (dpa % 64) p.2))) { bytes := [] }

/-- A little-endian number at a CA that steers the operator: an index, a boundary, a reference; what its
poison or its unreachable address means is the operator's. -/
def Op.caNat (ca n : Nat) : Op (Nat × Bool × Bool) := do
  let b ← Op.caBytes ca n
  if b.poison then Op.sawPoison
  if b.addrErr then Op.sawAddrErr
  pure (ofLeBytes b.bytes, b.poison, b.addrErr)

/-- An element read as a value: poison where its line is poison or unreachable (R188, R368). -/
def Op.asNum (fmt : Nat) (e : Bytes) (code : Nat) (scale : Bytes) : Op Num := do
  if e.poison || scale.poison then Op.sawPoison
  if e.addrErr || scale.addrErr then Op.sawAddrErr
  if e.poison || scale.poison || e.addrErr || scale.addrErr then pure .poison
  else pure (decodeElem fmt code (ofLeBytes scale.bytes))

/-- Element `i` of an array in memory (R292, R293). -/
def Op.elem (fmt base scaleBase i : Nat) : Op Num := do
  if isMx fmt then
    let w := widthOf fmt
    let j := i % 32
    let first := w * j / 8
    let last := (w * j + w - 1) / 8
    let e ← Op.caBytes (base + blockBytes fmt * (i / 32) + first) (last + 1 - first)
    let sc ← Op.caBytes (scaleBase + i / 32) 1
    Op.asNum fmt e (ofLeBytes e.bytes / 2 ^ (w * j - 8 * first) % 2 ^ w) sc
  else
    let n := widthOf fmt / 8
    let e ← Op.caBytes (base + n * i) n
    Op.asNum fmt e (ofLeBytes e.bytes) { bytes := [] }

/-- A line of output joined with what the run already writes there. -/
def LineOut.merge (a b : LineOut) : LineOut :=
  { dpa := a.dpa
    bytes := (List.range 64).map fun j =>
      match (b.bytes.getD j none) with
      | some v => some v
      | none => a.bytes.getD j none
    poison := a.poison || b.poison }

/-- A line of output put among the others. -/
def mergeOut (o : LineOut) : List LineOut → List LineOut
  | [] => [o]
  | x :: xs => if x.dpa = o.dpa then x.merge o :: xs else x :: mergeOut o xs

/-- Bytes placed in one line. -/
def lineOut (dpa : Nat) (bytes : List Byte) (poison : Bool) : LineOut :=
  { dpa := lineOf dpa
    bytes := (List.range 64).map fun j =>
      if dpa % 64 ≤ j ∧ j < dpa % 64 + bytes.length then bytes[j - dpa % 64]? else none
    poison := poison }

/-- Bytes put out at a DPA. -/
def Op.outDpa (dpa : Nat) (bytes : List Byte) (poison : Bool) : Op Unit :=
  (pieces dpa bytes.length).forM fun p =>
    modify fun r => { r with
      outs := mergeOut (lineOut p.1 ((bytes.drop (p.1 - dpa)).take p.2) poison) r.outs }

/-- Bytes put out at a CA. -/
def Op.out (ca : Nat) (bytes : List Byte) (poison : Bool) : Op Unit :=
  (pieces ca bytes.length).forM fun p => do
    let dpa ← Op.xlate p.1 accWrite
    Op.outDpa dpa ((bytes.drop (p.1 - ca)).take p.2) poison

/-- Values `vs` rounded and put out as elements `first`, `first + 1`, … of an array; for an MX format they are
whole blocks but for the last (R292, R293, R302, R303). -/
def Op.outElems (fmt base scaleBase mode : Nat) (sat : Bool) (first : Nat) (vs : List OutVal) : Op Unit :=
  if isMx fmt then
    (List.range ((vs.length + 31) / 32)).forM fun b => do
      let blk := roundMx fmt mode ((vs.drop (32 * b)).take 32)
      Op.out (base + blockBytes fmt * (first / 32 + b)) (packBits (widthOf fmt) blk.codes) blk.poison
      Op.out (scaleBase + first / 32 + b) [BitVec.ofNat 8 blk.scale] false
  else
    let n := widthOf fmt / 8
    (List.range vs.length).forM fun i =>
      match (vs.getD i .poison).round fmt mode sat with
      | some code => Op.out (base + n * (first + i)) (leBytes n code) false
      | none => Op.out (base + n * (first + i)) (leBytes n 0) true

/-- What the lines written met: an address that cannot be reached, and a poisoned line that a partial write left poison
(Table 6-4). -/
structure OutMet where
  addr : Bool := false
  poison : Bool := false
  deriving DecidableEq, Repr

/-- The output of a run applied line by line, with what it met; none where a line must wait. -/
def applyOuts (q : Requester) (ptn : Nat) (outs : List LineOut) (s : Block) : Option (OutMet × Block) :=
  outs.foldl (fun acc o =>
    match acc with
    | none => none
    | some (met, t) =>
      let mask := o.bytes.map Option.isSome
      let bytes := o.bytes.map fun b => b.getD 0
      match t.deposit q ptn o.dpa mask bytes o.poison with
      | (.done stays, t1) => some ({ met with poison := met.poison || stays }, t1)
      | (.addressError, t1) => some ({ met with addr := true }, t1)
      | (.wait, _) => none) (some ({}, s))

/-- How a run ended: stopped, or completed with a status. -/
inductive Ended where
  | stopped (why : Stop) (s : Block)
  | completed (f : Finish) (s : Block)
  deriving DecidableEq, Repr

/-- The status that a completed run's flags give (R327). -/
def endStatus (addrErr poison : Bool) : Nat :=
  if addrErr then stAddressError else if poison then stPoison else stOk

/-- A run begun for an entry of a ring, with translation as its unit allows (R248). -/
def Block.begin_ (s : Block) (ring seq ctx : Nat) (priv : Bool) : Run :=
  { s := s, ring := ring, seq := seq, ctx := ctx, ptn := s.fld (F.RNG_CFG_PARTITION ring), priv := priv }

/-- An operator run whole: its output applied, and its RESULT_LEN reported with the status its flags give. -/
def Block.runOp (s : Block) (ring seq ctx : Nat) (priv : Bool) (op : Op Nat) : Ended :=
  match op (s.begin_ ring seq ctx priv) with
  | .error (why, s1) => .stopped why s1
  | .ok (len, r) =>
    match applyOuts (.engine r.ptn) r.ptn r.outs r.s with
    | none => .stopped .wait (s.noteWaits (.engine r.ptn) r.ptn true (r.outs.map (·.dpa)))
    | some (met, s1) =>
      .completed { status := endStatus (r.addrErr || met.addr) (r.poison || met.poison), len := min len (2 ^ 32 - 1) } s1

end Sys2Proof.Machine
end

