-- ==== Sys2Proof/Machine/Operators.lean ====
section
/-! DEFINITION.  The re-run operators (R330–R334, R341–R345): what each reads and what it puts out. -/

namespace Sys2Proof.Machine

/-- The run's descriptor's partition's right to a page (R242). -/
def Op.owned (dpa acc : Nat) : Op Bool := do
  let r ← get
  pure (r.s.ownsPage r.ptn acc dpa)

/-- The tier class of a DPA. -/
def Op.tierClass (dpa : Nat) : Op Nat := do
  let r ← get
  pure (r.s.tier (tierBlockOf dpa)).cls

/-- Products that the engines retire (Table 18-1). -/
def Op.retire (n : Nat) : Op Unit := modify fun r => { r with s := r.s.event 2 0 (r.s.workAttr r.ptn) n }

/-! ## GATHER_REDUCE (R330, R331) -/

/-- One term of a bag: element `i` of row `idx`, by ADD_VAL or ADD_PROD. -/
def gatherTerm (d : Desc) (idx : Nat) (w : Option Num) (i : Nat) (a : Acc) : Op Acc := do
  let fmt := d.f 0x40 63 60
  let x ← Op.elem fmt (d.f 0x40 47 0 + idx * d.gatherErb) (d.f 0x48 47 0 + idx * d.f 0x50 31 0 / 32) i
  pure (match w with
    | none => a.addVal x
    | some w => a.addProd w x)

/-- The index list of a bag with its weights; none where one cannot be used (R331, Table 11-4). -/
def gatherIndices (d : Desc) (lo hi : Nat) : Op (Option (List (Nat × Option Num))) :=
  (List.range (hi - lo)).foldlM (fun acc j => do
    let k := lo + j
    let n := if d.f 0x58 63 63 = 1 then 8 else 4
    let (idx, poison, bad) ← Op.caNat (d.f 0x58 47 0 + n * k) n
    let w ← if d.f 0x58 62 62 = 1 then do
        let e ← Op.elem 0 (d.f 0x68 47 0) 0 k
        pure (some e)
      else pure none
    let tooBig := decide (d.f 0x50 63 32 ≤ idx)
    if tooBig && !poison && !bad then Op.sawAddrErr
    pure (if poison || bad || tooBig || w = some .poison then none else acc.map (· ++ [(idx, w)]))) (some [])

/-- The die that serves a row of the table: that of the home stop of its first element (R38). -/
def gatherDie (d : Desc) (idx : Nat) : Op Nat := do
  let dpa ← Op.xlate (d.f 0x40 47 0 + idx * d.gatherErb) accRead
  let r ← get
  pure (r.s.homeStop dpa / 10)

/-- The rows of an index list divided by the die that serves each (R38). -/
def gatherParts (d : Desc) (ks : List (Nat × Option Num)) : Op (List (List (Nat × Option Num))) := do
  let dies ← ks.mapM fun k => gatherDie d k.1
  pure ((List.range 4).map fun die => ((ks.zip dies).filter fun x => decide (x.2 = die)).map (·.1))

/-- Element `i` of a bag: each die's engines reduce that die's rows, and the partial sums cross as images (R38, R300). -/
def gatherSum (d : Desc) (parts : List (List (Nat × Option Num))) (i : Nat) : Op Acc := do
  let sums ← parts.mapM fun ks => ks.foldlM (fun p k => gatherTerm d k.1 k.2 i p) ({} : Acc)
  pure (Acc.mergeImages sums)

/-- One bag: its elements, or poison throughout. -/
def gatherBag (d : Desc) (b : Nat) : Op (List OutVal) := do
  let elems := d.f 0x50 31 0
  let (lo, p1, e1) ← Op.caNat (d.f 0x60 47 0 + 4 * b) 4
  let (hi, p2, e2) ← Op.caNat (d.f 0x60 47 0 + 4 * (b + 1)) 4
  let bad := p1 || p2 || e1 || e2
  if !bad && decide (hi < lo) then Op.sawAddrErr
  if bad || decide (hi < lo) then pure (List.replicate elems .poison)
  else
    match ← gatherIndices d lo hi with
    | none => pure (List.replicate elems .poison)
    | some ks =>
      Op.retire (elems * (ks.filter fun k => k.2.isSome).length)
      let parts ← gatherParts d ks
      (List.range elems).mapM fun i => do
        let a ← gatherSum d parts i
        pure a.out

/-- GATHER_REDUCE (R330). -/
def opGather (d : Desc) : Op Nat := do
  let nbags := d.f 0x70 23 0
  (List.range nbags).forM fun b => do
    let vs ← gatherBag d b
    Op.outElems (d.f 0x80 63 60) (d.f 0x80 47 0) (d.f 0x88 47 0) (d.f 0x80 59 57) (decide (d.f 0x80 56 56 = 1))
      (b * d.f 0x50 31 0) vs
  let (n, _, _) ← Op.caNat (d.f 0x60 47 0 + 4 * nbags) 4
  pure n

/-- The dies that serve the rows that a GATHER_REDUCE reads (R38). -/
def opGatherDies (d : Desc) : Op (List Nat) := do
  let per ← (List.range (d.f 0x70 23 0)).mapM fun b => do
    let (lo, p1, e1) ← Op.caNat (d.f 0x60 47 0 + 4 * b) 4
    let (hi, p2, e2) ← Op.caNat (d.f 0x60 47 0 + 4 * (b + 1)) 4
    if p1 || p2 || e1 || e2 || decide (hi < lo) then pure []
    else
      match ← gatherIndices d lo hi with
      | none => pure []
      | some ks => ks.mapM fun k => gatherDie d k.1
  pure per.flatten.eraseDups

/-! ## Page references (R234, R239, R242) -/

/-- What a page reference leads to: a plain page, a decoded pressed page, a page whose every element is
poisoned, or one whose elements are ADDRESS_ERRORs. -/
inductive PageSrc where
  | plain (dpa : Nat)
  | decoded (bytes : List Byte)
  | poisoned
  | broken
  deriving DecidableEq, Repr

/-- The lines of a byte string in memory, none when one is poison or unreachable. -/
def Op.cleanBytes (dpa n : Nat) : Op (Option (List Byte)) := do
  let b ← Op.dpaBytes dpa n
  pure (if b.poison || b.addrErr then none else some b.bytes)

/-- A pressed page that fails counted, once in a run however many of its elements are read (R239). -/
def Op.pageFails (dpa : Nat) : Op Unit := modify fun r =>
  if r.quiet || r.failedPages.contains dpa then r
  else { r with failedPages := dpa :: r.failedPages, s := r.s.bump F.TIR_PRESS_FAIL_COUNT }

/-- A pressed page decoded (R239): a failed page is poisoned throughout and counted. -/
def Op.pressedAt (dpa : Nat) : Op PageSrc := do
  let fail : Op PageSrc := do
    Op.pageFails dpa
    Op.sawPoison
    pure .poisoned
  match ← Op.cleanBytes dpa 64 with
  | none => fail
  | some h =>
    let n := (pressedBody h + 63) / 64 * 64
    if tierBlockOf (dpa + 64 + n - 1) ≠ tierBlockOf dpa then do
      Op.sawAddrErr
      pure .broken
    else
      match ← Op.cleanBytes (dpa + 64) n with
      | none => fail
      | some body =>
        match decodePage h body with
        | some page => pure (.decoded page)
        | none => fail

/-- The page that a reference names (R234). -/
def Op.pageOf (ref : Nat) : Op PageSrc := do
  let dpa := getBits ref 51 6 * 64
  let pressed := decide (getBits ref 63 63 = 1)
  let own ← Op.owned dpa accRead
  let cls ← Op.tierClass dpa
  if getBits ref 62 52 ≠ 0 ∨ getBits ref 5 0 ≠ 0 ∨ (!pressed ∧ dpa % 4096 ≠ 0) ∨ !own
      ∨ (pressed ∧ (cls ≠ clsPressed ∨ dramBytes ≤ dpa)) then do
    Op.sawAddrErr
    pure .broken
  else if pressed then Op.pressedAt dpa
  else pure (.plain dpa)

/-- The page that entry `k` of a reference list names (R333). -/
def Op.pageAt (list k : Nat) : Op PageSrc := do
  let (ref, poison, bad) ← Op.caNat (list + 8 * k) 8
  if poison then pure .poisoned
  else if bad then pure .broken
  else Op.pageOf ref

/-- `n` bytes from place `off` of a page. -/
def Op.pageBytes (p : PageSrc) (off n : Nat) : Op Bytes :=
  match p with
  | .plain dpa => Op.dpaBytes (dpa + off) n
  | .decoded b => pure { bytes := (b.drop off).take n }
  | .poisoned => pure { bytes := List.replicate n 0, poison := true }
  | .broken => pure { bytes := List.replicate n 0, addrErr := true }

/-- Element `i` of head `h` at index `p` of a page of dimension `dim` (R333). -/
def Op.pageElem (src : PageSrc) (fmt dim heads ppp p h i : Nat) : Op Num := do
  let w := widthOf fmt
  if isMx fmt then
    let c := (p * heads + h) * (dim / 32) + i / 32
    let j := i % 32
    let first := w * j / 8
    let last := (w * j + w - 1) / 8
    let e ← Op.pageBytes src (c * blockBytes fmt + first) (last + 1 - first)
    let sc ← Op.pageBytes src (ppp * heads * (dim / 32) * blockBytes fmt + c) 1
    Op.asNum fmt e (ofLeBytes e.bytes / 2 ^ (w * j - 8 * first) % 2 ^ w) sc
  else
    let e ← Op.pageBytes src (((p * heads + h) * dim + i) * w / 8) (w / 8)
    Op.asNum fmt e (ofLeBytes e.bytes) { bytes := [] }

/-! ## ATTN_DECODE (R309, R332–R334) -/

/-- QH, the query heads (R332). -/
def Desc.attnQh (d : Desc) : Nat := d.f 0x58 31 24 * (d.f 0x58 23 20 + 1)

/-- The positions of a query row (R332): the first, and how many. -/
def Desc.attnRow (d : Desc) (r : Nat) : Nat × Nat :=
  let l := d.f 0x60 63 32 + r - d.f 0x58 19 17
  let w := d.f 0x60 31 0
  let lo := if w = 0 then 0 else l - w
  (lo, l - lo)

/-- A logit of pass 1 (R309): the dot product rounded to FP32 and scaled, or poison. -/
def attnLogit (d : Desc) (r g j : Nat) : Op (Option Nat) := do
  let dk := d.f 0x58 63 48
  let heads := d.f 0x58 31 24
  let ppp := d.f 0x68 31 19
  let page ← Op.pageAt (d.f 0x48 47 0) (j / ppp)
  let a ← (List.range dk).foldlM (fun a i => do
    let q ← Op.elem (d.f 0x40 63 60) (d.f 0x40 47 0) 0 ((r * d.attnQh + g) * dk + i)
    let k ← Op.pageElem page (d.f 0x48 63 60) dk heads ppp (j % ppp) (g / (d.f 0x58 23 20 + 1)) i
    pure (a.addProd q k)) ({} : Acc)
  pure ((a.round 0 rne false).map fun s => mul32 s (d.f 0x68 63 32))

/-- The running maximum over logits (R305, R309): poisoned ones are excluded. -/
def maxLogit (us : List (Option Nat)) : Nat :=
  us.foldl (fun m u =>
    match u with
    | some u => if (num32 m).below (num32 u) then u else m
    | none => m) (inf32 true)

/-- A logit that makes every output of the row NaN (R309). -/
def badLogit (u : Option Nat) : Bool :=
  match u with
  | some u => match num32 u with
    | .nan => true
    | .inf neg => !neg
    | _ => false
  | none => false

/-- A position's weight (R309). -/
def attnWeight (m : Nat) (u : Option Nat) : Num :=
  match u with
  | some u => num32 (exp2Of rne (sub32 u m))
  | none => .poison

/-- Positions divided among the chunk tasks of their head (R334). -/
def Desc.attnDivide (d : Desc) (js : List Nat) : List (List Nat) :=
  (js.map (· / d.attnChunk)).eraseDups.map fun c => js.filter fun j => decide (j / d.attnChunk = c)

/-- The outputs of one query row and head (R309), by the division of R310: each chunk's task keeps the maximum of its own logits,
the maxima are combined, each task forms its own d and n with the combined m, and their images are merged. -/
def attnRowHead (d : Desc) (r g : Nat) : Op (List OutVal) := do
  let dv := d.f 0x58 47 32
  let heads := d.f 0x58 31 24
  let ppp := d.f 0x68 31 19
  let (lo, n) := d.attnRow r
  Op.retire (n * (d.f 0x58 63 48 + dv))
  let js := (List.range n).map (lo + ·)
  let us ← (d.attnDivide js).mapM fun part => part.mapM fun j => do
    let u ← attnLogit d r g j
    pure (j, u)
  let m := maxLogit (us.map fun part => some (maxLogit (part.map (·.2))))
  let ws := us.map fun part => part.map fun x => (x.1, attnWeight m x.2)
  let den := Acc.mergeImages (ws.map fun part => part.foldl (fun a x => a.addVal x.2) {})
  (List.range dv).mapM fun i => do
    let nums ← ws.mapM fun part => part.foldlM (fun a jw => do
      let page ← Op.pageAt (d.f 0x50 47 0) (jw.1 / ppp)
      let v ← Op.pageElem page (d.f 0x50 63 60) dv heads ppp (jw.1 % ppp) (g / (d.f 0x58 23 20 + 1)) i
      pure (a.addProd jw.2 v)) ({} : Acc)
    let num := Acc.mergeImages nums
    pure (if num.poison || den.poison then .poison
      else if (us.any fun part => part.any fun x => badLogit x.2) || decide (n = 0) then .nan
      else num.div den)

/-- ATTN_DECODE (R332): the outputs, and the positions of the last query row. -/
def opAttn (d : Desc) : Op Nat := do
  let dv := d.f 0x58 47 32
  (List.range (d.f 0x58 19 17 + 1)).forM fun r =>
    (List.range d.attnQh).forM fun g => do
      let vs ← attnRowHead d r g
      Op.outElems (d.f 0x80 63 60) (d.f 0x80 47 0) (d.f 0x88 47 0) (d.f 0x80 59 57) (decide (d.f 0x80 56 56 = 1))
        ((r * d.attnQh + g) * dv) vs
  if d.attnChunk < d.f 0x60 63 32 then
    (List.range (d.f 0x60 63 32 * d.attnQh * (d.f 0x58 19 17 + 1))).forM fun i => do
      let r ← get
      let (v, s1) := r.s.fresh
      set { r with s := s1 }
      Op.out (d.f 0x70 47 0 + 4 * i) (leBytes 4 v.toNat) false
  pure (d.attnRow (d.f 0x58 19 17)).2

/-- The dies that serve the pages of entries `first` to `first + n − 1` of a reference list, each that of the home stop of the
page's first line. -/
def pageDies (list first n : Nat) : Op (List Nat) := do
  let ds ← (List.range n).mapM fun i => do
    let (ref, poison, bad) ← Op.caNat (list + 8 * (first + i)) 8
    let r ← get
    pure (if poison || bad then none else some (r.s.homeStop (getBits ref 51 6 * 64) / 10))
  pure (ds.filterMap id).eraseDups

/-- The lines of a range of bytes, as a pattern (Table 7-3). -/
def linesFrom (ca bytes : Nat) : PfPattern := .linear (ca / 64 * 64) 1 (unitsOf (ca % 64 + bytes) 64)

/-- The streams of lines that a task of an operator takes from its core's prefetchers, in the patterns of Table 7-3 (R217): the
rows of a GATHER_REDUCE, the key and value pages of an ATTN_DECODE task's chunk, the pages of a KV_PRESS, the elements of a TOPK,
the first sources of a REDUCE, the source of a COPY or a BROADCAST. -/
def opStreams (d : Desc) (idx : Nat) : Op (List PfPattern) :=
  if d.opcode = opcGather then do
    let (n, p, e) ← Op.caNat (d.f 0x60 47 0 + 4 * d.f 0x70 23 0) 4
    pure (if p || e then []
      else [.indexed (d.f 0x58 47 0) (decide (d.f 0x58 63 63 = 1)) (d.f 0x40 47 0) d.gatherErb (d.f 0x50 63 32) n])
  else if d.opcode = opcAttn then
    let ppp := d.f 0x68 31 19
    let c := d.attnChunk
    let lo := idx % max 1 (unitsOf (d.f 0x60 63 32) c) * c
    let hi := min (d.f 0x60 63 32) (lo + c)
    let n := if hi ≤ lo then 0 else (hi - 1) / ppp - lo / ppp + 1
    pure [.pageList (d.f 0x48 47 0 + 8 * (lo / ppp)) n, .pageList (d.f 0x50 47 0 + 8 * (lo / ppp)) n]
  else if d.opcode = opcKvPress then pure [.pageList (d.f 0x40 47 0) (d.f 0x48 63 32)]
  else if d.opcode = opcTopk then
    pure [linesFrom (d.f 0x40 47 0) (elemsBytes (d.f 0x40 63 60) (d.f 0x50 63 32 * d.f 0x50 15 0))]
  else if d.opcode = opcReduce then do
    let cas ← (List.range (min 8 (d.f 0x40 59 54 + 1))).mapM fun i => Op.caNat (d.f 0x40 47 0 + 8 * i) 8
    pure ((cas.filter fun x => !x.2.1 && !x.2.2).map fun x =>
      linesFrom (getBits x.1 47 0) (elemsBytes (d.f 0x40 63 60) (d.f 0x50 63 32)))
  else if d.opcode = opcCopy then pure [linesFrom (d.f 0x40 47 0) (d.w 0x50)]
  else if d.opcode = opcBroadcast then pure [linesFrom (d.f 0x40 47 0) (d.f 0x48 63 32)]
  else pure []

/-- The dies that serve the data that a task of a gather or of an operator on pages reads (R314): the rows of a GATHER_REDUCE,
the pages of an ATTN_DECODE task's chunk, the pages of a KV_PRESS. -/
def opServedDies (d : Desc) (idx : Nat) : Op (List Nat) :=
  if d.opcode = opcGather then opGatherDies d
  else if d.opcode = opcAttn then do
    let len := d.f 0x60 63 32
    let c := d.attnChunk
    let ppp := d.f 0x68 31 19
    let chunk := idx % max 1 ((len + c - 1) / c)
    let lo := chunk * c
    let hi := min len (lo + c)
    if hi ≤ lo then pure []
    else do
      let n := (hi - 1) / ppp - lo / ppp + 1
      let ks ← pageDies (d.f 0x48 47 0) (lo / ppp) n
      let vs ← pageDies (d.f 0x50 47 0) (lo / ppp) n
      pure (ks ++ vs)
  else if d.opcode = opcKvPress then pageDies (d.f 0x40 47 0) 0 (d.f 0x48 63 32)
  else pure []

/-! ## KV_PRESS (R341) -/

/-- Where a pressed page of `n` bytes goes: the next line boundary of OUT from place `pos`, past a page or
tier-block boundary that it must not cross; none where it does not fit in the rest of OUT. -/
def Op.pressPlace (out limit n : Nat) : Nat → Nat → Op (Option Nat)
  | 0, _ => pure none
  | fuel + 1, pos =>
    if limit < pos + n then pure none
    else do
      let a ← Op.xlate (out + pos) accWrite
      let b ← Op.xlate (out + pos + n - 1) accWrite
      if b = a + n - 1 ∧ tierBlockOf a = tierBlockOf b then pure (some pos)
      else Op.pressPlace out limit n fuel ((out + pos) / 4096 * 4096 + 4096 - out)

/-- One reference pressed: the new reference, and how far OUT is used. -/
def pressRef (d : Desc) (k used : Nat) : Op (Option Nat × Nat) := do
  let (ref, poison, bad) ← Op.caNat (d.f 0x40 47 0 + 8 * k) 8
  if poison || bad then pure (none, used)
  else if getBits ref 63 63 = 1 then pure (some ref, used)
  else
    match ← Op.pageOf ref with
    | .plain dpa =>
      let b ← Op.dpaBytes dpa 4096
      if b.poison then Op.sawPoison
      if b.addrErr then Op.sawAddrErr
      if b.poison || b.addrErr then pure (some ref, used)
      else
        let img := encodePage b.bytes
        let base := d.f 0x50 47 0
        let start := (base + used + 63) / 64 * 64 - base
        let place ← if 4096 ≤ img.length then pure none
          else Op.pressPlace base (d.f 0x58 63 32) img.length 3 start
        match place with
        | none => pure (some ref, used)
        | some pos =>
          let dst ← Op.xlate (base + pos) accWrite
          let cls ← Op.tierClass dst
          if cls ≠ clsPressed ∨ dramBytes ≤ dst then Op.stop (.finish { status := stAddressError })
          Op.out (base + pos) img false
          pure (some (2 ^ 63 + dst), pos + img.length)
    | _ => pure (some ref, used)

/-- One reference unpressed: the new reference, and whether a page was decoded. -/
def unpressRef (d : Desc) (k : Nat) : Op (Option Nat × Nat) := do
  let (ref, poison, bad) ← Op.caNat (d.f 0x40 47 0 + 8 * k) 8
  if poison || bad then pure (none, 0)
  else if getBits ref 63 63 = 0 then pure (some ref, 0)
  else
    let (dst, p2, e2) ← Op.caNat (d.f 0x50 47 0 + 8 * k) 8
    let dpa := getBits dst 51 6 * 64
    let own ← Op.owned dpa accWrite
    let cls ← Op.tierClass dpa
    let ok := !p2 && !e2 && decide (getBits dst 63 52 = 0) && decide (getBits dst 11 0 = 0) && own
      && decide (dpa < dramBytes) && decide (cls = clsOrdinary)
    if !ok then do
      Op.sawAddrErr
      pure (some ref, 0)
    else
      match ← Op.pageOf ref with
      | .decoded b => do
        Op.outDpa dpa b false
        pure (some dst, 1)
      | .poisoned => do
        Op.outDpa dpa (List.replicate 4096 0) true
        pure (some dst, 1)
      | _ => pure (some ref, 0)

/-- References `first` to `first + n − 1` pressed or unpressed, from `acc` bytes of OUT used or pages decoded: the
new references (none where the old one could not be read) and the count. -/
def pressRefs (d : Desc) (first n acc : Nat) : Op (List (Option Nat) × Nat) :=
  (List.range n).foldlM (fun st i => do
    if d.f 0x40 63 60 = 1 then do
      let (ref, used) ← pressRef d (first + i) st.2
      pure (st.1 ++ [ref], used)
    else do
      let (ref, one) ← unpressRef d (first + i)
      pure (st.1 ++ [ref], st.2 + one)) ([], acc)

/-- References written to a list; one whose old value was poisoned is written as poison. -/
def putRefs (list first : Nat) (refs : List (Option Nat)) : Op Unit :=
  (List.range refs.length).forM fun i =>
    match refs.getD i none with
    | some ref => Op.out (list + 8 * (first + i)) (leBytes 8 ref) false
    | none => Op.out (list + 8 * (first + i)) (leBytes 8 0) true

/-- KV_PRESS with REPLACE 0 (R341). -/
def opPress (d : Desc) : Op Nat := do
  let (refs, n) ← pressRefs d 0 (d.f 0x48 63 32) 0
  putRefs (d.f 0x60 47 0) 0 refs
  pure n

/-! ## TOPK (R342) -/

/-- Puts an indexed value among ranked ones: before the first that it precedes, so that equal values keep their
order. -/
def rankIn (largest : Bool) (x : Nat × Num) : List (Nat × Num) → List (Nat × Num)
  | [] => [x]
  | y :: ys =>
    if (if largest then y.2.below x.2 else x.2.below y.2) then x :: y :: ys else y :: rankIn largest x ys

/-- A value about to be converted (R304). -/
def Num.out (x : Num) : OutVal := (Acc.ofNum x).out

/-- TOPK (R342). -/
def opTopk (d : Desc) : Op Nat := do
  let n := d.f 0x50 63 32
  let k := d.f 0x50 31 16
  let rows := d.f 0x50 15 0
  (List.range rows).forM fun r => do
    let xs ← (List.range n).mapM fun i => Op.elem (d.f 0x40 63 60) (d.f 0x40 47 0) (d.f 0x48 47 0) (r * n + i)
    let ranked := ((List.range n).zip xs).foldl
      (fun acc x => if x.2 = .poison then acc else rankIn (decide (d.f 0x40 59 59 = 1)) x acc) []
    let top := (List.range k).map fun i => ranked[i]?
    Op.outElems (d.f 0x58 63 60) (d.f 0x58 47 0) 0 (d.f 0x58 59 57) (decide (d.f 0x58 56 56 = 1)) (r * k)
      (top.map fun t => (t.map fun x => x.2.out).getD .poison)
    (List.range k).forM fun i =>
      Op.out (d.f 0x60 47 0 + 4 * (r * k + i)) (leBytes 4 (((top.getD i none).map (·.1)).getD 0xFFFFFFFF)) false
  pure rows

/-! ## REDUCE (R343) -/

/-- Bytes of an array of `n` elements (R292, R293). -/
def arrayBytes (fmt n : Nat) : Nat :=
  if isMx fmt then (n + 31) / 32 * blockBytes fmt else n * (widthOf fmt / 8)

/-- A source of a REDUCE: its element and scale CAs, none where a list entry is poisoned. -/
def reduceSource (d : Desc) (k : Nat) : Op (Option (Nat × Nat)) := do
  let (ca, p1, e1) ← Op.caNat (d.f 0x40 47 0 + 8 * k) 8
  let (sc, p2, e2) ← if isMx (d.f 0x40 63 60) then Op.caNat (d.f 0x48 47 0 + 8 * k) 8 else pure (0, false, false)
  let n := d.f 0x50 63 32
  let dst := d.f 0x58 47 0
  let bytes := arrayBytes (d.f 0x40 63 60) n
  if p1 || p2 || e1 || e2 then pure none
  else if ca % 64 ≠ 0 ∨ (ca < dst + arrayBytes (d.f 0x58 63 60) n ∧ dst < ca + bytes) then
    Op.stop (.finish { status := stBadField, detail := 0x40 })
  else pure (some (ca % 2 ^ 48, sc % 2 ^ 48))

/-- Elements `first` to `first + n − 1` of a REDUCE: each the sum of the sources, and with ACCUM of the
destination. -/
def reduceElems (d : Desc) (srcs : List (Option (Nat × Nat))) (first n : Nat) : Op (List OutVal) :=
  (List.range n).mapM fun j => do
    let i := first + j
    let a ← srcs.foldlM (fun a s =>
      match s with
      | none => pure (a.addVal .poison)
      | some (ca, sc) => do
        let x ← Op.elem (d.f 0x40 63 60) ca sc i
        pure (a.addVal x)) ({} : Acc)
    if d.f 0x40 53 53 = 1 then do
      let x ← Op.elem (d.f 0x58 63 60) (d.f 0x58 47 0) (d.f 0x60 47 0) i
      pure (a.addVal x).out
    else pure a.out

/-- Elements `first` to `first + n − 1` of a REDUCE put out. -/
def reducePart (d : Desc) (first n : Nat) : Op Unit := do
  let srcs ← (List.range (d.f 0x40 59 54 + 1)).mapM fun k => reduceSource d k
  let vs ← reduceElems d srcs first n
  Op.outElems (d.f 0x58 63 60) (d.f 0x58 47 0) (d.f 0x60 47 0) (d.f 0x58 59 57) (decide (d.f 0x58 56 56 = 1)) first vs

/-- REDUCE (R343) over the whole destination. -/
def opReduce (d : Desc) : Op Nat := do
  reducePart d 0 (d.f 0x50 63 32)
  pure (d.f 0x50 63 32)

/-! ## BROADCAST (R344), COPY and FILL (R345) -/

/-- Bytes copied from a CA to a place given by `put`: a poisoned line goes on as poison. -/
def Op.copyTo (src n : Nat) (put : Nat → List Byte → Bool → Op Unit) : Op Unit :=
  (pieces src n).forM fun p => do
    let b ← Op.caBytes p.1 p.2
    if b.poison then Op.sawPoison
    if b.addrErr then Op.sawAddrErr
    put (p.1 - src) b.bytes (b.poison || b.addrErr)

/-- A source read whole, piece by piece (R344, R345). -/
def Op.source (src n : Nat) : Op (List SrcPiece) :=
  (pieces src n).mapM fun p => do
    let b ← Op.caBytes p.1 p.2
    pure { off := p.1 - src, bytes := b.bytes, poison := b.poison || b.addrErr, addrErr := b.addrErr }

/-- The parts of a source that lie among `n` bytes from `lo`. -/
def cutSource (ps : List SrcPiece) (lo n : Nat) : List SrcPiece :=
  ps.filterMap fun p =>
    let a := max lo p.off
    let b := min (lo + n) (p.off + p.bytes.length)
    if a < b then some { p with off := a, bytes := (p.bytes.drop (a - p.off)).take (b - a) } else none

/-- Parts of a source put where `put` says: a poisoned part goes on as poison. -/
def Op.putSource (ps : List SrcPiece) (put : Nat → List Byte → Bool → Op Unit) : Op Unit :=
  ps.forM fun p => do
    if p.addrErr then Op.sawAddrErr
    else if p.poison then Op.sawPoison
    put p.off p.bytes p.poison

/-- An operation whose denial does not end the run: whether it went through. -/
def Op.tolerant (op : Op Unit) : Op Bool := fun r =>
  match op r with
  | .ok (_, r1) => .ok (true, r1)
  | .error (.deny _, s1) => .ok (false, { r with s := s1 })
  | .error e => .error e

/-- A destination entry of BROADCAST: its two words. -/
def broadcastEntry (d : Desc) (k : Nat) : Op (Nat × Nat × Bool) := do
  let (w0, p0, e0) ← Op.caNat (d.f 0x50 47 0 + 16 * k) 8
  let (w1, p1, e1) ← Op.caNat (d.f 0x50 47 0 + 16 * k + 8) 8
  pure (w0, w1, !(p0 || p1 || e0 || e1) && decide (getBits w0 62 20 = 0) && decide (getBits w1 63 48 = 0))

/-- The DPAs of the lines that `n` bytes from a CA touch, for an access. -/
def Op.dpas (ca n acc : Nat) : Op (List (Nat × Nat)) :=
  (pieces ca n).mapM fun p => do
    let dpa ← Op.xlate p.1 acc
    pure (dpa, p.2)

/-- Whether a write to every line that `n` bytes from a CA touch reaches memory (R11). -/
def Op.reached (ca n : Nat) : Op Bool := do
  let ds ← Op.dpas ca n accWrite
  let r ← get
  pure (ds.all fun x => r.s.writeReaches r.ptn (lineOf x.1))

/-- The source put at a local destination: whether every line of it is written (R344). -/
def Op.putLocal (src : List SrcPiece) (ca n : Nat) : Op Bool := do
  let through ← Op.tolerant (Op.putSource src fun off b p => Op.out (ca + off) b p)
  if through then Op.reached ca n else pure false

/-- BROADCAST of a source read once (R344): `answered k` is whether the remote writes to destination `k` were all answered. -/
def opBroadcast (d : Desc) (src : List SrcPiece) (answered : Nat → Bool) : Op Nat := do
  if src.any (·.addrErr) then Op.sawAddrErr
  if src.any (·.poison) then Op.sawPoison
  (List.range (d.f 0x48 31 19)).foldlM (fun full k => do
    let (w0, w1, ok) ← broadcastEntry d k
    let done ←
      if !ok then pure false
      else if getBits w0 63 63 = 1 then pure (answered k)
      else Op.putLocal src w1 (d.f 0x48 63 32)
    if !done then Op.sawAddrErr
    pure (if done then full + 1 else full)) 0

/-- Bytes `first` to `first + n − 1` of a COPY. -/
def copyPart (d : Desc) (first n : Nat) : Op Unit :=
  Op.copyTo (d.f 0x40 47 0 + first) n fun off b p => Op.out (d.f 0x48 47 0 + first + off) b p

/-- COPY of the whole range, the source read whole before any write (R345). -/
def opCopy (d : Desc) : Op Nat := do
  copyPart d 0 (d.w 0x50)
  pure (d.w 0x50)

/-- Whether two pieces of memory share a byte. -/
def piecesMeet (a b : Nat × Nat) : Bool := decide (a.1 < b.1 + b.2) && decide (b.1 < a.1 + a.2)

/-- Whether a COPY's ranges overlap, judged on the translated DPAs (R345). -/
def copyOverlaps (d : Desc) : Op Bool := do
  let a ← Op.dpas (d.f 0x40 47 0) (d.w 0x50) accRead
  let b ← Op.dpas (d.f 0x48 47 0) (d.w 0x50) accWrite
  pure (a.any fun x => b.any (piecesMeet x))

/-- FILL in pattern mode (R345). -/
def opFillPattern (d : Desc) : Op Nat := do
  let line := (List.replicate 8 (leBytes 8 (d.w 0x50))).flatten
  (List.range (d.w 0x48)).forM fun i => Op.out (d.f 0x40 47 0 + 64 * i) line false
  pure (d.w 0x48)

/-- FILL in poison mode (R345). -/
def opFillPoison (d : Desc) : Op Nat := do
  (List.range (d.w 0x48)).forM fun i => Op.out (d.f 0x40 47 0 + 64 * i) (List.replicate 64 0) true
  pure (d.w 0x48)

end Sys2Proof.Machine
end

