-- ==== Sys2Proof/Machine/Commit.lean ====
section
/-! DEFINITION.  How an entry's operator runs (R126, R127, R346): re-run operators whole, in-place operators unit by
unit through the commit-once marker. -/

namespace Sys2Proof.Machine

/-! ## Ends of runs -/

/-- A run that stopped before its end: a wait leaves everything as it was, a denial or a fault is the task's, an
outcome of the operator's table completes it. -/
def Block.runStopped (s : Block) (e : LogEntry) (why : Stop) (s1 : Block) : Block :=
  match why with
  | .wait => s.keepWaits s1
  | .deny code => (s1.begin e).failTask e.ring e.seq 0 code 0
  | .fault ca acc reason line => (s1.begin e).faultOf e 0 ca acc reason line
  | .finish f =>
    (s1.begin e).setFin e.ring e.seq
      (if Desc.opcode e.bytes = opcKvAppend then { f with len := s.partLen e } else f)

/-- Whether an entry's operator may run now: its opcode is the row's, it may start or go on, no fault holds it. -/
def Block.runnable (s : Block) (ring seq : Nat) (mine : Desc → Bool) : Option LogEntry :=
  match s.entry ring seq with
  | some e => if mine e.bytes && s.mayStart e && !s.faulting ring seq 0 then some e else none
  | none => none

/-- Whether a task waits (Table 11-3) or is in its cluster's queue (R314). -/
def Task.stands (t : Task) : Bool :=
  match t.state with
  | .waiting _ | .queued => true
  | _ => false

/-- Whether a descriptor's work is on its cores: its tasks are dispatched, none waits, and one that has not ended holds a core's
grant (R314, Table 11-3). -/
def Block.onCores (s : Block) (ring seq : Nat) : Bool :=
  let ts := s.tasksOf ring seq
  !ts.isEmpty && !ts.any Task.stands
    && (ts.any (fun t => decide (t.state = .running)) || ts.all fun t => decide (t.state = .ended))

/-- Whether an operator that the engines run may run now: it is runnable and its tasks are on their cores. -/
def Block.working (s : Block) (ring seq : Nat) (mine : Desc → Bool) : Option LogEntry :=
  if s.onCores ring seq then s.runnable ring seq mine else none

/-- A re-run operator run whole (R126). -/
def Block.rerun (s : Block) (e : LogEntry) (priv : Bool) (op : Op Nat) : Block :=
  s.forWork e.ring e.seq fun t =>
    match t.runOp e.ring e.seq e.ctx priv op with
    | .stopped why s1 => t.runStopped e why s1
    | .completed f s1 => (s1.begin e).setFin e.ring e.seq f

/-! ## Units (R127, Table 11-15) -/

/-- A unit computed: its staged lines, the object with its new state, the entry's RESULT, what it has met, and whether
it is the LEN unit of a KV_APPEND, its last (R336). -/
structure Unit_ where
  outs : List LineOut := []
  obj : Option (Nat × SyncObj) := none
  result : Nat := 0
  poison : Bool := false
  addrErr : Bool := false
  last : Bool := false
  deriving DecidableEq, Repr

/-- What a unit's computation gives: a unit with the state its reads leave, or a stop. -/
abbrev UnitRes := Except (Stop × Block) (Unit_ × Block)

/-- A run whose output is staged. -/
def stageRun (op : Op Nat) (r : Run) : UnitRes :=
  match op r with
  | .error e => .error e
  | .ok (result, r1) => .ok ({ outs := r1.outs, result := result, poison := r1.poison, addrErr := r1.addrErr }, r1.s)

/-! ### SYNC_OP -/

/-- The object that a SYNC_OP leaves: none where the kind refuses it, some none where an ACQUIRE must wait (R348). -/
def Desc.syncOn (d : Desc) (o : SyncObj) : Option (Option SyncObj) :=
  let x := d.w 0x48
  match d.f 0x40 63 60 with
  | 1 => some (some { kind := d.f 0x40 59 56, value := x, parties := if d.f 0x40 59 56 = objBarrier then d.w 0x50 % 2 ^ 32 else 0 })
  | 7 =>
    if o.kind ≠ objSemaphore then none
    else if o.value < x then some none
    else some (some { o with value := o.value - x })
  | op => (o.apply op x (d.w 0x50)).map some

/-- The unit of a SYNC_OP (R350, R351): the object's new state and the old VALUE to RESULT. -/
def syncUnit (d : Desc) (r : Run) : UnitRes :=
  let n := d.f 0x40 15 0
  let o := r.s.obj n
  if o.reserved.isSome then .error (.wait, r.s)
  else
    match d.syncOn o with
    | none => .error (.finish { status := stNotPermitted, detail := 0x01 }, r.s.bump F.ENG_SYNC_DENIED_COUNT)
    | some none => .error (.wait, r.s)
    | some (some o1) =>
      let put : Op Nat := do
        if d.f 0x58 47 0 ≠ 0 then Op.out (d.f 0x58 47 0) (leBytes 8 o.value) false
        pure o.value
      match stageRun put r with
      | .error e => .error e
      | .ok (u, s1) => .ok ({ u with obj := some (n, { o1 with reserved := none }) }, s1)

/-! ### COPY with overlap, REDUCE with ACCUM, KV_PRESS with REPLACE -/

/-- Whether an overlapping COPY must go from its last unit to its first, so that no unread source is overwritten: some
byte of the destination is a later byte of the source. -/
def copyDescends (d : Desc) : Op Bool := do
  let a ← Op.dpas (d.f 0x40 47 0) (d.w 0x50) accRead
  let b ← Op.dpas (d.f 0x48 47 0) (d.w 0x50) accWrite
  let offs (xs : List (Nat × Nat)) : List (Nat × Nat × Nat) :=
    (xs.foldl (fun (acc : List (Nat × Nat × Nat) × Nat) x => (acc.1 ++ [(x.1, x.2, acc.2)], acc.2 + x.2)) ([], 0)).1
  pure ((offs a).any fun x => (offs b).any fun y =>
    piecesMeet (x.1, x.2.1) (y.1, y.2.1) && decide (y.2.2 + x.1 < x.2.2 + y.1))

/-- Unit `k` of an overlapping COPY, whose source was read whole when it started. -/
def copyUnit (d : Desc) (src : List SrcPiece) (k : Nat) : Op Nat := do
  let n := unitsOf (d.w 0x50) 4096
  let down ← copyDescends d
  let i := if down then n - 1 - k else k
  Op.putSource (cutSource src (4096 * i) 4096) fun off b p => Op.out (d.f 0x48 47 0 + off) b p
  pure 0

/-- Unit `k` of a REDUCE with ACCUM. -/
def reduceUnit (d : Desc) (k : Nat) : Op Nat := do
  let n := elemsPerUnit (d.f 0x58 63 60)
  reducePart d (n * k) (min n (d.f 0x50 63 32 - n * k))
  pure 0

/-- Unit `k` of a KV_PRESS with REPLACE: the pages that its references lead to are put at once, its references are
staged. -/
def pressUnit (d : Desc) (k result : Nat) (r : Run) : UnitRes :=
  let n := min 512 (d.f 0x48 63 32 - 512 * k)
  match pressRefs d (512 * k) n result r with
  | .error e => .error e
  | .ok ((refs, used), r1) =>
    match applyOuts (.engine r1.ptn) r1.ptn r1.outs r1.s with
    | none => .error (.wait, r.s.noteWaits (.engine r1.ptn) r1.ptn true (r1.outs.map (·.dpa)))
    | some (met, s1) =>
      let put : Op Nat := do
        putRefs (d.f 0x40 47 0) (512 * k) refs
        pure used
      stageRun put { r1 with s := s1, outs := [], addrErr := r1.addrErr || met.addr, poison := r1.poison || met.poison }

/-! ### KV_APPEND (R336, R337) -/

/-- Positions that a KV_APPEND may convert now, and whether no more can come. -/
def Block.appendAvail (s : Block) (e : LogEntry) : Nat × Bool :=
  let d := e.bytes
  let count := Desc.f d 0x60 63 32
  if Desc.f d 0x60 23 22 = 0 then (count, true)
  else
    match s.burstEndOf e.ring e.seq with
    | some b => (min count (b.bytes / Desc.appendPb d), true)
    | none =>
      match s.burstOf e.ring e.seq with
      | some b => (min count (b.committed / Desc.appendPb d), false)
      | none => (0, false)

/-- The units of an append of `n` positions at L (Table 11-15). -/
def appendUnits (l n ppp : Nat) : Nat := if n = 0 then 0 else 2 * ((l + n - 1) / ppp - l / ppp + 1) + 1

/-- A page reference of a KV_APPEND: the plain page it names, poison, or no page that may be written (R336). -/
inductive AppendRef where
  | plain (dpa : Nat)
  | poisoned
  | broken
  deriving DecidableEq, Repr

/-- A page reference of a KV_APPEND read. -/
def appendRef (list k : Nat) : Op AppendRef := do
  match ← Op.pageAt list k with
  | .plain dpa => do
    let own ← Op.owned dpa accWrite
    pure (if own then .plain dpa else .broken)
  | .poisoned => pure .poisoned
  | _ => pure .broken

/-- The plain page that a KV_APPEND writes, or the outcome that its reference gives (R336). -/
def appendPage (list k : Nat) : Op Nat := do
  match ← appendRef list k with
  | .plain dpa => pure dpa
  | .poisoned => Op.stop (.finish { status := stPoison })
  | .broken => Op.stop (.finish { status := stAddressError })

/-- What a page reference of a KV_APPEND gives where it names no plain page: ADDRESS_ERROR before POISON (R327, R336). -/
def worstRef (st : Option Nat) : AppendRef → Option Nat
  | .plain _ => st
  | .poisoned => if st = some stAddressError then st else some stPoison
  | .broken => some stAddressError

/-- Steps 1 and 2 of R336: L, once every reference has been checked. -/
def appendCheck (d : Desc) : Op Nat := do
  let b ← Op.caBytes (d.f 0x58 47 0) 8
  if b.poison then Op.stop (.finish { status := stPoison })
  if b.addrErr then Op.stop (.finish { status := stAddressError })
  let l := ofLeBytes b.bytes
  let ppp := d.f 0x50 23 11
  let pages := (l + d.f 0x60 63 32 - 1) / ppp - l / ppp + 1
  let bad ← (List.range pages).foldlM (fun st i => do
    let k ← appendRef (d.f 0x40 47 0) (l / ppp + i)
    let v ← appendRef (d.f 0x48 47 0) (l / ppp + i)
    pure (worstRef (worstRef st k) v)) none
  match bad with
  | some st => Op.stop (.finish { status := st })
  | none => pure l

/-- Values of one row put at its place in a page (R333), rounded to the cache's format (R304). -/
def putRow (dpa fmt dim heads ppp p h mode : Nat) (sat : Bool) (vs : List OutVal) : Op Unit :=
  if isMx fmt then
    (List.range (dim / 32)).forM fun b => do
      let c := (p * heads + h) * (dim / 32) + b
      let blk := roundMx fmt mode ((vs.drop (32 * b)).take 32)
      Op.outDpa (dpa + c * blockBytes fmt) (packBits (widthOf fmt) blk.codes) blk.poison
      Op.outDpa (dpa + ppp * heads * (dim / 32) * blockBytes fmt + c) [BitVec.ofNat 8 blk.scale] false
  else
    let n := widthOf fmt / 8
    (List.range vs.length).forM fun i =>
      let at_ := dpa + ((p * heads + h) * dim + i) * n
      match (vs.getD i .poison).round fmt mode sat with
      | some code => Op.outDpa at_ (leBytes n code) false
      | none => Op.outDpa at_ (leBytes n 0) true

/-- The part of one key page or value page that an append of `n` positions at L writes: page number `pg` of the
session. -/
def appendPart (d : Desc) (l n pg : Nat) (value : Bool) : Op Unit := do
  let heads := d.f 0x50 31 24
  let ppp := d.f 0x50 23 11
  let dk := d.f 0x50 63 48
  let dv := d.f 0x50 47 32
  let src := d.f 0x60 31 28
  let dim := if value then dv else dk
  let fmt := if value then d.f 0x48 63 60 else d.f 0x40 63 60
  let dpa ← appendPage (if value then d.f 0x48 47 0 else d.f 0x40 47 0) pg
  let lo := max l (pg * ppp)
  let hi := min (l + n) ((pg + 1) * ppp)
  (List.range (hi - lo)).forM fun i =>
    (List.range heads).forM fun h => do
      let pos := lo + i
      let first := (pos - l) * heads * (dk + dv) + (if value then heads * dk + h * dv else h * dk)
      let vs ← (List.range dim).mapM fun j => Op.elem src (d.f 0x68 47 0) 0 (first + j)
      putRow dpa fmt dim heads ppp (pos % ppp) h (d.f 0x60 27 25) (decide (d.f 0x60 24 24 = 1)) (vs.map Num.out)

/-- Unit `k` of a KV_APPEND whose entry keeps L in RESULT. -/
def appendUnit (e : LogEntry) (r : Run) : UnitRes :=
  let d := e.bytes
  let l := e.result
  let k := e.unitsDone
  let ppp := Desc.f d 0x50 23 11
  let (n, final) := r.s.appendAvail e
  let pages := appendUnits l (if final then n else Desc.f d 0x60 63 32) ppp / 2
  let pg := l / ppp + k / 2
  if k < 2 * pages then
    let due := min (l + Desc.f d 0x60 63 32) ((pg + 1) * ppp)
    if !final ∧ l + n < due then .error (.wait, r.s)
    else stageRun (do appendPart d l (if final then n else Desc.f d 0x60 63 32) pg (decide (k % 2 = 1)); pure l) r
  else if !final then .error (.wait, r.s)
  else
    match stageRun (do Op.out (Desc.f d 0x58 47 0) (leBytes 8 (l + n)) false; pure l) r with
    | .error x => .error x
    | .ok (u, s1) => .ok ({ u with last := true }, s1)

/-! ### Any in-place operator -/

/-- Whether a descriptor's operator is in-place whatever its addresses are (Table 11-15); COPY is by overlap. -/
def Desc.inPlaceKind (d : Desc) : Bool :=
  decide (d.opcode = opcSyncOp) || decide (d.opcode = opcKvAppend)
    || (decide (d.opcode = opcReduce) && decide (d.f 0x40 53 53 = 1))
    || (decide (d.opcode = opcKvPress) && decide (d.f 0x40 59 59 = 1))

/-- The next unit of an entry computed (R127). -/
def Block.computeUnit (s : Block) (e : LogEntry) : UnitRes :=
  let d := e.bytes
  let r := s.begin_ e.ring e.seq e.ctx (decide (Desc.opcode d = opcReduce))
  match Desc.opcode d with
  | 0x02 => syncUnit d r
  | 0x12 => appendUnit e r
  | 0x13 => pressUnit d e.unitsDone e.result r
  | 0x15 => stageRun (reduceUnit d e.unitsDone) r
  | 0x17 => stageRun (copyUnit d e.src e.unitsDone) r
  | _ => .error (.wait, s)

/-- The units of an entry at its start, with its RESULT; an outcome that the operator's table gives before any effect is found
here, after every line that OUT would take is known to be PRESSED (R336, R341). -/
def Block.planUnits (s : Block) (e : LogEntry) : Except (Stop × Block) (Nat × Nat × Block) :=
  let d := e.bytes
  match Desc.opcode d with
  | 0x12 =>
    match appendCheck d (s.begin_ e.ring e.seq e.ctx false) with
    | .error x => .error x
    | .ok (l, r) => .ok (appendUnits l (Desc.f d 0x60 63 32) (Desc.f d 0x50 23 11), l, r.s)
  | 0x13 =>
    match pressRefs d 0 (Desc.f d 0x48 63 32) 0 (s.begin_ e.ring e.seq e.ctx false) with
    | .error x => .error x
    | .ok _ => .ok (unitsOf (Desc.f d 0x48 63 32) 512, 0, s)
  | 0x15 => .ok (unitsOf (Desc.f d 0x50 63 32) (elemsPerUnit (Desc.f d 0x58 63 60)), 0, s)
  | 0x17 =>
    match Op.source (Desc.f d 0x40 47 0) (Desc.w d 0x50) (s.begin_ e.ring e.seq e.ctx false) with
    | .error x => .error x
    | .ok (src, r) =>
      .ok (unitsOf (Desc.w d 0x50) 4096, 0, r.s.mapEntry e.ring e.seq fun x => { x with src := src })
  | _ => .ok (1, 0, s)

/-- The RESULT_LEN of an entry whose last unit is applied (Table 11-4), with its status. -/
def Block.unitsEnd (s : Block) (e : LogEntry) : Finish :=
  let d := e.bytes
  let plain := endStatus e.sawAddr e.sawPoison
  let sat (n : Nat) : Nat := min n (2 ^ 32 - 1)
  match Desc.opcode d with
  | 0x02 => { status := plain, len := e.result % 2 ^ 32 }
  | 0x12 =>
    match s.burstEndOf e.ring e.seq with
    | some b =>
      let f : Finish := { status := plain, len := b.bytes }
      if b.complete then f else ({ f with status := stTruncated } : Finish).first f
    | none => { status := plain, len := Desc.appendBytes d }
  | 0x13 => { status := plain, len := sat e.result }
  | 0x15 => { status := plain, len := Desc.f d 0x50 63 32 }
  | 0x17 => { status := plain, len := sat (Desc.w d 0x50) }
  | _ => { status := plain }

/-- The units of staging in use: entries in COMMITTING (R127). -/
def Block.stagingUsed (s : Block) : Nat := (s.ctl.logbook.filter fun e => decide (e.state = .committing)).length

/-- The units that staging holds: 128 KiB per cave channel in service, 4 MiB with none (R127). -/
def Block.stagingSize (s : Block) : Nat := if s.channelsInService = 0 then 1024 else 32 * s.channelsInService

/-- An entry as it stands now. -/
def Block.now_ (s : Block) (e : LogEntry) : LogEntry := (s.entry e.ring e.seq).getD e

/-- Whether an append takes its bytes from a burst that it has neither open nor closed. -/
def Block.lacksBurst (s : Block) (e : LogEntry) : Bool :=
  decide (Desc.opcode e.bytes = opcKvAppend) && decide (Desc.f e.bytes 0x60 23 22 ≠ 0)
    && (s.burstOf e.ring e.seq).isNone && (s.burstEndOf e.ring e.seq).isNone

/-- Whether the pair that an append would open is open already (R337). -/
def Block.pairTaken (s : Block) (e : LogEntry) : Bool :=
  s.lacksBurst e && (s.burst (Desc.f e.bytes 0x70 63 44) (Desc.f e.bytes 0x70 43 28)).isSome

/-- The burst that an append from a burst needs, opened or opened again; none while it must wait (R337, R340). -/
def Block.needBurst (s : Block) (e : LogEntry) : Option Block :=
  let d := e.bytes
  if !s.lacksBurst e then some s
  else if s.pairTaken e then some ((s.begin e).setFin e.ring e.seq { status := stBadField, detail := 0x70 })
  else if 4096 ≤ s.eng.bursts.length then none
  else (s.burstSlot (Desc.f d 0x70 63 44)).map fun slot => s.openBurst e slot

/-- An in-place entry started: its units counted, its burst open (R127, R336, R337). -/
def Block.startUnits (s : Block) (e : LogEntry) : Block :=
  if e.units ≠ 0 ∨ s.pairTaken e then (s.needBurst e).getD s
  else
    match s.planUnits e with
    | .error (why, s1) => s.runStopped e why s1
    | .ok (n, result, s1) =>
      let s2 := (s1.begin e).mapEntry e.ring e.seq fun x => { x with units := n, result := result }
      (s2.needBurst (s2.now_ e)).getD s

/-- The objects' reservation by an entry set or ended (R350). -/
def Block.reserve (s : Block) (o : Nat) (by_ : Option (Nat × Nat)) : Block :=
  s.setObj o { s.obj o with reserved := by_ }

/-- The running tasks of an ACQUIRE, or of an append whose burst awaits cells, wait (Table 11-3). -/
def Block.parkTasks (s : Block) (e : LogEntry) : Block :=
  let d := e.bytes
  let w : Option WaitFor :=
    if Desc.opcode d = opcSyncOp ∧ Desc.f d 0x40 63 60 = opAcquire then some (.object (Desc.f d 0x40 15 0) (Desc.w d 0x48))
    else if Desc.opcode d = opcKvAppend ∧ !(s.appendAvail e).2 then some .burst
    else none
  match w with
  | some w =>
    let mine (t : Task) : Bool := t.of e.ring e.seq && decide (t.state = .running)
    forEach ((s.eng.tasks.filter mine).filterMap (·.core)) (fun k t => t.dropPrefetchers k)
      (s.mapTasks fun t => if mine t then { t with state := .waiting w } else t)
  | none => s

/-- A unit staged and the COMMITTING mark made (R127); the tasks of an entry whose unit must wait for an object or for
cells are WAITING. -/
def Block.beginUnit (s : Block) (e : LogEntry) : Block :=
  if e.state ≠ .started ∨ e.units ≤ e.unitsDone ∨ e.fin.isSome ∨ s.stagingSize ≤ s.stagingUsed then s
  else
    match s.computeUnit e with
    | .error (.wait, s1) => (s.keepWaits s1).parkTasks e
    | .error (why, s1) => s.runStopped e why s1
    | .ok (u, s1) =>
      let s2 := match u.obj with
        | some (o, _) => s1.reserve o (some (e.ring, e.seq))
        | none => s1
      s2.mapEntry e.ring e.seq fun x => { x with
        state := .committing
        stage := u.outs
        stageEpoch := s2.fld (F.XLT_CTX_STATUS_EPOCH e.ctx)
        stageObj := u.obj
        result := u.result
        units := if u.last then x.unitsDone + 1 else x.units
        sawPoison := x.sawPoison || u.poison
        sawAddr := x.sawAddr || u.addrErr }

/-- What an entry has staged applied to its destination; none while a line must wait. -/
def Block.applyStage (s : Block) (e : LogEntry) : Option (OutMet × Block) :=
  let ptn := s.ringPtn e.ring
  (applyOuts (.engine ptn) ptn e.stage s).map fun x =>
    (x.1, match e.stageObj with
      | some (o, v) => ((x.2.setObj o v).event 11 0 (x.2.objAttr o)).evalWaits
      | none => x.2)

/-- Whether an entry has no unit left: every one is applied, or its burst was truncated before one position came, which leaves LEN
as it was (R339). -/
def Block.unitsOver (s : Block) (e : LogEntry) : Bool :=
  let none_ := decide (Desc.opcode e.bytes = opcKvAppend) && decide (s.appendAvail e = (0, true))
  decide (e.units ≤ e.unitsDone) || none_

/-- An in-place entry whose every unit is applied has finished. -/
def Block.checkUnits (s : Block) (e : LogEntry) : Block :=
  if e.state = .started ∧ e.fin.isNone ∧ e.units ≠ 0 ∧ Desc.opcode e.bytes ≠ opcBexaRun ∧ s.unitsOver e then
    (s.mapEntry e.ring e.seq fun x => { x with units := x.unitsDone }).setFin e.ring e.seq (s.unitsEnd e)
  else s

/-- A staged unit applied and the STARTED mark with the next unit made (R127). -/
def Block.endUnit (s : Block) (e : LogEntry) : Block :=
  if e.state ≠ .committing then s
  else
    match s.applyStage e with
    | none => s.noteWaits (.engine (s.ringPtn e.ring)) (s.ringPtn e.ring) true (e.stage.map (·.dpa))
    | some (met, s1) =>
      let s2 := s1.mapEntry e.ring e.seq fun x => { x with
        state := .started
        unitsDone := x.unitsDone + 1
        stage := []
        stageObj := none
        sawPoison := x.sawPoison || met.poison
        sawAddr := x.sawAddr || met.addr }
      s2.checkUnits (s2.now_ e)

/-- The rest of an in-place entry's units. -/
def Block.runUnits (e : LogEntry) : Nat → Block → Block
  | 0, s => s
  | n + 1, s =>
    let e1 := s.now_ e
    let s1 := if e1.state = .committing then s else (s.checkUnits e1).beginUnit ((s.checkUnits e1).now_ e)
    let e2 := s1.now_ e
    if e2.state = .committing ∧ (s1.applyStage e2).isSome then Block.runUnits e n (s1.endUnit e2)
    else if e2.state = .committing then s1.endUnit e2
    else s1

/-- An in-place operator run as far as it can go (R127). -/
def Block.runInPlace (s : Block) (e : LogEntry) : Block :=
  s.forWork e.ring e.seq fun t =>
    let s1 := if e.state = .committing then t else t.startUnits e
    let e1 := s1.now_ e
    if (e1.state = .started ∨ e1.state = .committing) ∧ e1.fin.isNone then
      let s2 := Block.runUnits e1 (e1.units + 1) s1
      s2.checkUnits (s2.now_ e1)
    else s1

/-- Whether a COPY's ranges overlap: none while its translation stops, with what stops it (R345). -/
def Block.copyInPlace (s : Block) (e : LogEntry) : Except (Stop × Block) (Bool × Block) :=
  if e.units ≠ 0 then .ok (true, s)
  else
    match copyOverlaps e.bytes (s.begin_ e.ring e.seq e.ctx false) with
    | .error x => .error x
    | .ok (b, r) => .ok (b, r.s)

/-- Whether an entry runs in units, with the state its check leaves. -/
def Block.byUnits (s : Block) (e : LogEntry) : Except (Stop × Block) (Bool × Block) :=
  if Desc.opcode e.bytes = opcCopy then s.copyInPlace e else .ok (Desc.inPlaceKind e.bytes, s)

/-- A commit unit's final values are staged and the COMMITTING mark made (R127). -/
def execCommitUnitBegin (ring : Fin 4096) (seq : BitVec 64) (s : State) : Out :=
  s.act fun s => (
    match s.working ring.val seq.toNat fun _ => true with
    | none => s
    | some e =>
      match s.byUnits e with
      | .error (why, s1) => s.runStopped e why s1
      | .ok (false, _) => s
      | .ok (true, s1) =>
        s1.forWork e.ring e.seq fun t =>
          let s2 := t.startUnits (t.now_ e)
          s2.beginUnit (s2.now_ e))

/-- A staged unit is applied and the STARTED mark made (R127). -/
def execCommitUnitEnd (ring : Fin 4096) (seq : BitVec 64) (s : State) : Out :=
  s.act fun s => (
    match s.entry ring.val seq.toNat with
    | some e => if s.ctl.stopped then s else s.forWork e.ring e.seq fun t => t.endUnit e
    | none => s)

end Sys2Proof.Machine
end

