-- ==== Sys2Proof/Machine/Meters.lean ====
section
/-! DEFINITION.  Token buckets (R450, R451), the meters of functions (R455, R456), and the queue that an answer to a
requester enters (R444). -/

namespace Sys2Proof.Machine

/-- One cell in the units of the token buckets (R450). -/
def oneCell : Nat := 2 ^ 20

/-- The buckets' keys in `ShapeSt.lacks`. -/
def bkSub (st : Nat) : Nat := st
def bkSvc (v : Nat) : Nat := 0x4000 + v
def bkTc (f : Nat) : Nat := 0x5000 + 2 * f
def bkTp (f : Nat) : Nat := 0x5001 + 2 * f
def bkFwd (p : Nat) : Nat := 0x6000 + p

/-- The BURST of a bucket, by its key. -/
def Block.burstSize (s : Block) (k : Nat) : Nat :=
  if k < 0x4000 then s.fld (F.SHP_SUB_CFG_HI_BURST k)
  else if k < 0x5000 then s.fld (F.SHP_SVC_CFG_HI_BURST (k - 0x4000))
  else if k < 0x6000 then
    if k % 2 = 0 then s.fld (F.SHP_FN_BURST_LO_CBS ((k - 0x5000) / 2))
    else s.fld (F.SHP_FN_BURST_HI_PBS ((k - 0x5000) / 2))
  else s.fld (F.SHP_PORT_FWD_HI_BURST (k - 0x6000))

/-- The RATE of a bucket, by its key. -/
def Block.tokenRate (s : Block) (k : Nat) : Nat :=
  if k < 0x4000 then s.fld (F.SHP_SUB_CFG_LO_RATE k)
  else if k < 0x5000 then s.fld (F.SHP_SVC_CFG_LO_RATE (k - 0x4000))
  else if k < 0x6000 then
    if k % 2 = 0 then s.fld (F.SHP_FN_RATE_LO_CIR ((k - 0x5000) / 2))
    else s.fld (F.SHP_FN_RATE_HI_PIR ((k - 0x5000) / 2))
  else s.fld (F.SHP_PORT_FWD_LO_RATE (k - 0x6000))

/-- T of a bucket: BURST less what it lacks (R450). -/
def Block.bucketT (s : Block) (k : Nat) : Nat := s.burstSize k * oneCell - Assoc.get 0 k s.net.shape.lacks

/-- What a bucket lacks set. -/
def Block.setLack (s : Block) (k lack : Nat) : Block :=
  s.setShape { s.net.shape with lacks := Assoc.put 0 k lack s.net.shape.lacks }

/-- Whether a bucket holds a token. -/
def Block.holdsToken (s : Block) (k : Nat) : Bool := decide (oneCell ≤ s.bucketT k)

/-- A token charged. -/
def Block.charge (s : Block) (k : Nat) : Block := s.setLack k (s.burstSize k * oneCell - (s.bucketT k - oneCell))

/-- Whether a shaper holds a token: RATE 0 is unshaped (R450). -/
def Block.shaperReady (s : Block) (k : Nat) : Bool := decide (s.tokenRate k = 0) || s.holdsToken k

/-- A token taken from a shaper, if it is shaped. -/
def Block.takeToken (s : Block) (k : Nat) : Block := if s.tokenRate k = 0 then s else s.charge k

/-- A bucket set full, or emptied (R451, R452). -/
def Block.fillBucket (s : Block) (k : Nat) (full : Bool) : Block :=
  s.setLack k (if full then 0 else s.burstSize k * oneCell)

/-- Every bucket accrues for one tick (R450). -/
def Block.accrue (s : Block) : Block :=
  let m := s.net.shape.lacks.map fun e => (e.1, min e.2 (s.burstSize e.1 * oneCell) - s.tokenRate e.1)
  s.setShape { s.net.shape with lacks := m.filter fun e => decide (Assoc.get 0 e.1 m ≠ 0) }

/-- The colour that the meter of a function gives one cell (R455, R456): 0 green, 1 yellow, 2 red; its buckets and
counters after it. -/
def Block.meter (s : Block) (f : Nat) : Nat × Block :=
  if !s.isSet (F.SHP_FN_RATE_LO_EN f) then (0, s)
  else if !s.holdsToken (bkTp f) then (2, s.bump (F.SHP_FN_RED_COUNT f))
  else if !s.holdsToken (bkTc f) then (1, (s.charge (bkTp f)).bump (F.SHP_FN_YELLOW_COUNT f))
  else (0, (s.charge (bkTc f)).charge (bkTp f))

/-- The queue of an answer to function `fn` (R444); none while its subscriber is full (R446). -/
def Block.answerQueue (s : Block) (fn : Option Nat) : Option QueueKind :=
  match fn with
  | some f =>
    if s.isSet (F.SHP_FN_SUB_SUB_EN f) then
      let st := s.fld (F.SHP_FN_SUB_SUB f)
      if s.subFull st then none else some (.subscriber st)
    else some .plain
  | none => some .plain

/-- A CXL.mem response of a logical device put in its queue; none while its subscriber is full (R444, R446). -/
def Block.sendS2M (s : Block) (fn tag : Nat) (r : S2M) (load : Nat) : Option Block :=
  (s.answerQueue (some fn)).map fun k => s.enqueue (96 + fn / 16) clsRsp k (.s2m fn tag r load)

end Sys2Proof.Machine
end

