-- ==== Sys2Proof/Machine/CellOps.lean ====
section
/-! DEFINITION.  Cells in the buffer pool (R426), answers to requests (R415, R416, R424, R428), and the checks that every
arriving cell meets (R413, R414, R420). -/

namespace Sys2Proof.Machine

/-- The router changed. -/
def Block.setRouter (s : Block) (r : RouterSt) : Block := { s with net := { s.net with router := r } }

/-- A link's state beside its registers. -/
def Block.link (s : Block) (l : Nat) : LinkSt := Assoc.get {} l s.net.links

/-- A link's state replaced. -/
def Block.setLink (s : Block) (l : Nat) (v : LinkSt) : Block :=
  { s with net := { s.net with links := Assoc.put {} l v s.net.links } }

/-- Whether a die is out of service. -/
def Block.dieOut (s : Block) (d : Nat) : Bool := decide (s.fld (F.RAS_DIE_STATE_STATE d) ≠ 0)

/-- The die that carries a link. -/
def dieOfLink (l : Nat) : Nat := l / 24

/-! ## The buffer pool (R426) -/

/-- The buffers in use: port, class, and whether the cell is held or parked (which takes shared slots only). -/
def Block.residents (s : Block) : List (Nat × Nat × Bool) :=
  let r := s.net.router
  let q := s.net.shape
  let ofMsgs (down : Bool) (ms : List Msg) : List (Nat × Nat × Bool) := ms.filterMap fun m =>
    match m with
    | .cell _ (some (p, c)) => some (p, c, down)
    | _ => none
  (r.inbox ++ r.local_).map (fun e => (e.port, e.cls, false)) ++ r.parked.map (fun e => (e.2.port, e.2.cls, true))
    ++ (q.fwd.map fun e => ofMsgs (!s.linkUp e.1) e.2).flatten
    ++ (q.dflt.map fun e => ofMsgs (!s.linkUp (e.1 / 4)) e.2).flatten

/-- The shared slots that a class at a port uses, and its free reserved ones. -/
def Block.classUse (s : Block) (p c : Nat) : Nat × Nat :=
  let mine := s.residents.filter fun e => decide (e.1 = p) && decide (e.2.1 = c)
  let plain := (mine.filter fun e => !e.2.2).length
  let own := min plain (s.fld F.PFR_CLASS_CFG_RESV)
  (plain - own + (mine.length - plain), s.fld F.PFR_CLASS_CFG_RESV - own)

/-- The slots of a die that R430 has retired. -/
def Block.slotsRetired (s : Block) (die : Nat) : Nat :=
  (s.net.router.retiredSlots.filter fun n => decide (n / 131072 = die)).length

/-- The free shared slots of a die; the share of a die out of service is withdrawn (R23). -/
def Block.sharedFree (s : Block) (die : Nat) : Nat :=
  if s.dieOut die then 0
  else
    let used := ((List.range 96).map fun k => (s.classUse (24 * die + k / 4) (k % 4)).1).foldl (· + ·) 0
    131072 - s.slotsRetired die - 96 * s.fld F.PFR_CLASS_CFG_RESV - used

/-- The free space of a class at a port (R426). -/
def Block.freeSpace (s : Block) (p c : Nat) : Nat :=
  let (shared, own) := s.classUse p c
  if s.dieOut (dieOfLink p) then 0
  else own + min (s.fld F.PFR_CLASS_CFG_SHARE_CAP - shared) (s.sharedFree (dieOfLink p))

/-- The cells buffered on a die lost, with what is reassembled of its ports' writes (R23, Table 17-2). -/
def Block.dropDieCells (s : Block) (die : Nat) : Block :=
  let here (p : Nat) : Bool := decide (p < 96) && decide (dieOfLink p = die)
  let keep (m : Msg) : Bool := match m with
    | .cell _ (some (p, _)) => !here p
    | _ => true
  let r := s.net.router
  let q := s.net.shape
  let sift (t : Assoc (List Msg)) : Assoc (List Msg) :=
    (t.map fun e => (e.1, e.2.filter keep)).filter fun e => decide (e.2 ≠ [])
  { s with net := { s.net with
    router := { r with
      inbox := r.inbox.filter fun e => !here e.port
      local_ := r.local_.filter fun e => !here e.port
      parked := r.parked.filter fun e => !here e.2.port
      reasm := r.reasm.filter fun e => !here e.port }
    shape := { q with fwd := sift q.fwd, dflt := sift q.dflt } } }

/-- The SEQs missing below the highest that a link holds (R402). -/
def LinkSt.missingCount (k : LinkSt) (e : Nat) : Nat :=
  match k.landed with
  | [] => 0
  | ls => (ls.map fun x => (x.1 + 4096 - e) % 4096).foldl max 0 + 1 - ls.length

/-- Whether an arriving cell is in the up phase (R422). -/
def Block.upPhase (s : Block) (port : Nat) : Bool :=
  decide (96 ≤ port) || decide (s.fld (F.PFR_PORT_CFG_PEER_LEVEL port) < s.fld F.PFR_LEVEL_LEVEL)

/-- The parked cells that arrived on a die. -/
def Block.parkedOf (s : Block) (die : Nat) : Nat :=
  (s.net.router.parked.filter fun e => decide (e.2.port < 96) && decide (dieOfLink e.2.port = die)).length

/-- Whether a die holds PARK_CAP parked cells and a class at one of its ports holds a cell that would be parked (R424). -/
def Block.parkBlocked (s : Block) (p c : Nat) : Bool :=
  (decide (c = clsFwd) || decide (c = clsRsp)) && decide (s.fld F.PFR_PARK_CFG_PARK_CAP ≤ s.parkedOf (dieOfLink p))
    && s.isSet F.PFR_LEVEL_ROUTER && s.isSet F.PFR_NODE_VALID
    && s.net.router.inbox.any fun e => decide (e.port = p) && decide (e.cls = c) && decide (e.cell.dst ≠ s.node)
      && (s.route (s.upPhase p) e.cell.dst e.cell.src e.cell.tag).isNone

/-- The OFF bits that a link sends (R402): a class is off while its free space is short, and on again when it is 32
cells above that level; every class is off while the link's inbound crossing is full (R71), and one whose cells would be
parked while PARK_CAP is reached (R424). -/
def Block.updateOff (s : Block) (l : Nat) : Block :=
  let need := s.fld (F.PFL_RTT_CELLS l) + 16 + (s.link l).missingCount (s.fld (F.PFL_SEQ_RX_NEXT l))
  s.setFld (F.PFL_CLASS_OFF_SENT l) ((List.range 4).foldl (fun v c =>
    let free := s.freeSpace l c
    let was := getBits (s.fld (F.PFL_CLASS_OFF_SENT l)) c c = 1
    v + (if free < need ∨ (was ∧ free < need + 32) ∨ s.crossFull true (.link (Fin.ofNat 96 l)) ∨ s.parkBlocked l c then 2 ^ c else 0)) 0)

/-- The OFF bits of the link that a crossing belongs to follow its filling (R71). -/
def Block.crossOff (s : Block) : CrossUnit → Block
  | .link l => s.updateOff l.val
  | _ => s

/-! ## Answers -/

/-- The answer statuses of Table 14-4. -/
def rsOk : Nat := 0x00
def rsPoison : Nat := 0x01
def rsDenied : Nat := 0x02
def rsNotPermitted : Nat := 0x03
def rsAddressError : Nat := 0x04
def rsNoRoute : Nat := 0x05
def rsBusy : Nat := 0x06
def rsStale : Nat := 0x07
def rsNotOpen : Nat := 0x08
def rsOutOfRange : Nat := 0x09
def rsBadCell : Nat := 0x0A
def rsIncomplete : Nat := 0x0B

/-- The payload of an RSP (Table 14-3). -/
def rspBytes (status detail value : Nat) : List Byte := leBytes 8 (status * 2 ^ 56 + detail * 2 ^ 48) ++ leBytes 8 value

/-- The TAG that an answer carries: of a BURST cell, its SLOT and KLOW stand in its place. -/
def Cell.answerInfo (c : Cell) (idx : Nat) : Nat := if c.kind = kBurst then c.info else c.tag * 16 + idx

/-- An answer to a request cell. -/
def Block.mkAnswer (s : Block) (c : Cell) (kind idx : Nat) (payload : List Byte) : Cell :=
  mkCell c.src s.node clsRsp kind (c.answerInfo idx) false payload

/-- An RSP to a request cell. -/
def Block.mkRsp (s : Block) (c : Cell) (status detail value : Nat) (idx : Nat := 0) : Cell :=
  s.mkAnswer c kRsp idx (rspBytes status detail value)

/-- A cell parked for a set (R424). -/
def Block.park (s : Block) (set : Nat) (c : InCell) : Block :=
  s.setRouter { s.net.router with parked := s.net.router.parked ++ [(set, c)] }

/-- An answer put in its queue (Table 15-2), or parked where it has no route (R424); none while its subscriber is full
(R446).  A MGMT answer leaves by a firmware queue; with no node ID it leaves on the link its request came in on
(R420); an answer to this pool itself is delivered (R421). -/
def Block.sendBack (s : Block) (ans : Cell) (mgmt : Bool) (port : Nat) : Option Block :=
  if !s.isSet F.PFR_NODE_VALID then some (s.enqueue port clsRsp .firmware (.cell ans none))
  else if ans.dst = s.node then
    some (s.setRouter { s.net.router with
      local_ := s.net.router.local_ ++
        [{ port := port, cls := clsRsp, cell := ans, colour := some 0, stamp := s.net.router.chrono.time }] })
  else
    match if mgmt then some QueueKind.firmware else s.answerQueue ((s.groupOf ans.dst).map (256 + ·)) with
    | none => none
    | some k =>
      match s.route true ans.dst ans.src ans.tag with
      | some p => some (s.enqueue p clsRsp k (.cell ans none))
      | none =>
        some (s.park (s.waitSet true ans.dst)
          { port := if mgmt then 129 else 128, cls := clsRsp, cell := ans, colour := some 0
            stamp := s.net.router.chrono.time })

/-- A request answered with an RSP; none while the answer must wait. -/
def Block.rsp (s : Block) (c : Cell) (port status detail value : Nat) : Option Block :=
  s.sendBack (s.mkRsp c status detail value) (decide (c.kind = kMgmt)) port

/-- The entries of a die in the BUSY ledger. -/
def Block.ledgerOf (s : Block) (die : Nat) : List (Nat × Cell × Nat) := s.net.router.ledger.filter fun e => decide (e.1 = die)

/-- A request that is not executed: recorded in the BUSY ledger, or dropped when it is full (R428). -/
def Block.busy (s : Block) (c : Cell) (port : Nat) : Block :=
  let d := dieOfLink port
  if 1024 ≤ (s.ledgerOf d).length then s.bump F.PFR_BUSY_DROPPED_COUNT
  else s.setRouter { s.net.router with ledger := s.net.router.ledger ++ [(d, c, port)] }

/-! ## Arrival -/

/-- The classes that a KIND may travel in (Table 14-2). -/
def kindClasses (k : Nat) : List Nat :=
  match k with
  | 0x2 => [clsReq, clsFwd, clsColl]
  | 0x3 => [clsReq, clsFwd, clsColl]
  | 0xA => [clsRsp]
  | 0xB => [clsRsp, clsFwd]
  | 0xC => [clsRsp, clsFwd]
  | n => if 1 ≤ n ∧ n ≤ 9 then [clsReq, clsFwd] else []

/-- Whether an INFO field breaks Table 14-2. -/
def Cell.infoBad (c : Cell) : Bool :=
  (decide (c.kind ∈ [kWriteShort, kAtomic, kLaunch, kMgmt]) && decide (c.idx ≠ 0))
    || (decide (c.kind ∈ [kNotify, kTime]) && decide (c.info ≠ 0))

/-- Whether a received header is one that R413 drops. -/
def Block.headerBad (s : Block) (p : Nat) (c : Cell) : Bool :=
  !(kindClasses c.kind).contains c.cls || (c.fence && decide (c.cls = clsRsp))
    || (c.poison && decide (c.kind ≠ kWdata) && decide (c.kind ≠ kWriteShort)) || c.infoBad
    || (decide (c.cls = clsFwd) && decide (s.fld (F.PFR_PORT_CFG_PEER_LEVEL p) = 0))
    || (decide (c.kind = kTime) && decide (c.dst ≠ s.node))

/-- Whether a cell's SRC passes R414. -/
def Block.srcOk (s : Block) (p : Nat) (c : Cell) : Bool :=
  !s.isSet (F.PFR_PORT_CFG_ENDPOINT p) || decide (c.src = s.fld (F.PFL_PARTNER_NODE_NODE p))

/-- Whether a cell is metered (R455): of request origin, in the request class, not MGMT, from a source group. -/
def Block.isMetered (s : Block) (c : Cell) : Bool :=
  c.isRequest && decide (c.cls = clsReq) && decide (c.kind ≠ kMgmt) && (s.groupOf c.src).isSome

/-- Whether a node accepts a cell: until it has a node ID, only MGMT cells on their first hop (R420). -/
def Block.acceptsCell (s : Block) (c : Cell) : Bool :=
  s.isSet F.PFR_NODE_VALID || (decide (c.kind = kMgmt) && decide (c.cls = clsReq))

/-- A DATA cell released by the link layer (R398) enters the router: its header is checked at every node (R413), then its
SRC (R414); a cell that the node does not accept is dropped (R420). -/
def Block.arrive (s : Block) (p : Nat) (c : Cell) : Block :=
  let keep : Block :=
    s.setRouter { s.net.router with
      inbox := s.net.router.inbox ++
        [{ port := p, cls := c.cls, cell := c, colour := if s.isMetered c then none else some 0
           stamp := s.net.router.chrono.time }] }
  if s.headerBad p c then
    let s1 := s.bump F.PFR_HDR_ERR_COUNT
    if c.isRequest && decide (c.kind ≠ kNotify) && decide (c.kind ≠ kWdata) && s.srcOk p c && s.acceptsCell c then
      (s1.rsp c p rsBadCell 0 0).getD (s1.busy c p)
    else s1
  else if !s.srcOk p c then s.bump F.PFR_SRC_VIOL_COUNT
  else if s.acceptsCell c then keep
  else s

end Sys2Proof.Machine
end

