-- ==== Sys2Proof/Machine/LinkCode.lean ====
section
/-! DEFINITION.  The link code (R384): a systematic RS(136,128) code over GF(2^10), and the line scrambler with its PAM4
levels (R383, R385).  Symbols are natural numbers below 1,024. -/

namespace Sys2Proof.Machine

/-- Doubling in GF(2^10) with field polynomial x^10 + x^3 + 1 (R384). -/
def lcDouble (a : Nat) : Nat := if 1024 ≤ 2 * a then (2 * a) ^^^ 0x409 else 2 * a

/-- The product of `a` and the low `n` bits of `b`. -/
def lcMulBits : Nat → Nat → Nat → Nat
  | 0, _, _ => 0
  | n + 1, a, b => (if b % 2 = 1 then a else 0) ^^^ lcMulBits n (lcDouble a) (b / 2)

/-- Multiplication in GF(2^10). -/
def lcMul (a b : Nat) : Nat := lcMulBits 10 a b

/-- α to the power `n`. -/
def lcAlpha : Nat → Nat
  | 0 => 1
  | n + 1 => lcDouble (lcAlpha n)

/-- The product of `a` squared `n` times over: a^2 · a^4 · … . -/
def lcSquares : Nat → Nat → Nat
  | 0, _ => 1
  | n + 1, a => lcMul (lcMul a a) (lcSquares n (lcMul a a))

/-- The inverse: a^1022. -/
def lcInv (a : Nat) : Nat := lcSquares 9 a

/-- A polynomial times (x − r), highest power first. -/
def lcTimesRoot (p : List Nat) (r : Nat) : List Nat :=
  List.zipWith (fun a b => a ^^^ lcMul r b) (p ++ [0]) (0 :: p)

/-- The coefficients of x^7 down to x^0 of g(x) = (x − α^0)…(x − α^7) (R384). -/
def lcGen : List Nat := ((List.range 8).foldl (fun p i => lcTimesRoot p (lcAlpha i)) [1]).drop 1

/-- One step of the division by g(x). -/
def lcFeed (r : List Nat) (d : Nat) : List Nat :=
  let f := d ^^^ r.headD 0
  List.zipWith (fun a g => a ^^^ lcMul f g) (r.drop 1 ++ [0]) lcGen

/-- The check symbols of 128 message symbols. -/
def lcCheck (msg : List Nat) : List Nat := msg.foldl lcFeed (List.replicate 8 0)

/-- The codeword of 128 message symbols. -/
def lcEncode (msg : List Nat) : List Nat := msg ++ lcCheck msg

/-- The eight syndromes of 136 symbols. -/
def lcSyndromes (c : List Nat) : List Nat :=
  (List.range 8).map fun i => let a := lcAlpha i; c.foldl (fun acc x => lcMul acc a ^^^ x) 0

/-- `n` linear equations in `n` unknowns, each row its coefficients and its right side: the solution, if there is
one only. -/
def lcSolve : Nat → List (List Nat) → Option (List Nat)
  | 0, _ => some []
  | n + 1, rows =>
    match rows.find? fun r => decide (r.headD 0 ≠ 0) with
    | none => none
    | some p =>
      let q := p.map (lcMul (lcInv (p.headD 0)))
      let rest := (rows.erase p).map fun r => (List.zipWith (fun a b => a ^^^ lcMul (r.headD 0) b) r q).drop 1
      (lcSolve n rest).map fun xs =>
        (List.zipWith lcMul (q.drop 1) xs).foldl (· ^^^ ·) ((q.drop (n + 1)).headD 0) :: xs

/-- The locator of symbol j: α^(135 − j). -/
def lcLocator (j : Nat) : Nat := lcAlpha (135 - j)

/-- The positions whose locators are roots of x^n + c₁x^(n−1) + … + c_n. -/
def lcRoots (coeffs : List Nat) : List Nat :=
  (List.range 136).filter fun j => coeffs.foldl (fun acc c => lcMul acc (lcLocator j) ^^^ c) 1 == 0

/-- A power of a locator. -/
def lcPow (a : Nat) : Nat → Nat
  | 0 => 1
  | n + 1 => lcMul a (lcPow a n)

/-- The syndromes of bad symbols (position, value). -/
def lcSyndromesOf (bad : List (Nat × Nat)) : List Nat :=
  (List.range 8).map fun i => bad.foldl (fun acc b => acc ^^^ lcMul b.2 (lcPow (lcLocator b.1) i)) 0

/-- The `v` bad symbols that have the syndromes `s`, if there are any. -/
def lcBad (s : List Nat) (v : Nat) : Option (List (Nat × Nat)) :=
  let row (i : Nat) : List Nat := (List.range v).map (fun k => s.getD (i + v - 1 - k) 0) ++ [s.getD (i + v) 0]
  match lcSolve v ((List.range v).map row) with
  | none => none
  | some coeffs =>
    let ps := lcRoots coeffs
    if ps.length ≠ v then none
    else
      match lcSolve v ((List.range v).map fun i => ps.map (fun j => lcPow (lcLocator j) i) ++ [s.getD i 0]) with
      | none => none
      | some ys =>
        let bad := ps.zip ys
        if lcSyndromesOf bad = s ∧ bad.all fun b => decide (b.2 ≠ 0) then some bad else none

/-- What the receiver makes of a codeword (R386): its symbols corrected with the positions that were bad, or nothing. -/
def lcDecode (c : List Nat) : Option (List Nat × List Nat) :=
  let s := lcSyndromes c
  if s = List.replicate 8 0 then some (c, [])
  else
    ([1, 2, 3, 4].findSome? (lcBad s)).map fun bad =>
      (bad.foldl (fun l b => l.set b.1 (l.getD b.1 0 ^^^ b.2)) c, bad.map (·.1))

/-- The 128 message symbols of 160 bytes (R384). -/
def lcMessage (bytes : List Byte) : List Nat :=
  let n := ofLeBytes bytes
  (List.range 128).map fun k => n / 2 ^ (10 * k) % 1024

/-- The 160 bytes of 128 message symbols. -/
def lcBytes (msg : List Nat) : List Byte := leBytes 160 (msg.foldr (fun x acc => acc * 1024 + x) 0)

/-! ## Lanes (R383, R385) -/

/-- Logical lane `n` of a codeword: its 34 symbols. -/
def laneSymbols (c : List Nat) (n : Nat) : List Nat := (List.range 34).map fun i => c.getD (4 * i + n) 0

/-- The codeword of four lanes of 34 symbols. -/
def fromLanes (lanes : List (List Nat)) : List Nat :=
  (List.range 136).map fun j => (lanes.getD (j % 4) []).getD (j / 4) 0

/-- The seed of a lane's scrambler at a marker codeword. -/
def scrambleSeed (n : Nat) : Nat := 0x2AAAAAAA + n

/-- One step of the scrambler: its output bit and its next state. -/
def scrambleStep (s : Nat) : Nat × Nat :=
  let out := (s / 2 ^ 30 + s / 2 ^ 27) % 2
  (out, (2 * s + out) % 2 ^ 31)

/-- `n` output bits of the scrambler, the first lowest, and its state after them. -/
def scrambleBits : Nat → Nat → Nat × Nat
  | 0, s => (0, s)
  | n + 1, s =>
    let (b, s1) := scrambleStep s
    let (r, s2) := scrambleBits n s1
    (b + 2 * r, s2)

/-- Symbols scrambled, or descrambled, with the generator's state after them. -/
def scrambleSymbols : List Nat → Nat → List Nat × Nat
  | [], s => ([], s)
  | x :: xs, s =>
    let (k, s1) := scrambleBits 10 s
    let (ys, s2) := scrambleSymbols xs s1
    ((x ^^^ k) :: ys, s2)

/-- The level of a bit pair, the earlier bit more significant, as its index among −3, −1, +1 and +3 (R383). -/
def pam4 (first second : Nat) : Nat := if first = 0 then second else 3 - second

/-- The bit pair of a level. -/
def unpam4 (level : Nat) : Nat × Nat := if level < 2 then (0, level) else (1, 3 - level)

/-- The five levels of a symbol, its bit 0 first. -/
def symbolLevels (x : Nat) : List Nat :=
  (List.range 5).map fun i => pam4 (x / 2 ^ (2 * i) % 2) (x / 2 ^ (2 * i + 1) % 2)

/-- The symbol of five levels. -/
def levelsSymbol (ls : List Nat) : Nat :=
  (List.range 5).foldl (fun acc i =>
    let (a, b) := unpam4 (ls.getD i 0)
    acc + a * 2 ^ (2 * i) + b * 2 ^ (2 * i + 1)) 0

/-- The levels of a lane's symbols. -/
def laneLevels (xs : List Nat) : List Nat := (xs.map symbolLevels).flatten

/-- The symbols of a lane's 170 levels. -/
def levelsLane (ls : List Nat) : List Nat := (List.range 34).map fun i => levelsSymbol ((ls.drop (5 * i)).take 5)

end Sys2Proof.Machine
end

