-- ==== Sys2Proof/Machine/LinkState.lean ====
section
/-! DEFINITION.  A link's states (Table 13-10) and what its changes of state do (R395, R401, R404–R409, R424, R434); the
replay buffer (R396–R399); fences (R407). -/

namespace Sys2Proof.Machine

/-- The states of Table 13-10. -/
def lkOff : Nat := 0
def lkDetect : Nat := 1
def lkTrain : Nat := 2
def lkSession : Nat := 3
def lkUp : Nat := 4
def lkRetrain : Nat := 5
def lkDown : Nat := 6

/-- The state of a link. -/
def Block.linkState (s : Block) (l : Nat) : Nat := s.fld (F.PFL_STATUS_STATE l)

/-- The chronometer's states (Table 14-6). -/
def chFree : Nat := 0
def chAcquire : Nat := 1
def chLocked : Nat := 2
def chHoldover : Nat := 3

/-- The chronometer changed. -/
def Block.setChrono (s : Block) (c : Chrono) : Block := s.setRouter { s.net.router with chrono := c }

/-- The parent link has left UP (Table 14-6). -/
def Block.parentGone (s : Block) (l : Nat) : Block :=
  if s.isSet F.PFR_CHR_CFG_MASTER ∨ s.fld F.PFR_CHR_CFG_PARENT_PORT ≠ l then s
  else
    let st := s.fld F.PFR_CHR_STATUS_STATE
    if st = chAcquire then s.setFld F.PFR_CHR_STATUS_STATE chFree
    else if st = chLocked then
      (s.setChrono { s.net.router.chrono with holdAt := some s.now }).setFld F.PFR_CHR_STATUS_STATE chHoldover
    else s

/-- A FREE chronometer begins to follow its parent (Table 14-6). -/
def Block.acquire (s : Block) : Block :=
  (s.setChrono { s.net.router.chrono with stepped := false, good := 0, bad := 0, sent := none, last := none }).setFld
    F.PFR_CHR_STATUS_STATE chAcquire

/-- A link put in a state; one that leaves UP stops choosing cells and may be the chronometer's parent link; one that
enters UP as the parent link lets a FREE chronometer acquire (Table 14-6).  A Link reset's sequence ends when the link no longer
retrains. -/
def Block.setLinkState (s : Block) (l st : Nat) : Block :=
  let was := s.linkState l
  let s0 := (s.setFld (F.PFL_STATUS_STATE l) st).countHeld l
  let s1 := if st = lkTrain ∨ st = lkRetrain then s0
    else { s0 with boot := { s0.boot with linkResets := s0.boot.linkResets.filter (· ≠ l) } }
  let s1 := if was = st then s1
    else s1.trace ttLink .none_ 0 (l * 2 ^ 57 + st * 2 ^ 28 + s1.fld (F.PFL_STATUS_REASON l) * 2 ^ 24)
  if was = lkUp ∧ st ≠ lkUp then s1.parentGone l
  else if st = lkUp ∧ s.fld F.PFR_CHR_CFG_PARENT_PORT = l ∧ !s.isSet F.PFR_CHR_CFG_MASTER
      ∧ s.fld F.PFR_CHR_STATUS_STATE = chFree then s1.acquire
  else s1

/-- UNACKED and TX_NEXT brought up to the replay buffer. -/
def Block.countTx (s : Block) (l : Nat) : Block := s.setFld (F.PFL_WINDOW_UNACKED l) (s.link l).tx.length

/-- LANDED brought up to the landing space. -/
def Block.countLanded (s : Block) (l : Nat) : Block := s.setFld (F.PFL_WINDOW_LANDED l) (s.link l).landed.length

/-- A, the oldest unacknowledged SEQ (R397). -/
def Block.oldestSeq (s : Block) (l : Nat) : Nat :=
  match (s.link l).tx with
  | c :: _ => c.seq
  | [] => s.fld (F.PFL_SEQ_TX_NEXT l)

/-- The link goes to DOWN: its routes close (R404, R405, R424). -/
def Block.linkDown (s : Block) (l reason : Nat) : Block :=
  let s1 := (((s.setLinkState l lkDown).setFld (F.PFL_STATUS_REASON l) reason).bump (F.PFL_DOWNS_COUNT l)).setFld
    (F.PFR_PORT_CFG_ROUTE_EN l) 0
  s1.setLink l { s1.link l with downAt := some s.now, half := none }

/-- The link goes to RETRAIN, or to DOWN when retrains begin too often (R401); this end sends 8 RETRAIN cells first
(R409). -/
def Block.linkRetrain (s : Block) (l reason : Nat) : Block :=
  let k := s.link l
  let recent := (k.retrains.filter fun t => decide (s.now < t + 1000000)) ++ [s.now]
  let s1 := (s.bump (F.PFL_RETRAINS_COUNT l)).setLink l
    { k with retrains := recent, retrainCells := 8, step := 0, session := none, echoed := false }
  if s.fld (F.PFL_CTRL_RETRAIN_MAX l) < recent.length then s1.linkDown l 0x9
  else (s1.setLinkState l lkRetrain).setFld (F.PFL_STATUS_REASON l) reason

/-- A cause of RETRAIN in a link that is in SESSION or UP. -/
def Block.retrainIf (s : Block) (l reason : Nat) : Block :=
  if s.linkState l = lkUp ∨ s.linkState l = lkSession then s.linkRetrain l reason else s

/-- A protocol error (R398). -/
def Block.protoError (s : Block) (l : Nat) : Block := (s.bump (F.PFL_PROTO_ERR_COUNT l)).retrainIf l 0x4

/-- A resend of one unacknowledged cell counted, with what repeated failure brings (R399, R401). -/
def Block.countResend (s : Block) (l : Nat) (c : TxCell) : Block :=
  let s1 := s.bump (F.PFL_REPLAYS_COUNT l)
  if c.resends + 1 = 4 then s1.retrainIf l 0x1
  else if 8 ≤ c.resends + 1 then s1.linkDown l 0x7
  else s1

/-- Unacknowledged cells marked for resending. -/
def Block.markDue (s : Block) (l : Nat) (mine : TxCell → Bool) : Block :=
  let k := s.link l
  s.setLink l { k with tx := k.tx.map fun c => if mine c then { c with due := true } else c }

/-- The cells before a SEQ freed from the replay buffer (R397). -/
def Block.freeTx (s : Block) (l ack : Nat) : Block :=
  let k := s.link l
  let n := (ack + 4096 - s.oldestSeq l) % 4096
  (s.setLink l { k with tx := k.tx.drop n }).countTx l

/-- Whether an ACK lies in A to TX_NEXT. -/
def Block.ackOk (s : Block) (l ack : Nat) : Bool := decide ((ack + 4096 - s.oldestSeq l) % 4096 ≤ (s.link l).tx.length)

/-! ## Lanes (R395) -/

/-- The logical lane that each of the physical lanes carries when one is unused, in ascending order. -/
def laneOf (unused q : Nat) : Option Nat :=
  if q = unused then none else if q < unused then some q else some (q - 1)

/-- The roles of the five lanes shown for one direction: `rx` chooses which. -/
def Block.showLanes (s : Block) (l : Nat) (rx : Bool) (unused : Nat) (failed : List Nat) : Block :=
  forEach (List.range 5) (fun q t =>
    let role := if failed.contains q then 5 else (laneOf unused q).getD 4
    t.setFld (if rx then F.PFL_LANE_STATUS_RX_ROLE l q else F.PFL_LANE_STATUS_TX_ROLE l q) role) s

/-- The physical lane that a logical lane is received on. -/
def Block.physOf (s : Block) (l n : Nat) : Nat :=
  ((List.range 5).find? fun q => decide (s.fld (F.PFL_LANE_STATUS_RX_ROLE l q) = n)).getD n

/-- The receive lanes mapped when `failed` are unusable: the link is DOWN with fewer than four (R395). -/
def Block.mapRx (s : Block) (l : Nat) (failed : List Nat) (next : Block → Block) : Block :=
  let s1 := s.setLink l { s.link l with rxFailed := failed }
  match failed with
  | [] => next ((s1.showLanes l true 4 []).setFld (F.PFL_STATUS_RX_UNUSED l) 4)
  | [q] => next ((s1.showLanes l true q [q]).setFld (F.PFL_STATUS_RX_UNUSED l) q)
  | _ => s1.linkDown l 0xB

/-- The transmit lanes follow the partner's RX_UNUSED (R395). -/
def Block.mapTx (s : Block) (l unused : Nat) : Block :=
  (s.showLanes l false unused []).setFld (F.PFL_STATUS_TX_UNUSED l) unused

/-- A receive lane marked failed while the link is UP: the next retrain replaces it; with two failed, DOWN (R395). -/
def Block.failLane (s : Block) (l q : Nat) : Block :=
  let k := s.link l
  if k.rxFailed.contains q then s
  else
    let s1 := (s.setLink l { k with rxFailed := k.rxFailed ++ [q] }).setFld (F.PFL_LANE_STATUS_RX_ROLE l q) 5
    if 2 ≤ (k.rxFailed ++ [q]).length then s1.linkDown l 0xB else s1

/-! ## Discards (R406, R407) -/

/-- The partition that a discarded cell counts for: its source's; the pool's own cells count for partition 0. -/
def Block.cellPtn (s : Block) (c : Cell) : Nat := (s.srcPtn c.src).getD 0

/-- A discard record of a kind and partition (Table 13-9) sent to the fabric manager. -/
def Block.discardRecord (s : Block) (l kind ptn first n : Nat) : Block :=
  if n = 0 then s
  else
    let s1 := s.bump (F.PFL_FENCED_COUNT l) n
    (s1.emit (.record .fm
      { key := .link kind l, ptn := ptn, count := n, first := first
        last := s.fld (F.PFL_PARTNER_NODE_NODE l) + s.fld (F.PFL_PARTNER_INC_INC l) * 2 ^ 32, time := s.now })).bump
      F.INT_RECORD_COUNT_COUNT

/-- The cell of a message. -/
def Msg.cellOf : Msg → Option Cell
  | .cell c _ => some c
  | .s2m .. => none

/-- The messages of a port's queues that `p` picks discarded. -/
def Block.dropQueued (s : Block) (l : Nat) (p : Cell → Bool) : Block :=
  let q := s.net.shape
  let keep (m : Msg) : Bool := match m.cellOf with
    | some c => !p c
    | none => true
  let cut (here : Nat → Bool) (t : Assoc (List Msg)) : Assoc (List Msg) :=
    (t.map fun e => if here e.1 then (e.1, e.2.filter keep) else e).filter fun e => decide (e.2 ≠ [])
  (s.setShape { q with
    svcs := cut (fun k => decide (k / 4 % 128 = l)) q.svcs
    fwd := cut (fun k => decide (k = l)) q.fwd
    fw := cut (fun k => decide (k / 4 = l)) q.fw
    dflt := cut (fun k => decide (k / 4 = l)) q.dflt }).countHeld l

/-- Held and unacknowledged cells that `pick` selects by partition leave a link, with their records: held ones are
discarded, unacknowledged ones become VOIDs where `void` is set and are discarded otherwise (R406, R407). -/
def Block.discard (s : Block) (l kindHeld kindUnacked : Nat) (pick : Nat → Bool) (void : Bool) : Block :=
  let held := (s.portQueue l).filterMap Msg.cellOf
  let tx := (s.link l).tx
  let s1 := forEach (List.range 32) (fun p t =>
    if !pick p then t
    else
      let h := (held.filter fun c => decide (s.cellPtn c = p)).length
      let u := tx.filter fun x => x.cell.any fun c => decide (s.cellPtn c = p)
      (t.discardRecord l kindHeld p 0 h).discardRecord l kindUnacked p ((u.head?.map (·.seq)).getD 0) u.length) s
  let s2 := s1.dropQueued l fun c => pick (s.cellPtn c)
  let hit (x : TxCell) : Bool := x.cell.any fun c => pick (s.cellPtn c)
  let k := s2.link l
  (s2.setLink l { k with
    tx := if void then k.tx.map fun x => if hit x then { x with cell := none } else x else [] }).countTx l

/-! ## Sessions (R406) -/

/-- This end's node as its SESSION cells show it (R420). -/
def Block.ownNode (s : Block) : Nat := if s.isSet F.PFR_NODE_VALID then s.node else 0

/-- A link enters SESSION. -/
def Block.enterSession (s : Block) (l : Nat) : Block :=
  (s.setLink l { s.link l with session := none, echoed := false, sessGap := 0, step := 0 }).setLinkState l lkSession

/-- The exchange is done: the session resumes or starts new, and the link is UP (R406). -/
def Block.endSession (s : Block) (l : Nat) (p : Session) (rtt : Nat) : Block :=
  let resume := decide (p.node = s.fld (F.PFL_PARTNER_NODE_NODE l)) && decide (p.inc = s.fld (F.PFL_PARTNER_INC_INC l))
    && decide (p.peerNode = s.ownNode) && decide (p.peerInc = s.fld (F.PFL_OWN_INC_INC l)) && s.ackOk l p.rxNext
  let s1 :=
    if resume then ((s.freeTx l p.rxNext).markDue l fun _ => true).setFld (F.PFL_STATUS_RESUMED l) 1
    else
      let t := s.discard l 3 4 (fun _ => true) false
      let t1 := (t.setReg (R.PFL_SEQ l) 0).setLink l { t.link l with tx := [], landed := [], named := [], nakDue := false }
      ((t1.setFld (F.PFL_PARTNER_NODE_NODE l) p.node).setFld (F.PFL_PARTNER_INC_INC l) p.inc).setFld
        (F.PFL_STATUS_RESUMED l) 0
  ((((s1.countTx l).countLanded l).setFld (F.PFL_RTT_CELLS l) rtt).setFld (F.PFL_CLASS_OFF_RECEIVED l) 0).setLinkState l lkUp

end Sys2Proof.Machine
end

