-- ==== Sys2Proof/Machine/LinkRecv.lean ====
section
/-! DEFINITION.  Receiving on a link: codewords (R385, R386), markers (R391, R392), cells (R387–R390), sequence and landing
(R396–R399), link-control cells. -/

namespace Sys2Proof.Machine

/-- Cell types (Table 13-4). -/
def tyIdle : Nat := 0
def tyData : Nat := 1
def tyVoid : Nat := 2
def tyNak : Nat := 3
def tyMarker : Nat := 4
def tySession : Nat := 5
def tyRetrain : Nat := 6

/-- A link cell's 80 bytes: its link header, bytes 4 to 75, and its CRC (R387–R389). -/
def linkCell (seq ack ty off : Nat) (body : List Byte) : List Byte :=
  let b := leBytes 4 (seq * 2 ^ 20 + ack * 2 ^ 8 + ty * 2 ^ 4 + off) ++ fitTo 0 72 body
  b ++ leBytes 4 (crc32c b)

/-- A field of a link cell: `n` bytes at `off` as a little-endian number. -/
def cellNat (b : List Byte) (off n : Nat) : Nat := ofLeBytes ((b.drop off).take n)

/-- Whether bytes 4 to 75 of a cell are 0 outside the named spans (R390). -/
def restZero (b : List Byte) (spans : List (Nat × Nat)) : Bool :=
  (List.range 72).all fun i =>
    let a := i + 4
    (spans.any fun s => decide (s.1 ≤ a) && decide (a < s.1 + s.2)) || decide (b.getD a 0 = 0)

/-- Whether a link-control cell's reserved fields are 0 (Table 13-5). -/
def controlOk (ty : Nat) (b : List Byte) : Bool :=
  match ty with
  | 0 => restZero b []
  | 2 => restZero b []
  | 3 => restZero b [(4, 2), (12, 64)] && decide (cellNat b 4 2 < 4096)
  | 4 => restZero b [(4, 2), (12, 16)]
      && (List.range 4).all fun n => decide (getBits (cellNat b (12 + 4 * n) 4) 28 10 = 0)
  | 5 => restZero b [(4, 1), (12, 20)] && decide (cellNat b 4 1 < 8) && decide (cellNat b 12 4 < 2 ^ 20)
      && decide (cellNat b 20 4 < 2 ^ 20) && decide (cellNat b 28 2 < 4096) && decide (cellNat b 30 2 < 4096)
  | 6 => restZero b [(4, 1)] && decide (cellNat b 4 1 < 16)
  | _ => true

/-- The SEQs missing between E and the highest that a link holds. -/
def Block.missing (s : Block) (l : Nat) : List Nat :=
  let e := s.fld (F.PFL_SEQ_RX_NEXT l)
  let held := (s.link l).landed.map fun x => (x.1 + 4096 - e) % 4096
  ((List.range (held.foldl max 0)).filter fun d => !held.contains d).map fun d => (e + d) % 4096

/-- A NAK is due if a missing SEQ has not been named (R399). -/
def Block.wantNak (s : Block) (l : Nat) : Block :=
  let k := s.link l
  s.setLink l { k with nakDue := (s.missing l).any fun q => !k.named.contains q }

/-- The landed cells that are next in order released (R398). -/
def Block.releaseLanded (l : Nat) : Nat → Block → Block
  | 0, s => s
  | n + 1, s =>
    let e := s.fld (F.PFL_SEQ_RX_NEXT l)
    let k := s.link l
    match k.landed.find? fun x => decide (x.1 = e) with
    | none => s
    | some x =>
      let s1 := (s.setLink l { k with landed := k.landed.erase x, named := k.named.filter (· ≠ e) }).setFld
        (F.PFL_SEQ_RX_NEXT l) ((e + 1) % 4096)
      let s2 := match x.2 with
        | some c => (s1.event 8 1 (s1.cellAttr c)).arrive l c
        | none => s1
      Block.releaseLanded l n s2

/-- A sequenced cell (Table 13-8): none is a VOID. -/
def Block.sequenced (s : Block) (l seq : Nat) (c : Option Cell) : Block :=
  let d := (seq + 4096 - s.fld (F.PFL_SEQ_RX_NEXT l)) % 4096
  let k := s.link l
  if d < 1024 then
    if k.landed.any fun x => decide (x.1 = seq) then s
    else
      let s1 := Block.releaseLanded l 1024 (s.setLink l { k with landed := k.landed ++ [(seq, c)] })
      ((s1.countLanded l).wantNak l).updateOff l
  else if d < 3072 then s.protoError l
  else s

/-- A NAK: the named SEQs that are unacknowledged are resent (R399). -/
def Block.takeNak (s : Block) (l : Nat) (b : List Byte) : Block :=
  let base := cellNat b 4 2
  let map := cellNat b 12 64
  s.markDue l fun c => let i := (c.seq + 4096 - base) % 4096; decide (i < 512) && decide (map / 2 ^ i % 2 = 1)

/-- A SESSION cell (Table 13-5). -/
def sessionOf (b : List Byte) : Session :=
  let f := cellNat b 4 1
  { echo := decide (f % 2 = 1), router := decide (f / 2 % 2 = 1), rate := f / 4 % 2, node := cellNat b 12 4
    inc := cellNat b 16 4, peerNode := cellNat b 20 4, peerInc := cellNat b 24 4, rxNext := cellNat b 28 2
    txNext := cellNat b 30 2 }

/-- A RETRAIN cell of the partner: in a retrain of both ends each treats the other's as its own, and no second one follows
(R409). -/
def Block.takeRetrain (s : Block) (l : Nat) : Block :=
  s.retrainIf l 0xE

/-- The marker of a marker codeword checked (R391, R392): lane maps, parities over an interval without an uncorrectable
codeword, and the marker count. -/
def Block.checkMarker (s : Block) (l : Nat) (b : List Byte) : Block :=
  let k := s.link l
  let count := cellNat b 4 2
  let compares := !k.badInterval && k.rxMarker.isSome
  let bad := (List.range 4).filter fun n =>
    let w := cellNat b (12 + 4 * n) 4
    decide (getBits w 31 29 ≠ s.physOf l n) || (compares && decide (getBits w 9 0 ≠ k.rxParity.getD n 0))
  let s1 := s.setLink l { k with rxMarker := some count, markerLost := false }
  let s2 :=
    if bad = [] then s1
    else
      let t := forEach bad (fun n t =>
        let q := t.physOf l n
        let kk := t.link l
        let mine := (kk.parityFails.filter fun x => decide (t.now < x.2 + 1000000)) ++ [(q, t.now)]
        let t1 := (t.bump (F.PFL_LANE_STATUS_PARITY_FAILS l q)).setLink l { kk with parityFails := mine }
        if 2 ≤ (mine.filter fun x => decide (x.1 = q)).length then t1.failLane l q else t1)
        (s1.bump (F.PFL_PARITY_FAIL_COUNT l))
      t.retrainIf l 0x2
  match k.rxMarker with
  | some c => if count ≠ (c + 1) % 65536 then s2.retrainIf l 0x3 else s2
  | none => s2

/-- The link header of a cell whose CRC passed: in UP its ACK and OFF are used; none is a protocol error (R388–R390, R397,
R402). -/
def Block.takeHeader (s : Block) (l : Nat) (b : List Byte) : Option Block :=
  let h := cellNat b 0 4
  let ty := getBits h 7 4
  let up := decide (s.linkState l = lkUp)
  if 7 ≤ ty ∨ (ty ≠ tyData ∧ ty ≠ tyVoid ∧ getBits h 31 20 ≠ 0) ∨ !controlOk ty b then none
  else if !up then some s
  else if s.ackOk l (getBits h 19 8) then
    some ((s.freeTx l (getBits h 19 8)).setFld (F.PFL_CLASS_OFF_RECEIVED l) (getBits h 3 0))
  else none

/-- A cell whose CRC passed in the other slots (R389, R390, R397, R398). -/
def Block.takeCell (s : Block) (l : Nat) (b : List Byte) : Block :=
  let h := cellNat b 0 4
  let seq := getBits h 31 20
  let up := decide (s.linkState l = lkUp)
  match s.takeHeader l b with
  | none => s.protoError l
  | some s1 =>
    match getBits h 7 4 with
    | 1 => if up then s1.sequenced l seq (some { hdr := cellNat b 4 8, payload := (b.drop 12).take 64 }) else s1
    | 2 => if up then s1.sequenced l seq none else s1
    | 3 => if up then s1.takeNak l b else s1
    | 5 =>
      if s1.linkState l = lkSession then
        s1.setLink l { s1.link l with session := some (sessionOf b), echoed := (s1.link l).echoed || (sessionOf b).echo }
      else s1
    | 6 => s1.takeRetrain l
    | _ => s1

/-- One of the two cells of a codeword, if its CRC passes (R389); `marker` says that it is the marker slot. -/
def Block.receiveCell (s : Block) (l : Nat) (marker : Bool) (b : List Byte) : Block :=
  if crc32c (b.take 76) ≠ cellNat b 76 4 then s.bump (F.PFL_CRC_FAIL_COUNT l)
  else if marker then
    match s.takeHeader l b with
    | some t => if getBits (cellNat b 0 4) 7 4 = tyMarker then t.checkMarker l b else s.protoError l
    | none => s.protoError l
  else if s.linkState l = lkUp ∨ s.linkState l = lkSession ∨ s.linkState l = lkRetrain then s.takeCell l b
  else s

/-- The lane parities of a codeword: the XOR of the symbols of each lane. -/
def laneParity (c : List Nat) : List Nat := (List.range 4).map fun n => (laneSymbols c n).foldl (· ^^^ ·) 0

/-- A codeword that decodes: its counters, the lane parities, its two cells (R386, R391). -/
def Block.takeCodeword (s : Block) (l : Nat) (marker : Bool) (c : List Nat) (bad : List Nat) : Block :=
  let s1 := if bad = [] then s
    else
      forEach bad (fun j t => t.bump (F.PFL_LANE_SYMERR_COUNT l (t.physOf l (j % 4))))
        (s.setPair (R.PFL_CW_CORR_LO l) (R.PFL_CW_CORR_HI l) (s.pair (R.PFL_CW_CORR_LO l) (R.PFL_CW_CORR_HI l) + 1))
  let b := lcBytes (c.take 128)
  let s2 := s1.receiveCell l marker (b.take 80)
  let k := s2.link l
  let par := laneParity c
  let s3 := s2.setLink l { k with
    rxParity := if marker then par else List.zipWith (· ^^^ ·) k.rxParity par
    badInterval := if marker then false else k.badInterval }
  s3.receiveCell l false (b.drop 80)

/-- A codeword that does not decode (R386, R392). -/
def Block.loseCodeword (s : Block) (l : Nat) (marker : Bool) : Block :=
  let s1 := s.bump (F.PFL_CW_UNCORR_COUNT l)
  let k := s1.link l
  let s2 := s1.setLink l { k with badInterval := true, markerLost := k.markerLost || marker }
  if !marker then s2.wantNak l
  else
    let s3 := (s2.bump (F.PFL_MARKER_LOST_COUNT l)).wantNak l
    let k3 := s3.link l
    let s4 := s3.setLink l { k3 with rxMarker := k3.rxMarker.map fun c => (c + 1) % 65536, rxParity := [0, 0, 0, 0] }
    if k.markerLost then s4.retrainIf l 0x3 else s4

/-- Whether a link is aligned to codewords: in step 5 or 6 of its training, or beyond (Table 13-7). -/
def Block.aligned (s : Block) (l : Nat) : Bool :=
  decide (s.linkState l = lkSession) || decide (s.linkState l = lkUp)
    || (decide (s.linkState l = lkTrain) && decide (5 ≤ (s.link l).step))

/-- A codeword is received: 170 PAM4 levels on each logical lane, descrambled and decoded (R383–R386). -/
def execCodewordReceive (link : Fin 96) (lanes : List (List (BitVec 2))) (s : State) : Out :=
  s.act fun s => (
    let l := link.val
    if !s.aligned l then s
    else
      let k := s.link l
      let marker := decide (k.rxPos = 0)
      let raw := (List.range 4).map fun n => levelsLane ((lanes.getD n []).map (·.toNat))
      let seeds := if marker then (List.range 4).map scrambleSeed else k.rxScramble
      let plain := (List.range 4).map fun n => scrambleSymbols (raw.getD n []) (seeds.getD n 0)
      let s1 := s.setLink l { k with rxPos := (k.rxPos + 1) % 4096, rxScramble := plain.map (·.2) }
      match lcDecode (fromLanes (plain.map (·.1))) with
      | some (c, bad) => s1.takeCodeword l marker c bad
      | none => s1.loseCodeword l marker)

/-- A SEQ still missing PFL_RTT + 16 cell-times after its last NAK is named again (R399). -/
def execNakRepeat (link : Fin 96) (s : State) : Out :=
  s.act fun s => (
    let l := link.val
    if s.linkState l = lkUp then (s.setLink l { s.link l with named := [] }).wantNak l else s)

/-- ACK has not advanced for the replay time: the oldest unacknowledged cell is resent (R399). -/
def execReplayTimerExpiry (link : Fin 96) (s : State) : Out :=
  s.act fun s => (
    let l := link.val
    if s.linkState l = lkUp then s.markDue l fun c => decide (c.seq = s.oldestSeq l) else s)

end Sys2Proof.Machine
end

