-- ==== Sys2Proof/Machine/PortSched.lean ====
section
/-! DEFINITION.  The port scheduler (R447–R449, R453) and the spans of a chart (R438, R439). -/

namespace Sys2Proof.Machine

/-! ## Spans (R438) -/

/-- Where a port stands in its cycle: the window it is in, none in a gap; the window that follows the next gate, none for
a gap; the ticks to that gate, none where there is none; the guard before it in cell-times. -/
structure Span where
  win : Option Window
  next : Option Window
  left : Option Nat
  guard : Nat
  deriving DecidableEq, Repr

/-- The whole time is one gap. -/
def Span.gap : Span := { win := none, next := none, left := none, guard := 0 }

/-- The span of a chart at a tick of its cycle. -/
def Chart.spanAt (c : Chart) (pos : Nat) : Span :=
  match c.windows.find? fun w => decide (w.start ≤ pos) && decide (pos < w.start + w.len) with
  | some w =>
    let stop := w.start + w.len
    { win := some w, next := c.windows.find? fun x => decide (x.start = stop % c.cycle), left := some (stop - pos)
      guard := w.guard }
  | none =>
    match c.windows.find? fun w => decide (pos < w.start) with
    | some w => { win := none, next := some w, left := some (w.start - pos), guard := w.guard }
    | none =>
      match c.windows with
      | w :: _ => { win := none, next := some w, left := some (w.start + c.cycle - pos), guard := w.guard }
      | [] => Span.gap

/-- Whether a node's chronometer is in step (R434, R439). -/
def Block.inStep (s : Block) : Bool := decide (2 ≤ s.fld F.PFR_CHR_STATUS_STATE)

/-- TIME in ticks. -/
def Block.ticks (s : Block) : Nat := s.net.router.chrono.time / 16

/-- A port's charts. -/
def Block.portChart (s : Block) (p : Nat) : PortChart := Assoc.get {} p s.net.router.charts

/-- The chart that a port runs. -/
def PortChart.current (c : PortChart) : Option Chart :=
  match c.running with
  | none => none
  | some false => c.a
  | some true => c.b

/-- The span that a port is in: a gap while no chart runs or its chart is suspended (R439). -/
def Block.span (s : Block) (p : Nat) : Span :=
  match (s.portChart p).current with
  | some c => if s.inStep then c.spanAt (s.ticks % c.cycle) else Span.gap
  | none => Span.gap

/-- The ticks of a cell-time on a link (Table 13-1). -/
def Block.cellTicks (s : Block) (l : Nat) : Nat := if s.isSet (F.PFL_STATUS_RATE l) then 2 else 1

/-- Whether a window, or a gap, admits a class, in a service queue of a service or outside them (R438, R447). -/
def admits (w : Option Window) (cls : Nat) (svc : Option Nat) : Bool :=
  match w with
  | none => decide (cls ≠ clsColl)
  | some w =>
    decide (getBits w.classes cls cls = 1)
      && match svc with
        | some v => decide (w.service = 0x1FF) || decide (w.service = v)
        | none => true

/-- What a span says of a cell that would start: it may, the guard holds it, or the span does not admit it; `lent` asks
for the traffic of a gap in a window that is not EXCLUSIVE. -/
inductive SpanWord where
  | go | guarded | closed
  deriving DecidableEq, Repr

/-- The word of a port's span (R438). -/
def Block.spanSays (s : Block) (p : Nat) (sp : Span) (lent : Bool) (cls : Nat) (svc : Option Nat) : SpanWord :=
  let here := if lent then admits none cls svc else admits sp.win cls svc
  if !here then .closed
  else
    match sp.left with
    | none => .go
    | some n => if n ≤ sp.guard * s.cellTicks p ∧ !admits sp.next cls svc then .guarded else .go

/-! ## Queues of a port -/

/-- A queue of a port in a class. -/
inductive PortQueue where
  | fw | svc (v : Nat) | dflt | fwd
  deriving DecidableEq, Repr

/-- The messages of a queue of a port. -/
def Block.queueOf (s : Block) (p cls : Nat) : PortQueue → List Msg
  | .fw => Assoc.get [] (4 * p + cls) s.net.shape.fw
  | .svc v => Assoc.get [] ((v * 128 + p) * 4 + cls) s.net.shape.svcs
  | .dflt => Assoc.get [] (4 * p + cls) s.net.shape.dflt
  | .fwd => Assoc.get [] p s.net.shape.fwd

/-- A queue of a port replaced. -/
def Block.setQueue (s : Block) (p cls : Nat) (k : PortQueue) (ms : List Msg) : Block :=
  let q := s.net.shape
  (match k with
  | .fw => s.setShape { q with fw := Assoc.put [] (4 * p + cls) ms q.fw }
  | .svc v => s.setShape { q with svcs := Assoc.put [] ((v * 128 + p) * 4 + cls) ms q.svcs }
  | .dflt => s.setShape { q with dflt := Assoc.put [] (4 * p + cls) ms q.dflt }
  | .fwd => s.setShape { q with fwd := Assoc.put [] p ms q.fwd }).countHeld p

/-- The services that hold cells for a port and class, of one priority, ascending. -/
def Block.svcsAt (s : Block) (p cls : Nat) (high : Bool) : List Nat :=
  ((s.net.shape.svcs.filter fun e => decide (e.1 / 4 % 128 = p) && decide (e.1 % 4 = cls)).map (·.1 / 512)).filter
    fun v => s.isSet (F.SHP_SVC_CFG_LO_PRIO v) == high

/-- The member that a weighted round robin serves next, and its state after (R448): the member last served keeps the
choice for WEIGHT cells in succession. -/
def wrr (weight : Nat → Nat) (last : Nat × Nat) (ready : List Nat) : Option (Nat × (Nat × Nat)) :=
  if last.2 ≠ 0 ∧ ready.contains last.1 ∧ last.2 < weight last.1 then some (last.1, (last.1, last.2 + 1))
  else
    match ready.find? fun v => decide (last.2 = 0) || decide (last.1 < v) with
    | some v => some (v, (v, 1))
    | none => ready.head?.map fun v => (v, (v, 1))

/-- The key of a round robin over the services of a port, class and priority. -/
def robinKey (p cls : Nat) (high : Bool) : Nat := (4 * p + cls) * 2 + (if high then 1 else 0)

/-- Whether the head of a queue is a TIME cell. -/
def headTime (ms : List Msg) : Bool :=
  match ms.head? with
  | some (.cell c _) => decide (c.kind = kTime)
  | _ => false

/-- Whether a queue of a port could start its head but for the spans: it is not empty, its firmware limit or its shaper
lets it (R447, R453). -/
def Block.queueReady (s : Block) (p cls : Nat) (named : Bool) (k : PortQueue) : Bool :=
  let ms := s.queueOf p cls k
  decide (ms ≠ []) && match k with
    | .fw => headTime ms || decide (Assoc.get 0 (4 * p + cls) s.net.shape.fwGap = 0)
    | .svc v => named || s.shaperReady (bkSvc v)
    | .dflt => true
    | .fwd => decide (96 ≤ p) || !s.isSet (F.SHP_PORT_FWD_LO_EN p) || s.shaperReady (bkFwd p)

/-- Whether a window names a service (R453). -/
def Span.names (sp : Span) (lent : Bool) (k : PortQueue) : Bool :=
  match k, sp.win with
  | .svc v, some w => !lent && decide (w.service = v)
  | _, _ => false

/-- The service that a queue's cells are restricted by. -/
def PortQueue.service : PortQueue → Option Nat
  | .svc v => some v
  | _ => none

/-- What a queue may do in a slot. -/
def Block.queueSays (s : Block) (p cls : Nat) (sp : Span) (lent : Bool) (k : PortQueue) : SpanWord :=
  if s.queueReady p cls (sp.names lent k) k then s.spanSays p sp lent cls k.service else .closed

/-- The head of a queue taken: its token or counters (R447). -/
def Block.takeHead (s : Block) (p cls : Nat) (sp : Span) (lent : Bool) (k : PortQueue) : Option (Msg × Block) :=
  match s.queueOf p cls k with
  | [] => none
  | m :: ms =>
    let s1 := s.setQueue p cls k ms
    some (m, match k with
      | .fw =>
        if headTime [m] then s1
        else s1.setShape { s1.net.shape with fwGap := Assoc.put 0 (4 * p + cls) 32 s1.net.shape.fwGap }
      | .svc v => (if sp.names lent k then s1 else s1.takeToken (bkSvc v)).bump (F.SHP_SVC_SENT_COUNT v)
      | .dflt => s1.bump (F.SHP_PORT_DEFAULT_SENT_COUNT p)
      | .fwd =>
        (if p < 96 ∧ s1.isSet (F.SHP_PORT_FWD_LO_EN p) then s1.takeToken (bkFwd p) else s1).bump
          (F.SHP_PORT_FWD_SENT_COUNT p))

/-- The services of one priority served (R448). -/
def Block.takeSvc (s : Block) (p cls : Nat) (sp : Span) (lent high : Bool) : Option (Msg × Block) :=
  let ready := (s.svcsAt p cls high).filter fun v => decide (s.queueSays p cls sp lent (.svc v) = .go)
  let key := robinKey p cls high
  match wrr (fun v => s.fld (F.SHP_SVC_CFG_HI_WEIGHT v)) (Assoc.get (0, 0) key s.net.shape.robins) ready with
  | none => none
  | some (v, last) =>
    (s.setShape { s.net.shape with robins := Assoc.put (0, 0) key last s.net.shape.robins }).takeHead p cls sp lent
      (.svc v)

/-- One queue served if it may. -/
def Block.takeQueue (s : Block) (p cls : Nat) (sp : Span) (lent : Bool) (k : PortQueue) : Option (Msg × Block) :=
  if s.queueSays p cls sp lent k = .go then s.takeHead p cls sp lent k else none

/-- The queues of one class served in the order of R447 step 2. -/
def Block.takeClass (s : Block) (p : Nat) (sp : Span) (lent : Bool) (cls : Nat) : Option (Msg × Block) :=
  if cls = clsFwd then s.takeQueue p cls sp lent .fwd
  else
    (s.takeQueue p cls sp lent .fw).orElse fun _ =>
      (s.takeSvc p cls sp lent true).orElse fun _ =>
        (s.takeSvc p cls sp lent false).orElse fun _ => s.takeQueue p cls sp lent .dflt

/-- The queues of a port and class. -/
def Block.portQueues (s : Block) (p cls : Nat) : List PortQueue :=
  if cls = clsFwd then [.fwd]
  else [.fw, .dflt] ++ ((s.svcsAt p cls true) ++ (s.svcsAt p cls false)).map .svc

/-- Whether a window lends the slots that its traffic leaves unused (R438). -/
def Span.lends (sp : Span) : Bool := sp.win.any fun w => !w.exclusive

/-- Whether a ready cell of a class is held by a guard (R438). -/
def Block.guardHolds (s : Block) (p : Nat) (sp : Span) (cls : Nat) : Bool :=
  (s.portQueues p cls).any fun k => decide (s.queueSays p cls sp false k = .guarded)
    || (sp.lends && decide (s.queueSays p cls sp true k = .guarded))

/-- A slot that a ready cell of a class waits under an OFF bit (Table 18-1). -/
def Block.countOff (s : Block) (p : Nat) (sp : Span) (cls : Nat) : Block :=
  match (s.portQueues p cls).find? fun k => decide (s.queueSays p cls sp false k = .go) with
  | none => s
  | some k =>
    s.event 8 3 (match (s.queueOf p cls k).head? with
      | some (.cell c _) => s.cellAttr c
      | _ => .none_)

/-- The new DATA cell of a slot of a Pefin port (R447): in the dependence order of the classes that no OFF bit stops, and
in a window that is not EXCLUSIVE the traffic of a gap after that. -/
def Block.takeData (s : Block) (p : Nat) : Option Msg × Block :=
  let sp := s.span p
  let off := s.fld (F.PFL_CLASS_OFF_RECEIVED p)
  let classes := [clsColl, clsFwd, clsRsp, clsReq].filter fun c => decide (getBits off c c = 0)
  let s0 := forEach ([clsColl, clsFwd, clsRsp, clsReq].filter fun c => decide (getBits off c c = 1)) (fun c t => t.countOff p sp c) s
  let s1 := s0.when (classes.any (s.guardHolds p sp)) fun t => t.bump (F.PFR_GUARD_HELD_COUNT p)
  match classes.findSome? (s1.takeClass p sp false) with
  | some (m, t) => (some m, t)
  | none =>
    if sp.lends then
      match classes.findSome? (s1.takeClass p sp true) with
      | some (m, t) => (some m, t)
      | none => (none, s1)
    else (none, s1)

/-- A host port slot sends one S2M message (R449). -/
def execHostSlot (port : Fin 16) (s : State) : Out :=
  s.act fun s => (
    let p := 96 + port.val
    if !s.isSet (F.HPT_PORT_STATUS_UP port.val) then s
    else
      match s.takeClass p Span.gap false clsRsp with
      | some (.s2m fn tag r load, t) => t.emit (.s2m fn tag r load)
      | some (.cell .., t) => t
      | none => s)

/-- The service of a subscriber (R444). -/
def Block.svcOf (s : Block) (st : Nat) : Nat :=
  8 * s.fld (F.ENG_ST_CFG_PARTITION st) + s.fld (F.SHP_SUB_CFG_HI_SERVICE st)

/-- The key of the service queue that a subscriber's message is bound for. -/
def Block.boundFor (s : Block) (st : Nat) (m : Queued) : Nat := (s.svcOf st * 128 + m.port) * 4 + m.cls

/-- Whether a subscriber can release its head: a token, and room in the queue it is bound for (R445). -/
def Block.subReady (s : Block) (st : Nat) : Bool :=
  match s.subQueue st with
  | [] => false
  | m :: _ =>
    let atCap := decide (m.port < 96) && !s.linkUp m.port
      && decide (s.fld (F.PFL_HOLD_CAP m.port) ≤ s.fld (F.PFL_HOLD_HELD m.port))
    s.shaperReady (bkSub st) && decide ((Assoc.get [] (s.boundFor st m) s.net.shape.svcs).length < s.fld F.SHP_CFG_SVC_DEPTH)
      && !atCap

/-- A subscriber's head released. -/
def Block.releaseSub (s : Block) (st : Nat) : Block :=
  match s.subQueue st with
  | [] => s
  | m :: ms =>
    let key := s.boundFor st m
    let s1 := ((s.setSubQueue st ms).takeToken (bkSub st)).bump (F.SHP_SUB_SENT_COUNT st)
    (s1.setShape { s1.net.shape with
      svcs := Assoc.put [] key (Assoc.get [] key s.net.shape.svcs ++ [m.msg]) s1.net.shape.svcs }).countHeld m.port

/-- The key of a service's round robin over its subscribers. -/
def subRobin (v : Nat) : Nat := 0x1000 + v

/-- A subscriber of a service releases its head: the one that the weighted round robin of R448 serves next, of those that
can (R445). -/
def execSubscriberRelease (service : BitVec 8) (s : State) : Out :=
  s.act fun s => (
    let v := service.toNat
    let ready := (s.net.shape.subs.map (·.1)).filter fun st => decide (s.svcOf st = v) && s.subReady st
    match wrr (fun st => s.fld (F.SHP_SUB_CFG_HI_WEIGHT st)) (Assoc.get (0, 0) (subRobin v) s.net.shape.robins) ready with
    | none => s
    | some (st, last) =>
      (s.setShape { s.net.shape with robins := Assoc.put (0, 0) (subRobin v) last s.net.shape.robins }).releaseSub st)

end Sys2Proof.Machine
end

