-- ==== Sys2Proof/Machine/LinkSend.lean ====
section
/-! DEFINITION.  Sending on a link: what fills a cell slot (R400), markers (R391), NAKs and resends (R399), the codewords
(R383–R385). -/

namespace Sys2Proof.Machine

/-- Whether a link sends cells: in SESSION and UP, while it aligns, and at the start of a retrain (Tables 13-7, 13-10). -/
def Block.sends (s : Block) (l : Nat) : Bool :=
  let k := s.link l
  let st := s.linkState l
  decide (st = lkSession) || decide (st = lkUp) || (decide (st = lkTrain) && decide (4 ≤ k.step))
    || (decide (st = lkRetrain) && (decide (0 < k.retrainCells) || k.half.isSome))

/-- The physical lane that a logical lane is sent on. -/
def Block.txPhysOf (s : Block) (l n : Nat) : Nat :=
  ((List.range 5).find? fun q => decide (s.fld (F.PFL_LANE_STATUS_TX_ROLE l q) = n)).getD n

/-- A cell of this moment: it carries ACK and the OFF bits (R397, R402). -/
def Block.cellNow (s : Block) (l seq ty : Nat) (body : List Byte) : List Byte :=
  linkCell seq (s.fld (F.PFL_SEQ_RX_NEXT l)) ty (s.fld (F.PFL_CLASS_OFF_SENT l)) body

/-- The marker cell (R391). -/
def Block.markerCell (s : Block) (l : Nat) : List Byte :=
  let k := s.link l
  s.cellNow l 0 tyMarker (leBytes 8 k.markers
    ++ ((List.range 4).map fun n => leBytes 4 (s.txPhysOf l n * 2 ^ 29 + k.txParity.getD n 0)).flatten)

/-- This end's SESSION cell (R406, R420). -/
def Block.sessionCell (s : Block) (l : Nat) : List Byte :=
  let flag (b : Bool) (v : Nat) : Nat := if b then v else 0
  s.cellNow l 0 tySession (leBytes 8 (flag (s.link l).session.isSome 1 + flag (s.isSet F.PFR_LEVEL_ROUTER) 2
      + flag (s.isSet (F.PFL_STATUS_RATE l)) 4)
    ++ leBytes 4 s.ownNode ++ leBytes 4 (s.fld (F.PFL_OWN_INC_INC l)) ++ leBytes 4 (s.fld (F.PFL_PARTNER_NODE_NODE l))
    ++ leBytes 4 (s.fld (F.PFL_PARTNER_INC_INC l)) ++ leBytes 2 (s.fld (F.PFL_SEQ_RX_NEXT l))
    ++ leBytes 2 (s.fld (F.PFL_SEQ_TX_NEXT l)))

/-- A NAK of the missing SEQs not named since they were last repeated, as far as one bitmap reaches (R390, R399). -/
def Block.sendNak (s : Block) (l : Nat) : List Byte × Block :=
  let k := s.link l
  let want := (s.missing l).filter fun q => !k.named.contains q
  let base := want.headD 0
  let now := want.filter fun q => decide ((q + 4096 - base) % 4096 < 512)
  let map := now.foldl (fun v q => v + 2 ^ ((q + 4096 - base) % 4096)) 0
  (s.cellNow l 0 tyNak (leBytes 8 base ++ leBytes 64 map),
    (s.setLink l { k with named := k.named ++ now, nakDue := decide (now.length < want.length), nakGap := 0 }).bump
      (F.PFL_NAK_SENT_COUNT l))

/-- The bytes of a sequenced cell. -/
def Block.txBytes (s : Block) (l : Nat) (c : TxCell) : List Byte :=
  match c.cell with
  | some d => s.cellNow l c.seq tyData (leBytes 8 d.hdr ++ d.payload)
  | none => s.cellNow l c.seq tyVoid []

/-- A cell of the replay buffer resent, and counted (R399, R401). -/
def Block.resend (s : Block) (l : Nat) (c : TxCell) : List Byte × Block :=
  let k := s.link l
  let s1 := s.setLink l { k with
    tx := k.tx.map fun x => if x.seq = c.seq then { x with due := false, resends := x.resends + 1 } else x }
  (s.txBytes l c, (s1.event 8 2 (match c.cell with
    | some d => s.cellAttr d
    | none => .none_)).countResend l c)

/-- The stamps of a TIME cell as it leaves: t1 of a child, t3 of a parent (R433). -/
def Block.stampLeaving (s : Block) (l : Nat) (c : Cell) : Block :=
  let ch := s.net.router.chrono
  if c.kind ≠ kTime then s
  else if !s.isSet F.PFR_CHR_CFG_MASTER ∧ s.fld F.PFR_CHR_CFG_PARENT_PORT = l then s.setChrono { ch with sent := some ch.time }
  else
    match Assoc.find l ch.owed with
    | some (t2, _) => s.setChrono { ch with owed := Assoc.ins l (t2, ch.time) ch.owed }
    | none => s

/-- A new DATA cell takes the next SEQ (R396, R397). -/
def Block.sendNew (s : Block) (l : Nat) (c : Cell) (arrived : Option (Nat × Nat)) : List Byte × Block :=
  let n := s.fld (F.PFL_SEQ_TX_NEXT l)
  let x : TxCell := { seq := n, cell := some c }
  let k := s.link l
  let s1 := ((((s.event 8 0 (s.cellAttr c)).setLink l { k with tx := k.tx ++ [x] }).setFld (F.PFL_SEQ_TX_NEXT l) ((n + 1) % 4096)).countTx l).stampLeaving l c
  (s.txBytes l x, match arrived with
    | some (p, _) => if p < 96 then s1.updateOff p else s1
    | none => s1)

/-- What fills a cell slot in UP (R400, items 3 to 7). -/
def Block.upCell (s : Block) (l : Nat) : List Byte × Block :=
  let k := s.link l
  let idle (t : Block) : List Byte × Block := (t.cellNow l 0 tyIdle [], t)
  if k.nakDue ∧ 8 ≤ k.nakGap then s.sendNak l
  else
    match (k.tx.find? fun x => x.due && x.cell.isSome).orElse fun _ => k.tx.find? (·.due) with
    | some x => s.resend l x
    | none =>
      if 1024 ≤ k.tx.length then idle s
      else
        match s.takeData l with
        | (some (.cell c arrived), t) => t.sendNew l c arrived
        | (_, t) => idle t

/-- What fills a cell slot (R400). -/
def Block.slotCell (s : Block) (l : Nat) : List Byte × Block :=
  let k := s.link l
  let st := s.linkState l
  if k.slot = 0 then (s.markerCell l, s.setLink l { k with markers := (k.markers + 1) % 65536 })
  else if st = lkRetrain ∧ 0 < k.retrainCells then
    (s.cellNow l 0 tyRetrain (leBytes 8 (s.fld (F.PFL_STATUS_REASON l))), s.setLink l { k with retrainCells := k.retrainCells - 1 })
  else if st = lkSession ∧ k.sessGap = 0 then (s.sessionCell l, s.setLink l { k with sessGap := 16 })
  else if st = lkUp then s.upCell l
  else (s.cellNow l 0 tyIdle [], s)

/-- Two cells sent as a codeword: encoded, distributed over the lanes and scrambled (R383–R385). -/
def Block.sendCodeword (s : Block) (l : Nat) (marker : Bool) (bytes : List Byte) : Block :=
  let k := s.link l
  let c := lcEncode (lcMessage bytes)
  let par := laneParity c
  let seeds := if marker then (List.range 4).map scrambleSeed else k.txScramble
  let sent := (List.range 4).map fun n => scrambleSymbols (laneSymbols c n) (seeds.getD n 0)
  (s.setLink l { k with
    half := none
    txScramble := sent.map (·.2)
    txParity := if marker then par else List.zipWith (· ^^^ ·) k.txParity par }).emit
    (.codeword l (sent.map fun x => laneLevels x.1))

/-- The slot counters after one slot (R391, R399, R406, R447). -/
def Block.passSlot (s : Block) (l : Nat) : Block :=
  let k := s.link l
  let s1 := s.setLink l { k with slot := (k.slot + 1) % 8192, nakGap := min 8 (k.nakGap + 1), sessGap := k.sessGap - 1 }
  forEach [0, 1, 2, 3] (fun c t => t.setShape { t.net.shape with
    fwGap := Assoc.put 0 (4 * l + c) (Assoc.get 0 (4 * l + c) t.net.shape.fwGap - 1) t.net.shape.fwGap }) s1

/-- A cell slot of a link (R400): two slots form a codeword. -/
def execLinkSlot (link : Fin 96) (s : State) : Out :=
  s.act fun s => (
    let l := link.val
    if !s.sends l || s.pwr.held then s
    else
      let (bytes, t) := (s.updateOff l).slotCell l
      if t.linkState l = lkDown then t
      else
        match (t.link l).half with
        | none => (t.setLink l { t.link l with half := some bytes }).passSlot l
        | some first => (t.sendCodeword l (decide ((t.link l).slot = 1)) (first ++ bytes)).passSlot l)

end Sys2Proof.Machine
end

