-- ==== Sys2Proof/Machine/LinkTrain.lean ====
section
/-! DEFINITION.  Training (R393–R395), sessions (R406), partners that vanish (R404, R405), fences (R407), link commands and
resets (R408, R409). -/

namespace Sys2Proof.Machine

/-! ## OFF and DETECT -/

/-- A link goes to OFF. -/
def Block.linkOff (s : Block) (l : Nat) : Block :=
  let s1 := s.setLinkState l lkOff
  s1.setLink l { s1.link l with step := 0, half := none, retrainCells := 0, downAt := none }

/-- A link goes to DETECT, unless PWR_FAIL_N holds its lanes in electrical idle (R50). -/
def Block.linkDetect (s : Block) (l : Nat) : Block :=
  if s.pwr.held then s
  else
    let s1 := s.setLinkState l lkDetect
    s1.setLink l { s1.link l with step := 0, half := none, retrainCells := 0, downAt := none }

/-- A link in OFF goes to DETECT where EN is 1, its reset released and its reference locked (Table 13-10); one released
without its reference clock reports the reference-lock failure (R63, R76). -/
def Block.linkWake (s : Block) (l : Nat) : Block :=
  let k := s.link l
  if s.linkState l = lkOff ∧ k.released ∧ k.refLost then s.setFld (F.PFL_STATUS_REASON l) 0xD
  else if s.linkState l = lkOff ∧ s.isSet (F.PFL_CTRL_EN l) ∧ k.released then s.linkDetect l else s

/-- The reset of a link released. -/
def Block.releaseLink (s : Block) (l : Nat) : Block := (s.setLink l { s.link l with released := true }).linkWake l

/-- A Link reset (R408). -/
def Block.linkReset (s : Block) (l : Nat) : Block :=
  let st := s.linkState l
  if st = lkUp ∨ st = lkSession then s.linkRetrain l 0x6
  else if st = lkTrain then
    (s.setLink l { s.link l with step := 0, half := none }).setFld (F.PFL_STATUS_REASON l) 0x6
  else if st = lkRetrain then s.setLink l { s.link l with retrainCells := 8 }
  else if st = lkDown then s.linkDetect l
  else s

/-! ## Training frames (R394) -/

/-- The field, minimum and maximum of a tap that may be requested (Tables 13-2, 13-11). -/
def tapField (l q tap : Nat) : Option (Fld × Int × Int) :=
  match tap with
  | 0 => some (F.PFL_LANE_TXEQ_PRE3 l q, -4, 0)
  | 1 => some (F.PFL_LANE_TXEQ_PRE2 l q, 0, 8)
  | 2 => some (F.PFL_LANE_TXEQ_PRE1 l q, -20, 0)
  | 4 => some (F.PFL_LANE_TXEQ_POST1 l q, -12, 0)
  | _ => none

/-- A tap's signed value. -/
def Block.tap (s : Block) (f : Fld) : Int :=
  let v := s.fld f
  if 32 ≤ v then (v : Int) - 64 else v

/-- MAIN is what remains of 64 after the other taps (R382). -/
def Block.setMain (s : Block) (l q : Nat) : Block :=
  let used := ([0, 1, 2, 4].map fun t =>
    match tapField l q t with
    | some (f, _) => (s.tap f).natAbs
    | none => 0).foldl (· + ·) 0
  s.setFld (F.PFL_LANE_TXEQ_MAIN l q) (64 - used)

/-- A tap moved to a value. -/
def Block.setTap (s : Block) (l q : Nat) (f : Fld) (v : Int) : Block := (s.setFld f ((v + 64) % 64).toNat).setMain l q

/-- A request for a tap of a lane: its response and the taps after it. -/
def Block.tapRequest (s : Block) (l q tap req : Nat) : Nat × Block :=
  match tapField l q tap with
  | none => (if req = 3 then 1 else if req = 1 then 3 else 2, s)
  | some (f, lo, hi) =>
    let v := s.tap f
    match req with
    | 1 => if hi ≤ v then (3, s) else (1, s.setTap l q f (v + 1))
    | 2 => if v ≤ lo then (2, s) else (1, s.setTap l q f (v - 1))
    | _ => (1, s.setTap l q f 0)

/-- Whether a training word has a reserved value. -/
def wordReserved (w : Nat) : Bool :=
  decide (5 ≤ getBits w 31 29) || decide (5 ≤ getBits w 24 22)
    || decide (getBits w 21 19 = 5) || decide (getBits w 21 19 = 6) || decide (getBits w 17 0 ≠ 0)

/-- The partner's RX_UNUSED and RX_READY taken. -/
def Block.takeReport (s : Block) (l w : Nat) : Block :=
  let s1 := s.setLink l { s.link l with peerReady := decide (getBits w 18 18 = 1) }
  if getBits w 21 19 < 5 then s1.mapTx l (getBits w 21 19) else s1

/-- A training frame's word is received on a lane: its request is applied and answered, its report taken (R394, R395); in
UP, on a lane in use, it says that the partner retrains (Table 13-10). -/
def execTrainingFrameReceive (link : Fin 96) (lane : Fin 5) (word : BitVec 32) (s : State) : Out :=
  s.act fun s => (
    let l := link.val
    let q := lane.val
    let w := word.toNat
    let st := s.linkState l
    if wordReserved w then s
    else if st = lkUp then (if s.fld (F.PFL_LANE_STATUS_RX_ROLE l q) < 4 then s.linkRetrain l 0xE else s)
    else if st = lkRetrain then s.takeReport l w
    else if st = lkTrain ∧ (s.link l).step < 5 then
      let s1 := s.takeReport l w
      let req := getBits w 28 27
      if req = 0 then s1
      else
        let (resp, s2) := s1.tapRequest l q (getBits w 31 29) req
        (s2.setLink l { s2.link l with tapResp := Assoc.put 0 q resp (s2.link l).tapResp }).emit (.training l q resp)
    else s)

/-! ## Steps of Table 13-7 -/

/-- A step of a training that has done `done` steps before it. -/
def Block.trainStep (s : Block) (l done : Nat) (act : Block → Block) : Block :=
  if s.linkState l = lkTrain ∧ (s.link l).step = done then
    let t := s.setLink l { s.link l with step := done + 1 }
    act t
  else s

/-- The sending side starts at a marker codeword. -/
def Block.startSlots (s : Block) (l : Nat) : Block :=
  s.setLink l { s.link l with slot := 0, half := none, txParity := [0, 0, 0, 0], sessGap := 0 }

/-- The receiving side is aligned: the next codeword is a marker codeword. -/
def Block.alignRx (s : Block) (l : Nat) : Block :=
  s.setLink l { s.link l with rxPos := 0, rxMarker := none, markerLost := false, badInterval := false, rxParity := [0, 0, 0, 0] }

/-- The lanes that a mask names. -/
def failedLanes (mask : BitVec 5) : List Nat := (List.range 5).filter fun q => mask.getLsbD q

/-- The eye heights of the lanes shown. -/
def Block.showEyes (s : Block) (l : Nat) (eyes : List (BitVec 8)) : Block :=
  forEach (List.range 5) (fun q t => t.setFld (F.PFL_LANE_STATUS_EYE_MV l q) (eyes.getD q 0).toNat) s

/-- Step 1: partner signal on at least four lanes. -/
def execTrainDetect (link : Fin 96) (s : State) : Out :=
  s.act fun s => (
    let l := link.val
    let k := s.link l
    if s.linkState l = lkDetect ∨ (s.linkState l = lkTrain ∧ k.step = 0) then
      (s.setLinkState l lkTrain).setLink l { k with step := 1, rxFailed := [], tapResp := [], peerReady := false }
    else s)

/-- Step 2: clock and data recovery locked on each lane. -/
def execTrainCdrLock (link : Fin 96) (s : State) : Out := s.act fun s => (s.trainStep link.val 1 id)

/-- Step 3: the transmitter FFE is set. -/
def execTrainFfeDone (link : Fin 96) (s : State) : Out := s.act fun s => (s.trainStep link.val 2 id)

/-- Step 4: the receiver is adapted, its lanes judged and mapped (R395). -/
def execTrainAdaptDone (link : Fin 96) (failed : BitVec 5) (eyes : List (BitVec 8)) (s : State) : Out :=
  s.act fun s => (s.trainStep link.val 3 fun t => ((t.showEyes link.val eyes).mapRx link.val (failedLanes failed) id).startSlots link.val)

/-- Step 5: lanes deskewed and codewords aligned on the first marker codeword. -/
def execTrainAlignDone (link : Fin 96) (s : State) : Out := s.act fun s => (s.trainStep link.val 4 fun t => t.alignRx link.val)

/-- Step 6: 64 codewords in succession have decoded. -/
def execTrainCodewordCheckDone (link : Fin 96) (s : State) : Out :=
  s.act fun s => (s.trainStep link.val 5 fun t => t.enterSession link.val)

/-- A step overruns its bound. -/
def execTrainStepTimeout (link : Fin 96) (s : State) : Out :=
  s.act fun s => (if s.linkState link.val = lkTrain then s.linkDown link.val 0x8 else s)

/-- Both ends have received a SESSION with ECHO set: the session resumes or starts new (R406). -/
def execSessionExchangeDone (link : Fin 96) (rtt : BitVec 16) (s : State) : Out :=
  s.act fun s => (
    let l := link.val
    match (s.link l).session with
    | some p => if s.linkState l = lkSession ∧ (s.link l).echoed then s.endSession l p rtt.toNat else s
    | none => s)

/-- SESSION lasts 100 µs (Table 13-10). -/
def execSessionTimeout (link : Fin 96) (s : State) : Out :=
  s.act fun s => (if s.linkState link.val = lkSession then s.linkDown link.val 0x8 else s)

/-- A retrain completes: the lanes are judged again, and a failed one is replaced by the unused one (R393, R395). -/
def execRetrainDone (link : Fin 96) (failed : BitVec 5) (eyes : List (BitVec 8)) (s : State) : Out :=
  s.act fun s => (
    let l := link.val
    if s.linkState l ≠ lkRetrain then s
    else
      let bad := (List.range 5).filter fun q => (s.link l).rxFailed.contains q || (failedLanes failed).contains q
      (s.showEyes l eyes).mapRx l bad fun t => ((t.startSlots l).alignRx l).enterSession l)

/-- A retrain does not complete in 200 µs: a full training follows (R401). -/
def execRetrainTimeout (link : Fin 96) (s : State) : Out :=
  s.act fun s => (
    let l := link.val
    if s.linkState l = lkRetrain then
      (s.setLinkState l lkTrain).setLink l { s.link l with step := 0, half := none, retrainCells := 0 }
    else s)

/-! ## While UP -/

/-- Over 1 s a lane in use shows 2 parity failures or, with `symbols`, too many corrected symbols (R395). -/
def execLaneDegraded (link : Fin 96) (lane : Fin 5) (symbols : Bool) (s : State) : Out :=
  s.act fun s => (
    let l := link.val
    if s.linkState l = lkUp ∧ s.fld (F.PFL_LANE_STATUS_RX_ROLE l lane.val) < 4 then
      (s.failLane l lane.val).when symbols fun t => t.retrainIf l 0xC
    else s)

/-- An OFF bit, sent or received, has stayed set for OFF_STUCK_MS (R403). -/
def execOffStuck (link : Fin 96) (cls : Fin 4) (sent : Bool) (s : State) : Out :=
  s.act fun s => (
    let l := link.val
    let bits := s.fld (if sent then F.PFL_CLASS_OFF_SENT l else F.PFL_CLASS_OFF_RECEIVED l)
    if getBits bits cls.val cls.val = 1 then (s.bump (F.PFL_OFF_STUCK_COUNT l)).health (.offStuck l cls.val) else s)

/-- Two lanes in use lose their signal (R404). -/
def execPartnerLossSignal (link : Fin 96) (s : State) : Out :=
  s.act fun s => (
    let st := s.linkState link.val
    if st = lkSession ∨ st = lkUp ∨ st = lkRetrain then s.linkDown link.val 0xA else s)

/-- No codeword has decoded for 4 µs, outside RETRAIN (R404). -/
def execPartnerLossDecode (link : Fin 96) (s : State) : Out :=
  s.act fun s => (
    let st := s.linkState link.val
    if st = lkSession ∨ st = lkUp then s.linkDown link.val 0xA else s)

/-- RETRY_MS in DOWN elapses (R405, Table 13-10). -/
def execDownRetryExpiry (link : Fin 96) (s : State) : Out :=
  s.act fun s => (
    let l := link.val
    if s.linkState l = lkDown ∧ s.isSet (F.PFL_CTRL_AUTO l) then s.linkDetect l else s)

/-! ## Commands -/

/-- A refused command or write. -/
def Block.linkRefuse (s : Block) (l : Nat) : Block := s.setFld (F.PFL_STATUS_CMD_ERR l) 1

/-- PFL_FENCE written (R407). -/
def execPflFenceWrite (by_ : Actor) (link : Fin 96) (mask : BitVec 32) (s : State) : Out :=
  s.act fun s => (s.byFull by_ fun s =>
    let l := link.val
    let st := s.linkState l
    if st = lkDown ∨ st = lkDetect ∨ st = lkTrain then s.discard l 1 2 (fun p => mask.getLsbD p) true else s.linkRefuse l)

/-- PFL_CMD RETRAIN (R409). -/
def execPflRetrain (by_ : Actor) (link : Fin 96) (s : State) : Out :=
  s.act fun s => (s.byFull by_ fun s => if s.linkState link.val = lkUp then s.linkRetrain link.val 0x5 else s.linkRefuse link.val)

/-- PFL_CMD DOWN (R409). -/
def execPflDown (by_ : Actor) (link : Fin 96) (s : State) : Out :=
  s.act fun s => (s.byFull by_ fun s =>
    let st := s.linkState link.val
    if st = lkOff then s.linkRefuse link.val else if st = lkDown then s else s.linkDown link.val 0x5)

/-- PFL_CMD UP (R409): after RETRY_MS in DOWN. -/
def execPflUp (by_ : Actor) (link : Fin 96) (s : State) : Out :=
  s.act fun s => (s.byFull by_ fun s =>
    let l := link.val
    if s.linkState l = lkDown ∧ ((s.link l).downAt.getD 0) + 1000 * s.fld (F.PFL_CTRL_RETRY_MS l) ≤ s.now then s.linkDetect l
    else s.linkRefuse l)

/-- PFL_CTRL.EN written 1 (Table 13-10). -/
def execLinkEnable (by_ : Actor) (link : Fin 96) (s : State) : Out :=
  s.act fun s => (s.byFull by_ fun s => (s.setFld (F.PFL_CTRL_EN link.val) 1).linkWake link.val)

/-- PFL_CTRL.EN written 0 (Table 13-10). -/
def execLinkDisable (by_ : Actor) (link : Fin 96) (s : State) : Out :=
  s.act fun s => (s.byFull by_ fun s => (s.setFld (F.PFL_CTRL_EN link.val) 0).linkOff link.val)

/-- A chiplet's reference clock is lost: its eight links go to OFF (R63, Table 13-10). -/
def execPfRefclkLoss (chiplet : Fin 12) (s : State) : Out :=
  s.act fun s => (forEach ((List.range 8).map (8 * chiplet.val + ·)) (fun l t =>
    ((t.linkOff l).setFld (F.PFL_STATUS_REASON l) 0xD).setLink l { (t.linkOff l).link l with refLost := true }) s)

/-- A chiplet's reference clock runs in range again and locks. -/
def execPfRefclkReturn (chiplet : Fin 12) (s : State) : Out :=
  s.act fun s => (forEach ((List.range 8).map (8 * chiplet.val + ·)) (fun l t =>
    (t.setLink l { t.link l with refLost := false }).linkWake l) s)

end Sys2Proof.Machine
end

