-- ==== Sys2Proof/Machine/Router.lean ====
section
/-! DEFINITION.  The router (R420–R425, R428): forwarding, delivery to the pool itself, parked cells, the BUSY ledger and the
owed table, route tables, buffer errors (R430). -/

namespace Sys2Proof.Machine

/-! ## Payload checks (R415) -/

/-- Whether the payload bytes outside the named spans are 0. -/
def Cell.only (c : Cell) (spans : List (Nat × Nat)) : Bool :=
  (List.range 64).all fun i => (spans.any fun s => decide (s.1 ≤ i) && decide (i < s.1 + s.2)) || decide (c.payload.getD i 0 = 0)

/-- The cells of data of a READ or WRITE. -/
def Cell.lines (c : Cell) : Nat := c.idx + 1

/-- Whether a request's payload is as Table 14-3 has it. -/
def Cell.payloadOk (c : Cell) : Bool :=
  match c.kind with
  | 0x1 => c.only [(0, 6)] && decide (c.w 0 % 64 = 0)
  | 0x2 => c.only [(0, 6), (8, 16)] && decide (c.w 0 % 64 = 0) && decide (c.w 8 ≠ 0)
      && (decide (1 < c.lines) || decide (c.w 8 = c.w 16))
  | 0x4 => c.only [(0, 7), (16, 48)] && decide (1 ≤ c.f 0 55 48) && decide (c.f 0 55 48 ≤ 48)
      && decide (c.f 0 47 0 % 64 + c.f 0 55 48 ≤ 64)
  | 0x5 => c.only [(0, 2), (7, 1), (8, 16)] && decide (c.f 0 59 56 = 0) && decide (2 ≤ c.f 0 63 60) && decide (c.f 0 63 60 ≤ 6)
  | 0x6 => c.only [(0, 2), (8, 8)] && decide (c.f 0 15 12 = 0)
  | 0x9 =>
    match c.f 0 63 56 with
    | 0x01 => c.only [(0, 3), (7, 1)]
    | 0x02 => c.only [(0, 3), (7, 5)]
    | 0x10 =>
      c.only [(0, 8), (16, 8), (48, 16)]
        && match c.f 0 55 48 with
          | 1 => decide (c.f 0 47 32 = 0) && decide (c.f 0 27 7 = 0)
          | 2 => decide (c.f 0 47 32 = 0) && decide (c.f 0 27 5 = 0)
          | _ => false
    | _ => false
  | _ => true

/-! ## Cells in the pool -/

/-- The first cell of a port and class in the inbox that its meter has let pass. -/
def Block.headIn (s : Block) (p cls : Nat) : Option InCell :=
  s.net.router.inbox.find? fun e =>
    decide (e.port = p) && decide (e.cls = cls) && (e.colour.isSome || !s.isMetered e.cell)

/-- A cell taken out of the inbox: its buffer is free. -/
def Block.dropIn (s : Block) (e : InCell) : Block :=
  let t := s.setRouter { s.net.router with inbox := s.net.router.inbox.erase e }
  if e.port < 96 then t.updateOff e.port else t

/-- A delivered cell taken: its buffer is free. -/
def Block.dropLocal (s : Block) (e : InCell) : Block :=
  let t := s.setRouter { s.net.router with local_ := s.net.router.local_.erase e }
  if e.port < 96 then t.updateOff e.port else t

/-- Whether a node's request with a TAG is in the ledger. -/
def Block.inLedger (s : Block) (c : Cell) : Bool :=
  s.net.router.ledger.any fun e => decide (e.2.1.src = c.src) && decide (e.2.1.dst = c.dst) && decide (e.2.1.tag = c.tag)

/-- Whether a write being reassembled is of a cell's source, destination and TAG (a TAG is one requester's to one DST, R417). -/
def Reasm.isFor (r : Reasm) (c : Cell) : Bool := decide (r.src = c.src) && decide (r.dst = c.dst) && decide (r.tag = c.tag)

/-- The reassembly entries of a die. -/
def Block.reasmOf (s : Block) (die : Nat) : Nat := (s.net.router.reasm.filter fun r => decide (dieOfLink r.port = die)).length

/-- A cell of a write refused: its whole write is BUSY, once, and its other cells are discarded (R428, Table 15-3). -/
def Block.busyWrite (s : Block) (c : Cell) (port : Nat) : Block :=
  let r := s.net.router
  match r.reasm.find? (·.isFor c) with
  | some x =>
    if x.busy then s
    else (s.setRouter { r with
      reasm := r.reasm.map fun y => if y.isFor c then { y with busy := true, head := none, data := [] } else y }).busy c port
  | none =>
    let t := if s.inLedger c then s else s.busy c port
    if s.reasmOf (dieOfLink port) < 8192 then
      t.setRouter { t.net.router with
        reasm := t.net.router.reasm ++ [{ src := c.src, dst := c.dst, tag := c.tag, port := port, since := s.now, busy := true }] }
    else t

/-- A request that is not executed (R428, Table 15-3): its answer is BUSY; a NOTIFY is dropped. -/
def Block.refuseBusy (s : Block) (c : Cell) (port : Nat) : Block :=
  if c.kind = kNotify then s
  else if c.kind = kWrite ∨ c.kind = kWdata then s.busyWrite c port
  else s.busy c port

/-- Whether a request cell is answered itself: a NOTIFY is not, and a WDATA by its write (Table 14-2). -/
def Cell.answered (c : Cell) : Bool := c.isRequest && decide (c.kind ≠ kNotify) && decide (c.kind ≠ kWdata)

/-! ## Forwarding -/

/-- A cell delivered to the pool itself (R428); none while an answer must wait. -/
def Block.deliverLocal (s : Block) (e : InCell) : Option Block :=
  let c := e.cell
  if c.answered && !c.payloadOk then (s.dropIn e).rsp c e.port rsBadCell 0 0
  else
    let put (x : InCell) : Block :=
      let t := s.dropIn e
      t.setRouter { t.net.router with local_ := t.net.router.local_ ++ [x] }
    if e.cls = clsFwd ∧ c.isRequest ∧ c.kind ≠ kNotify then
      if s.freeSpace e.port clsReq = 0 then some ((s.dropIn e).refuseBusy c e.port) else some (put { e with cls := clsReq })
    else some (put e)

/-- A cell with no route answered NO_ROUTE and counted (R424, R425); none while the answer must wait. -/
def Block.noRoute (s : Block) (e : InCell) : Option Block :=
  let t := (s.dropIn e).bump F.PFR_NO_ROUTE_COUNT
  if e.cell.answered then t.rsp e.cell e.port rsNoRoute 0 0 else some t

/-- A cell put in the queue of the port it leaves by: collective cells keep their class, others go in the forward class
(R412, Table 15-2). -/
def Block.sendOn (s : Block) (p : Nat) (e : InCell) : Block :=
  let from_ := if e.port < 96 then some (e.port, e.cls) else none
  if e.cls = clsColl then s.enqueue p clsColl .plain (.cell e.cell from_)
  else s.enqueue p clsFwd .forward (.cell (e.cell.inClass clsFwd) from_)

/-- A cell for another node (R421–R425); none while it must wait.  The other cells of a write that was refused are
discarded (Table 15-3). -/
def Block.passOn (s : Block) (e : InCell) : Option Block :=
  let c := e.cell
  let refused := decide (c.kind ∈ [kWrite, kWdata]) && s.net.router.reasm.any fun r => r.busy && r.isFor c
  if refused then some (s.dropIn e)
  else if !s.isSet F.PFR_LEVEL_ROUTER then
    if c.isRequest then s.noRoute e else some ((s.dropIn e).bump F.PFR_NO_ROUTE_COUNT)
  else
    let up := s.upPhase e.port
    match s.route up c.dst c.src c.tag with
    | some p =>
      let t := s.setRouter { s.net.router with inbox := s.net.router.inbox.erase e }
      some (t.sendOn p e)
    | none =>
      if e.cls = clsReq ∨ e.cls = clsColl then s.noRoute e
      else if s.fld F.PFR_PARK_CFG_PARK_CAP ≤ s.parkedOf (dieOfLink e.port) then none
      else
        let t := s.setRouter { s.net.router with inbox := s.net.router.inbox.erase e }
        some ((t.park (s.waitSet up c.dst) e).updateOff e.port)

/-- The first cell of a class that waits at a port is delivered or forwarded (R421–R425, R428). -/
def execCellForward (port : Fin 96) (cls : Fin 4) (s : State) : Out :=
  s.act fun s => (
    match s.headIn port.val cls.val with
    | none => s
    | some e =>
      (if !s.isSet F.PFR_NODE_VALID ∨ e.cell.dst = s.node then s.deliverLocal e else s.passOn e).getD (s.updateOff e.port))

/-- A parked cell released to a port: an answer of the pool itself enters the queue it was bound for; none while that
queue is full. -/
def Block.releaseParked (s : Block) (p : Nat) (e : InCell) : Option Block :=
  if e.port < 96 then some (s.sendOn p e)
  else
    (if e.port = 129 then some QueueKind.firmware else s.answerQueue ((s.groupOf e.cell.dst).map (256 + ·))).map fun k =>
      s.enqueue p clsRsp k (.cell e.cell none)

/-- The parked cells whose sets hold an available port are released to it in their order of arrival (R424). -/
def execParkedRelease (port : Fin 96) (s : State) : Out :=
  s.act fun s => (
    let p := port.val
    if !s.portAvail p then s
    else
      forEach (s.net.router.parked.filter fun e => (s.setPorts e.1).contains p) (fun e t =>
        match (t.setRouter { t.net.router with parked := t.net.router.parked.erase e }).releaseParked p e.2 with
        | some t1 => if e.2.port < 96 then t1.updateOff e.2.port else t1
        | none => t) s)

/-! ## The ledger, the owed table, the pool's own requests -/

/-- An entry of a die's BUSY ledger is sent as RSP BUSY (R428). -/
def execBusyLedgerSend (die : Fin 4) (s : State) : Out :=
  s.act fun s => (
    match s.ledgerOf die.val with
    | [] => s
    | x :: _ =>
      ((s.setRouter { s.net.router with ledger := s.net.router.ledger.erase x }).rsp x.2.1 x.2.2 rsBusy 0 0).getD s)

/-- An owed answer of a die is sent (R428). -/
def execOwedRspSend (die : Fin 4) (s : State) : Out :=
  s.act fun s => (
    match s.net.router.owed.find? fun x => decide (x.1 = die.val) with
    | none => s
    | some x => ((s.setRouter { s.net.router with owed := s.net.router.owed.erase x }).sendBack x.2.1 false x.2.2).getD s)

/-- The open request of the pool that an answer is for. -/
def Block.openReq (s : Block) (dst tag : Nat) : Option OutReq :=
  s.net.router.reqs.find? fun r => decide (r.dst = dst) && decide (r.tag = tag)

/-- An open request closed; one that was not done fails its destination (R344). -/
def Block.closeReq (s : Block) (r : OutReq) (ok : Bool) : Block :=
  let n := s.net.router
  s.setRouter { n with
    reqs := n.reqs.erase r
    bcasts := if ok then n.bcasts
      else n.bcasts.map fun b =>
        if b.ring = r.ring ∧ b.seq = r.seq then
          { b with dests := b.dests.map fun d => if d.idx = r.idx then { d with failed := true } else d }
        else b }

/-- The first delivered cell of a KIND from a port. -/
def Block.localCell (s : Block) (p kind : Nat) : Option InCell :=
  s.net.router.local_.find? fun e => decide (e.port = p) && decide (e.cell.kind = kind)

/-- RDATA: no request of the pool is answered with it, so none is open for it (R417). -/
def execRdata (port : Fin 96) (s : State) : Out :=
  s.act fun s => (
    match s.localCell port.val kRdata with
    | some e => (s.dropLocal e).bump F.PFR_LATE_RSP_COUNT
    | none => s)

/-- RSP closes the request it answers, or is late (R417). -/
def execRsp (port : Fin 96) (s : State) : Out :=
  s.act fun s => (
    match s.localCell port.val kRsp with
    | none => s
    | some e =>
      let t := s.dropLocal e
      match t.openReq e.cell.src e.cell.tag with
      | some r => t.closeReq r (decide (e.cell.f 0 63 56 = rsOk))
      | none => t.bump F.PFR_LATE_RSP_COUNT)

/-- A request of the pool is unanswered within TIMEOUT_US: its TAG is not used towards its DST for QUARANTINE_MS (R417). -/
def execRequestTimeout (dst : BitVec 20) (tag : BitVec 12) (s : State) : Out :=
  s.act fun s => (
    match s.openReq dst.toNat tag.toNat with
    | some r =>
      let t := s.closeReq r false
      t.setRouter { t.net.router with quarantine := t.net.router.quarantine ++ [(dst.toNat, tag.toNat, s.now)] }
    | none => s)

/-- QUARANTINE_MS after the timeout, the TAG may be used again (R417). -/
def execQuarantineExpiry (dst : BitVec 20) (tag : BitVec 12) (s : State) : Out :=
  s.act fun s => (s.setRouter { s.net.router with
    quarantine := s.net.router.quarantine.filter fun q => !(decide (q.1 = dst.toNat) && decide (q.2.1 = tag.toNat)) })

/-! ## Route tables (R422) -/

/-- The ports of three words. -/
def wordPorts (w0 w1 w2 : Nat) : List Nat :=
  (List.range 96).filter fun p => decide ((if p < 32 then w0 else if p < 64 then w1 else w2) / 2 ^ (p % 32) % 2 = 1)

/-- Whether a set of ports breaks R422 as a DOWN_SET. -/
def Block.breaksDown (s : Block) (ps : List Nat) : Bool :=
  ps.any fun p => decide (s.fld F.PFR_LEVEL_LEVEL ≤ s.fld (F.PFR_PORT_CFG_PEER_LEVEL p))

/-- Whether a set of ports breaks R422 as an UP_SET. -/
def Block.breaksUp (s : Block) (ps : List Nat) : Bool :=
  ps.any fun p => decide (s.fld (F.PFR_PORT_CFG_PEER_LEVEL p) ≤ s.fld F.PFR_LEVEL_LEVEL)

/-- The sets that some table entry names as DOWN_SET or as UP_SET. -/
def Block.namedSets (s : Block) (up : Bool) : List Nat :=
  (((s.listed (R.PFR_GROUP 0) (R.PFR_GROUP 1024) 4 0).map fun g => s.fld (if up then F.PFR_GROUP_UP_SET g else F.PFR_GROUP_DOWN_SET g))
    ++ (s.listed (R.PFR_MEMBER 0) (R.PFR_MEMBER 1024) 4 0).map fun m =>
      s.fld (if up then F.PFR_MEMBER_UP_SET m else F.PFR_MEMBER_DOWN_SET m)).eraseDups

/-- A refused write: its code. -/
def Block.routeRefuse (s : Block) (code : Nat) : Block := s.setFld F.PFR_ERR_CODE code

/-- A word of a set written. -/
def Block.writeSet (s : Block) (k w v : Nat) : Block :=
  let at_ (i : Nat) : Nat := if i = w then v else (s.reg (R.PFR_SET k i)).toNat
  let ps := wordPorts (at_ 0) (at_ 1) (at_ 2)
  if k = 0 then s
  else if (s.namedSets false).contains k ∧ s.breaksDown ps then s.routeRefuse 1
  else if (s.namedSets true).contains k ∧ s.breaksUp ps then s.routeRefuse 2
  else s.setReg (R.PFR_SET k w) (BitVec.ofNat 32 v)

/-- A table entry written. -/
def Block.writeEntry (s : Block) (addr v : Nat) : Block :=
  if s.breaksDown (s.setPorts (getBits v 7 0)) then s.routeRefuse 1
  else if s.breaksUp (s.setPorts (getBits v 15 8)) then s.routeRefuse 2
  else s.setReg addr (BitVec.ofNat 32 (v % 65536))

/-- A write of a port set or of a table entry, at an offset of the PFR block, checked against the levels (R422). -/
def execRouteTableWrite (by_ : Actor) (off : BitVec 16) (value : BitVec 32) (s : State) : Out :=
  s.act fun s => (s.byFull by_ fun s =>
    let a := off.toNat
    let v := value.toNat
    if 0x4000 ≤ a ∧ a < 0x5000 then
      if a % 16 < 12 ∧ a % 4 = 0 then s.writeSet ((a - 0x4000) / 16) (a % 16 / 4) v else s
    else if 0x8000 ≤ a ∧ a < 0xA000 ∧ a % 4 = 0 then
      s.writeEntry (if a < 0x9000 then R.PFR_GROUP ((a - 0x8000) / 4) else R.PFR_MEMBER ((a - 0x9000) / 4)) v
    else s)

/-! ## Buffer errors (R430) -/

/-- A buffered cell that takes a double-bit error is dropped, and counted as an SRAM error too (R190, R430): the `n`-th of a port and class among those that have
arrived, been delivered or been parked. -/
def execBufferUncorrectable (port : Fin 96) (cls : Fin 4) (n : BitVec 17) (s : State) : Out :=
  s.act fun s => (
    let r := s.net.router
    let mine (e : InCell) : Bool := decide (e.port = port.val) && decide (e.cls = cls.val)
    let a := r.inbox.filter mine
    let b := r.local_.filter mine
    let away := r.parked.filter fun e => mine e.2
    let lost : Option Block :=
      match a[n.toNat]? with
      | some e => some (s.dropIn e)
      | none =>
        match b[n.toNat - a.length]? with
        | some e => some (s.dropLocal e)
        | none =>
          (away[n.toNat - a.length - b.length]?).map fun e =>
            (s.setRouter { r with parked := r.parked.erase e }).updateOff port.val
    match lost with
    | some t => (t.bump F.PFR_BUF_UE_COUNT).bump F.INT_SRAM_UE_COUNT_COUNT
    | none => s)

end Sys2Proof.Machine
end

