-- ==== Sys2Proof/Machine/CellExec.lean ====
section
/-! DEFINITION.  Request cells executed at the pool (R415–R419): reads, writes and their reassembly, atomics, launches, burst
cells, notifications. -/

namespace Sys2Proof.Machine

/-! ## Who asks (R243, R462) -/

/-- Who a request cell works for: its context and partition, or the status and DETAIL it is refused with. -/
def Block.asks (s : Block) (c : Cell) : Except (Nat × Nat) (Nat × Nat) :=
  match s.groupOf c.src with
  | none => .error (rsDenied, denCtxOff)
  | some g =>
    let p := s.fld (F.PTN_SRC_GROUP_PARTITION g)
    let st := s.ptnState p
    if st = ptnWashing then .error (rsBusy, 0x01)
    else if st ≠ ptnActive ∨ !s.isSet (F.XLT_SRC_CTX_EN g) then .error (rsDenied, denCtxOff)
    else .ok (s.fld (F.XLT_SRC_CTX_CTX g), p)

/-- A cell notice for a faulting cell, unless one was given for the page within 1 ms (R259). -/
def Block.cellNotice (s : Block) (ctx ca acc reason : Nat) : Block :=
  let p := s.ctxPtn ctx
  let page := ca / 4096
  let fresh_ := s.xlt.notices.filter fun n => decide (s.now < n.2.2 + 1000)
  if !s.isSet (F.XLT_FQ_CFG_ENABLE p) ∨ fresh_.any fun n => decide (n.1 = ctx) && decide (n.2.1 = page) then s
  else
    ({ s with xlt := { s.xlt with notices := fresh_ ++ [(ctx, page, s.now)] } } : Block).enqueueRec p
      { id := 0, ctx := ctx, reason := reason, access := acc, update := false, cell := true, tasks := 0, page := page
        layer := 0, op := 0, stream := 0 }

/-- A translation for a cell: a DPA, or the DETAIL of its denial (R243, R248, R259), or none yet. -/
def Block.cellXlate (s : Block) (ctx ca acc : Nat) (priv : Bool) : Except (Option Nat) Nat × Block :=
  match s.translate ctx ca acc priv with
  | (.ok dpa, t) => (.ok dpa, t)
  | (.wait, t) => (.error none, t)
  | (.deny code, t) => (.error (some code), t)
  | (.fault reason _, t) =>
    (.error (some <| if reason = faultRights then denPageRights else denNotMapped), (t.bump F.XLT_DENY_COUNT_COUNT).cellNotice ctx ca acc reason)

/-- A request cell refused: a denial of Table 8-3, as for want of a bound context, is counted (R260). -/
def Block.refused (s : Block) (status : Nat) : Block := s.when (decide (status = rsDenied)) fun t => t.bump F.XLT_DENY_COUNT_COUNT

/-- A delivered request done with: its answer sent; none while the answer must wait. -/
def Block.finishCell (s : Block) (e : InCell) (status detail value : Nat) : Option Block :=
  (s.dropLocal e).rsp e.cell e.port status detail value

/-! ## READ -/

/-- A READ cell with more lines answered. -/
def Block.readDone (s : Block) (e : InCell) (n : Nat) : Block :=
  if e.cell.lines ≤ n then s.dropLocal e
  else
    s.setRouter { s.net.router with
      local_ := s.net.router.local_.map fun x => if x = e then { e with done := n } else x }

/-- One line of a READ answered (R415); none while it must wait. -/
def Block.answerLine (s : Block) (e : InCell) (i : Nat) : Option Block :=
  let c := e.cell
  let tell (t : Block) (status detail : Nat) : Option Block := t.sendBack (t.mkRsp c status detail 0 i) false e.port
  match s.asks c with
  | .error (status, detail) => tell (s.refused status) status detail
  | .ok (ctx, ptn) =>
    match s.cellXlate ctx (c.f 0 47 0 + 64 * i) accRead false with
    | (.error none, _) => none
    | (.error (some code), t) => tell t rsDenied code
    | (.ok dpa, t) =>
      match t.fetch (.node c.src) none ptn dpa with
      | (.wait, _) => none
      | (.addressError, t1) => tell t1 rsAddressError 0
      | (.val .poison, t1) => tell t1 rsPoison 0
      | (.val (.data b), t1) => t1.sendBack (t1.mkAnswer c kRdata i b) false e.port

/-- The context, the partition and the CAs of the lines that a request cell reaches; none for a cell that reaches none. -/
def Block.cellCas (s : Block) (c : Cell) : Option (Nat × Nat × List Nat) :=
  let lines (h : Cell) : Option (Nat × Nat × List Nat) :=
    match s.asks h with
    | .ok (ctx, ptn) => some (ctx, ptn, (List.range (max 1 h.lines)).map fun i => h.f 0 47 0 + 64 * i)
    | .error _ => none
  if c.kind = kRead ∨ c.kind = kWrite ∨ c.kind = kWriteShort then lines c
  else if c.kind = kWdata then ((s.net.router.reasm.find? (·.isFor c)).bind (·.head)).bind lines
  else (s.eng.bursts.find? fun b => decide (b.source = c.src) && decide (b.slot = c.info / 4096)).map fun b =>
    (b.ctx, s.ringPtn b.ring, [b.src + 64 * (c.info % 4096)])

/-- What a request cell waits for noted: recalls of the lines it reaches, or of the tables' (R277), and a frame (R227). -/
def Block.noteCellWait (s : Block) (e : InCell) : Block :=
  match s.cellCas e.cell with
  | none => s
  | some (ctx, ptn, cas) =>
    let acc := if e.cell.kind = kRead then accRead else accWrite
    let priv := decide (e.cell.cls = clsColl)
    let walked := forEach cas (fun ca t => match s.translate ctx ca acc priv with
      | (.wait, u) => t.keepWaits u
      | _ => t) s
    walked.noteWaits (.node e.cell.src) ptn (decide (acc = accWrite)) (cas.filterMap fun ca =>
      match (s.translate ctx ca acc priv).1 with
      | .ok d => some d
      | _ => none)

/-- The first delivered cell of a KIND from a port acted on; one that must wait stays. -/
def Block.actOn (s : Block) (p kind : Nat) (act : Block → InCell → Option Block) : Block :=
  match s.localCell p kind with
  | none => s
  | some e => (act s e).getD (s.noteCellWait e)

/-- The lines of a READ answered in order, as long as they need not wait. -/
def Block.answerLines (e : InCell) : Nat → Nat → Block → Block
  | 0, i, s => s.readDone e i
  | n + 1, i, s =>
    match s.answerLine e i with
    | some t => Block.answerLines e n (i + 1) t
    | none => (s.noteCellWait e).readDone e i

/-- A READ cell at its target (R415). -/
def execCellRead (port : Fin 96) (s : State) : Out :=
  s.act fun s => (
    match s.localCell port.val kRead with
    | some e => Block.answerLines e (e.cell.lines - e.done) e.done s
    | none => s)

/-! ## Writes -/

/-- What writing one line gave: the status of Table 14-4. -/
def lineStatus : Put → Nat
  | .done true => rsPoison
  | .addressError => rsAddressError
  | _ => rsOk

/-- The status of a write of several lines: an address error before a poison. -/
def worseStatus (a b : Nat) : Nat := if a = rsAddressError ∨ b = rsAddressError then rsAddressError else max a b

/-- Lines written in order for a node: (DPA, mask, bytes, poison); none while one must wait. -/
def Block.putLines (s : Block) (src ptn : Nat) : List (Nat × List Bool × List Byte × Bool) → Option (Nat × Block)
  | [] => some (rsOk, s)
  | (dpa, mask, bytes, poison) :: rest =>
    match s.deposit (.node src) ptn dpa mask bytes poison with
    | (.wait, _) => none
    | (r, t) =>
      let t1 := match r with
        | .done _ => t.watchHit dpa
        | _ => t
      (Block.putLines t1 src ptn rest).map fun (x : Nat × Block) => (worseStatus (lineStatus r) x.1, x.2)

/-- The CAs of a write translated, or the DETAIL of the first denial. -/
def Block.xlateAll (s : Block) (ctx : Nat) (priv : Bool) : List Nat → Except (Option Nat) (List Nat) × Block
  | [] => (.ok [], s)
  | ca :: rest =>
    match s.cellXlate ctx ca accWrite priv with
    | (.error code, t) => (.error code, t)
    | (.ok dpa, t) =>
      match t.xlateAll ctx priv rest with
      | (.error code, u) => (.error code, u)
      | (.ok ds, u) => (.ok (dpa :: ds), u)

/-- The byte enables of 64 bits. -/
def maskOf (m : Nat) : List Bool := (List.range 64).map fun j => decide (m / 2 ^ j % 2 = 1)

/-- A complete write applied: its status and DETAIL (R415, R416, R418); none while a line must wait. -/
def Block.applyWrite (s : Block) (r : Reasm) (head : Cell) : Option (Nat × Nat × Block) :=
  match s.asks head with
  | .error (status, detail) => some (status, detail, s.refused status)
  | .ok (ctx, ptn) =>
    let n := head.lines
    match s.xlateAll ctx (decide (head.cls = clsColl)) ((List.range n).map fun i => head.f 0 47 0 + 64 * i) with
    | (.error none, _) => none
    | (.error (some code), t) => some (rsDenied, code, t)
    | (.ok dpas, t) =>
      let lines := (List.range n).map fun i =>
        let d := (Assoc.find i r.data).getD head
        let mask := if i = 0 then head.w 8 else if i = n - 1 then head.w 16 else 2 ^ 64 - 1
        (dpas.getD i 0, maskOf mask, d.payload, d.poison)
      (t.putLines head.src ptn lines).map fun x => (x.1, 0, x.2)

/-- Whether a write is whole: its head and all its data cells are there. -/
def Reasm.whole (r : Reasm) : Bool :=
  match r.head with
  | some h => (List.range h.lines).all fun i => (Assoc.find i r.data).isSome
  | none => false

/-- The answer to a write: into the owed table for a collective one (R428). -/
def Block.answerWrite (s : Block) (head : Cell) (port status detail : Nat) : Option Block :=
  if head.cls = clsColl then
    let d := dieOfLink port
    if 4096 ≤ (s.net.router.owed.filter fun x => decide (x.1 = d)).length then some (s.bump F.PFR_ACK_DROPPED_COUNT)
    else some (s.setRouter { s.net.router with owed := s.net.router.owed ++ [(d, s.mkRsp head status detail 0, port)] })
  else s.rsp head port status detail 0

/-- A reassembly entry with a cell taken in. -/
def Reasm.join (r : Reasm) (c : Cell) : Reasm :=
  if c.kind = kWrite then { r with head := some c } else { r with data := Assoc.ins c.idx c r.data }

/-- A WRITE or WDATA cell joins its write, which is applied once whole (R418); the cells of a refused write are
discarded (Table 15-3); none while it must wait. -/
def Block.joinWrite (s : Block) (e : InCell) : Option Block :=
  let c := e.cell
  let t := s.dropLocal e
  match t.net.router.reasm.find? (·.isFor c) with
  | some x =>
    if x.busy then some t
    else
      let y := x.join c
      let swap (u : Block) (keep : List Reasm) : Block :=
        u.setRouter { u.net.router with reasm := (u.net.router.reasm.map fun z => if z.isFor c then keep else [z]).flatten }
      if !y.whole then some (swap t [y])
      else
        match y.head with
        | none => some t
        | some h =>
          match (swap t []).applyWrite y h with
          | none => none
          | some (status, detail, u) => u.answerWrite h e.port status detail
  | none =>
    if 8192 ≤ t.reasmOf (dieOfLink e.port) then some (if t.inLedger c then t else t.busy c e.port)
    else
      let x : Reasm := { src := c.src, dst := c.dst, tag := c.tag, port := e.port, since := t.now }
      some (t.setRouter { t.net.router with reasm := t.net.router.reasm ++ [x.join c] })

/-- A WRITE cell opens its write, or completes it (R418). -/
def execCellWrite (port : Fin 96) (s : State) : Out :=
  s.act fun s => s.actOn port.val kWrite Block.joinWrite

/-- A WDATA cell joins its write, or completes it (R418). -/
def execCellWdata (port : Fin 96) (s : State) : Out :=
  s.act fun s => s.actOn port.val kWdata Block.joinWrite

/-- A write is not whole 1 ms after its first cell (R418): its cells are discarded, and INCOMPLETE answered. -/
def execWriteReassemblyTimeout (src : BitVec 20) (tag : BitVec 12) (s : State) : Out :=
  s.act fun s => (
    match s.net.router.reasm.find? fun r => decide (r.src = src.toNat) && decide (r.tag = tag.toNat) with
    | none => s
    | some r =>
      let t := s.setRouter { s.net.router with reasm := s.net.router.reasm.erase r }
      if r.busy then t
      else (t.rsp (mkCell t.node r.src clsReq kWrite (r.tag * 16) false []) r.port rsIncomplete 0 0).getD s)

/-- A WRITE_SHORT cell (R415). -/
def Block.writeShort (s : Block) (e : InCell) : Option Block :=
  let c := e.cell
  match s.asks c with
  | .error (status, detail) => (s.refused status).finishCell e status detail 0
  | .ok (ctx, ptn) =>
    let n := c.f 0 55 48
    match s.cellXlate ctx (c.f 0 47 0) accWrite false with
    | (.error none, _) => none
    | (.error (some code), t) => t.finishCell e rsDenied code 0
    | (.ok dpa, t) =>
      let off := dpa % 64
      let mask := (List.range 64).map fun j => decide (off ≤ j) && decide (j < off + n)
      let bytes := fitTo 0 64 (List.replicate off 0 ++ (c.payload.drop 16).take n)
      match t.putLines c.src ptn [(dpa, mask, bytes, c.poison)] with
      | none => none
      | some (status, u) => u.finishCell e status 0 0

/-- A WRITE_SHORT cell at its target (R415). -/
def execWriteShort (port : Fin 96) (s : State) : Out :=
  s.act fun s => s.actOn port.val kWriteShort Block.writeShort

/-! ## Atomics, launches -/

/-- An ATOMIC cell of one operation (R348, R352): admitted where the context of its source group belongs to the object's
partition; it waits while the object is reserved (R350). -/
def Block.atomicCell (s : Block) (p op : Nat) : Block :=
  match s.net.router.local_.find? fun e =>
      decide (e.port = p) && decide (e.cell.kind = kAtomic) && decide (e.cell.f 0 63 60 = op) with
  | none => s
  | some e =>
    let c := e.cell
    let o := c.f 0 15 0
    (match s.asks c with
    | .error (status, detail) => (s.refused status).finishCell e status detail 0
    | .ok (ctx, _) =>
      if s.objOwner o ≠ some (s.ctxPtn ctx) then (s.bump F.ENG_SYNC_DENIED_COUNT).finishCell e rsNotPermitted 0x02 0
      else if (s.obj o).reserved.isSome then none
      else
        match s.objOp o op (c.w 8) (c.w 16) with
        | (some old, t) => (t.evalWaits).finishCell e rsOk 0 old
        | (none, t) => t.finishCell e rsNotPermitted 0x01 0).getD s

/-- An ATOMIC cell with OP READ. -/
def execAtomicRead (port : Fin 96) (s : State) : Out := s.act fun s => (s.atomicCell port.val opRead)

/-- An ATOMIC cell with OP ADD. -/
def execAtomicAdd (port : Fin 96) (s : State) : Out := s.act fun s => (s.atomicCell port.val opAdd)

/-- An ATOMIC cell with OP SWAP. -/
def execAtomicSwap (port : Fin 96) (s : State) : Out := s.act fun s => (s.atomicCell port.val opSwap)

/-- An ATOMIC cell with OP CAS. -/
def execAtomicCas (port : Fin 96) (s : State) : Out := s.act fun s => (s.atomicCell port.val opCas)

/-- An ATOMIC cell with OP SIGNAL. -/
def execAtomicSignal (port : Fin 96) (s : State) : Out := s.act fun s => (s.atomicCell port.val opSignal)

/-- An operator-launch cell: an 8-byte write of PRODUCE to the ring's doorbell line (R317). -/
def Block.launchCell (s : Block) (e : InCell) : Option Block :=
  let c := e.cell
  let r := c.f 0 11 0
  match s.asks c with
  | .error (status, detail) => (s.refused status).finishCell e status detail 0
  | .ok (_, ptn) =>
    if s.ringPtn r ≠ ptn then s.finishCell e rsNotPermitted 0x02 0
    else if s.ringMode r = mdOff ∨ !s.isSet (F.RNG_CFG_ENABLE r) then s.finishCell e rsNotPermitted 0x03 0
    else
      match s.putLines c.src ptn [(s.cplBase r, maskOf 0xFF, fitTo 0 64 (leBytes 8 (c.w 8)), false)] with
      | none => none
      | some (status, t) => t.finishCell e status 0 0

/-- An operator-launch cell at its target (R317). -/
def execLaunch (port : Fin 96) (s : State) : Out :=
  s.act fun s => (((s.localCell port.val kLaunch).bind s.launchCell).getD s)

/-! ## Bursts (R337–R339, R419) -/

/-- The cell index that KLOW stands for: the one with those low bits from c − 2,048 to c + 2,047. -/
def cellIndex (c klow : Nat) : Int :=
  let base : Int := (c : Int) - 2048
  base + (((klow : Int) - base) % 4096)

/-- A cell of an open burst committed; a burst with every cell committed closes COMPLETE (R339). -/
def Block.commitCell (s : Block) (b : Burst) (k : Nat) : Block :=
  let b1 : Burst := { b with cells := if b.cells.contains k then b.cells else b.cells ++ [k] }
  let t : Block := { s with eng := { s.eng with bursts := s.eng.bursts.map fun x => if x = b then b1 else x } }
  let t1 := t.wakeBurst b.ring b.seq
  if b1.total ≤ 64 * b1.prefixCells then t1.closeBurst b1 true else t1

/-- A BURST cell (Table 11-8, R419). -/
def Block.burstCell (s : Block) (e : InCell) : Option Block :=
  let c := e.cell
  let slot := c.info / 4096
  match s.asks c with
  | .error (status, detail) => (s.refused status).finishCell e status detail 0
  | .ok _ =>
    match s.eng.bursts.find? fun b => decide (b.source = c.src) && decide (b.slot = slot) with
    | none =>
      if s.eng.closed.any fun x => decide (x.1 = c.src) && decide (x.2.2 = slot) then
        (s.bump F.ENG_BURST_STALE_COUNT).finishCell e rsStale 0 0
      else (s.bump F.ENG_BURST_REFUSED_COUNT).finishCell e rsNotOpen 0 0
    | some b =>
      let pre := b.prefixCells
      let k := cellIndex pre (c.info % 4096)
      if k < pre then s.finishCell e rsOk 0 b.committed
      else if b.total ≤ 64 * k.toNat then (s.bump F.ENG_BURST_REFUSED_COUNT).finishCell e rsOutOfRange 0 b.committed
      else
        let off := 64 * k.toNat
        let n := min 64 (b.total - off)
        -- A piece of the cell in one line: its CA and its bytes.
        let parts := pieces (b.src + off) n
        match s.xlateAll b.ctx false (parts.map (·.1)) with
        | (.error none, _) => none
        | (.error (some code), t) => t.finishCell e rsDenied code 0
        | (.ok dpas, t) =>
          let lines := (List.range parts.length).map fun i =>
            let p := parts.getD i (0, 0)
            let dpa := dpas.getD i 0
            let skip := dpa % 64
            (dpa, (List.range 64).map fun j => decide (skip ≤ j) && decide (j < skip + p.2),
              fitTo 0 64 (List.replicate skip 0 ++ (c.payload.drop (p.1 - b.src - off)).take p.2), false)
          match t.putLines c.src (t.ringPtn b.ring) lines with
          | none => none
          | some (status, u) =>
            if status ≠ rsOk then u.finishCell e status 0 b.committed
            else
              let b1 : Burst := { b with cells := b.cells ++ [k.toNat] }
              (u.finishCell e rsOk 0 b1.committed).map fun w => w.commitCell b k.toNat

/-- A BURST cell at its target (R337, R338). -/
def execBurst (port : Fin 96) (s : State) : Out :=
  s.act fun s => s.actOn port.val kBurst Block.burstCell

/-- A NOTIFY cell is taken, or dropped while the notify queue is `full` (R419). -/
def execNotify (port : Fin 96) (full : Bool) (s : State) : Out :=
  s.act fun s => (
    match s.localCell port.val kNotify with
    | none => s
    | some e =>
      let t := s.dropLocal e
      if full then t.bump F.PFR_NOTIFY_DROPPED_COUNT
      else t.setRouter { t.net.router with notices := t.net.router.notices ++ [e.cell] })

end Sys2Proof.Machine
end

