-- ==== Sys2Proof/Machine/Disable.lean ====
section
/-! DEFINITION.  Function disable (R135–R137): its steps, RNG_CMD DISABLE_FN and ENABLE_FN. -/

namespace Sys2Proof.Machine

/-- The entries of a ring that have not started complete NOT_EXECUTED (R136 step 2). -/
def Block.dropUnstarted (s : Block) (r : Nat) : Block :=
  { s with ctl := { s.ctl with
      logbook := s.ctl.logbook.map fun e =>
        if e.ring = r ∧ e.state = .accepted ∧ e.fin = none then { e with fin := some { status := stNotExecuted } }
        else e } }

/-- Steps 1 and 2 of Table 4-10 for one ring. -/
def Block.disableRing (s : Block) (r : Nat) : Block :=
  let s1 := (s.unpause r).dropUnstarted r
  if s1.ringMode r = mdDraining then s1
  else
    let g := s1.ring r
    (s1.setRing r { g with armed := false, pending := false, seqWait := false, checkWait := false }).setMode r
      mdFnDisabled

/-- A function disabled (R136): its open bursts close truncated (R339), its tasks leave their fault records
(R258). -/
def Block.disableFn (s : Block) (fd : FnDisable) : Block :=
  let s0 := forEach (s.ringsOfFn fd.fn) (fun r t => t.disableRing r) (s.setFnDisabled fd.fn true)
  let s1 := (s0.truncateBursts fun b => decide (s0.fld (F.RNG_CFG_FUNCTION b.ring) = fd.fn)).faultsOfFn fd.fn
  { s1 with ctl := { s1.ctl with
      disables := s1.ctl.disables ++ [fd]
      waiting := s1.ctl.waiting.filter fun r => decide (s1.ringMode r = mdRunning) } }

/-- A function enabled again (R137). -/
def Block.enableFn (s : Block) (fn : Nat) : Block :=
  forEach ((s.ringsOfFn fn).filter fun r => decide (s.ringMode r = mdFnDisabled))
    (fun r t => ((t.setRing r { t.ring r with armed := true }).setMode r mdRunning).service r)
    (s.setFnDisabled fn false)

/-- Whether every entry of a function's rings has its record written and its notification sent. -/
def Block.fnSettled (s : Block) (fn : Nat) : Bool :=
  (s.ctl.logbook.all fun e =>
    e.held || decide (s.fld (F.RNG_CFG_FUNCTION e.ring) ≠ fn) || (decide (e.state = .completed) && e.signalled))
  && s.ctl.owed.all fun e => decide (s.fld (F.RNG_CFG_FUNCTION e.ring) ≠ fn)

/-- RNG_CMD DISABLE_FN (R136). -/
def execDisableFn (by_ : Actor) (fn : BitVec 12) (s : State) : Out :=
  s.act fun s => (s.byFull by_ fun t =>
    if t.isSet F.RNG_CMD_STATUS_BUSY || decide (511 < fn.toNat) then t.rngRefused
    else ((t.setFld F.RNG_CMD_STATUS_DONE 0).setFld F.RNG_CMD_STATUS_BUSY 1).disableFn
      { fn := fn.toNat, byCommand := true })

/-- RNG_CMD ENABLE_FN (R137). -/
def execEnableFn (by_ : Actor) (fn : BitVec 12) (s : State) : Out :=
  s.act fun s => (s.byFull by_ fun t =>
    if t.isSet F.RNG_CMD_STATUS_BUSY || decide (511 < fn.toNat) then t.rngRefused
    else (t.enableFn fn.toNat).rngDone)

end Sys2Proof.Machine
end

