-- ==== Sys2Proof/Machine/Mailbox.lean ====
section
/-! DEFINITION.  Mailboxes (R139–R143, Table 4-13): channels and their owners, requests and replies, and the request
types of this chapter. -/

namespace Sys2Proof.Machine

/-- The number that a management function has as the owner of a channel (R135; the MCTP path's number is the
model's own). -/
def fnNumber : Fn → Nat
  | .fm port => 512 + port.val
  | .mctp .i3c => 528
  | .mctp (.vdm p) => 529 + p.val
  | .ld n => n.val

/-- Whether a channel is open. -/
def Block.chOpen (s : Block) (c : Nat) : Bool := s.isSet (F.MBX_CH_STATE_OPEN c)

/-- Whether a sender owns a channel. -/
def Block.ownsCh (s : Block) (who : Sender) (c : Nat) : Bool :=
  let kind := s.fld (F.MBX_CH_STATE_OWNER_KIND c)
  let owner := s.fld (F.MBX_CH_STATE_OWNER c)
  s.chOpen c && match who with
    | .fn f => decide (kind = 0) && decide (owner = fnNumber f)
    | .node n => decide (kind = 1) && decide (owner = n.toNat)

/-- An access that R139 refuses. -/
def Block.mbxDenied (s : Block) : Block := s.bump F.MBX_DENIED_COUNT_COUNT

/-- What firmware holds about a channel. -/
def Block.mbxCh (s : Block) (c : Nat) : MbxCh := Assoc.get {} c s.ctl.mbx

/-- What firmware holds about a channel, replaced. -/
def Block.setMbx (s : Block) (c : Nat) (v : MbxCh) : Block :=
  { s with ctl := { s.ctl with mbx := Assoc.put {} c v s.ctl.mbx } }

/-- A channel's registers cleared and its message discarded (R140, R145). -/
def Block.clearCh (s : Block) (c : Nat) : Block :=
  ({ s with regs := Assoc.clear (fun a => decide (R.MBX_CH_STATE c ≤ a ∧ a < R.MBX_CH_STATE c + 0x80)) s.regs } :
    Block).setMbx c {}

/-- A channel opened for a sender. -/
def Block.openCh (s : Block) (who : Sender) (c : Nat) : Block :=
  let s1 := ((s.clearCh c).setFld (F.MBX_CH_STATE_OPEN c) 1).bump F.MBX_OPEN_COUNT_COUNT
  match who with
  | .fn f => s1.setFld (F.MBX_CH_STATE_OWNER c) (fnNumber f)
  | .node n => (s1.setFld (F.MBX_CH_STATE_OWNER_KIND c) 1).setFld (F.MBX_CH_STATE_OWNER c) n.toNat

/-- A channel closed: its message discarded, its registers cleared. -/
def Block.closeCh (s : Block) (c : Nat) : Block :=
  if s.chOpen c then (s.clearCh c).drop F.MBX_OPEN_COUNT_COUNT else s

/-- Every channel of a function closed (R140). -/
def Block.closeChsOf (s : Block) (fn : Nat) : Block :=
  forEach (((s.listed (R.MBX_CH_STATE 0) (R.MBX_CH_STATE 1024) 0x80 0).filter fun c =>
    s.chOpen c && decide (s.fld (F.MBX_CH_STATE_OWNER_KIND c) = 0 ∧ s.fld (F.MBX_CH_STATE_OWNER c) = fn)))
    (fun c t => t.closeCh c) s

/-- A firmware-to-owner bit set (bits 16 to 31 of MBX_CH_DB), and notified unless masked (R141). -/
def Block.mbxRaise (s : Block) (c bit : Nat) : Block :=
  let rsp := setBits (s.fld (F.MBX_CH_DB_RSP c)) (bit - 16) (bit - 16) 1
  let s1 := s.setFld (F.MBX_CH_DB_RSP c) rsp
  if getBits (s.fld (F.MBX_CH_MASK_RSP_MASK c)) (bit - 16) (bit - 16) = 0 ∧ s.isSet (F.MBX_CH_NOTIFY_EN c) then
    s1.notify (s.fld (F.MBX_CH_NOTIFY_KIND c)) (s.fld (F.MBX_CH_NOTIFY_TARGET c))
      (if s.fld (F.MBX_CH_STATE_OWNER_KIND c) = 0 then s.fld (F.MBX_CH_STATE_OWNER c) else 2 ^ 20)
      (.mailbox c rsp)
  else s1

/-- Whether a sender reaches the block at all: a node; a full function; a scoped one while R462 lets it (R33). -/
def Block.mbxReach (s : Block) : Sender → Bool
  | .fn f => s.isFull f || (s.scopeOf f).isSome
  | .node _ => true

/-- The owner's use of its channel; anyone else's is dropped and counted (R139). -/
def Block.asOwner (s : Block) (who : Sender) (c : Nat) (act : Block → Block) : Block :=
  if !s.mbxReach who then s.scopeViol else if s.ownsCh who c then act s else s.mbxDenied

/-- A read of MBX_ALLOC opens the lowest free channel for the reader (R140). -/
def Block.mbxAlloc (s : Block) (who : Sender) : Nat × Block :=
  if !s.mbxReach who then (0, s.scopeViol)
  else
    match (List.range 1024).find? fun c => !s.chOpen c with
    | some c => (2 ^ 31 + c, s.openCh who c)
    | none => (0, s)

/-- A read of MBX_ALLOC (R140). -/
def execMbxAllocRead (who : Sender) (s : State) : Out :=
  s.act fun s => (
    let (v, t) := s.mbxAlloc who
    t.emit (.regRead who R.MBX_ALLOC v))

/-- MBX_CH_CTRL.OPEN (R140). -/
def execMbxOpen (who : Sender) (ch : Fin 1024) (s : State) : Out :=
  s.act fun s => (if !s.mbxReach who then s.scopeViol else if s.chOpen ch.val then s.mbxDenied else s.openCh who ch.val)

/-- MBX_CH_CTRL.CLOSE by the owner (R140). -/
def execMbxClose (who : Sender) (ch : Fin 1024) (s : State) : Out :=
  s.act fun s => (s.asOwner who ch.val fun t => t.closeCh ch.val)

/-- MBX_FORCE_CLOSE by a full function: CLOSED_BY_FW is set and notified, then the channel closes (R140). -/
def execMbxForceClose (by_ : Actor) (ch : Fin 1024) (s : State) : Out :=
  s.act fun s => (s.byFull by_ fun t => if t.chOpen ch.val then (t.mbxRaise ch.val 18).closeCh ch.val else t)

/-- The owner sets SEND; while BUSY it is dropped (R143). -/
def execMbxSend (who : Sender) (ch : Fin 1024) (s : State) : Out :=
  s.act fun s => (s.asOwner who ch.val fun t =>
    if t.isSet (F.MBX_CH_STATUS_BUSY ch.val) then t.setFld (F.MBX_CH_STATUS_LAST_ERR ch.val) 0x01
    else t.setFld (F.MBX_CH_DB_REQ ch.val) (setBits (t.fld (F.MBX_CH_DB_REQ ch.val)) 0 0 1))

/-- Firmware takes a SEND: BUSY is set, bit 0 cleared, the request latched (R143). -/
def Block.mbxTake (s : Block) (c : Nat) : Block :=
  if getBits (s.fld (F.MBX_CH_DB_REQ c)) 0 0 = 1 then
    ((s.setFld (F.MBX_CH_DB_REQ c) (setBits (s.fld (F.MBX_CH_DB_REQ c)) 0 0 0)).setFld (F.MBX_CH_STATUS_BUSY c) 1).setMbx
      c { s.mbxCh c with request := some ((List.range 12).map fun w => s.fld (F.MBX_CH_REQ_DATA c w)), acted := false }
  else s

/-- Firmware takes a SEND (R143). -/
def execMbxTake (ch : Fin 1024) (s : State) : Out := s.act fun s => (s.mbxTake ch.val)

/-- The reply STATUS codes of Table 4-11. -/
def rpOk : Nat := 0
def rpBadType : Nat := 1
def rpBadLength : Nat := 2
def rpRefused : Nat := 3
def rpBusyRetry : Nat := 4
def rpCancelled : Nat := 5

/-- A request's TAG, TYPE and LENGTH (Table 4-11). -/
def reqTag (req : List Nat) : Nat := getBits (req.headD 0) 31 16
def reqType (req : List Nat) : Nat := getBits (req.headD 0) 15 8
def reqLen (req : List Nat) : Nat := getBits (req.headD 0) 3 0

/-- A message put in RSP0–RSP11. -/
def Block.putRsp (s : Block) (c : Nat) (words : List Nat) : Block :=
  forEach (List.range 12) (fun w t => t.setFld (F.MBX_CH_RSP_DATA c w) (words.getD w 0)) s

/-- A reply to the latched request: BUSY ends, and REPLY is set and notified; while REPLY is still set the reply is held, and
the request with it, so that BUSY stays (R143).  A reply is written although an EVENT has not been cleared: R143 speaks of REPLY
alone.  DESIGN CHOICE: both, log 137. -/
def Block.mbxReply (s : Block) (c status : Nat) (payload : List Nat) : Block :=
  match (s.mbxCh c).request with
  | none => s
  | some req =>
    let p := payload.take 11
    let words := (reqTag req * 2 ^ 16 + reqType req * 2 ^ 8 + status * 2 ^ 4 + p.length) :: p
    if getBits (s.fld (F.MBX_CH_DB_RSP c)) 0 0 = 1 then
      s.setMbx c { s.mbxCh c with request := none, acted := false, heldReply := some words }
    else (((s.setFld (F.MBX_CH_STATUS_BUSY c) 0).setMbx c { s.mbxCh c with request := none, acted := false }).putRsp c words).mbxRaise c 16

/-- The owner sets CANCEL: firmware ends an unanswered request CANCELLED unless it has acted on it (R143). -/
def execMbxCancel (who : Sender) (ch : Fin 1024) (s : State) : Out :=
  s.act fun s => (s.asOwner who ch.val fun t =>
    let t1 := t.mbxTake ch.val
    if (t1.mbxCh ch.val).acted then t1 else t1.mbxReply ch.val rpCancelled [])

/-- The reply that Table 4-11 forces on a request whatever firmware would answer. -/
def forcedStatus (req : List Nat) : Option Nat :=
  if 12 ≤ reqLen req then some rpBadLength
  else if reqType req = 0 ∨ reqType req = 0xFF ∨ (5 ≤ reqType req ∧ reqType req ≤ 0x7F) then some rpBadType
  else none

/-- Firmware replies to a latched request: as Table 4-11 forces, else with the answer of the service the request
names (R143); types 0x01 to 0x04 have rows of their own. -/
def execMbxReply (ch : Fin 1024) (status : BitVec 4) (payload : List Word) (s : State) : Out :=
  s.act fun s => (
    match (s.mbxCh ch.val).request with
    | none => s
    | some req =>
      match forcedStatus req with
      | some st => s.mbxReply ch.val st []
      | none => if reqType req ≤ 4 then s else s.mbxReply ch.val status.toNat (payload.map (·.toNat)))

/-- The owner clears REPLY, and a held reply is delivered and ends BUSY (R143). -/
def Block.replyCleared (s : Block) (c : Nat) : Block :=
  let s1 := s.setFld (F.MBX_CH_DB_RSP c) (setBits (s.fld (F.MBX_CH_DB_RSP c)) 0 0 0)
  match (s.mbxCh c).heldReply with
  | some words =>
    (((s1.setFld (F.MBX_CH_STATUS_BUSY c) 0).setMbx c { s1.mbxCh c with heldReply := none }).putRsp c words).mbxRaise c 16
  | none => s1

/-- The owner clears REPLY (R143). -/
def execMbxReplyClear (who : Sender) (ch : Fin 1024) (s : State) : Out :=
  s.act fun s => (s.asOwner who ch.val fun t => t.replyCleared ch.val)

/-- Firmware posts an EVENT, once the last reply has been taken (R141, R142). -/
def execMbxEvent (ch : Fin 1024) (tag : BitVec 16) (payload : List Word) (s : State) : Out :=
  s.act fun s => (
    let p := (payload.take 11).map (·.toNat)
    if s.chOpen ch.val && decide (getBits (s.fld (F.MBX_CH_DB_RSP ch.val)) 0 0 = 0) then
      (s.putRsp ch.val ((tag.toNat * 2 ^ 16 + 0xFF * 2 ^ 8 + p.length) :: p)).mbxRaise ch.val 17
    else s)

/-- The latched request of a type, whose LENGTH is one the type may have. -/
def Block.request (s : Block) (c type : Nat) : Option (List Nat) :=
  (s.mbxCh c).request.filter fun req => decide (reqType req = type) && decide (reqLen req < 12)

/-- ECHO returns its payload (R142). -/
def execEcho (ch : Fin 1024) (s : State) : Out :=
  s.act fun s => (
    match s.request ch.val 1 with
    | some req => s.mbxReply ch.val rpOk ((req.drop 1).take (reqLen req))
    | none => s)

/-- The function of a channel's owner (R135): a Pefin node's is its source group's. -/
def Block.chFn (s : Block) (c : Nat) : Option Nat :=
  let owner := s.fld (F.MBX_CH_STATE_OWNER c)
  if s.fld (F.MBX_CH_STATE_OWNER_KIND c) = 0 then some owner else (s.groupOf owner).map (256 + ·)

/-- RING_QUERY returns a ring's state and counters, or REFUSED (R142). -/
def execRingQuery (ch : Fin 1024) (s : State) : Out :=
  s.act fun s => (
    match s.request ch.val 2 with
    | none => s
    | some req =>
      let r := req.getD 1 0
      if reqLen req = 0 then s.mbxReply ch.val rpBadLength []
      else if 4096 ≤ r ∨ some (s.fld (F.RNG_CFG_FUNCTION r)) ≠ s.chFn ch.val then s.mbxReply ch.val rpRefused []
      else
        let g := s.ring r
        s.mbxReply ch.val rpOk
          [(s.reg (R.RNG_STATE r)).toNat, g.accept % 2 ^ 32, g.nextSeq % 2 ^ 32, g.completed % 2 ^ 32])

/-- FN_DISABLE disables the sender's own function; the reply follows when the disable is done (R142); an FM-owned
logical device is REFUSED (R135). -/
def execFnDisable (ch : Fin 1024) (s : State) : Out :=
  s.act fun s => (
    match s.request ch.val 3 with
    | none => s
    | some req =>
      if (s.mbxCh ch.val).acted then s
      else
        match s.chFn ch.val with
        | some fn =>
          if 511 < fn then s.mbxReply ch.val rpRefused []
          else (s.setMbx ch.val { s.mbxCh ch.val with acted := true }).disableFn
            { fn := fn, reply := some (ch.val, reqTag req) }
        | none => s.mbxReply ch.val rpRefused [])

/-- FN_ENABLE enables the sender's own function (R142). -/
def execFnEnable (ch : Fin 1024) (s : State) : Out :=
  s.act fun s => (
    match s.request ch.val 4 with
    | none => s
    | some _ =>
      match s.chFn ch.val with
      | some fn => if 511 < fn then s.mbxReply ch.val rpRefused [] else (s.enableFn fn).mbxReply ch.val rpOk []
      | none => s.mbxReply ch.val rpRefused [])

/-- The reply to the mailbox request that disabled a function, if its channel still waits for it. -/
def Block.replyDisable (s : Block) (fd : FnDisable) : Block :=
  match fd.reply with
  | some (c, tag) =>
    match (s.mbxCh c).request with
    | some req => if reqTag req = tag ∧ reqType req = 3 then s.mbxReply c rpOk [] else s
    | none => s
  | none => s

end Sys2Proof.Machine
end

