-- ==== Sys2Proof/Machine/HostPorts.lean ====
section
/-! DEFINITION.  Host requests (R266–R273, R458), the recall of host copies (R277–R279), ports that go down (R81), and
Function Level Resets (R135). -/

namespace Sys2Proof.Machine

/-- Gate states (HPT_GATE_STATE.STATE). -/
def gtOff : Nat := 0
def gtActive : Nat := 1
def gtClosing : Nat := 2
def gtScrub : Nat := 3
def gtOffered : Nat := 4

/-- Gate kinds (HPT_GATE_CFG.KIND). -/
def gkStatic : Nat := 0
def gkExtent : Nat := 1
def gkCommons : Nat := 2

/-- The kinds of gate records (Table 9-3). -/
def grNoGate : Nat := 1
def grNoRights : Nat := 2
def grExtentGone : Nat := 3
def grBiTimeout : Nat := 4
def grHostLost : Nat := 5

/-- The SPID that a record shows for a request (Table 9-3). -/
def spidShown (spid : Option Nat) : Nat := spid.getD 0xFFF

/-- A gate record for its recipients (R270). -/
def Block.gateRecord (s : Block) (kind fn : Nat) (spid : Option Nat) (ptn dpa : Nat) (dsts : List Recipient) : Block :=
  forEach dsts (fun d t => t.recordTo (.gate kind (fn / 16) (fn % 16) (spidShown spid)) ptn (lineOf dpa) (lineOf dpa) 1 d) s

/-- HPT_STATUS.GATES_FREE brought up to the gates. -/
def Block.countGates (s : Block) : Block := s.setFld F.HPT_STATUS_GATES_FREE (4096 - s.activeGates.length)

/-- A gate put in a state. -/
def Block.setGate (s : Block) (g st : Nat) : Block := (s.setFld (F.HPT_GATE_STATE_STATE g) st).countGates

/-- Whether a gate's key matches a request (R268). -/
def Block.gateMatches (s : Block) (g fn : Nat) (spid : Option Nat) (dpa : Nat) : Bool :=
  decide (s.gateFn g = fn) && s.gateCovers g dpa dpa
    && (s.isSet (F.HPT_GATE_KEY_SPID_ANY g) || decide (spid = some (s.fld (F.HPT_GATE_KEY_SPID g))))

/-- The partition that a function is granted to (PTN_FN_GRANT). -/
def Block.grantedTo (s : Block) (fn : Nat) : Option Nat :=
  if s.isSet (F.PTN_FN_GRANT_OWNED fn) then some (s.fld (F.PTN_FN_GRANT_PTN fn)) else none

/-- Whether a partition reads the commons (R467). -/
def Block.readsCommons (s : Block) (p : Nat) : Bool :=
  decide (p ≠ 0) && decide (getBits (s.fld F.PTN_CMN_READERS_READERS) p p = 1)

/-- Whether a DPA of a gate's range is reached at all (R11, R269, R287). -/
def Block.dpaReached (s : Block) (ptn dpa : Nat) : Bool :=
  if caveBase ≤ dpa ∧ dpa < caveEnd then (s.extentFor ptn (cavePageOf dpa / 512)).isSome else s.dramReached dpa

/-- What the gates say of a request. -/
inductive GateWord where
  | pass (g : Nat)
  | deny (kind ptn : Nat)
  deriving DecidableEq, Repr

/-- The gate check (R268, R269, R276, R462, R467). -/
def Block.gateCheck (s : Block) (fn : Nat) (spid : Option Nat) (dpa : Nat) (write : Bool) : GateWord :=
  match s.activeGates.find? fun g => s.gateMatches g fn spid dpa && decide (s.fld (F.HPT_GATE_STATE_STATE g) ≠ gtOffered) with
  | none => .deny grNoGate 0
  | some g =>
    let p := s.fld (F.HPT_GATE_CFG_PARTITION g)
    let k := s.fld (F.HPT_GATE_CFG_KIND g)
    if s.fld (F.HPT_GATE_STATE_STATE g) ≠ gtActive then
      if k = gkExtent then .deny grExtentGone p else .deny grNoGate 0
    else if s.ptnState p ≠ ptnActive ∨ !s.dpaReached p dpa then .deny grNoGate 0
    else if !s.isSet (if write then F.HPT_GATE_CFG_WRITE g else F.HPT_GATE_CFG_READ g) then .deny grNoRights p
    else if k = gkCommons ∧ !((s.grantedTo fn).any s.readsCommons) then .deny grNoRights p
    else .pass g

/-- Whether a port's link is up with CXL.mem enabled. -/
def Block.portUp (s : Block) (p : Nat) : Bool := s.isSet (F.HPT_PORT_STATUS_UP p)

/-- A response sent, unless its port is down (R279); none while it must wait (R446). -/
def Block.respond (s : Block) (fn tag : Nat) (r : S2M) (load : Nat) : Option Block :=
  if s.portUp (fn / 16) then s.sendS2M fn tag r load else some s

/-- What a refused request gets (R269, R276); a write to the other bank of a commons region is recorded as dropped besides
(R287). -/
def Block.denyHost (s : Block) (r : HostReq) (kind ptn : Nat) : Option Block :=
  let s1 :=
    if kind = grExtentGone then
      if r.write then s.raiseFor kindWriteDropped .demand (some (.host r.fn)) ptn r.dpa
      else s.gateRecord kind r.fn r.spid ptn r.dpa [.fm, .ld r.fn]
    else ((s.when (r.write && (s.commonsAt true (lineOf r.dpa)).isSome) fun t =>
      t.raise kindWriteDropped .demand (some (.host r.fn)) (lineOf r.dpa)).gateRecord kind r.fn r.spid ptn r.dpa [.fm, .ld r.fn]).bump F.HPT_GATE_DENY_COUNT_COUNT
  s1.respond r.fn r.tag (if r.write then .cmp else .memData .poison) r.load

/-- A request past its meter: through its gate, or answered (R269); a commons read samples its bank (R287). -/
def Block.admitHost (s : Block) (r : HostReq) : Option Block :=
  match s.gateCheck r.fn r.spid (lineOf r.dpa) r.write with
  | .deny kind ptn => s.denyHost r kind ptn
  | .pass g =>
    let bank := if r.write then none
      else (s.commonsAt false (lineOf r.dpa)).map fun c => (c, s.fld (F.HPT_CMN_STATE_CURRENT c))
    some ((({ s with host := { s.host with reqs := s.host.reqs ++ [{ r with gate := g, bank := bank }] } } : Block).bump
      (F.HPT_GATE_STATE_INFLIGHT g)).event 9 (if r.write then 1 else 0) (.ofPtn (s.fld (F.HPT_GATE_CFG_PARTITION g))))

/-- The requests a port holds (R266, R458). -/
def Block.portLoad (s : Block) (p : Nat) : Nat :=
  ((s.host.held ++ s.host.reqs).filter fun r => decide (r.fn / 16 = p)).length

/-- The DevLoad that a colour gives (R458): the port's own load is a free value. -/
def Block.devLoad (s : Block) (colour : Nat) : Nat × Block :=
  if colour = 2 then (3, s)
  else
    let (v, s1) := s.fresh
    (if colour = 1 then 2 + v.toNat % 2 else v.toNat % 4, s1)

/-- A request at the head of its logical device's order, metered (R456, R458): past the meter, or held (none of
this happens while its answer must wait). -/
def Block.meterHost (s : Block) (r : HostReq) (red : Bool) : Option Block :=
  let (colour, s0) := s.meter r.fn
  let s1 := s0.when (decide (colour = 2)) fun t => t.event 9 2 (t.lineAttr r.dpa)
  if colour = 2 ∧ s.fld (F.SHP_FN_BURST_HI_RED_ACT r.fn) = 0 then
    some { s1 with host := { s1.host with held := { r with load := 3 } :: s1.host.held } }
  else
    let (load, s2) := s1.devLoad (if red then 2 else colour)
    s2.admitHost { r with load := load }

/-- Whether a request of a logical device is held. -/
def Block.holdsBack (s : Block) (fn : Nat) : Bool := s.host.held.any fun r => decide (r.fn = fn)

/-- The requests that a logical device may have held (R458). -/
def holdMax : Nat := 64

/-- The mark of a held request that has not been metered. -/
def notMetered : Nat := 4

/-- A request accepted by its port, unless the port withholds credits (R266, R458). -/
def Block.takeHost (s : Block) (r : HostReq) : Block :=
  if s.holdsBack r.fn then
    if holdMax ≤ (s.host.held.filter fun x => decide (x.fn = r.fn)).length then s.bump F.SHP_HOLD_FULL_COUNT
    else { s with host := { s.host with held := s.host.held ++ [{ r with load := notMetered }] } }
  else (s.meterHost r false).getD s

/-- Held requests of a logical device metered again, oldest first, while they leave (R458). -/
def Block.drainHeld (fn : Nat) : Nat → Block → Block
  | 0, s => s
  | n + 1, s =>
    match s.host.held.find? fun r => decide (r.fn = fn) with
    | none => s
    | some r =>
      let s1 : Block := { s with host := { s.host with held := s.host.held.erase r } }
      match s1.meterHost r (decide (r.load = 3)) with
      | none => s
      | some s2 => if s2.holdsBack fn ∧ s2.host.held.length = s.host.held.length then s2 else Block.drainHeld fn n s2

/-- The held requests of every logical device metered again (R458). -/
def Block.remeter (s : Block) : Block :=
  forEach (s.host.held.map (·.fn)).eraseDups (fun fn t => Block.drainHeld fn t.host.held.length t) s

/-- A line's bytes by a mask of bits. -/
def maskBits (m : BitVec 64) : List Bool := (List.range 64).map m.getLsbD

/-- A CXL.mem request as received. -/
def hostReq (fn : Nat) (spid : Option Nat) (tag dpa : Nat) : HostOp → HostReq
  | .read keep => { tag := tag, fn := fn, spid := spid, write := false, dpa := dpa, keep := keep.val }
  | .write keep mask data poison =>
    { tag := tag, fn := fn, spid := spid, write := true, dpa := dpa, mask := maskBits mask
      bytes := leBytes 64 data.toNat, poison := poison, keep := keep.val }

/-- A CXL.mem request, its DPA translated by the device's HDM decoders, is metered and checked (R266, R269, R458).
None comes while its port withholds credits (R71) or goes down (R81). -/
def execCxlMemRequest (fn : Fin 256) (spid : Option (BitVec 12)) (tag : BitVec 16) (dpa : BitVec 52) (op : HostOp)
    (s : State) : Out :=
  s.act fun s => (
    if !s.portUp (fn.val / 16) ∨ !s.presents fn.val ∨ 1024 ≤ s.portLoad (fn.val / 16)
        ∨ s.crossFull true (.port (Fin.ofNat 16 (fn.val / 16)))
        ∨ s.boot.portResets.any (fun x => decide (x.1 = fn.val / 16)) then s
    else s.takeHost (hostReq fn.val (spid.map (·.toNat)) tag.toNat dpa.toNat op))

/-! ## Copies on hosts -/

/-- A line written at its home stop whatever hosts hold: data that a host returns, or poison (R277–R279). -/
def Block.putTracked (s : Block) (q : Requester) (line : Nat) (v : LineVal) : Block :=
  if caveBase ≤ line ∧ line < caveEnd then
    match s.activeExtents.find? fun x => s.extentCovers x (cavePageOf line / 512) with
    | none => s
    | some x =>
      match s.bringIn x (s.fld (F.TIR_CX_CFG_PARTITION x)) line with
      | some (f, s1) => s1.writeAt q f v
      | none =>
        match Assoc.find (cavePageOf line) s.pool.cave with
        | some p =>
          { s with pool := { s.pool with
              cave := Assoc.ins (cavePageOf line) { p with lines := p.lines.set (line / 64 % 64) v } s.pool.cave } }
        | none => s
  else if (s.commonsAt false line).isSome then s.raise kindWriteDropped .demand (some q) line
  else s.writeAt q line v

/-- BI_OUT of a port brought up to its BISnp outstanding. -/
def Block.countBi (s : Block) (p : Nat) : Block :=
  s.setFld (F.HPT_PORT_STATUS_BI_OUT p) (s.host.bisnps.filter fun b => decide (b.fn / 16 = p)).length

/-- The BISnp outstanding for a line at a logical device. -/
def Block.bisnpAt (s : Block) (line fn : Nat) : Option BiSnp :=
  s.host.bisnps.find? fun b => decide (b.dpa = line) && decide (b.fn = fn)

/-- A BISnp no longer outstanding. -/
def Block.dropBi (s : Block) (b : BiSnp) : Block :=
  ({ s with host := { s.host with bisnps := s.host.bisnps.erase b } } : Block).countBi (b.fn / 16)

/-- What a request past its gate takes of its line: another's exclusive copy conflicts with a read, any copy with a write or a
read that keeps the line exclusive (R277). -/
def Block.hostTakes (s : Block) (r : HostReq) : Bool :=
  r.write || (s.isSet (F.HPT_GATE_CFG_COHERENT r.gate) && decide (r.keep = 2))

/-- Whether a new line finds no room in the directory of its home stop (R277: 131,072 entries per stop). -/
def Block.directoryFull (s : Block) (line : Nat) : Bool :=
  (Assoc.find line s.host.tracked).isNone
    && decide (131072 ≤ (s.host.tracked.filter fun e => decide (s.homeStop e.1 = s.homeStop line)).length)

/-- Whether a request past its gate needs a directory entry where there is none free (R277). -/
def Block.wantsEntry (s : Block) (r : HostReq) : Bool :=
  s.isSet (F.HPT_GATE_CFG_COHERENT r.gate) && decide (r.keep ≠ 0) && s.directoryFull (lineOf r.dpa)

/-- Whether one of the causes of R277 has a logical device's copy of a line recalled: an access that the copy conflicts with, a
directory entry to be evicted, a closing gate (step 3 of Table 9-4), the flip of a commons region. -/
def Block.recallDue (s : Block) (line fn : Nat) : Bool :=
  let hit (q : Requester) (write : Bool) (l : Nat) : Bool := decide (l = line) && (s.conflicts q write line).contains fn
  (s.host.wants.any fun w => hit w.q w.write w.line)
    || (s.host.reqs.any fun r => hit (.host r.fn) (s.hostTakes r) (lineOf r.dpa))
    || (s.host.reqs.any fun r => s.wantsEntry r && decide (s.homeStop (lineOf r.dpa) = s.homeStop line))
    || (s.activeGates.any fun g => decide (s.fld (F.HPT_GATE_STATE_STATE g) = gtClosing) && decide (s.gateFn g = fn)
        && s.isSet (F.HPT_GATE_CFG_COHERENT g) && s.gateCovers g line line)
    || s.host.publishes.any fun p => p.flipped && decide (s.commonsAt false line = some p.region)

/-- The home stop recalls a copy for one of the causes of R277, within MAX_OUT. -/
def execBisnpSend (dpa : BitVec 52) (fn : Fin 256) (invalidate : Bool) (s : State) : Out :=
  s.act fun s => (
    let line := lineOf dpa.toNat
    let p := fn.val / 16
    if (s.trackedAt line).holders.contains fn.val && s.recallDue line fn.val && s.portUp p && (s.bisnpAt line fn.val).isNone
        && decide (s.fld (F.HPT_PORT_STATUS_BI_OUT p) < s.fld F.HPT_BI_CFG_MAX_OUT) then
      ((({ s with host := { s.host with
          bisnps := s.host.bisnps ++ [{ dpa := line, fn := fn.val, invalidate := invalidate }] } } : Block).countBi p).emit
        (.bisnp fn.val line invalidate)).event 7 3 (s.lineAttr line)
    else s)

/-- The lines that a logical device may hold (R277, R280). -/
def Block.linesOf (s : Block) (fn : Nat) : List Nat :=
  let known := (s.host.tracked.filter fun e => e.2.holders.contains fn).map (·.1)
  if s.host.assumed = [] then known
  else
    let gates := s.activeGates.filter fun g => decide (s.gateFn g = fn) && s.isSet (F.HPT_GATE_CFG_COHERENT g)
    known ++ ((gates.map fun g =>
      (List.range (s.fld (F.HPT_GATE_BLOCKS_BLOCKS g) * 32768)).map fun i =>
        s.pair (R.HPT_GATE_BASE_LO g) (R.HPT_GATE_BASE_HI g) + 64 * i).flatten.filter fun l =>
          s.assumedLine l && (s.trackedAt l).holders.contains fn).eraseDups

/-- Whether a logical device may still hold a line of a gate's range. -/
def Block.gateTracked (s : Block) (g : Nat) : Bool := (s.linesOf (s.gateFn g)).any fun d => s.gateCovers g d d

/-- A closing STATIC or COMMONS gate is OFF once nothing is in flight and no copy remains (R271). -/
def Block.settleGate (s : Block) (g : Nat) : Block :=
  if s.fld (F.HPT_GATE_STATE_STATE g) = gtClosing ∧ s.fld (F.HPT_GATE_CFG_KIND g) ≠ gkExtent
      ∧ s.fld (F.HPT_GATE_STATE_INFLIGHT g) = 0 ∧ !(s.isSet (F.HPT_GATE_CFG_COHERENT g) && s.gateTracked g) then
    s.setGate g gtOff
  else s

/-- Every closing gate that can be is OFF. -/
def Block.settleGates (s : Block) : Block := forEach s.activeGates (fun g t => t.settleGate g) s

/-- A logical device lost (R279): its BISnp settled, its shared lines dropped, its exclusive ones poisoned. -/
def Block.loseFn (s : Block) (fn : Nat) : Block :=
  let s0 : Block := { s with host := { s.host with given := s.host.given.filter fun g => decide (g.2 ≠ fn) } }
  let s1 := forEach (s.host.bisnps.filter fun b => decide (b.fn = fn)) (fun b t => t.dropBi b) s0
  let lost := s.linesOf fn
  forEach lost (fun line t =>
    let mine := (s.trackedAt line).excl.contains fn
    let t1 := t.untrack line fn
    if mine then
      ((t1.putTracked .firmware line .poison).gateRecord grHostLost fn none ((t.lineOwner line).getD 0) line [.fm]).bump
        F.HPT_HOST_LOST_COUNT_COUNT
    else t1) s1

/-- The responses queued for a port are gone with its link. -/
def Block.dropResponses (s : Block) (p : Nat) : Block :=
  let q := s.net.shape
  let here (k : Nat) : Bool := decide (k = 96 + p)
  let s1 := s.setShape { q with
    svcs := q.svcs.filter fun e => !here (e.1 / 4 % 128)
    fw := q.fw.filter fun e => !here (e.1 / 4)
    dflt := q.dflt.filter fun e => !here (e.1 / 4) }
  forEach (q.subs.map (·.1)) (fun st t =>
    t.setSubQueue st ((t.subQueue st).filter fun m => !here m.port)) s1

/-- A port goes down: UP ends, what it held unexecuted and owed is gone, its logical devices are lost (R279). -/
def Block.losePort (s : Block) (p : Nat) : Block :=
  let s1 := ((s.setFld (F.HPT_PORT_STATUS_UP p) 0).setFld (F.HPT_PORT_STATUS_IDE p) 0).bump (F.HPT_PORT_DOWN_COUNT_COUNT p)
  let s2 : Block := { s1 with host := { s1.host with held := s1.host.held.filter fun r => decide (r.fn / 16 ≠ p) } }
  forEach ((List.range 16).map (16 * p + ·)) (fun fn t => t.loseFn fn) (s2.dropResponses p)

/-- The value or the effect of a request past its gate; none while it must wait.  The writeback of a copy given up is discarded
(R278). -/
def Block.orderHost (s : Block) (r : HostReq) : Option (S2M × Block) :=
  let q := Requester.host r.fn
  let line := lineOf r.dpa
  let p := s.fld (F.HPT_GATE_CFG_PARTITION r.gate)
  let coherent := s.isSet (F.HPT_GATE_CFG_COHERENT r.gate)
  if r.write && s.host.given.contains (line, r.fn) then
    some (.cmp, { s with host := { s.host with given := s.host.given.erase (line, r.fn) } })
  else if s.mustRecall q (s.hostTakes r) line || s.wantsEntry r then none
  else
    let done : Option (S2M × Block) :=
      if r.write then
        match s.deposit q p line r.mask r.bytes r.poison with
        | (.wait, _) => none
        | (_, s1) => some (.cmp, s1.watchHit line)
      else
        match r.bank with
        | some (c, b) =>
          let (v, s1) := s.readAt q (s.commonsServe c line b)
          some (.memData v, s1)
        | none =>
          match s.fetch q none p line with
          | (.wait, _) => none
          | (.addressError, s1) => some (.memData .poison, s1)
          | (.val v, s1) => some (.memData v, s1)
    done.map fun x => (x.1, if coherent then
        { x.2.track line r.fn r.keep with host := { (x.2.track line r.fn r.keep).host with
          given := if r.keep = 0 then x.2.host.given else x.2.host.given.filter (· ≠ (line, r.fn)) } }
      else x.2)

/-! ## Ports that go down (R81) -/

/-- Whether the host ports are bifurcated (R87: bit 0 of CFG_RSEL). -/
def Block.bifurcated (s : Block) : Bool := decide (getBits (s.fld F.GID_STRAPS_RSEL) 0 0 = 1)

/-- The host ports that exist. -/
def Block.hostPorts (s : Block) : Nat := if s.bifurcated then 16 else 8

/-- The host ports of a die (Table 1-5): two x16 ports, or four x8 ports. -/
def Block.portsOf (s : Block) (d : Nat) : List Nat :=
  if getBits (s.fld F.GID_STRAPS_RSEL) 0 0 = 1 then (List.range 4).map (4 * d + ·) else [2 * d, 2 * d + 1]

/-- The die of a host port. -/
def Block.dieOfPort (s : Block) (p : Nat) : Nat := if getBits (s.fld F.GID_STRAPS_RSEL) 0 0 = 1 then p / 4 else p / 2

/-- The oldest request of a port past its gate completed (R81); none while it must wait. -/
def Block.completeOne (s : Block) (p : Nat) : Option Block :=
  match s.host.reqs.find? fun r => decide (r.fn / 16 = p) with
  | none => some s
  | some r =>
    match s.orderHost r with
    | none => none
    | some (ans, s1) =>
      let s2 := (s1.respond r.fn r.tag ans r.load).getD s1
      some ((({ s2 with host := { s2.host with reqs := s2.host.reqs.erase r } } : Block).drop
        (F.HPT_GATE_STATE_INFLIGHT r.gate)).settleGate r.gate)

/-- The requests of a port past its gate completed, `n` of them. -/
def Block.completePort (p : Nat) : Nat → Block → Option Block
  | 0, s => some s
  | n + 1, s =>
    match s.completeOne p with
    | none => none
    | some t => Block.completePort p n t

/-- What the functions of a port hold cleared: mailbox channels (R140), MSI-X, register latches, IDE keys, event logs,
TSP states (R74, R81); the meters of its logical devices are full again (R451). -/
def Block.clearPort (s : Block) (p : Nat) : Block :=
  let fns := (List.range 16).map (16 * p + ·)
  let s1 := forEach ([512 + p, 529 + p] ++ fns) (fun f t => t.closeChsOf f) s
  let mine (f : Nat) : Bool := decide (f / 16 = p) || decide (f = 512 + p ∨ f = 529 + p)
  let meters := fns.map bkTc ++ fns.map bkTp
  let s2 := s1.setShape { s1.net.shape with lacks := s1.net.shape.lacks.filter fun e => !meters.contains e.1 }
  { s2 with
    regs := s2.regs.reset .port fun a => decide (a = R.HPT_PORT_STATUS p) || fns.any fun f => decide (a = R.SEC_TSP_STATE f)
    ctl := { s2.ctl with msix := s2.ctl.msix.filter fun e => !mine e.1 }
    host := { s2.host with
      ideKeys := s2.host.ideKeys.filter fun e => decide (e.1 ≠ p)
      eventLogs := s2.host.eventLogs.filter fun e => !fns.contains e.1
      overflowed := s2.host.overflowed.filter fun f => !fns.contains f }
    bus := { s2.bus with latches := s2.bus.latches.filter fun e => !mine e.1 } }

/-- A port and the state of its logical devices go down. -/
def Block.downPort (s : Block) (p : Nat) : Block :=
  ((if s.portUp p then s.losePort p else s).clearPort p).settleGates

/-- The ports with a Port reset in its sequence whose requests past the gates have completed go down; one with a request that
must wait for another host's line has not gone down yet (R81). -/
def Block.settlePorts (s : Block) : Block :=
  forEach s.boot.portResets (fun x t =>
    match Block.completePort x.1 (t.host.reqs.filter fun r => decide (r.fn / 16 = x.1)).length t with
    | none => t
    | some u => ({ u with boot := { u.boot with portResets := u.boot.portResets.erase x } } : Block).downPort x.1) s

/-- What host copies held up goes on: gates close, ports go down, the module's writes are ordered. -/
def Block.settleHosts (s : Block) : Block := s.pruneWants.settleLate.settleGates.settlePorts

/-- An exclusive copy given up: what its holder writes back from now on is discarded (R278). -/
def Block.giveUp (s : Block) (line fn : Nat) : Block :=
  { s with host := { s.host with given := (line, fn) :: s.host.given.filter (· ≠ (line, fn)) } }

/-! ## The commands -/

/-- A BIRsp arrives: dirty data is written, and the copy is gone or left shared (R277); one that comes after the second
expiry is discarded (R278). -/
def execBirsp (dpa : BitVec 52) (fn : Fin 256) (data : Option (BitVec 512 × Bool)) (keepShared : Bool) (s : State) : Out :=
  s.act fun s => (
    let line := lineOf dpa.toNat
    match s.bisnpAt line fn.val with
    | none => s
    | some b =>
      let s1 := s.dropBi b
      let s2 := match data with
        | some (d, poison) =>
          if (s.trackedAt line).excl.contains fn.val then
            s1.putTracked (.host fn.val) line (if poison then .poison else .data (leBytes 64 d.toNat)) |>.watchHit line
          else s1
        | none => s1
      (if keepShared && !b.invalidate then s2.trackShared line fn.val else s2.untrack line fn.val).settleHosts)

/-- A BISnp times out: it is sent once more, then the copy is given up (R278). -/
def execBisnpTimeout (dpa : BitVec 52) (fn : Fin 256) (s : State) : Out :=
  s.act fun s => (
    let line := lineOf dpa.toNat
    match s.bisnpAt line fn.val with
    | none => s
    | some b =>
      if !b.resent then
        (({ s with host := { s.host with
            bisnps := s.host.bisnps.map fun x => if x = b then { x with resent := true } else x } } : Block).emit
          (.bisnp fn.val line b.invalidate)).event 7 3 (s.lineAttr line)
      else
        let mine := (s.trackedAt line).excl.contains fn.val
        let s1 := (s.dropBi b).untrack line fn.val
        let s2 := if mine then (s1.putTracked .firmware line .poison).giveUp line fn.val else s1
        (s2.gateRecord grBiTimeout fn.val none ((s.lineOwner line).getD 0) line [.fm, .ld fn.val]).bump
          F.HPT_BI_TIMEOUT_COUNT_COUNT |>.settleHosts)

/-- A port goes down, or a logical device is reset (R279). -/
def execHostLost (port : Fin 16) (ld : Option (Fin 16)) (s : State) : Out :=
  s.act fun s => (
    match ld with
    | some l => (s.loseFn (16 * port.val + l.val)).settleHosts
    | none => if s.portUp port.val then (s.losePort port.val).settleHosts else s)

/-- A CXL.mem request completes: ordered at its home stop, answered, no longer in flight (R266, R273, R276). -/
def execCxlMemComplete (fn : Fin 256) (tag : BitVec 16) (s : State) : Out :=
  s.act fun s => (
    match s.host.reqs.find? fun r => decide (r.fn = fn.val) && decide (r.tag = tag.toNat) with
    | none => s
    | some r =>
      if (s.host.reqs.find? fun x => decide (x.fn = r.fn) && decide (lineOf x.dpa = lineOf r.dpa)) ≠ some r then s
      else
        match s.orderHost r with
        | none => s.noteFrameWait (.host r.fn) (s.fld (F.HPT_GATE_CFG_PARTITION r.gate)) (lineOf r.dpa)
        | some (ans, s1) =>
          match s1.respond r.fn r.tag ans r.load with
          | none => s
          | some s2 =>
            (({ s2 with host := { s2.host with reqs := s2.host.reqs.erase r } } : Block).drop
              (F.HPT_GATE_STATE_INFLIGHT r.gate)).settleGate r.gate |>.settlePorts)

/-! ## Function Level Resets (R135, R279) -/

/-- A Function Level Reset of a logical device disables its function first; its BISnp are settled and its copies lost at once
(R135, R279). -/
def execCxlFlr (fn : Fin 256) (s : State) : Out :=
  s.act fun s => ((s.loseFn fn.val).settleHosts.disableFn { fn := fn.val, flr := true })

/-- A function disable is done: DONE is set and a mailbox reply sent (R136); a Function Level Reset completes, its
function's channels closed, its bus latches cleared, its copies lost (R13, R135, R140, R279). -/
def execFnDisableDone (fn : Fin 512) (s : State) : Out :=
  s.act fun s => (
    match s.ctl.disables.find? fun d => decide (d.fn = fn.val) with
    | none => s
    | some fd =>
      if !s.fnSettled fn.val then s
      else
        let s1 : Block := { s with ctl := { s.ctl with disables := s.ctl.disables.erase fd } }
        let s2 := if fd.byCommand then s1.rngDone else s1
        let s3 := s2.replyDisable fd
        if fd.flr then
          let s4 := ((s3.closeChsOf fn.val).loseFn fn.val).settleHosts
          ({ s4 with
            ctl := { s4.ctl with msix := Assoc.drop fn.val s4.ctl.msix }
            bus := { s4.bus with latches := Assoc.drop fn.val s4.bus.latches } } : Block).emit (.flrDone fn.val)
        else s3)

end Sys2Proof.Machine
end

