-- ==== Sys2Proof/Machine/Gates.lean ====
section
/-! DEFINITION.  Range gates and their ENABLE (R268, R271), dynamic capacity (R274–R276), the CXL memory device mailbox and
the FM API (R264), IDE key programming (R263). -/

namespace Sys2Proof.Machine

/-- The start of a gate's range. -/
def Block.gateBase (s : Block) (g : Nat) : Nat := s.pair (R.HPT_GATE_BASE_LO g) (R.HPT_GATE_BASE_HI g)

/-- The bytes of a gate's range. -/
def Block.gateBytes (s : Block) (g : Nat) : Nat := s.fld (F.HPT_GATE_BLOCKS_BLOCKS g) * 2 ^ 21

/-- Whether whole blocks lie in DRAM of a partition that requesters reach, or in its enabled cave extents (R268). -/
def Block.blocksOf (s : Block) (ptn base blocks : Nat) : Bool :=
  if base + blocks * 2 ^ 21 ≤ dramBytes then
    (List.range blocks).all fun i =>
      let b := base + i * 2 ^ 21
      decide (s.ownerOf b = some ptn)
        && (decide ((s.tier (tierBlockOf b)).cls = clsOrdinary) || decide ((s.tier (tierBlockOf b)).cls = clsPressed))
  else if caveBase ≤ base ∧ base + blocks * 2 ^ 21 ≤ caveEnd then
    (List.range blocks).all fun i => (s.extentFor ptn (cavePageOf (base + i * 2 ^ 21) / 512)).isSome
  else false

/-- Whether two keys could match one request (R268). -/
def Block.keysMeet (s : Block) (fn : Nat) (spid : Option Nat) (g : Nat) : Bool :=
  decide (s.gateFn g = fn)
    && (spid.isNone || s.isSet (F.HPT_GATE_KEY_SPID_ANY g) || decide (spid = some (s.fld (F.HPT_GATE_KEY_SPID g))))

/-- Whether a range overlaps that of another gate whose key could match the same request (R268). -/
def Block.gateOverlap (s : Block) (self fn : Nat) (spid : Option Nat) (base bytes : Nat) : Bool :=
  s.activeGates.any fun g =>
    decide (g ≠ self) && s.keysMeet fn spid g && overlaps base bytes (s.gateBase g) (s.gateBytes g)

/-- The SPID of a gate's key, unless it matches any. -/
def Block.gateSpid (s : Block) (g : Nat) : Option Nat :=
  if s.isSet (F.HPT_GATE_KEY_SPID_ANY g) then none else some (s.fld (F.HPT_GATE_KEY_SPID g))

/-- Why an ENABLE through the HPT block is refused, in the order of R268. -/
def Block.gateRefusal (s : Block) (g : Nat) : Option Nat :=
  let base := s.gateBase g
  let bytes := s.gateBytes g
  let kind := s.fld (F.HPT_GATE_CFG_KIND g)
  let region := s.fld (F.HPT_GATE_CFG_REGION g)
  let inSpace := decide (base + bytes ≤ dramBytes) || (decide (caveBase ≤ base) && decide (base + bytes ≤ caveEnd))
  if bytes = 0 ∨ !inSpace then some 0x1
  else if s.hostPorts ≤ s.fld (F.HPT_GATE_KEY_PORT g) then some 0x6
  else if kind = gkExtent ∨ kind = 3 then some 0x7
  else if kind = gkCommons ∧ (s.isSet (F.HPT_GATE_CFG_WRITE g) ∨ s.fld (F.HPT_CMN_STATE_STATE region) = 0
      ∨ base ≠ s.bankStart region false ∨ bytes ≠ s.bankBytes region) then some 0x7
  else if s.gateOverlap g (s.gateFn g) (s.gateSpid g) base bytes then some 0x2
  else if !s.blocksOf (s.fld (F.HPT_GATE_CFG_PARTITION g)) base (s.fld (F.HPT_GATE_BLOCKS_BLOCKS g)) then some 0x3
  else none

/-- Whether a gate is an EXTENT gate: one that R274 has created and that is not freed (R271). -/
def Block.isExtent (s : Block) (g : Nat) : Bool := (Assoc.find g s.host.extents).isSome

/-- TSP states (R479). -/
def tspUnlocked : Nat := 0
def tspLocked : Nat := 1
def tspError : Nat := 2

/-- Whether a logical device is locked (R479). -/
def Block.tspIsLocked (s : Block) (fn : Nat) : Bool := decide (s.fld (F.SEC_TSP_STATE_STATE fn) = tspLocked)

/-- ERR of a gate. -/
def Block.gateErr (s : Block) (g code : Nat) : Block := s.setFld (F.HPT_GATE_STATE_ERR g) code

/-- A write to a gate's registers that R33, R271 and R479 let through. -/
def Block.gateWrite (s : Block) (a : Actor) (g : Nat) (act : Block → Block) : Block :=
  s.byFull a fun t =>
    if t.tspIsLocked (t.gateFn g) then t.bump F.SEC_TSP_VIOL_COUNT_COUNT
    else if t.isExtent g then t.gateErr g 0x5
    else act t

/-- ENABLE 1 on a gate (R268, R271). -/
def Block.gateEnable (s : Block) (g : Nat) : Block :=
  let st := s.fld (F.HPT_GATE_STATE_STATE g)
  if st = gtActive then s
  else if st ≠ gtOff then s.gateErr g 0x4
  else
    match s.gateRefusal g with
    | some code => s.gateErr g code
    | none => (((s.gateErr g 0).setFld (F.HPT_GATE_CFG_ENABLE g) 1).setFld (F.HPT_GATE_STATE_INFLIGHT g) 0).setGate g gtActive

/-- ENABLE 0 on a gate: steps 1 to 3 of Table 9-4, then OFF (R271). -/
def Block.gateDisable (s : Block) (g : Nat) : Block :=
  let s1 := s.setFld (F.HPT_GATE_CFG_ENABLE g) 0
  if s.fld (F.HPT_GATE_STATE_STATE g) = gtActive then (s1.setGate g gtClosing).settleGate g else s1

/-- ENABLE 1 written to a gate (R271). -/
def execGateEnable (by_ : Actor) (gate : Fin 4096) (s : State) : Out :=
  s.act fun s => (s.gateWrite by_ gate.val fun t => t.gateEnable gate.val)

/-- ENABLE 0 written to a gate (R271). -/
def execGateDisable (by_ : Actor) (gate : Fin 4096) (s : State) : Out :=
  s.act fun s => (s.gateWrite by_ gate.val fun t => t.gateDisable gate.val)

/-! ## Dynamic capacity -/

/-- The answer of a logical device's mailbox; a device that its port does not present has none (R264). -/
def Block.atMailbox (s : Block) (fn : Nat) (act : Block → Block) : Block := if s.presents fn then act s else s

/-- The answer to a mailbox or FM API command: to a logical device, or to the fabric manager. -/
def Block.cxl (s : Block) (fn : Option Nat) (r : CxlReply) : Block := s.emit (.cxl fn r)

/-- The extents of a logical device. -/
def Block.extentsOf (s : Block) (fn : Nat) : List Nat :=
  (s.host.extents.map (·.1)).filter fun g => decide (s.gateFn g = fn)

/-- The lowest gate that is free. -/
def Block.freeGate (s : Block) : Option Nat :=
  let on := s.activeGates
  (List.range 4096).find? fun g => !on.contains g && !s.isExtent g

/-- Whether the extents of other logical devices let a block be shared: one tag, and each COHERENT or not written
(R275). -/
def Block.shareOk (s : Block) (fn base bytes tag : Nat) (write coherent : Bool) : Bool :=
  s.host.extents.all fun e =>
    decide (s.gateFn e.1 = fn) || !overlaps base bytes (s.gateBase e.1) (s.gateBytes e.1)
      || (decide (e.2.tag = tag) && (coherent || !write)
          && (s.isSet (F.HPT_GATE_CFG_COHERENT e.1) || !s.isSet (F.HPT_GATE_CFG_WRITE e.1)))

/-- An EXTENT gate created (R274), OFFERED to its logical device. -/
def Block.offer (s : Block) (g fn ptn base blocks tag : Nat) (read write coherent : Bool) : Block :=
  let bit (b : Bool) (n : Nat) : Nat := if b then 2 ^ n else 0
  let s1 := (s.setPair (R.HPT_GATE_BASE_LO g) (R.HPT_GATE_BASE_HI g) base).setFld (F.HPT_GATE_BLOCKS_BLOCKS g) blocks
  let s2 := s1.setReg (R.HPT_GATE_KEY g) (BitVec.ofNat 32 (2 ^ 31 + fn / 16 * 2 ^ 4 + fn % 16))
  let s3 := s2.setReg (R.HPT_GATE_CFG g)
    (BitVec.ofNat 32 (ptn * 2 ^ 26 + bit read 25 + bit write 24 + bit coherent 23 + gkExtent * 2 ^ 21))
  ((({ s3 with host := { s3.host with extents := Assoc.ins g { tag := tag } s3.host.extents } } : Block).setReg
    (R.HPT_GATE_STATE g) 0).setGate g gtOffered).emit (.dcEvent (some fn) g .offered)

/-- An extent offered to a logical device, or refused: the first refusal that applies (R274, R275, R479). -/
def Block.capacityAdd (s : Block) (fn : Fin 256) (ptn : Fin 32) (base : BitVec 52) (blocks : BitVec 28) (tag : BitVec 128)
    (read write coherent : Bool) : Block :=
  let f := fn.val
  let b := base.toNat
  let n := blocks.toNat
  if s.tspIsLocked f then s.cxl none .invalidSecurityState
  else if !s.presents f ∨ n = 0 ∨ b % 2 ^ 21 ≠ 0 then s.cxl none .invalidInput
  else if 512 ≤ (s.extentsOf f).length ∨ !s.blocksOf ptn.val b n ∨ s.gateOverlap 4096 f none b (n * 2 ^ 21) then
    s.cxl none .resourcesExhausted
  else
    match s.freeGate with
    | none => s.cxl none .resourcesExhausted
    | some g =>
      if !s.shareOk f b (n * 2 ^ 21) tag.toNat write coherent then s.cxl none .invalidInput
      else (s.offer g f ptn.val b n tag.toNat read write coherent).cxl none .success

/-- The fabric manager adds an extent, or it is refused (R274, R275, R479). -/
def execInitiateDynamicCapacityAdd (fn : Fin 256) (ptn : Fin 32) (base : BitVec 52) (blocks : BitVec 28) (tag : BitVec 128)
    (read write coherent : Bool) (s : State) : Out := s.act fun s => (s.capacityAdd fn ptn base blocks tag read write coherent)

/-- An extent of a logical device whose gate is in a state. -/
def Block.extentIn (s : Block) (fn g st : Nat) : Bool :=
  s.isExtent g && decide (s.gateFn g = fn) && decide (s.fld (F.HPT_GATE_STATE_STATE g) = st)

/-- The host accepts an offered extent (R275). -/
def execAddDynamicCapacityResponse (fn : Fin 256) (gate : Fin 4096) (s : State) : Out :=
  s.act fun s => s.atMailbox fn.val fun s => (
    if s.extentIn fn.val gate.val gtOffered then
      ((s.setFld (F.HPT_GATE_CFG_ENABLE gate.val) 1).setGate gate.val gtActive).cxl (some fn.val) .success
    else s.cxl (some fn.val) .invalidInput)

/-- An EXTENT gate freed. -/
def Block.freeExtent (s : Block) (g : Nat) : Block :=
  ({ s with host := { s.host with extents := Assoc.drop g s.host.extents } } : Block).setFld (F.HPT_GATE_CFG_ENABLE g) 0
    |>.setGate g gtOff

/-- An extent not accepted within 10 s is withdrawn (R275). -/
def execExtentOfferExpiry (gate : Fin 4096) (s : State) : Out :=
  s.act fun s => (
    if s.isExtent gate.val ∧ s.fld (F.HPT_GATE_STATE_STATE gate.val) = gtOffered then s.freeExtent gate.val else s)

/-- Step 1 of Table 9-4. -/
def Block.closeExtent (s : Block) (g : Nat) : Block := s.setGate g gtClosing

/-- The host releases an extent (R276). -/
def execReleaseDynamicCapacity (fn : Fin 256) (gate : Fin 4096) (s : State) : Out :=
  s.act fun s => s.atMailbox fn.val fun s => (
    if s.extentIn fn.val gate.val gtActive then (s.closeExtent gate.val).cxl (some fn.val) .success
    else s.cxl (some fn.val) .invalidInput)

/-- The fabric manager releases an extent: the host is asked, or told where the removal is forced (R276). -/
def execInitiateDynamicCapacityRelease (gate : Fin 4096) (forced : Bool) (s : State) : Out :=
  s.act fun s => (
    let g := gate.val
    if s.isExtent g ∧ s.fld (F.HPT_GATE_STATE_STATE g) = gtActive then
      let s1 := s.cxl none .success
      if forced then (s1.closeExtent g).emit (.dcEvent (some (s.gateFn g)) g .removed)
      else s1.emit (.dcEvent (some (s.gateFn g)) g .releaseAsked)
    else s.cxl none .invalidInput)

/-- Steps 2 and 3 of Table 9-4 are done: the scrub begins. -/
def execExtentClosed (gate : Fin 4096) (s : State) : Out :=
  s.act fun s => (
    let g := gate.val
    if s.isExtent g ∧ s.fld (F.HPT_GATE_STATE_STATE g) = gtClosing ∧ s.fld (F.HPT_GATE_STATE_INFLIGHT g) = 0
        ∧ !(s.isSet (F.HPT_GATE_CFG_COHERENT g) && s.gateTracked g) then s.setGate g gtScrub
    else s)

/-- A block written as poison: DRAM, both copies of a twin, or a cave block in its frame or on flash. -/
def Block.poisonBlock (s : Block) (ptn dpa : Nat) : Block :=
  if dpa < dramBytes then
    match s.twinOf dpa with
    | some (t, false) => (s.poisonSpan dpa 32768).poisonSpan (s.twinAddr t false true dpa) 32768
    | _ => s.poisonSpan dpa 32768
  else
    let first := cavePageOf dpa
    match s.frameOf (first / 512) with
    | some b =>
      let s1 := s.poisonSpan (b * 2 ^ 21) 32768
      s1.setFrame b { s1.frame b with valid := List.range 512, dirty := List.range 512 }
    | none => forEach (List.range 512) (fun i t => t.programPage ptn (first + i) (List.replicate 64 .poison)) s

/-- Whether a block lies in another logical device's extent. -/
def Block.sharedBlock (s : Block) (g dpa : Nat) : Bool :=
  s.host.extents.any fun e => decide (e.1 ≠ g) && decide (s.gateFn e.1 ≠ s.gateFn g) && s.gateCovers e.1 dpa dpa

/-- The scrub ends: the blocks of no other extent are poison, the gate is freed, the release is reported (steps 5 and 6
of Table 9-4). -/
def execExtentScrubDone (gate : Fin 4096) (s : State) : Out :=
  s.act fun s => (
    let g := gate.val
    if s.isExtent g ∧ s.fld (F.HPT_GATE_STATE_STATE g) = gtScrub then
      let p := s.fld (F.HPT_GATE_CFG_PARTITION g)
      let mine := ((List.range (s.fld (F.HPT_GATE_BLOCKS_BLOCKS g))).map (s.gateBase g + · * 2 ^ 21)).filter
        fun b => !s.sharedBlock g b
      let s1 := (forEach mine (fun b t => t.poisonBlock p b) s).freeExtent g
      (s1.emit (.dcEvent none g .released)).emit (.dcEvent (some (s.gateFn g)) g .released)
    else s)

/-! ## Mailbox and FM API (R264) -/

/-- Whether the module shows memory: a recovery boot shows none (R92). -/
def Block.showsMemory (s : Block) : Bool := decide (s.boot.phase ≠ .recovery)

/-- Identify Memory Device: capacities the spec does not give are a free value, the DC regions are two (R274); in recovery
boot there is no capacity (R92). -/
def execIdentifyMemoryDevice (fn : Fin 256) (s : State) : Out :=
  s.act fun s => s.atMailbox fn.val fun s => (
    if s.showsMemory then
      let (v, s1) := s.fresh
      s1.cxl (some fn.val) (.identity v.toNat 2)
    else s.cxl (some fn.val) (.identity 0 0))

/-- Get Event Records. -/
def execGetEventRecords (fn : Fin 256) (s : State) : Out :=
  s.act fun s => s.atMailbox fn.val fun s => (s.cxl (some fn.val)
    (.events (Assoc.get [] fn.val s.host.eventLogs) (s.host.overflowed.contains fn.val)))

/-- Clear Event Records: the oldest `count` records leave the log, which is no longer full. -/
def execClearEventRecords (fn : Fin 256) (count : BitVec 16) (s : State) : Out :=
  s.act fun s => s.atMailbox fn.val fun s => (
    let log : List Rec := Assoc.get [] fn.val s.host.eventLogs
    if log.length < count.toNat then s.cxl (some fn.val) .invalidInput
    else
      ({ s with host := { s.host with
          eventLogs := Assoc.put [] fn.val (log.drop count.toNat) s.host.eventLogs
          overflowed := if count.toNat = 0 then s.host.overflowed else s.host.overflowed.filter (· ≠ fn.val) } } :
        Block).cxl (some fn.val) .success)

/-- Get Dynamic Capacity Configuration: base, bytes and block size of the two regions (R274), none in recovery boot (R92). -/
def execGetDynamicCapacityConfiguration (fn : Fin 256) (s : State) : Out :=
  s.act fun s => s.atMailbox fn.val fun s => (s.cxl (some fn.val)
    (.dcConfig (if s.showsMemory then [(0, dramBytes, 2 ^ 21), (caveBase, caveEnd - caveBase, 2 ^ 21)] else [])))

/-- Get Dynamic Capacity Extent List: base, bytes and tag of the accepted extents. -/
def execGetDynamicCapacityExtentList (fn : Fin 256) (s : State) : Out :=
  s.act fun s => s.atMailbox fn.val fun s => (s.cxl (some fn.val) (.extents
    (((s.extentsOf fn.val).filter fun g => decide (s.fld (F.HPT_GATE_STATE_STATE g) = gtActive)).map fun g =>
      (s.gateBase g, s.gateBytes g, (Assoc.get {} g s.host.extents : Extent).tag))))

/-- Get LD Info: the memory size is a free value, 0 in recovery boot (R92). -/
def execGetLdInfo (port : Fin 16) (s : State) : Out :=
  s.act fun s => (
    let (v, s1) := s.fresh
    s1.cxl none (.ldInfo (if s.showsMemory then v.toNat else 0) (Assoc.get 0 port.val s.host.lds)))

/-- Get LD Allocations. -/
def execGetLdAllocations (port : Fin 16) (s : State) : Out :=
  s.act fun s => (s.cxl none (.allocations (Assoc.get 0 port.val s.host.lds)))

/-- Set LD Allocations. -/
def execSetLdAllocations (port : Fin 16) (count : Fin 17) (s : State) : Out :=
  s.act fun s => (
    if s.hostPorts ≤ port.val then s.cxl none .invalidInput
    else
      (({ s with host := { s.host with lds := Assoc.put 0 port.val count.val s.host.lds } } : Block).setFld
        (F.HPT_PORT_STATUS_LDS port.val) count.val).cxl none .success)

/-- A command that chapter 9 does not name, to a logical device or to the FM API. -/
def execUnsupportedCxlCommand (fn : Option (Fin 256)) (s : State) : Out :=
  s.act fun s => (
    match fn with
    | some f => s.atMailbox f.val fun t => t.cxl (some f.val) .unsupported
    | none => s.cxl none .unsupported)

/-- IDE_KM key programming: skid mode is refused and installs nothing (R263). -/
def execIdeKmKeyProg (port : Fin 16) (key : BitVec 256) (skid : Bool) (s : State) : Out :=
  s.act fun s => (
    if skid then s.emit (.ideRefused port.val)
    else
      ({ s with host := { s.host with
          ideKeys := Assoc.put [] port.val (Assoc.get [] port.val s.host.ideKeys ++ [key.toNat]) s.host.ideKeys } } :
        Block).setFld (F.HPT_PORT_STATUS_IDE port.val) 1 |>.emit (.ideInstalled port.val))

end Sys2Proof.Machine
end

