-- ==== Sys2Proof/Machine/Commons.lean ====
section
/-! DEFINITION.  Commons regions (R287) and their publication (R288, R289). -/

namespace Sys2Proof.Machine

/-- Region states (HPT_CMN_STATE.STATE). -/
def cmOff : Nat := 0
def cmReady : Nat := 1
def cmPublishing : Nat := 2
def cmDraining : Nat := 3

/-- Why an ENABLE of a region is refused (HPT_CMN_STATE.ERR). -/
def Block.commonsRefusal (s : Block) (r : Nat) : Option Nat :=
  let n := s.bankBytes r
  let a := s.bankStart r false
  let b := s.bankStart r true
  let plain (base : Nat) : Bool := (List.range (n / 2 ^ 21)).all fun i =>
    decide (s.ownerOf (base + i * 2 ^ 21) = some 0)
      && decide ((s.tier (tierBlockOf (base + i * 2 ^ 21))).cls = clsOrdinary)
  if n = 0 ∨ dramBytes < a + n ∨ dramBytes < b + n then some 0x1
  else if overlaps a n b n then some 0x2
  else if !plain a || !plain b then some 0x3
  else none

/-- ENABLE 1 on a region (R287). -/
def Block.commonsEnable (s : Block) (r : Nat) : Block :=
  if s.fld (F.HPT_CMN_STATE_STATE r) ≠ cmOff then s.setFld (F.HPT_CMN_STATE_ERR r) 0x4
  else
    match s.commonsRefusal r with
    | some code => s.setFld (F.HPT_CMN_STATE_ERR r) code
    | none =>
      (((s.setReg (R.HPT_CMN_STATE r) (BitVec.ofNat 32 (cmReady * 2 ^ 28))).setFld (F.HPT_CMN_CFG_ENABLE r) 1).setPair
        (R.HPT_CMN_VERSION_LO r) (R.HPT_CMN_VERSION_HI r) 0).setPair (R.HPT_CMN_VISIBLE_LO r) (R.HPT_CMN_VISIBLE_HI r) 0

/-- ENABLE 0 on a region: it is OFF unless a publication of it runs. -/
def Block.commonsDisable (s : Block) (r : Nat) : Block :=
  if s.fld (F.HPT_CMN_STATE_STATE r) = cmReady then
    (s.setFld (F.HPT_CMN_CFG_ENABLE r) 0).setFld (F.HPT_CMN_STATE_STATE r) cmOff
  else s.setFld (F.HPT_CMN_STATE_ERR r) 0x4

/-- ENABLE 1 written to a commons region (R287). -/
def execCommonsEnable (by_ : Actor) (region : Fin 64) (s : State) : Out :=
  s.act fun s => (s.byFull by_ fun t => t.commonsEnable region.val)

/-- VERSION of a region. -/
def Block.commonsVersion (s : Block) (r : Nat) : Nat := s.pair (R.HPT_CMN_VERSION_LO r) (R.HPT_CMN_VERSION_HI r)

/-- Whether a descriptor is a PUBLISH. -/
def Desc.isPublish (d : Desc) : Bool := decide (d.opcode = opcPtnAdmin) && decide (d.f 0x40 63 56 = 0x10)

/-- The publication that a descriptor's claim begins. -/
def Desc.publish (d : Desc) (ring seq version : Nat) : Publish :=
  { region := d.f 0x40 55 50, ring := ring, seq := seq, ctx := d.ctx, src := d.f 0x50 47 12 * 2 ^ 12
    first := d.f 0x58 63 48, count := d.f 0x58 47 32, expect := d.w 0x48, result := d.f 0x60 47 3 * 2 ^ 3
    version := version, claimed := true }

/-- A region's VERSION written to RESULT. -/
def putVersion (result version : Nat) : Op Nat := do
  if result ≠ 0 then Op.out result (leBytes 8 version) false
  pure version

/-- A PUBLISH ended with a status and the VERSION it reports (R289). -/
def Block.publishEnd (s : Block) (e : LogEntry) (result status version : Nat) (after : Block → Block) : Block :=
  s.forWork e.ring e.seq fun s =>
  match s.runOp e.ring e.seq e.ctx true (putVersion result version) with
  | .stopped why s1 => s.runStopped e why s1
  | .completed f s1 =>
    after ((s1.begin e).setFin e.ring e.seq (f.first { status := status, len := version % 2 ^ 32 }))

/-- A PUBLISH compares EXPECT and claims a version, waits for READY, or completes VERSION_CONFLICT; one whose claim is
recorded resumes at step 2 (R289). -/
def Block.doPublish (s : Block) (e : LogEntry) : Block :=
  let d := e.bytes
  let r := Desc.f d 0x40 55 50
  let st := s.fld (F.HPT_CMN_STATE_STATE r)
  let v := s.commonsVersion r
  let inFlight := s.host.publishes.any fun p => decide (p.ring = e.ring) && decide (p.seq = e.seq)
  let add (version : Nat) (t : Block) : Block :=
    { t with host := { t.host with publishes := t.host.publishes ++ [Desc.publish d e.ring e.seq version] } }
  if inFlight then s
  else if e.unitsDone = 1 then add e.result (s.begin e)
  else if Desc.w d 0x48 = v ∧ st = cmReady then
    let nv := (v + 1) % 2 ^ 64
    add nv ((((s.begin e).mapEntry e.ring e.seq fun x => { x with units := 1, unitsDone := 1, result := nv }).setPair
      (R.HPT_CMN_VERSION_LO r) (R.HPT_CMN_VERSION_HI r) nv).setFld (F.HPT_CMN_STATE_STATE r) cmPublishing)
  else if Desc.w d 0x48 = v ∧ (st = cmPublishing ∨ st = cmDraining) then s
  else
    s.publishEnd e (Desc.f d 0x60 47 3 * 2 ^ 3) stVersionConflict v fun t => t.bump (F.HPT_CMN_CONFLICTS_COUNT r)

/-- PTN_ADMIN PUBLISH (R288, R289). -/
def execPublish (ring : Fin 4096) (seq : BitVec 64) (s : State) : Out :=
  s.act fun s => (
    match s.runnable ring.val seq.toNat Desc.isPublish with
    | some e => s.doPublish e
    | none => s)

/-- The lines of a publication's source, in order. -/
def srcLines (ca n : Nat) : Op (List LineVal) :=
  (List.range n).mapM fun i => do
    let b ← Op.caBytes (ca + 64 * i) 64
    if b.addrErr then Op.sawAddrErr
    if b.poison then Op.sawPoison
    pure (if b.poison || b.addrErr then .poison else .data b.bytes)

/-- Step 2: the standby bank filled. -/
def Block.fillBank (s : Block) (p : Publish) (src : List LineVal) : Block :=
  let cur := s.isSet (F.HPT_CMN_STATE_CURRENT p.region)
  let old := s.bankStart p.region cur
  let new := s.bankStart p.region (!cur)
  forEach (List.range (s.bankBytes p.region / 64)) (fun i t =>
    if p.first * 32768 ≤ i ∧ i < (p.first + p.count) * 32768 then
      t.writeAt .firmware (new + 64 * i) (src.getD (i - p.first * 32768) .poison)
    else
      let (v, t1) := t.readAt .firmware (old + 64 * i)
      t1.writeAt .firmware (new + 64 * i) v) s

/-- A publication changed. -/
def Block.mapPublish (s : Block) (p q : Publish) : Block :=
  { s with host := { s.host with publishes := s.host.publishes.map fun x => if x = p then q else x } }

/-- A publication gone. -/
def Block.dropPublish (s : Block) (p : Publish) : Block :=
  { s with host := { s.host with publishes := s.host.publishes.erase p } }

/-- Whether hosts may hold lines of a region (R289 step 4). -/
def Block.commonsTracked (s : Block) (r : Nat) : Bool :=
  (s.host.tracked.map (·.1)).any (fun l => decide (s.commonsAt false l = some r))
    || (s.host.assumed ≠ [] &&
      (List.range (s.bankBytes r / 64)).any fun i => decide ((s.trackedAt (s.bankStart r false + 64 * i)).holders ≠ []))

/-- Step 5: the completion, once every host copy has been recalled; the region drains. -/
def Block.publishDone (s : Block) (p : Publish) (e : LogEntry) : Block :=
  if s.commonsTracked p.region then s
  else
    s.publishEnd e p.result (endStatus e.sawAddr e.sawPoison) p.version fun t =>
      (t.dropPublish p).setFld (F.HPT_CMN_STATE_STATE p.region) cmDraining

/-- The standby bank is filled: CURRENT flips, and once host copies are recalled the descriptor completes (R289).  A
source that stops the copy ends the publication with the region READY and its version not visible. -/
def Block.copyDone (s : Block) (p : Publish) (e : LogEntry) : Block :=
  s.forWork e.ring e.seq fun s =>
  match srcLines p.src (p.count * 32768) (s.begin_ e.ring e.seq p.ctx true) with
  | .error (.wait, s1) => s.keepWaits s1
  | .error (why, s1) =>
    let s2 := s.runStopped e why s1
    match why with
    | .fault .. => s2
    | _ => (s2.dropPublish p).setFld (F.HPT_CMN_STATE_STATE p.region) cmReady
  | .ok (src, r) =>
    let s1 := r.s.fillBank p src
    let cur := s1.fld (F.HPT_CMN_STATE_CURRENT p.region)
    let s2 := (s1.setFld (F.HPT_CMN_STATE_CURRENT p.region) (1 - cur)).setPair (R.HPT_CMN_VISIBLE_LO p.region)
      (R.HPT_CMN_VISIBLE_HI p.region) p.version
    let q := { p with flipped := true }
    let s3 := (s2.mapPublish p q).mapEntry e.ring e.seq fun x => { x with sawPoison := r.poison, sawAddr := r.addrErr }
    s3.publishDone q (s3.now_ e)

/-- The copy of a region's publication is done, or its recalls are (R289 steps 3 to 5). -/
def execPublishCopyDone (region : Fin 64) (s : State) : Out :=
  s.act fun s => (
    match s.host.publishes.find? fun p => decide (p.region = region.val) && p.claimed with
    | none => s
    | some p =>
      match s.entry p.ring p.seq with
      | none => s
      | some e =>
        if !s.mayStart e ∨ s.faulting p.ring p.seq 0 then s
        else if p.flipped then s.publishDone p e
        else s.copyDone p e)

/-- Every reader of a region's old bank has finished: the region is READY (R289). -/
def execPublishDrainDone (region : Fin 64) (s : State) : Out :=
  s.act fun s => (
    let r := region.val
    let old := 1 - s.fld (F.HPT_CMN_STATE_CURRENT r)
    if s.fld (F.HPT_CMN_STATE_STATE r) = cmDraining
        && !(s.host.samples.any fun x => decide (x.region = r) && decide (x.bank = old))
        && !(s.host.reqs.any fun x => decide (x.bank = some (r, old))) then
      s.setFld (F.HPT_CMN_STATE_STATE r) cmReady
    else s)

end Sys2Proof.Machine
end

