-- ==== Sys2Proof/Machine/Prefetch.lean ====
section
/-! DEFINITION.  Stream prefetchers (R217–R219): the lines of a pattern, requests and arrivals, the adaptive
depth. -/

namespace Sys2Proof.Machine

/-- A prefetcher of a core, keyed core × 8 + index. -/
def Block.prefetcher (s : Block) (core p : Nat) : Option Prefetcher :=
  (s.pool.prefetchers.find? fun e => decide (e.1 = core * 8 + p)).map (·.2)

/-- A prefetcher replaced. -/
def Block.setPrefetcher (s : Block) (core p : Nat) (v : Prefetcher) : Block :=
  { s with pool := { s.pool with prefetchers := Assoc.ins (core * 8 + p) v s.pool.prefetchers } }

/-- The lines of a row or page of a pattern. -/
def PfPattern.unitLines : PfPattern → Nat
  | .linear _ _ _ => 1
  | .indexed _ _ _ rowBytes _ _ => rowBytes / 64
  | .pageList _ _ => 64

/-- The lines that a pattern names. -/
def PfPattern.lines (p : PfPattern) : Nat :=
  match p with
  | .linear _ _ count => count
  | .indexed _ _ _ _ _ count => count * p.unitLines
  | .pageList _ count => count * p.unitLines

/-- What line `i` of a pattern is: a line at a CA, a line of a plain page at a DPA, a line of a decoded page, an
ADDRESS_ERROR, or poison. -/
inductive PfLine where
  | ca (a : Nat)
  | dpa (a : Nat)
  | bytes (b : List Byte)
  | broken
  | poisoned
  deriving DecidableEq, Repr

/-- Line `i` of a pattern (Table 7-3). -/
def Op.pfLine (p : PfPattern) (i : Nat) : Op PfLine :=
  match p with
  | .linear base stride _ => pure (.ca (((base : Int) + 64 * stride * i) % 2 ^ 64).toNat)
  | .indexed list wide table rowBytes rows _ => do
    let n := if wide then 8 else 4
    let (idx, poison, bad) ← Op.caNat (list + n * (i / p.unitLines)) n
    pure (if poison then .poisoned else if bad ∨ rows ≤ idx then .broken
      else .ca ((table + idx * rowBytes + 64 * (i % p.unitLines)) % 2 ^ 64))
  | .pageList list _ => do
    match ← Op.pageAt list (i / 64) with
    | .plain dpa => pure (.dpa (dpa + 64 * (i % 64)))
    | .decoded b => pure (.bytes ((b.drop (64 * (i % 64))).take 64))
    | .poisoned => pure .poisoned
    | .broken => pure .broken

/-- What a prefetcher does about a line: it asks for it at a DPA, or stages what needs no reading. -/
inductive PfStep where
  | ask (page dpa : Nat)
  | stage (l : StagedLine)
  deriving DecidableEq, Repr

/-- The page number that stands for no CA page. -/
def noPage : Nat := 2 ^ 36

/-- A run for line `i` of a pattern: a pressed page that fails is counted with its first line (R239). -/
def Block.pfRun (s : Block) (f : Prefetcher) (i : Nat) : Run :=
  { s.begin_ f.ring f.seq f.ctx false with quiet := decide (i % 64 ≠ 0) }

/-- The next line of a prefetcher, translated through its stream's context. -/
def Op.pfStep (p : PfPattern) (i : Nat) : Op PfStep := do
  match ← Op.pfLine p i with
  | .ca a =>
    let dpa ← Op.xlate a accRead
    pure (.ask (a / 4096) dpa)
  | .dpa a => pure (.ask noPage a)
  | .bytes _ => pure (.ask noPage 0)
  | .broken => pure (.stage { idx := i, page := noPage, val := .poison, addressError := true })
  | .poisoned => pure (.stage { idx := i, page := noPage, val := .poison })

/-- The lines staged and in flight on a core. -/
def Block.coreLines (s : Block) (core : Nat) : Nat × Nat :=
  let ps := (s.pool.prefetchers.filter fun e => decide (e.1 / 8 = core)).map (·.2)
  ((ps.map fun p => p.staged.length).foldl (· + ·) 0, (ps.map fun p => p.flying.length).foldl (· + ·) 0)

/-- The floor of a stream's depth (R218): DEPTH_MIN; for a real-time stream its panic threshold plus 64 lines, or
DEPTH_MAX where that is less. -/
def Block.depthFloor (s : Block) (stream : Nat) : Nat :=
  let lo := s.fld F.TIR_PF_CFG_DEPTH_MIN
  if s.isSet (F.ENG_ST_CFG_REALTIME stream) then
    max lo (min (s.fld (F.ENG_ST_CFG_PANIC_LINES stream) + 64) (s.fld F.TIR_PF_CFG_DEPTH_MAX))
  else lo

/-- A new prefetcher of a task for a binding, from the position it has reached; its first depth is DESIGN CHOICE,
log 150. -/
def Block.bindPrefetcher (s : Block) (e : LogEntry) (core p : Nat) (b : PfBind) : Block :=
  let st := Desc.stream e.bytes
  s.setPrefetcher core p
    { ring := e.ring, seq := e.seq, stream := st, ctx := e.ctx, ptn := s.ringPtn e.ring, pattern := b.pattern
      next := b.taken / 64, used := b.taken / 64, depth := max (s.fld F.TIR_PF_CFG_DEPTH_MIN) (s.depthFloor st) }

/-- The depth D of a prefetcher: between its stream's floor and DEPTH_MAX, whatever TIR_PF_CFG held when it last adapted
(R218). -/
def Block.depthOf (s : Block) (p : Prefetcher) : Nat :=
  max (min p.depth (s.fld F.TIR_PF_CFG_DEPTH_MAX)) (s.depthFloor p.stream)

/-- Whether a prefetcher may request its next line (R218). -/
def Block.mayPrefetch (s : Block) (core : Nat) (p : Prefetcher) : Bool :=
  let (staged, flying) := s.coreLines core
  !p.stopped && decide (p.next < p.pattern.lines) && decide (p.flying.length < 512) && decide (flying < 1024)
    && decide (p.flying.length + p.staged.length < s.depthOf p) && decide (staged + flying < 2048)

/-- A prefetcher issues the next line of its pattern; at a page that faults or is denied it stops (R217, R219). -/
def execPrefetchIssue (core : Fin 324) (p : Fin 8) (s : State) : Out :=
  s.act fun s => (
    match s.prefetcher core.val p.val with
    | none => s
    | some f =>
      if !s.mayPrefetch core.val f then s
      else
        s.forWork f.ring f.seq fun t =>
          match Op.pfStep f.pattern f.next (t.pfRun f f.next) with
          | .ok (.ask page dpa, r) =>
            r.s.setPrefetcher core.val p.val { f with
              next := f.next + 1
              flying := f.flying ++ [{ idx := f.next, page := page, dpa := dpa, epoch := r.s.fld (F.XLT_CTX_STATUS_EPOCH f.ctx) }] }
          | .ok (.stage l, r) =>
            r.s.setPrefetcher core.val p.val { f with next := f.next + 1, staged := f.staged ++ [l] }
          | .error (.wait, s1) => t.keepWaits s1
          | .error (_, s1) => s1.setPrefetcher core.val p.val { f with stopped := true })

/-- The value of an arriving line: read at its DPA, or decoded from its pressed page. -/
def Op.pfArrive (p : PfPattern) (f : Flight) : Op StagedLine := do
  let got ← match p with
    | .pageList _ _ => do
      match ← Op.pfLine p f.idx with
      | .bytes b => pure (Got.val (.data b))
      | .dpa a => Op.lineAt a
      | .broken => pure .addressError
      | _ => pure (.val .poison)
    | _ => Op.lineAt (lineOf f.dpa)
  pure (match got with
    | .val v => { idx := f.idx, page := f.page, val := v }
    | _ => { idx := f.idx, page := f.page, val := .poison, addressError := true })

/-- The oldest request of a prefetcher arrives, decoded if pressed, and raises the staging level (R218). -/
def execPrefetchLineArrive (core : Fin 324) (p : Fin 8) (s : State) : Out :=
  s.act fun s => (
    match s.prefetcher core.val p.val with
    | none => s
    | some f =>
      match f.flying with
      | [] => s
      | fl :: rest =>
        if fl.stale then s.setPrefetcher core.val p.val { f with flying := rest }
        else
          s.forWork f.ring f.seq fun t =>
            match Op.pfArrive f.pattern fl (t.pfRun f fl.idx) with
            | .ok (l, r) =>
              (r.s.event 3 0 (r.s.workAttr (r.s.ringPtn f.ring))).setPrefetcher core.val p.val
                { f with flying := rest, staged := f.staged ++ [l] }
            | .error (.wait, s1) => t.keepWaits s1
            | .error (_, s1) =>
              s1.setPrefetcher core.val p.val { f with flying := rest, next := min f.next fl.idx, stopped := true })

/-- The stage was found empty 4 times in 10 µs: D doubles (R218). -/
def execPrefetchDepthDouble (core : Fin 324) (p : Fin 8) (s : State) : Out :=
  s.act fun s => (
    match s.prefetcher core.val p.val with
    | some f =>
      if s.isSet F.TIR_PF_CFG_ADAPT then
        s.setPrefetcher core.val p.val { f with depth := max (min (2 * s.depthOf f) (s.fld F.TIR_PF_CFG_DEPTH_MAX)) (s.depthFloor f.stream) }
      else s
    | none => s)

/-- The stage stayed full for 50 µs: D halves (R218). -/
def execPrefetchDepthHalve (core : Fin 324) (p : Fin 8) (s : State) : Out :=
  s.act fun s => (
    match s.prefetcher core.val p.val with
    | some f =>
      if s.isSet F.TIR_PF_CFG_ADAPT then
        s.setPrefetcher core.val p.val { f with depth := max (s.depthOf f / 2) (s.depthFloor f.stream) }
      else s
    | none => s)

end Sys2Proof.Machine
end

