-- ==== Sys2Proof/Machine/Engine.lean ====
section
/-! DEFINITION.  The engines' own commands (R314–R325, R330–R351): the operators, synchronisation operations, tasks on
their cores, the engine-time arbiter, streams. -/

namespace Sys2Proof.Machine

/-! ## Operators -/

/-- A re-run operator of an entry with one of some opcodes. -/
def Block.operate (s : Block) (ring : Fin 4096) (seq : BitVec 64) (mine : Desc → Bool) (priv : Bool)
    (op : Desc → Op Nat) : Block :=
  match s.working ring.val seq.toNat mine with
  | some e => s.rerun e priv (op e.bytes)
  | none => s

/-- Whether a descriptor has an opcode. -/
def isOpc (op : Nat) (d : Desc) : Bool := decide (d.opcode = op)

/-- NOP (R112). -/
def execNop (ring : Fin 4096) (seq : BitVec 64) (s : State) : Out :=
  s.act fun s => (
    match s.runnable ring.val seq.toNat (isOpc opcNop) with
    | some e => s.rerun e false (pure 0)
    | none => s)

/-- GATHER_REDUCE (R330). -/
def execGatherReduce (ring : Fin 4096) (seq : BitVec 64) (s : State) : Out :=
  s.act fun s => (s.operate ring seq (isOpc opcGather) false opGather)

/-- The chunks of a key/value head of ATTN_DECODE (R334). -/
def Desc.attnChunks (d : Desc) : Nat := max 1 (unitsOf (d.f 0x60 63 32) d.attnChunk)

/-- Whether every task of an ATTN_DECODE, one for each chunk of each key/value head, is dispatched and has come to pass 2: one
that has its head to itself holds its logits in a slot, a chunk task has the combined maximum, or it has ended (R334). -/
def Block.attnReady (s : Block) (e : LogEntry) : Bool :=
  let n := Desc.attnChunks e.bytes
  (List.range (Desc.f e.bytes 0x58 31 24 * n)).all fun idx =>
    match s.task e.ring e.seq idx with
    | some t => t.combined || decide (t.state = .ended) || (decide (n = 1) && t.logit)
    | none => false

/-- ATTN_DECODE (R332). -/
def execAttnDecode (ring : Fin 4096) (seq : BitVec 64) (s : State) : Out :=
  s.act fun s => (
    match s.working ring.val seq.toNat (isOpc opcAttn) with
    | some e => if s.attnReady e then s.rerun e false (opAttn e.bytes) else s
    | none => s)

/-- The maxima of a head are combined at the task of chunk 0, and its waiting chunk tasks go on to pass 2 (R334). -/
def execAttnMaxCombined (ring : Fin 4096) (seq : BitVec 64) (head : BitVec 8) (s : State) : Out :=
  s.act fun s => (
    match s.entry ring.val seq.toNat with
    | none => s
    | some e =>
      let n := Desc.attnChunks e.bytes
      let mine (t : Task) : Bool := t.of ring.val seq.toNat && decide (t.idx / n = head.toNat)
      let ts := s.eng.tasks.filter mine
      if isOpc opcAttn e.bytes ∧ ts.length = n ∧ ts.all fun t => decide (t.state = .waiting .maxima) then
        s.mapTasks fun t => if mine t then { t with state := .ready, combined := true } else t
      else s)

/-- A task frees its logit slot, and a task that waits for a slot takes it: a chunk task after pass 1, which then waits for the
combined maxima, and any task at the end of pass 2, with which it ends (R334). -/
def execLogitSlotFree (core : Fin 324) (slot : Fin 16) (s : State) : Out :=
  s.act fun s => (
    match (s.tasksOn core.val).find? fun t => decide (t.slot = slot.val) && decide (t.state = .running) && (t.logit || t.combined) with
    | none => s
    | some t =>
      let chunked := match s.entry t.ring t.seq with
        | some e => decide (1 < Desc.attnChunks e.bytes)
        | none => false
      if chunked && !t.combined then
        ((s.mapTask t.ring t.seq t.idx fun x => { x with state := .waiting .maxima, logit := false }).dropPrefetchers core.val).giveSlot
          core.val
      else s.endTask t)

/-- KV_APPEND (R336). -/
def execKvAppend (ring : Fin 4096) (seq : BitVec 64) (s : State) : Out :=
  s.act fun s => (
    match s.working ring.val seq.toNat (isOpc opcKvAppend) with
    | some e => s.runInPlace e
    | none => s)

/-- KV_PRESS in a mode, in place where REPLACE is set (R341). -/
def Block.press (s : Block) (ring : Fin 4096) (seq : BitVec 64) (mode : Nat) : Block :=
  match s.working ring.val seq.toNat fun d => isOpc opcKvPress d && decide (d.f 0x40 63 60 = mode) with
  | some e => if Desc.inPlaceKind e.bytes then s.runInPlace e else s.rerun e false (opPress e.bytes)
  | none => s

/-- KV_PRESS MODE PRESS (R341). -/
def execPress (ring : Fin 4096) (seq : BitVec 64) (s : State) : Out := s.act fun s => (s.press ring seq 1)

/-- KV_PRESS MODE UNPRESS (R341). -/
def execUnpress (ring : Fin 4096) (seq : BitVec 64) (s : State) : Out := s.act fun s => (s.press ring seq 2)

/-- TOPK (R342). -/
def execTopk (ring : Fin 4096) (seq : BitVec 64) (s : State) : Out :=
  s.act fun s => (s.operate ring seq (isOpc opcTopk) false opTopk)

/-- REDUCE, in place where ACCUM is set (R343). -/
def execReduce (ring : Fin 4096) (seq : BitVec 64) (s : State) : Out :=
  s.act fun s => (
    match s.working ring.val seq.toNat (isOpc opcReduce) with
    | some e => if Desc.inPlaceKind e.bytes then s.runInPlace e else s.rerun e true (opReduce e.bytes)
    | none => s)

/-- COPY; where its ranges overlap it is in place, its source read whole before any write (R345). -/
def execCopy (ring : Fin 4096) (seq : BitVec 64) (s : State) : Out :=
  s.act fun s => (
    match s.working ring.val seq.toNat (isOpc opcCopy) with
    | none => s
    | some e =>
      match s.copyInPlace e with
      | .error (why, s1) => s.runStopped e why s1
      | .ok (true, s1) => s1.runInPlace (s1.now_ e)
      | .ok (false, s1) => s1.rerun e false (opCopy e.bytes))

/-- FILL in pattern mode (R345). -/
def execFillPattern (ring : Fin 4096) (seq : BitVec 64) (s : State) : Out :=
  s.act fun s => (s.operate ring seq (fun d => isOpc opcFill d && decide (d.f 0x58 63 62 = 0)) false opFillPattern)

/-- FILL in poison mode (R345). -/
def execFillPoison (ring : Fin 4096) (seq : BitVec 64) (s : State) : Out :=
  s.act fun s => (s.operate ring seq (fun d => isOpc opcFill d && decide (d.f 0x58 63 62 = 1)) false opFillPoison)

/-! ## Synchronisation operations -/

/-- A SYNC_OP of one operation (R348, R350). -/
def Block.syncOp (s : Block) (ring : Fin 4096) (seq : BitVec 64) (op : Nat) : Block :=
  match s.working ring.val seq.toNat fun d => isOpc opcSyncOp d && decide (d.f 0x40 63 60 = op) with
  | some e => s.runInPlace e
  | none => s

/-- SYNC_OP INIT (R348). -/
def execSyncOpInit (ring : Fin 4096) (seq : BitVec 64) (s : State) : Out := s.act fun s => (s.syncOp ring seq opInit)

/-- SYNC_OP READ (R348). -/
def execSyncOpRead (ring : Fin 4096) (seq : BitVec 64) (s : State) : Out := s.act fun s => (s.syncOp ring seq opRead)

/-- SYNC_OP ADD (R348). -/
def execSyncOpAdd (ring : Fin 4096) (seq : BitVec 64) (s : State) : Out := s.act fun s => (s.syncOp ring seq opAdd)

/-- SYNC_OP SWAP (R348). -/
def execSyncOpSwap (ring : Fin 4096) (seq : BitVec 64) (s : State) : Out := s.act fun s => (s.syncOp ring seq opSwap)

/-- SYNC_OP CAS (R348). -/
def execSyncOpCas (ring : Fin 4096) (seq : BitVec 64) (s : State) : Out := s.act fun s => (s.syncOp ring seq opCas)

/-- SYNC_OP SIGNAL (R348). -/
def execSyncOpSignal (ring : Fin 4096) (seq : BitVec 64) (s : State) : Out := s.act fun s => (s.syncOp ring seq opSignal)

/-- SYNC_OP ACQUIRE: the subtraction, or the wait for it (R348). -/
def execSyncOpAcquire (ring : Fin 4096) (seq : BitVec 64) (s : State) : Out := s.act fun s => (s.syncOp ring seq opAcquire)

/-- A waiting ACQUIRE's semaphore has reached its operand: the subtraction is applied at the object (R348). -/
def execAcquireWake (ring : Fin 4096) (seq : BitVec 64) (s : State) : Out :=
  s.act fun s => (
    match s.runnable ring.val seq.toNat fun d => isOpc opcSyncOp d && decide (d.f 0x40 63 60 = opAcquire) with
    | some e => if e.begun then s.runInPlace e else s
    | none => s)

/-- An object change meets waits on it (R349): the entries and tasks that wait are evaluated. -/
def execWaitMet (s : State) : Out := s.act fun s => s.evalWaits

/-- An object block put out of use: its objects are NONE (R347). -/
def Block.disableBlock (s : Block) (b : Nat) : Block :=
  ((s.setFld (F.ENG_SYNC_OWN_EN b) 0).clearObjBlock b).evalWaits

/-- Clearing EN of ENG_SYNC_OWN (R347). -/
def execSyncBlockDisable (by_ : Actor) (block : Fin 256) (s : State) : Out :=
  s.act fun s => (s.byFull by_ fun t => t.disableBlock block.val)

/-! ## Tasks and the arbiter -/

/-- A task of a descriptor placed in a cluster that the ring's partition owns (R314). -/
def Block.dispatch (s : Block) (e : LogEntry) (idx cluster : Nat) : Block :=
  let go (t : Task) (u : Block) : Block :=
    let t1 := { t with cluster := some cluster }
    let u1 := u.mapTask e.ring e.seq idx fun _ => t1
    if (u1.queueHead cluster).map (fun h => h.is e.ring e.seq idx) = some true then
      (u1.seat t1 (isOpc opcAttn e.bytes)).countStream t1.stream
    else u1.countStream t1.stream
  match s.task e.ring e.seq idx with
  | some t => if t.cluster.isNone then go t s else s
  | none =>
    if isOpc opcBexaRun e.bytes then s
    else
      let t : Task := { ring := e.ring, seq := e.seq, idx := idx, stream := Desc.stream e.bytes }
      go t { s with eng := { s.eng with tasks := s.eng.tasks ++ [t] } }

/-- Whether a partition owns a cluster in service on a die. -/
def Block.ownsOn (s : Block) (ptn die : Nat) : Bool :=
  (List.range 9).any fun c => decide (s.clusterOwner (9 * die + c) = some ptn) && s.clusterUp (9 * die + c)

/-- Whether none of a partition's clusters in service is nearer to a die on the rose ring than a cluster is (R314). -/
def Block.nearest (s : Block) (ptn cluster die : Nat) : Bool :=
  (List.range 36).all fun c => !(decide (s.clusterOwner c = some ptn) && s.clusterUp c)
    || decide (ringToDie (cluster / 9 * 10 + cluster % 9) die ≤ ringToDie (c / 9 * 10 + c % 9) die)

/-- Whether a task of a descriptor may go to a cluster: it is in service and the ring's partition owns it, and a gather or a
read of pages goes to a die that serves some of the data while the partition has a cluster there (R38, R314); of several such
dies the ring engine takes which it will.  Where it owns none there, the nearest of its clusters reads across the ring. -/
def Block.mayPlace (s : Block) (e : LogEntry) (idx cluster : Nat) : Bool :=
  let p := s.ringPtn e.ring
  decide (s.clusterOwner cluster = some p) && s.clusterUp cluster
    && match opServedDies e.bytes idx (s.begin_ e.ring e.seq e.ctx false) with
      | .ok (dies, _) => dies.contains (cluster / 9)
          || (!dies.any (s.ownsOn p) && (dies.isEmpty || dies.any fun d => s.nearest p cluster d))
      | .error _ => true

/-- A task is placed on the least-loaded core of a cluster, or waits in its queue (R314). -/
def execTaskDispatch (ring : Fin 4096) (seq : BitVec 64) (idx : BitVec 16) (cluster : Fin 36) (s : State) : Out :=
  s.act fun s => (
    match s.entry ring.val seq.toNat with
    | some e => if s.mayStart e && s.mayPlace e idx.toNat cluster.val then s.dispatch e idx.toNat cluster.val else s
    | none => s)

/-- The rank of a task (R320). -/
def Block.taskRank (s : Block) (t : Task) : Nat :=
  if s.fld (F.ENG_ST_CFG_PRIORITY t.stream) ≠ 1 then 2
  else if s.isSet (F.ENG_ST_STATUS_MASKED t.stream) then 3
  else 1

/-- Whether a READY task goes before another (R320). -/
def Block.beats (s : Block) (a b : Task) : Bool :=
  let ra := s.taskRank a
  let rb := s.taskRank b
  decide (ra < rb) || (decide (ra = rb) && (decide (b.losses < a.losses)
    || (decide (a.losses = b.losses) && decide (a.slot < b.slot))))

/-- The READY task that the arbiter of a core picks. -/
def Block.winner (s : Block) (k : Nat) : Option Task :=
  ((s.tasksOn k).filter fun t => decide (t.state = .ready)).foldl
    (fun best t =>
      match best with
      | none => some t
      | some b => if s.beats t b then some t else some b) none

/-- A grant counted for its stream; a HIGH stream at its quota is MASKED (R323). -/
def Block.countGrant (s : Block) (st : Nat) : Block :=
  let n := Assoc.get 0 st s.eng.grants + 1
  let s1 := ({ s with eng := { s.eng with grants := Assoc.put 0 st n s.eng.grants } } : Block).bump
    (F.ENG_ST_GRANTS_COUNT st)
  if s.fld (F.ENG_ST_CFG_PRIORITY st) = 1 ∧ s.fld (F.ENG_ST_QUOTA_GRANT_QUOTA st) ≤ n then
    s1.setFld (F.ENG_ST_STATUS_MASKED st) 1
  else s1

/-- A task of an operator that holds its core's grant: the core's prefetchers are bound to its streams (R217). -/
def Block.bindStreams (s : Block) (e : LogEntry) (t : Task) (core : Nat) : Block :=
  if t.prog.isSome then s
  else
    match opStreams e.bytes t.idx (s.begin_ e.ring e.seq e.ctx false) with
    | .error _ => s
    | .ok (ps, _) => forEach (ps.take 8).zipIdx (fun x u =>
        u.bindPrefetcher e core x.2 { fmt := 0, pattern := x.1, scaleBase := 0 }) s

/-- A free grant is given to the winning READY task; the others record a loss (R320, R322). -/
def Block.grant (s : Block) (k : Nat) : Block :=
  if (s.holder k).isSome || s.ctl.stopped then s
  else
    match s.winner k with
    | none => s
    | some w =>
      let s1 := (s.mapTasks fun t =>
        if t.core ≠ some k ∨ t.state ≠ .ready then t
        else if t.is w.ring w.seq w.idx then { t with state := .running, losses := 0, tiles := 0 }
        else { t with state := .backoff, losses := t.losses + 1 }).countGrant w.stream
      let losers := (s.tasksOn k).filter fun t => decide (t.state = .ready) && !t.is w.ring w.seq w.idx
      let s2 := forEach losers (fun t u => u.event 2 5 (u.entryAttr t.ring t.seq)) (s1.event 2 3 (s1.entryAttr w.ring w.seq))
      match s2.entry w.ring w.seq with
      | some e => if e.fin.isNone then (s2.begin e).bindStreams e w k else s2
      | none => s2

/-- A free core grant is given to the winning READY task (R320). -/
def execArbGrant (core : Fin 324) (s : State) : Out := s.act fun s => (s.grant core.val)

/-- The holder of a core at a tile boundary: it keeps its grant, or yields and is READY (R321). -/
def Block.tileBoundary (s : Block) (k : Nat) : Block :=
  match s.holder k with
  | none => s
  | some h =>
    let h1 := { h with tiles := h.tiles + 1 }
    let rivals := (s.tasksOn k).filter fun t => decide (t.state = .ready)
    let yields := rivals.any fun t =>
      decide (s.taskRank t < s.taskRank h)
        || (decide (s.taskRank t = s.taskRank h) && decide (s.fld F.ENG_ARB_CFG_GRANT_MIN_TILES ≤ h1.tiles))
    if yields then
      ((s.mapTask h.ring h.seq h.idx fun _ => { h1 with state := .ready }).dropPrefetchers k).event 2 4
        (s.entryAttr h.ring h.seq)
    else s.mapTask h.ring h.seq h.idx fun _ => h1

/-- A task of an operator reaches a tile boundary (R321); a program's boundaries are its TILE instructions (R376). -/
def execTileBoundary (core : Fin 324) (s : State) : Out :=
  s.act fun s => (
    match s.holder core.val with
    | some h => if h.prog.isSome then s else s.tileBoundary core.val
    | none => s)

/-- A losing task's back-off ends (R322). -/
def execBackoffExpiry (core : Fin 324) (slot : Fin 16) (s : State) : Out :=
  s.act fun s => (s.mapTasks fun t =>
    if t.core = some core.val ∧ t.slot = slot.val ∧ t.state = .backoff then { t with state := .ready } else t)

/-- A grant-quota window rolls over: masked streams are unmasked (R323). -/
def execQuotaWindowRoll (s : State) : Out :=
  s.act fun s => ({ (forEach (s.eng.grants.map (·.1)) (fun st t => t.setFld (F.ENG_ST_STATUS_MASKED st) 0) s) with
    eng := { s.eng with grants := [] } })

/-- A descriptor cut off (R124, R324, R329): its tasks end, its stream's CUT
flag is set and a health event names the stream. -/
def Block.cutOff (s : Block) (e : LogEntry) : Block :=
  let st := Desc.stream e.bytes
  let len := if isOpc opcBexaRun e.bytes then ((s.tasksOf e.ring e.seq).filter (·.exited)).length else s.partLen e
  let s2 := (s.dropTasks e.ring e.seq).setFin e.ring e.seq { status := stCutOff, len := len }
  (((s2.setFld (F.ENG_ST_STATUS_CUT st) 1).bump F.ENG_CUT_COUNT_COUNT).health (.cutOff st)).trace ttCut
    (e.attr (s.ringPtn e.ring)) e.seq (e.ring * 2 ^ 48)

/-- Whether a run is in one of the two waits whose time does not count: every task it has waits on a translation fault, or its
burst waits for cells (R124, R254, R339). -/
def Block.limitStands (s : Block) (e : LogEntry) : Bool :=
  let ts := (s.tasksOf e.ring e.seq).filter fun t => decide (t.state ≠ .ended)
  (decide (ts ≠ []) && ts.all fun t => s.faulting t.ring t.seq t.idx)
    || s.eng.bursts.any fun b => decide (b.ring = e.ring ∧ b.seq = e.seq)

/-- A descriptor cut off once its unit in COMMITTING, if it has one, is applied; until then it goes on waiting (R329). -/
def Block.tryCutOff (s : Block) (e : LogEntry) : Block :=
  let s1 := s.endUnit e
  if (s1.now_ e).state = .committing then s1 else s1.cutOff (s1.now_ e)

/-- A run exceeds its run limit (R124), which none does in the waits that do not count. -/
def execRunLimitExpiry (ring : Fin 4096) (seq : BitVec 64) (s : State) : Out :=
  s.act fun s => (
    match s.entry ring.val seq.toNat with
    | some e => if e.begun && !e.settled && e.fin.isNone && !s.limitStands e then s.tryCutOff e else s
    | none => s)

/-- A program that holds a core reaches no tile boundary within HOLD_MAX; operators never meet it (R324). -/
def execHoldMaxCutoff (core : Fin 324) (s : State) : Out :=
  s.act fun s => (
    match (s.holder core.val).bind fun h => if h.prog.isSome then s.entry h.ring h.seq else none with
    | some e => if e.settled || e.fin.isSome then s else s.tryCutOff e
    | none => s)

/-! ## Streams (Table 11-3) -/

/-- ENABLE 1 on a stream. -/
def Block.streamEnable (s : Block) (st : Nat) : Block :=
  if 2 ≤ s.fld (F.ENG_ST_CFG_PRIORITY st) then s.setFld (F.ENG_ST_STATUS_ERR st) 0x1
  else
    let cur := s.fld (F.ENG_ST_STATUS_STATE st)
    ((s.setFld (F.ENG_ST_CFG_ENABLE st) 1).setFld (F.ENG_ST_STATUS_ERR st) 0).setFld (F.ENG_ST_STATUS_STATE st)
      (if cur = strOff then strIdle else if cur = strStopping then strActive else cur)

/-- ENABLE 0 on a stream. -/
def Block.streamDisable (s : Block) (st : Nat) : Block :=
  let cur := s.fld (F.ENG_ST_STATUS_STATE st)
  (s.setFld (F.ENG_ST_CFG_ENABLE st) 0).setFld (F.ENG_ST_STATUS_STATE st)
    (if cur = strIdle then strOff else if cur = strActive then strStopping else cur)

/-- ENABLE 1 on a stream (R319). -/
def execStreamEnable (by_ : Actor) (stream : BitVec 14) (s : State) : Out :=
  s.act fun s => (s.byOwner by_ (s.fld (F.ENG_ST_CFG_PARTITION stream.toNat)) fun t => t.streamEnable stream.toNat)

/-- ENABLE 0 on a stream (R319). -/
def execStreamDisable (by_ : Actor) (stream : BitVec 14) (s : State) : Out :=
  s.act fun s => (s.byOwner by_ (s.fld (F.ENG_ST_CFG_PARTITION stream.toNat)) fun t => t.streamDisable stream.toNat)

end Sys2Proof.Machine
end

