-- ==== Sys2Proof/Machine/Chronometer.lean ====
section
/-! DEFINITION.  The chronometer (R432–R435) and the charts (R436–R439). -/

namespace Sys2Proof.Machine

/-! ## Following the parent -/

/-- The stamps of an exchange as the offset of this node from its parent (R433). -/
def offsetOf (t1 t2 t3 t4 : Nat) (asym : Int) : Int := (((t2 : Int) - t1) - ((t4 : Int) - t3)) / 2 + asym

/-- A port's signed ASYM. -/
def Block.asym (s : Block) (p : Nat) : Int :=
  let v := s.fld (F.PFR_PORT_CFG_ASYM p)
  if 2 ^ 15 ≤ v then (v : Int) - 2 ^ 16 else v

/-- ±4 ns and ±5 ns in sixteenths of a tick. -/
def near (off : Int) : Bool := decide (off.natAbs ≤ 80)
def far (off : Int) : Bool := decide (100 < off.natAbs)

/-- The chronometer enters HOLDOVER. -/
def Block.holdOver (s : Block) : Block :=
  (s.setChrono { s.net.router.chrono with holdAt := some s.now }).setFld F.PFR_CHR_STATUS_STATE chHoldover

/-- The offset of a valid exchange taken (Table 14-6). -/
def Block.takeOffset (s : Block) (off : Int) : Block :=
  let st := s.fld F.PFR_CHR_STATUS_STATE
  let s1 := s.setFld F.PFR_CHR_STATUS_OFFSET ((off % 2 ^ 16).toNat)
  let ch := { s1.net.router.chrono with bad := 0 }
  if st = chAcquire then
    if !ch.stepped then s1.setChrono { ch with stepped := true, time := ((ch.time : Int) + off).toNat, slew := 0 }
    else
      let good : Nat := if near off then ch.good + 1 else 0
      let s2 := s1.setChrono { ch with good := good, slew := off }
      if 8 ≤ good then s2.setFld F.PFR_CHR_STATUS_STATE chLocked else s2
  else if st = chLocked then
    if far off then (s1.setChrono ch).holdOver else s1.setChrono { ch with slew := off }
  else if st = chHoldover then
    if near off then (s1.setChrono { ch with slew := off, holdAt := none }).setFld F.PFR_CHR_STATUS_STATE chLocked
    else if far off then (s1.setChrono { ch with holdAt := none }).setFld F.PFR_CHR_STATUS_STATE chFree
    else s1.setChrono ch
  else s1

/-- An exchange discarded or missing (Table 14-6). -/
def Block.missExchange (s : Block) : Block :=
  let ch := s.net.router.chrono
  let s1 := s.setChrono { ch with good := 0, bad := ch.bad + 1 }
  if s.fld F.PFR_CHR_STATUS_STATE = chLocked ∧ 4 ≤ ch.bad + 1 then s1.holdOver else s1

/-- Whether this node follows a parent. -/
def Block.isChild (s : Block) : Bool := !s.isSet F.PFR_CHR_CFG_MASTER && decide (s.fld F.PFR_CHR_CFG_PARENT_PORT < 96)

/-- A TIME cell (R433). -/
def timeCell (dst src a b : Nat) : Cell := mkCell dst src clsRsp kTime 0 false (leBytes 8 a ++ leBytes 8 b)

/-- A parent's answer: its exchange is closed, and the stamps it brings settle the exchange before. -/
def Block.timeAnswer (s : Block) (p t4 t2 t3 : Nat) (ok : Bool) : Block :=
  let ch := s.net.router.chrono
  match ch.sent with
  | none => s
  | some t1 =>
    let s1 := s.setChrono { ch with sent := none, last := some (t1, t4, if ok then 1 else 0) }
    if !ok then s1.missExchange
    else
      match ch.last with
      | some (u1, u4, 1) => s1.takeOffset (offsetOf u1 t2 t3 u4 (s.asym p))
      | _ => s1

/-- A child's TIME cell: answered with the stamps of the exchange before. -/
def Block.timeAsked (s : Block) (p t2 src : Nat) : Block :=
  let ch := s.net.router.chrono
  let (a, b) := (Assoc.find p ch.owed).getD (0, 0)
  (s.setChrono { ch with owed := Assoc.ins p (t2, 0) ch.owed }).enqueue p clsRsp .firmware
    (.cell (timeCell src s.node a b) none)

/-- A TIME cell (R433); `ok` says that neither cell of its exchange was resent or came out of order. -/
def execTime (port : Fin 96) (ok : Bool) (s : State) : Out :=
  s.act fun s => (
    let p := port.val
    match s.localCell p kTime with
    | none => s
    | some e =>
      let t := s.dropLocal e
      if t.isChild ∧ t.fld F.PFR_CHR_CFG_PARENT_PORT = p then t.timeAnswer p e.stamp (e.cell.w 0) (e.cell.w 8) ok
      else t.timeAsked p e.stamp e.cell.src)

/-- Every SYNC_US a child sends a TIME cell to its parent (R433). -/
def execTimeSyncTimer (s : State) : Out :=
  s.act fun s => (
    let p := s.fld F.PFR_CHR_CFG_PARENT_PORT
    if !s.isChild ∨ !s.linkUp p then s
    else if s.fld F.PFR_CHR_STATUS_STATE = chFree then s.acquire
    else
      let s1 := if s.net.router.chrono.sent.isSome then s.missExchange else s
      let ch := s1.net.router.chrono
      let (a, b) := match ch.last with
        | some (t1, t4, _) => (t1, t4)
        | none => (0, 0)
      (s1.setChrono { ch with sent := none }).enqueue p clsRsp .firmware
        (.cell (timeCell (s1.fld (F.PFL_PARTNER_NODE_NODE p)) s1.node a b) none))

/-- HOLDOVER_MS elapses in HOLDOVER (Table 14-6). -/
def execHoldoverExpiry (s : State) : Out :=
  s.act fun s => (
    if s.fld F.PFR_CHR_STATUS_STATE = chHoldover then
      (s.setChrono { s.net.router.chrono with holdAt := none }).setFld F.PFR_CHR_STATUS_STATE chFree
    else s)

/-- The ticks of a second. -/
def secondTicks : Nat := 1250000000

/-- A rising edge on CHR_PPS_IN: the master slews TIME so that the edge falls on the nearest second (R435). -/
def execPpsInEdge (s : State) : Out :=
  s.act fun s => (
    if s.isSet F.PFR_CHR_CFG_MASTER ∧ s.isSet F.PFR_CHR_CFG_PPS_IN then
      let ch := s.net.router.chrono
      let over_ := ch.time % (16 * secondTicks)
      let slew : Int := if 2 * over_ < 16 * secondTicks then -(over_ : Int) else 16 * secondTicks - over_
      s.setChrono { ch with slew := slew }
    else s)

/-- CHR_PPS_OUT is driven high for 125,000 ticks from each second (R435). -/
def execPpsOutPulse (s : State) : Out :=
  s.act fun s => (
    if s.inStep ∧ s.isSet F.PFR_CHR_CFG_PPS_OUT ∧ s.ticks % secondTicks < 125000 then
      s.emit (.ppsOut (s.ticks / secondTicks * secondTicks))
    else s)

/-! ## Charts -/

/-- A port's charts replaced. -/
def Block.setPortChart (s : Block) (p : Nat) (c : PortChart) : Block :=
  s.setRouter { s.net.router with charts := Assoc.put {} p c s.net.router.charts }

/-- A window entry (Table 14-8). -/
def windowOf (w dflt : Nat) : Window :=
  { start := getBits w 63 44, len := getBits w 43 24, classes := getBits w 23 20, exclusive := decide (getBits w 19 19 = 1)
    guard := if getBits w 18 15 = 0 then dflt else getBits w 18 15, service := getBits w 14 6 }

/-- Whether an entry is as Table 14-8 has it, on a port whose cell-time is `ct` ticks. -/
def windowOk (w : Nat) (x : Window) (cycle ct : Nat) : Bool :=
  decide (x.start < cycle) && decide ((x.guard + 1) * ct ≤ x.len) && decide (x.classes ≠ 0)
    && (decide (x.service < 256) || decide (x.service = 0x1FF)) && decide (getBits w 5 0 = 0)

/-- Whether windows ascend, do not overlap, and end within the cycle (R437). -/
def windowsFit (cycle : Nat) : List Window → Bool
  | [] => true
  | [x] => decide (x.start + x.len ≤ cycle)
  | x :: y :: rest => decide (x.start + x.len ≤ y.start) && windowsFit cycle (y :: rest)

/-- Whether a header is as Table 14-7 has it. -/
def chartHeaderOk (h : List Byte) : Bool :=
  let n (off k : Nat) : Nat := ofLeBytes ((h.drop off).take k)
  decide (n 0 4 = 0xC4A77E01) && decide (n 4 2 = 1) && decide (n 6 2 ≤ 1024) && decide (64 ≤ n 8 4) && decide (n 8 4 ≤ 1048576)
    && decide (1 ≤ n 12 1) && decide (n 12 1 ≤ 15) && decide (n 13 3 = 0) && decide (n 0x14 40 = 0)
    && decide (n 0x3C 4 = crc32c (h.take 0x3C))

/-- A chart read from its image, or the code it is refused with (R437). -/
def chartOf (image : List Byte) (ct : Nat) : Except Nat Chart :=
  let h := image.take 64
  if !chartHeaderOk h then .error 1
  else
    let n := ofLeBytes ((h.drop 6).take 2)
    let cycle := ofLeBytes ((h.drop 8).take 4)
    let guard := ofLeBytes ((h.drop 12).take 1)
    let body := (image.drop 64).take (8 * n)
    if crc32c body ≠ ofLeBytes ((h.drop 0x10).take 4) then .error 1
    else
      let ws := (List.range n).map fun i => ofLeBytes ((body.drop (8 * i)).take 8)
      let xs := ws.map (windowOf · guard)
      if (List.zip ws xs).all (fun e => windowOk e.1 e.2 cycle ct) && windowsFit cycle xs then
        .ok { cycle := cycle, guard := guard, windows := xs }
      else .error 2

/-- A refused ARM. -/
def Block.chartRefuse (s : Block) (p code : Nat) : Block := s.setFld (F.PFR_PORT_STATUS_ERR p) code

/-- Whether an image lies in a twin region. -/
def Block.inTwin (s : Block) (dpa n : Nat) : Bool :=
  s.activeTwins.any fun t => decide (s.twinStart t false ≤ dpa) && decide (dpa + n ≤ s.twinStart t false + s.twinBytes t)

/-- PFR_CHART_CMD ARM (R437). -/
def Block.armChart (s : Block) (p : Nat) : Block :=
  let c := s.portChart p
  let dpa := s.pair (R.PFR_CHART_DPA_LO p) (R.PFR_CHART_DPA_HI p) / 64 * 64
  let at_ := s.pair (R.PFR_CHART_AT_LO p) (R.PFR_CHART_AT_HI p)
  if c.armed.isSome then s.chartRefuse p 4
  else
    let ((head, bad), s) := if s.inTwin dpa 64 then s.moduleBytes dpa 64 else (([], true), s)
    let size := 64 + 8 * ofLeBytes ((head.drop 6).take 2)
    if bad ∨ !s.inTwin dpa size then s.chartRefuse p 1
    else
      let ((image, bad2), s) := s.moduleBytes dpa size
      match if bad2 then .error 1 else chartOf image (s.cellTicks p) with
      | .error code => s.chartRefuse p code
      | .ok chart =>
        if at_ % chart.cycle ≠ 0 ∨ at_ < s.ticks + 125000 then s.chartRefuse p 3
        else
          let bank := decide (c.running = some false)
          s.setPortChart p
            (if bank then { c with b := some chart, armed := some (true, at_) }
             else { c with a := some chart, armed := some (false, at_) })

/-- PFR_CHART_CMD ARM. -/
def execArm (by_ : Actor) (port : Fin 96) (s : State) : Out := s.act fun s => (s.byFull by_ fun s => s.armChart port.val)

/-- PFR_CHART_CMD DISARM cancels a pending switch. -/
def execDisarm (by_ : Actor) (port : Fin 96) (s : State) : Out :=
  s.act fun s => (s.byFull by_ fun s =>
    let c := s.portChart port.val
    s.setPortChart port.val
      (match c.armed with
      | some (true, _) => { c with b := none, armed := none }
      | some (false, _) => { c with a := none, armed := none }
      | none => c))

/-- PFR_CHART_CMD STOP ends the running chart at the next cycle end. -/
def execStop (by_ : Actor) (port : Fin 96) (s : State) : Out :=
  s.act fun s => (s.byFull by_ fun s =>
    let c := s.portChart port.val
    match c.current with
    | some x => s.setPortChart port.val { c with stopAt := some ((s.ticks / x.cycle + 1) * x.cycle) }
    | none => s)

/-- A running chart ended: its bank is free. -/
def PortChart.ended (c : PortChart) : PortChart :=
  match c.running with
  | some true => { c with b := none, running := none, stopAt := none }
  | some false => { c with a := none, running := none, stopAt := none }
  | none => { c with stopAt := none }

/-- At CHART_AT the armed bank runs from position 0 (R437). -/
def execChartSwitch (port : Fin 96) (s : State) : Out :=
  s.act fun s => (
    let c := s.portChart port.val
    match c.armed with
    | some (bank, at_) =>
      if at_ ≤ s.ticks then s.setPortChart port.val { c.ended with running := some bank, armed := none } else s
    | none => s)

/-- The charts whose STOP has come due end (R437). -/
def Block.stopCharts (s : Block) : Block :=
  forEach (s.net.router.charts.filter fun e => e.2.stopAt.any fun t => decide (t ≤ s.ticks))
    (fun e t => t.setPortChart e.1 e.2.ended) s

/-- PFR_PORT_STATUS.CHART (R439). -/
def Block.chartShown (s : Block) (p : Nat) : Nat :=
  match (s.portChart p).running with
  | none => 0
  | some bank => if !s.inStep then 3 else if bank then 2 else 1

end Sys2Proof.Machine
end

