-- ==== Sys2Proof/Machine/Shaping.lean ====
section
/-! DEFINITION.  The tick of the chronometer and the token buckets (R432, R450), shaper and meter configuration (R452), the
colours of requests (R455–R458). -/

namespace Sys2Proof.Machine

/-- TIME one tick on, with a correction slewed in by one sixteenth in 625 ticks (±100 ppm, R434). -/
def Block.advanceTime (s : Block) : Block :=
  let ch := s.net.router.chrono
  let due := decide (ch.slew ≠ 0) && decide (ch.time / 16 % 625 = 0) && decide (s.fld F.PFR_CHR_STATUS_STATE ≠ chFree)
  let step : Int := if !due then 0 else if 0 < ch.slew then 1 else -1
  s.setChrono { ch with time := ((ch.time : Int) + 16 + step).toNat, slew := ch.slew - step }

/-- A tick: every bucket accrues (R450), TIME advances (R432), held requests are metered again (R458), charts that were
stopped end (R437). -/
def execTokenTick (s : State) : Out := s.act fun s => (((s.accrue.advanceTime).event 12 0 .none_).remeter).stopCharts

/-! ## Configuration (R452) -/

/-- A pair dropped whole. -/
def Block.shpRefuse (s : Block) : Block := s.bump F.SHP_CFG_ERR_COUNT_COUNT

/-- A pair put in its registers, its FILL applied to the buckets it governs. -/
def Block.putPair (s : Block) (addr lo loMask hi hiMask : Nat) (buckets : List Nat) : Block :=
  let s1 := (s.setReg addr (BitVec.ofNat 32 (lo &&& loMask))).setReg (addr + 4) (BitVec.ofNat 32 (hi &&& hiMask))
  forEach buckets (fun k t => t.fillBucket k (decide (getBits lo 31 31 = 1))) s1

/-- Whether a WEIGHT and a BURST are in range. -/
def shaperOk (hi : Nat) : Bool := decide (getBits hi 31 24 ≠ 0) && decide (getBits hi 19 0 ≠ 0)

/-- Whether the two host ports of each x16 port are in use. -/
def Block.portEntry (s : Block) (p : Nat) : Bool := decide (p < 104) || decide (getBits (s.fld F.GID_STRAPS_RSEL) 0 0 = 1)

/-- The pair whose _HI half lies at an offset of the SHP block, written (R452, Table 15-4). -/
def Block.shaperPair (s : Block) (by_ : Actor) (off lo hi : Nat) : Block :=
  let guard (ok : Bool) (act : Block → Block) (t : Block) : Block := if ok then act t else t.shpRefuse
  if off < 0x40000 ∧ off % 16 = 4 then
    let k := off / 16
    s.byOwner by_ (s.fld (F.ENG_ST_CFG_PARTITION k)) (guard (shaperOk hi) fun t =>
      t.putPair (R.SHP_SUB_CFG_LO k) lo 0x00FFFFFF hi 0xFF7FFFFF [bkSub k])
  else if 0x40000 ≤ off ∧ off < 0x41000 ∧ off % 16 = 4 then
    let v := (off - 0x40000) / 16
    s.byFull by_ (guard (shaperOk hi) fun t => t.putPair (R.SHP_SVC_CFG_LO v) lo 0x40FFFFFF hi 0xFF0FFFFF [bkSvc v])
  else if 0x41000 ≤ off ∧ off < 0x45000 ∧ off % 32 = 4 then
    let f := (off - 0x41000) / 32
    s.byFull by_ (guard (decide (getBits lo 23 0 ≤ getBits hi 23 0)) fun t =>
      t.putPair (R.SHP_FN_RATE_LO f) lo 0x40FFFFFF hi 0x00FFFFFF [bkTc f, bkTp f])
  else if 0x41000 ≤ off ∧ off < 0x45000 ∧ off % 32 = 12 then
    let f := (off - 0x41000) / 32
    s.byFull by_ (guard (decide (getBits lo 19 0 ≠ 0) && decide (getBits lo 19 0 ≤ getBits hi 19 0)
        && decide (getBits hi 31 30 ≤ 1)) fun t =>
      t.putPair (R.SHP_FN_BURST_LO f) lo 0x000FFFFF hi 0xC00FFFFF [bkTc f, bkTp f])
  else if 0x45000 ≤ off ∧ off < 0x45700 ∧ off % 16 = 4 then
    let p := (off - 0x45000) / 16
    if s.portEntry p then
      s.byFull by_ (guard (decide (getBits hi 19 0 ≠ 0)) fun t =>
        t.putPair (R.SHP_PORT_FWD_LO p) lo 0x40FFFFFF hi 0x000FFFFF [bkFwd p])
    else s
  else s

/-- The _HI half of a shaper or meter pair is written, `lo` held from its _LO half (R13, R452). -/
def execShaperConfigWrite (by_ : Actor) (off : BitVec 20) (lo hi : BitVec 32) (s : State) : Out :=
  s.act fun s => (s.shaperPair by_ off.toNat lo.toNat hi.toNat)

/-! ## Colours -/

/-- A metered Pefin cell coloured, and its fate (R457, Table 15-3). -/
def Block.colourCell (s : Block) (f : Nat) (e : InCell) : Block :=
  let (colour, t) := s.meter f
  let letIn (c : Nat) : Block :=
    t.setRouter { t.net.router with
      inbox := t.net.router.inbox.map fun x => if x = e then { e with colour := some c } else x }
  let fine := decide (colour = 0)
    || (decide (colour = 1) && decide (s.fld F.SHP_CFG_YELLOW_FLOOR ≤ s.freeSpace e.port clsReq))
  if fine then letIn colour
  else if s.fld (F.SHP_FN_BURST_HI_RED_ACT f) = 1 then letIn 1
  else (t.dropIn e).refuseBusy e.cell e.port

/-- The oldest request that a function's meter has not let pass is metered (R455–R458): a CXL.mem request that its port
holds, or a cell of the function's source group. -/
def execMeterColour (fn : Fin 512) (s : State) : Out :=
  s.act fun s => (
    if fn.val < 256 then Block.drainHeld fn.val 1 s
    else
      match s.net.router.inbox.find? fun e => e.colour.isNone && decide (s.groupOf e.cell.src = some (fn.val - 256)) with
      | some e => s.colourCell fn.val e
      | none => s)

end Sys2Proof.Machine
end

