-- ==== Sys2Proof/Machine/Xlate.lean ====
section
/-! DEFINITION.  Address translation's own commands (R244–R259): segment tables and contexts, fault queues,
XLT_INVAL. -/

namespace Sys2Proof.Machine

/-! ## Segment tables (R244, R245) -/

/-- A segment entry as its 32 bytes give it, and whether a field breaks Table 8-1. -/
def segmentOf (b : List Byte) : Segment × Bool :=
  let w (i : Nat) : Nat := ofLeBytes ((b.drop (8 * i)).take 8)
  let g : Segment :=
    { valid := decide (getBits (w 0) 63 63 = 1), rights := getBits (w 0) 62 60
      range := decide (getBits (w 0) 59 59 = 1), caBase := getBits (w 0) 47 12 * 4096, pages := getBits (w 1) 35 0
      root := getBits (w 2) 51 12 * 4096 }
  (g, decide (g.rights = 0 ∨ getBits (w 0) 58 48 ≠ 0 ∨ getBits (w 0) 11 0 ≠ 0 ∨ getBits (w 1) 63 36 ≠ 0
    ∨ getBits (w 2) 63 52 ≠ 0 ∨ getBits (w 2) 11 0 ≠ 0 ∨ w 3 ≠ 0 ∨ g.pages = 0 ∨ 2 ^ 48 < g.caBase + 4096 * g.pages))

/-- Whether a RANGE segment's bytes lie where R245 lets them. -/
def Block.rangeOk (s : Block) (ptn root n : Nat) : Bool :=
  let blocks := (root % 2 ^ 21 + n + 2 ^ 21 - 1) / 2 ^ 21
  if root + n ≤ dramBytes then
    (List.range blocks).all fun i =>
      let b := root / 2 ^ 21 + i
      decide (s.ownerOf (b * 2 ^ 21) = some ptn)
        && decide ((s.tier b).cls = clsOrdinary ∨ (s.tier b).cls = clsPressed)
  else
    decide (caveBase ≤ root ∧ root + n ≤ caveEnd)
      && (List.range blocks).all fun i => (s.extentFor ptn ((root - caveBase) / 2 ^ 21 + i)).isSome

/-- Whether two valid segments share a page. -/
def Segment.meets (a b : Segment) : Bool :=
  a.valid && b.valid && decide (a.caBase < b.caBase + 4096 * b.pages) && decide (b.caBase < a.caBase + 4096 * a.pages)

/-- Whether a valid entry of a context is bad, given the entries of lower index (R245). -/
def Block.segmentBad (s : Block) (c : Nat) (lower : List Segment) (g : Segment) (broken : Bool) : Bool :=
  let ptn := s.ctxPtn c
  broken || lower.any g.meets
    || (if g.range then
          !s.isSet (F.XLT_CTX_CFG_RANGE_OK c) || !s.rangeOk ptn g.root (4096 * g.pages)
        else !s.inTwinOf ptn g.root (8 * ((g.pages + 511) / 512)))

/-- The start of a context's segment table. -/
def Block.segTable (s : Block) (c : Nat) : Nat := s.pair (R.XLT_CTX_TABLE_LO c) (R.XLT_CTX_TABLE_HI c) / 4096 * 4096

/-- The lines of a context's segment table. -/
def Block.segLines (s : Block) (c : Nat) : List Nat := (List.range 8).map fun i => s.segTable c + 64 * i

/-- Whether a context's segment table lies within an enabled twin entry of its partition. -/
def Block.segTableOk (s : Block) (c : Nat) : Bool := s.inTwinOf (s.ctxPtn c) (s.segTable c) 512

/-- Entry `i` of a context's segment table as the pool reads it now: unusable where it cannot be read. -/
def Block.readSegment (s : Block) (c i : Nat) (lower : List Segment) : Segment × Block :=
  let a := s.segTable c + 32 * i
  if !s.segTableOk c then ({ unusable := true }, s)
  else
    match s.readAt (.engine (s.ctxPtn c)) (lineOf a) with
    | (.poison, s1) => ({ unusable := true }, s1)
    | (.data b, s1) =>
      let (g, broken) := segmentOf ((b.drop (a % 64)).take 32)
      ({ g with bad := g.valid && s1.segmentBad c lower g broken }, s1)

/-- BAD_SEG of a context brought up to its segments. -/
def Block.showBad (s : Block) (c : Nat) : Block :=
  s.setFld (F.XLT_CTX_STATUS_BAD_SEG c)
    (((List.range 16).filter fun i => ((s.ctx c).segs.getD i {}).bad).foldl (fun v i => v + 2 ^ i) 0)

/-- The whole segment table loaded (R245). -/
def Block.loadSegments (s : Block) (c : Nat) : Block :=
  let (segs, s1) := (List.range 16).foldl (fun (acc : List Segment × Block) i =>
    let (g, t) := acc.2.readSegment c i acc.1
    (acc.1 ++ [g], t)) ([], s)
  (s1.setCtx c { s1.ctx c with segs := segs }).showBad c

/-- One entry of the segment table loaded again (R245). -/
def Block.loadSegment (s : Block) (c i : Nat) : Block :=
  let segs := (s.ctx c).segs
  let (g, s1) := s.readSegment c i (segs.take i)
  (s1.setCtx c { s1.ctx c with segs := segs.take i ++ [g] ++ segs.drop (i + 1) }).showBad c

/-- A reload by XLT_INVAL: ERR reads 0x1 where the table lies outside the partition's twins (R245). -/
def Block.reloadErr (s : Block) (c : Nat) : Block :=
  if s.segTableOk c then s else s.setFld (F.XLT_CTX_STATUS_ERR c) 0x1

/-! ## Cached translations -/

/-- A prefetcher that must fetch again what the pages in scope delivered (R252). -/
def Prefetcher.discard (p : Prefetcher) (inScope : Nat → Bool) : Prefetcher :=
  let hit := ((p.staged.filter fun l => inScope l.page).map (·.idx)) ++ ((p.flying.filter fun f => inScope f.page).map (·.idx))
  match lowest hit with
  | none => p
  | some m =>
    { p with
      next := min p.next m
      staged := p.staged.filter fun l => decide (l.idx < m)
      flying := p.flying.map fun f => if f.idx < m then f else { f with stale := true } }

/-- The translations of a context's pages in scope removed from every cache, and the staged lines fetched through
them (R252 step 3). -/
def Block.dropPages (s : Block) (c : Nat) (inScope : Nat → Bool) : Block :=
  { s with
    xlt := { s.xlt with
      pages := s.xlt.pages.filter fun p => !(decide (p.ctx = c) && inScope p.page)
      dirs := s.xlt.dirs.filter fun d => !(decide (d.ctx = c) && (List.range 512).any fun i => inScope (d.first + i)) }
    pool := { s.pool with
      prefetchers := s.pool.prefetchers.map fun e => if e.2.ctx = c then (e.1, e.2.discard inScope) else e } }

/-! ## Contexts -/

/-- ENABLE 1 on a context: its segment table read, or the enable refused (R245); the write waits while a host holds a line of the
table exclusive (R277). -/
def Block.ctxEnable (s : Block) (c : Nat) : Block :=
  if !s.segTableOk c then s.setFld (F.XLT_CTX_STATUS_ERR c) 0x1
  else s.afterRecall (.engine (s.ctxPtn c)) false (s.segLines c) fun s => ((s.setFld (F.XLT_CTX_STATUS_ERR c) 0).setFld (F.XLT_CTX_CFG_ENABLE c) 1).loadSegments c

/-- Writing a context's ENABLE 1 (R245). -/
def execXltCtxEnable (by_ : Actor) (ctx : Fin 4096) (s : State) : Out :=
  s.act fun s => (s.byOwner by_ (s.ctxPtn ctx.val) fun t => t.ctxEnable ctx.val)

/-- ENABLE 0 on a context: its records are denied, its translations removed (R258). -/
def Block.ctxDisable (s : Block) (c : Nat) : Block :=
  let s1 := (s.setFld (F.XLT_CTX_CFG_ENABLE c) 0).setCtx c {}
  ((s1.denyFaults (fun x _ => decide (x = c)) denCtxOff).dropPages c fun _ => true).showBad c

/-- Writing a context's ENABLE 0 (R258). -/
def execXltCtxDisable (by_ : Actor) (ctx : Fin 4096) (s : State) : Out :=
  s.act fun s => (s.byOwner by_ (s.ctxPtn ctx.val) fun t => t.ctxDisable ctx.val)

/-- A translation made for an access from outside a running operator, with its outcome (R247). -/
def execTranslationWalk (ctx : Fin 4096) (ca : BitVec 48) (acc : BitVec 3) (priv : Bool) (s : State) : Out :=
  s.act fun s => (
    match s.translate ctx.val ca.toNat acc.toNat priv with
    | (.ok dpa, s1) => s1.emit (.translated ctx.val ca.toNat dpa)
    | (.wait, s1) => s1
    | (.deny code, s1) => s1.emit (.denied ctx.val ca.toNat code)
    | (.fault reason _, s1) => s1.emit (.pageFault ctx.val ca.toNat reason))

/-- A task's access whose walk faults: the task is switched out, a record opened or merged (R254, R255). -/
def execTranslationFault (ring : Fin 4096) (seq : BitVec 64) (idx : BitVec 16) (ca : BitVec 48) (acc : BitVec 3)
    (s : State) : Out :=
  s.act fun s => (
    match s.entry ring.val seq.toNat with
    | none => s
    | some e =>
      if !s.mayStart e || s.faulting ring.val seq.toNat idx.toNat then s
      else
        match s.translate e.ctx ca.toNat acc.toNat false with
        | (.fault reason line, s1) => (s1.begin e).faultOf e idx.toNat ca.toNat acc.toNat reason line
        | _ => s)

/-- A fault that waits for a free record finds one (R255). -/
def execFaultRecordWaitResume (s : State) : Out :=
  s.act fun s => (
    match s.xlt.waiting with
    | [] => s
    | p :: rest =>
      if s.xlt.faults.length < 4096 then ({ s with xlt := { s.xlt with waiting := rest } } : Block).takeFault p else s)

/-- No resolution within FAULT_LIMIT_MS: the record is denied with TIMEOUT (R258). -/
def execFaultLimitExpiry (id : Fin 4096) (s : State) : Out :=
  s.act fun s => (
    match s.xlt.faults.find? fun f => decide (f.id = id.val) with
    | some f => s.resolveFault f (some denTimeout)
    | none => s)

/-! ## Fault queues (R256, R258) -/

/-- The next waiting record written to a partition's queue and notified (R256). -/
def execFaultQueueWrite (ptn : Fin 32) (s : State) : Out :=
  s.act fun s => (if s.isSet (F.XLT_FQ_CFG_ENABLE ptn.val) then (s.writeRec ptn.val).2 else s)

/-- The driver's CONSUME read from the control line; waiting records are written into the space it frees (R256). -/
def execFaultQueueSpace (ptn : Fin 32) (s : State) : Out :=
  s.act fun s => (
    let p := ptn.val
    if !s.isSet (F.XLT_FQ_CFG_ENABLE p) then s
    else s.afterRecall (.engine p) false [s.fqBase p] fun s =>
      match s.readAt (.engine p) (s.fqBase p) with
      | (.poison, s1) => s1
      | (.data b, s1) =>
        let consume := ofLeBytes ((b.drop 8).take 8)
        let f := s1.fq p
        if f.produce < consume then s1.setFld (F.XLT_FQ_CFG_ERR p) 0x2
        else Block.writeRecs p f.waiting.length (s1.setFq p { f with consume := consume }))

/-- Bytes of a fault queue's region. -/
def Block.fqBytes (s : Block) (p : Nat) : Nat := 64 + 32 * s.fqSize p

/-- Whether a fault queue's region reads as zeros. -/
def Block.fqZeroed (s : Block) (p : Nat) : Bool × Block :=
  let ((b, poison), t) := s.moduleBytes (s.fqBase p) (s.fqBytes p)
  (!poison && b.all fun x => decide (x = 0), t)

/-- ENABLE 1 on a fault queue: its region checked (R256); the write waits while a host holds a line of it exclusive (R277). -/
def Block.fqEnable (s : Block) (p : Nat) : Block :=
  let l := s.fld (F.XLT_FQ_BASE_LO_LOG2 p)
  if s.isSet (F.XLT_FQ_CFG_ENABLE p) then s
  else if l < 6 ∨ 12 < l ∨ !s.ownsRange p (s.fqBase p) (s.fqBytes p) then s.setFld (F.XLT_FQ_CFG_ERR p) 0x1
  else s.afterRecall (.engine p) false ((List.range ((s.fqBytes p + 63) / 64)).map fun i => s.fqBase p + 64 * i) fun s =>
    let (zeros, t) := s.fqZeroed p
    if zeros then ((t.setFld (F.XLT_FQ_CFG_ERR p) 0).setFld (F.XLT_FQ_CFG_ENABLE p) 1).setFq p {}
    else t.setFld (F.XLT_FQ_CFG_ERR p) 0x1

/-- Enabling a fault queue (R256). -/
def execXltFqEnable (by_ : Actor) (ptn : Fin 32) (s : State) : Out :=
  s.act fun s => (s.byOwner by_ ptn.val fun t => t.fqEnable ptn.val)

/-- ENABLE 0 on a fault queue: its partition's records are denied, what waits in the pool is discarded (R258). -/
def Block.fqDisable (s : Block) (p : Nat) : Block :=
  ((s.setFld (F.XLT_FQ_CFG_ENABLE p) 0).denyFaults (fun _ q => decide (q = p)) denNoQueue).setFq p {}

/-- Disabling a fault queue (R258). -/
def execXltFqDisable (by_ : Actor) (ptn : Fin 32) (s : State) : Out :=
  s.act fun s => (s.byOwner by_ ptn.val fun t => t.fqDisable ptn.val)

/-! ## XLT_INVAL (R251–R253) -/

/-- Whether an access of a context stamped with an epoch is still in flight: a prefetch, or the staged writes of a commit unit,
which drain when they have been ordered (R252). -/
def Block.inFlight (s : Block) (c epoch : Nat) : Bool :=
  (s.pool.prefetchers.any fun p => decide (p.2.ctx = c) && p.2.flying.any fun f => decide (f.epoch = epoch))
    || s.ctl.logbook.any fun e =>
      decide (e.ctx = c) && decide (e.state = .committing) && decide (e.stage ≠ []) && decide (e.stageEpoch = epoch)

/-- Whether an XLT_INVAL of the same context that was accepted earlier has not completed (step 1 of Table 8-6). -/
def Block.invalBefore (s : Block) (e : LogEntry) : Bool :=
  (s.ctl.logbook.takeWhile fun x => !(decide (x.ring = e.ring) && decide (x.seq = e.seq))).any fun x =>
    decide (Desc.opcode x.bytes = opcXltInval) && decide (x.ctx = e.ctx) && x.fin.isNone

/-- The fault that an XLT_INVAL resolves, with whether it denies; none where the FAULT_ID is closed or another
context's. -/
def Block.invalFault (s : Block) (d : Desc) : Option (Option (FaultRec × Bool)) :=
  if d.f 0x58 63 63 = 0 then some none
  else
    match s.xlt.faults.find? fun f => decide (f.id = d.f 0x58 11 0) && decide (f.ctx = d.ctx) with
    | some f => some (some (f, decide (d.f 0x58 62 62 = 1)))
    | none => none

/-- Step 5 and the end of an XLT_INVAL: its fault resolved, its RESULT_LEN the tasks woken, which a denial wakes none of
(R251, R257). -/
def Block.invalEnd (s : Block) (ring seq : Nat) (r : Option (FaultRec × Bool)) : Block :=
  let woken := match r with
    | some (f, deny) => if deny then 0 else f.tasks.length
    | none => 0
  let s1 := match r with
    | some (f, deny) => s.resolveFault f (if deny then some denDenied else none)
    | none => s
  (s1.bump F.XLT_INVAL_COUNT_COUNT).setFin ring seq { status := stOk, len := woken }

/-- Steps 1 to 3 of Table 8-6 for a scope: the epoch advances, `act` removes what is in scope; a reload waits while a host holds a
line of the segment table exclusive (R277). -/
def Block.inval (s : Block) (ring seq scope : Nat) (act : Desc → Block → Block) : Block :=
  match s.entry ring seq with
  | none => s
  | some e =>
    let d := e.bytes
    let c := e.ctx
    if Desc.opcode d ≠ opcXltInval ∨ Desc.f d 0x40 63 60 ≠ scope ∨ !s.mayStart e
        ∨ s.invalBefore e ∨ s.xlt.invals.any fun i => decide (i.ctx = c) then s
    else
      match s.invalFault d with
      | none => (s.begin e).setFin ring seq { status := stBadField, detail := 0x58 }
      | some r =>
        let reloads := if 2 ≤ scope ∧ s.isSet (F.XLT_CTX_CFG_ENABLE c) ∧ s.segTableOk c then s.segLines c else []
        s.afterRecall (.engine (s.ctxPtn c)) false reloads fun s =>
        let s1 := s.begin e
        if scope = 0 then s1.invalEnd ring seq r
        else
          let old := s1.fld (F.XLT_CTX_STATUS_EPOCH c)
          let s2 := act d (s1.setFld (F.XLT_CTX_STATUS_EPOCH c) (old + 1))
          { s2 with xlt := { s2.xlt with invals := s2.xlt.invals ++
              [{ ctx := c, epoch := some old, resolve := r.map fun x => (x.1.id, x.2), ring := ring, seq := seq }] } }

/-- XLT_INVAL with SCOPE NONE resolves a fault (R251). -/
def execXltInvalNone (ring : Fin 4096) (seq : BitVec 64) (s : State) : Out :=
  s.act fun s => (s.inval ring.val seq.toNat 0 fun _ t => t)

/-- XLT_INVAL with SCOPE PAGES (R252). -/
def execXltInvalPages (ring : Fin 4096) (seq : BitVec 64) (s : State) : Out :=
  s.act fun s => (s.inval ring.val seq.toNat 1 fun d t =>
    let first := d.f 0x48 47 12
    t.dropPages d.ctx fun p => decide (first ≤ p ∧ p < first + d.f 0x50 35 0))

/-- XLT_INVAL with SCOPE SEGMENT: the segment's translations are removed and its entry reloaded (R252). -/
def execXltInvalSegment (ring : Fin 4096) (seq : BitVec 64) (s : State) : Out :=
  s.act fun s => (s.inval ring.val seq.toNat 2 fun d t =>
    let c := d.ctx
    let i := d.f 0x40 59 56
    let old := (t.ctx c).segs.getD i {}
    let t1 := if t.isSet (F.XLT_CTX_CFG_ENABLE c) then (t.reloadErr c).loadSegment c i else t
    let new := (t1.ctx c).segs.getD i {}
    t1.dropPages c fun p => old.covers (p * 4096) || new.covers (p * 4096))

/-- XLT_INVAL with SCOPE CONTEXT: every translation of the context is removed and its table reloaded (R252). -/
def execXltInvalContext (ring : Fin 4096) (seq : BitVec 64) (s : State) : Out :=
  s.act fun s => (s.inval ring.val seq.toNat 3 fun d t =>
    let c := d.ctx
    (if t.isSet (F.XLT_CTX_CFG_ENABLE c) then (t.reloadErr c).loadSegments c else t).dropPages c fun _ => true)

/-- Every access stamped with the old epoch has drained: the fault is resolved, the XLT_INVAL ends (R252). -/
def execXltInvalDrained (ctx : Fin 4096) (s : State) : Out :=
  s.act fun s => (
    match s.xlt.invals.find? fun i => decide (i.ctx = ctx.val) with
    | none => s
    | some i =>
      if (match i.epoch with
          | some e => s.inFlight i.ctx e
          | none => false) then s
      else
        let r := i.resolve.bind fun x =>
          (s.xlt.faults.find? fun f => decide (f.id = x.1) && decide (f.ctx = i.ctx)).map fun f => (f, x.2)
        ({ s with xlt := { s.xlt with invals := s.xlt.invals.erase i } } : Block).invalEnd i.ring i.seq r)

/-- Step 4 has waited DRAIN_WARN_MS (R252). -/
def execDrainWarn (ctx : Fin 4096) (s : State) : Out :=
  s.act fun s => (
    match s.xlt.invals.find? fun i => decide (i.ctx = ctx.val) && !i.warned with
    | some i =>
      (({ s with xlt := { s.xlt with invals := s.xlt.invals.map fun x => if x = i then { x with warned := true } else x } } :
        Block).bump F.XLT_DRAIN_WARN_COUNT_COUNT).health (.drainWarn ctx.val)
    | none => s)

end Sys2Proof.Machine
end

