-- ==== Sys2Proof/Machine/Partitions.lean ====
section
/-! DEFINITION.  Partitions (R460–R471, R484): state commands and their refusals, teardown and wash, owner bytes and source
groups, the commons switch, state commands by descriptor and by fabric cell. -/

namespace Sys2Proof.Machine

/-- The logical devices granted to a partition (Table 16-2). -/
def Block.ldsOf (s : Block) (p : Nat) : List Nat :=
  (s.listed (R.PTN_FN_GRANT 0) (R.PTN_FN_GRANT 256) 4 0).filter fun f => decide (s.grantedTo f = some p)

/-! ## Block commands (R460, R461) -/

/-- The codes of PTN_CMD that are not reserved. -/
def opDefine : Nat := 1
def opActivate : Nat := 2
def opTeardown : Nat := 3

/-- Whether a command is in the partition's row of Table 16-1. -/
def inRow (op st : Nat) : Bool :=
  (decide (op = opDefine) && decide (st = ptnFree)) || (decide (op = opActivate) && decide (st = ptnDefined))
    || (decide (op = opTeardown) && (decide (st = ptnDefined) || decide (st = ptnActive)))

/-- Why a command is refused, the first code that applies (R461); `own` is the partition of the ring that issues it. -/
def Block.ptnRefusal (s : Block) (op target : Nat) (own : Option Nat) : Option Nat :=
  if op = 0 ∨ 3 < op then some 0x01
  else if s.isSet F.PTN_CMD_STATUS_BUSY then some 0x06
  else if own = some target then some 0x08
  else if !inRow op (s.ptnState target) then some 0x02
  else if op = opTeardown ∧ target = 0 ∧ s.isSet F.PTN_COMMONS_EN then some 0x03
  else if op ≠ opTeardown ∧ (s.ldsOf target).any s.tspIsLocked then some 0x05
  else none

/-- A refused command or owner byte reported (R461). -/
def Block.ptnRefuse (s : Block) (code : Nat) : Block :=
  (s.setFld F.PTN_CMD_STATUS_CODE code).setFld F.PTN_CMD_STATUS_ERR 1

/-- A partition put in a state. -/
def Block.setPtn (s : Block) (p st : Nat) : Block := s.setFld (F.PTN_STATE_STATE p) st

/-- The rings of a partition whose MODE is not OFF. -/
def Block.ringsOfPtn (s : Block) (p : Nat) : List Nat := s.ringsOn.filter fun r => decide (s.ringPtn r = p)

/-- Step 1 of Table 16-3: acceptance stops on every ring of the partition, and they are disabled as one (R136, R339). -/
def Block.drainPtn (s : Block) (p : Nat) : Block :=
  let s1 := forEach (s.ringsOfPtn p) (fun r t => t.disableRing r) ((s.setPtn p ptnDraining).setFld F.PTN_CMD_STATUS_BUSY 1)
  let s2 := s1.truncateBursts fun b => decide (s1.ringPtn b.ring = p)
  { s2 with ctl := { s2.ctl with waiting := s2.ctl.waiting.filter fun r => decide (s2.ringPtn r ≠ p) } }

/-- A command's move (Table 16-1). -/
def Block.movePtn (s : Block) (op target : Nat) : Block :=
  if op = opTeardown then s.drainPtn target
  else if op = opActivate then
    (forEach (s.ringsOfPtn target) (fun r t => t.service r) (s.setPtn target ptnActive)).setFld F.PTN_CMD_STATUS_DONE 1
  else (s.setPtn target ptnDefined).setFld F.PTN_CMD_STATUS_DONE 1

/-- A state command from any source applied: the code of its refusal, if it is refused. -/
def Block.ptnCommand (s : Block) (op target : Nat) (own : Option Nat) : Option Nat × Block :=
  match s.ptnRefusal op target own with
  | some code => (some code, (s.ptnRefuse code).setFld F.PTN_CMD_STATUS_DONE 1)
  | none => (none, (s.setFld F.PTN_CMD_STATUS_CODE 0).movePtn op target)

/-- PTN_CMD DEFINE (R460). -/
def execDefine (by_ : Actor) (target : Fin 32) (s : State) : Out :=
  s.act fun s => (s.byFull by_ fun t => (t.ptnCommand opDefine target.val none).2)

/-- PTN_CMD ACTIVATE (R460, R462). -/
def execActivate (by_ : Actor) (target : Fin 32) (s : State) : Out :=
  s.act fun s => (s.byFull by_ fun t => (t.ptnCommand opActivate target.val none).2)

/-- PTN_CMD TEARDOWN (R469). -/
def execTeardown (by_ : Actor) (target : Fin 32) (s : State) : Out :=
  s.act fun s => (s.byFull by_ fun t => (t.ptnCommand opTeardown target.val none).2)

/-- Whether a descriptor is a PTN_ADMIN of a sub-operation. -/
def Desc.isAdmin (sub : Nat) (d : Desc) : Bool := decide (d.opcode = opcPtnAdmin) && decide (d.f 0x40 63 56 = sub)

/-- A descriptor that acts as one commit unit finished (R484). -/
def Block.oneUnit (s : Block) (e : LogEntry) (f : Finish) : Block :=
  ((s.begin e).mapEntry e.ring e.seq fun x => { x with units := 1, unitsDone := 1 }).setFin e.ring e.seq f

/-- PTN_ADMIN STATE (R484). -/
def execPtnAdminState (ring : Fin 4096) (seq : BitVec 64) (s : State) : Out :=
  s.act fun s => (
    match s.runnable ring.val seq.toNat (Desc.isAdmin 0x01) with
    | none => s
    | some e =>
      let d := e.bytes
      match s.ptnCommand (Desc.f d 0x40 55 52) (Desc.f d 0x40 51 47) (some (s.ringPtn e.ring)) with
      | (some code, t) => t.oneUnit e { status := stNotPermitted, detail := code }
      | (none, t) => t.oneUnit e { status := stOk })

/-! ## Settling (steps 2 to 4 of Table 16-3) -/

/-- Step 2: every entry of the partition's rings has its record written and its notification sent. -/
def Block.ptnSettled (s : Block) (p : Nat) : Bool :=
  (s.ctl.logbook.all fun e =>
    e.held || decide (s.ringPtn e.ring ≠ p) || (decide (e.state = .completed) && e.signalled))
  && s.ctl.owed.all fun e => decide (s.ringPtn e.ring ≠ p)

/-- The partition's gates that are not OFF. -/
def Block.gatesOf (s : Block) (p : Nat) : List Nat :=
  s.activeGates.filter fun g => decide (s.fld (F.HPT_GATE_CFG_PARTITION g) = p)

/-- Step 3 for one gate: STATIC and COMMONS gates close (R271), extents leave by forced removal without the poison fill
(Table 9-4). -/
def Block.tearGate (s : Block) (g : Nat) : Block :=
  if s.isExtent g then
    let st := s.fld (F.HPT_GATE_STATE_STATE g)
    let told := if st = gtActive ∨ st = gtOffered then
        (s.closeExtent g).emit (.dcEvent (some (s.gateFn g)) g .removed) else s
    if told.fld (F.HPT_GATE_STATE_INFLIGHT g) = 0 ∧ !(told.isSet (F.HPT_GATE_CFG_COHERENT g) && told.gateTracked g) then
      ((told.freeExtent g).emit (.dcEvent none g .released)).emit (.dcEvent (some (s.gateFn g)) g .released)
    else told
  else (s.gateDisable g).settleGate g

/-- Step 3 of Table 16-3. -/
def Block.closeHosts (s : Block) (p : Nat) : Block :=
  forEach ((s.ldsOf p).filter s.tspIsLocked) (fun f t => t.setFld (F.SEC_TSP_STATE_STATE f) tspError)
    (forEach (s.gatesOf p) (fun g t => t.tearGate g) s)

/-- The queued cells of a partition's subscribers and services discarded, and their buckets full (R454). -/
def Block.dropShaped (s : Block) (p : Nat) : Block :=
  let mine (st : Nat) : Bool := decide (s.fld (F.ENG_ST_CFG_PARTITION st) = p)
  let s1 := forEach ((s.net.shape.subs.map (·.1)).filter mine) (fun st t => t.setSubQueue st []) s
  let q := s1.net.shape
  let s2 := s1.setShape { q with
    svcs := (q.svcs.map fun e => if e.1 / 512 / 8 = p then (e.1, e.2.filter fun m => m.cellOf.isNone) else e).filter
      fun e => decide (e.2 ≠ [])
    lacks := q.lacks.filter fun e =>
      !(decide (e.1 < 0x4000) && mine e.1) && !(decide (0x4000 ≤ e.1 ∧ e.1 < 0x4100) && decide ((e.1 - 0x4000) / 8 = p)) }
  forEach (List.range 96) (fun l t => t.countHeld l) s2

/-- The mailbox channels of a partition's nodes closed (R140). -/
def Block.closeNodeChs (s : Block) (p : Nat) : Block :=
  forEach ((s.listed (R.MBX_CH_STATE 0) (R.MBX_CH_STATE 1024) 0x80 0).filter fun c =>
      s.chOpen c && decide (s.fld (F.MBX_CH_STATE_OWNER_KIND c) = 1)
        && decide (s.srcPtn (s.fld (F.MBX_CH_STATE_OWNER c)) = some p))
    (fun c t => t.closeCh c) s

/-- The partition's entries of a register array that are enabled. -/
def Block.entriesIn (s : Block) (base stop stride off : Nat) (on ptn : Nat → Fld) (p : Nat) : List Nat :=
  (s.listed base stop stride off).filter fun i => s.isSet (on i) && decide (s.fld (ptn i) = p)

/-- The contexts, the streams, the twin entries of software, the object blocks and the cave extents of a partition in force. -/
def Block.contextsOf (s : Block) (p : Nat) : List Nat :=
  s.entriesIn (R.XLT_CTX_TABLE_LO 0) (R.XLT_CTX_TABLE_LO 4096) 0x10 (R.XLT_CTX_CFG 0 - R.XLT_CTX_TABLE_LO 0) F.XLT_CTX_CFG_ENABLE
    F.XLT_CTX_CFG_PARTITION p
def Block.streamsOf (s : Block) (p : Nat) : List Nat :=
  s.entriesIn (R.ENG_ST_CFG 0) (R.ENG_ST_CFG 16384) 0x10 0 F.ENG_ST_CFG_ENABLE F.ENG_ST_CFG_PARTITION p
def Block.twinsOf (s : Block) (p : Nat) : List Nat :=
  ((List.range 240).map (· + 16)).filter fun i =>
    s.isSet (F.INT_TWIN_CFG_ENABLE i) && decide (s.fld (F.INT_TWIN_CFG_PARTITION i) = p)
def Block.syncBlocksOf (s : Block) (p : Nat) : List Nat :=
  (List.range 256).filter fun b => s.isSet (F.ENG_SYNC_OWN_EN b) && decide (s.fld (F.ENG_SYNC_OWN_PARTITION b) = p)
def Block.caveExtentsOf (s : Block) (p : Nat) : List Nat :=
  (List.range 1024).filter fun x => decide (s.fld (F.TIR_CX_STATE_STATE x) ≠ 0) && decide (s.fld (F.TIR_CX_CFG_PARTITION x) = p)

/-- Contexts, fault queue, streams, twin entries, object blocks and cave extents of a partition out of force (step 4 of
Table 16-3, R463). -/
def Block.unsetPtn (s : Block) (p : Nat) : Block :=
  let s1 := forEach (s.contextsOf p) (fun c t => t.ctxDisable c) s
  let s2 := if s1.isSet (F.XLT_FQ_CFG_ENABLE p) then s1.fqDisable p else s1
  let s3 := forEach (s2.streamsOf p) (fun st t => (t.streamDisable st).setFld (F.ENG_ST_STATUS_STATE st) strOff) s2
  let s4 := forEach (s3.twinsOf p) (fun i t => t.twinOff i) s3
  let s5 := forEach (s4.syncBlocksOf p) (fun b t => t.disableBlock b) s4
  forEach (s5.caveExtentsOf p) (fun x t => (t.extentRelease x false).setFld (F.TIR_CX_STATE_STATE x) 0) s5

/-- Step 4 of Table 16-3. -/
def Block.settleFour (s : Block) (p : Nat) : Block :=
  let s1 := (((s.truncateBursts fun b => decide (s.ringPtn b.ring = p)).closeNodeChs p).dropShaped p)
  let s2 := forEach ((List.range 96).filter fun l => decide (s1.linkState l = lkDown))
    (fun l t => t.discard l 1 2 (fun q => decide (q = p)) true) s1
  let s3 := (s2.denyFaults (fun _ q => decide (q = p)) denCtxOff).unsetPtn p
  ((forEach ((s3.framesOf p).map (·.1)) (fun b t => t.evictFrame b false) s3).destroyKey p).endBlockWaits

/-- Step 5's cluster and way parts: owned ways invalidated without write-back, what the owned clusters keep cleared. -/
def Block.clearUnits (s : Block) (p : Nat) : Block :=
  { s with
    pool := { s.pool with cache := s.pool.cache.filter fun l => decide (s.wayOwner l.slice l.way ≠ some p) }
    eng := { s.eng with verified := s.eng.verified.filter fun v => decide (s.clusterOwner v.cluster ≠ some p) } }

/-- The partition enters WASHING: reported as reset cause 0x11 (R469). -/
def Block.beginWash (s : Block) (p : Nat) : Block :=
  let s1 := ((s.setPtn p ptnWashing).setFld (F.PTN_WASH_PROGRESS_ROW p) 0).emit (.reset 0x11 p)
  ({ s1 with sec := { s1.sec with washed := Assoc.put 0 p 0 s1.sec.washed } } : Block).clearUnits p

/-- Started entries are done: gates close, and once they are OFF step 4 settles the rest and the wash begins (R469). -/
def execTeardownSettled (ptn : Fin 32) (s : State) : Out :=
  s.act fun s => (
    let p := ptn.val
    if s.ptnState p ≠ ptnDraining ∨ !s.ptnSettled p then s
    else
      let s1 := s.closeHosts p
      if s1.gatesOf p = [] then (s1.settleFour p).beginWash p else s1)

/-! ## The wash (R470) -/

/-- The steps of a wash: 32,768 rows of 64 banks. -/
def washSteps : Nat := 2097152

/-- The steps that a partition's wash has taken. -/
def Block.washDone (s : Block) (p : Nat) : Nat := Assoc.get 0 p s.sec.washed

/-- The channel blocks of a partition. -/
def Block.blocksOfPtn (s : Block) (p : Nat) : List Nat :=
  (List.range 128).filter fun b => decide (s.blockOwner b = some p)

/-- Whether a partition holds resources on a die: a cluster of it, or a block whose stack the die serves or is the first home
of (Table 3-2). -/
def Block.holdsOn (s : Block) (p d : Nat) : Bool :=
  ((List.range 9).any fun c => decide (s.clusterOwner (9 * d + c) = some p)) || (s.blocksOfPtn p).any fun b =>
    match s.servingStack (lstackOf (b * 2 ^ 34)) with
    | some k => decide (s.servingDie k = d) || decide (s.homeDie k false = d)
    | none => false

/-- Whether the wash of a partition can go on: no wider reset runs (Table 3-2), and a home reaches the stack of each of its
blocks (R463). -/
def Block.washRuns (s : Block) (p : Nat) : Bool :=
  decide (s.boot.phase = .running) && !s.boot.dieReset.any (fun x => s.holdsOn p x.1)
    && (s.blocksOfPtn p).all fun b => (s.reachedStack (b * 2 ^ 34)).isSome

/-- One row of one bank of one pseudo-channel written as clean poison. -/
def Block.washRow (s : Block) (stk pc bank row : Nat) : Block :=
  forEach (s.rowLines stk pc bank row) (fun d t => t.store stk d (zeroLine maskK)) s

/-- One step of a wash on every owned pseudo-channel (R470). -/
def Block.washStep (s : Block) (p : Nat) : Block :=
  let n := s.washDone p
  let s1 := forEach (s.blocksOfPtn p) (fun b t =>
    match t.reachedStack (b * 2 ^ 34) with
    | some stk => forEach (List.range 8) (fun ch u => u.washRow stk (b % 8 * 8 + ch) (n % 64) (n / 64)) t
    | none => t) s
  ({ s1 with sec := { s1.sec with washed := Assoc.put 0 p (n + 1) s1.sec.washed } } : Block).setFld
    (F.PTN_WASH_PROGRESS_ROW p) (min ((n + 1) / 64) 32767)

/-- Every UNIT_NS the wash writes one row of one bank (R470). -/
def execWashStep (ptn : Fin 32) (s : State) : Out :=
  s.act fun s => (
    if s.ptnState ptn.val = ptnWashing ∧ s.washDone ptn.val < washSteps ∧ s.washRuns ptn.val then s.washStep ptn.val
    else s)

/-- A register of owner bytes with those of a partition cleared. -/
def clearOwners (p v : Nat) : Nat :=
  (List.range 4).foldl (fun x k =>
    if getBits x (8 * k + 7) (8 * k + 7) = 1 ∧ getBits x (8 * k + 4) (8 * k) = p then setBits x (8 * k + 7) (8 * k) 0 else x) v

/-- A register rewritten. -/
def Block.rewrite (s : Block) (a : Nat) (f : Nat → Nat) : Block := s.setReg a (BitVec.ofNat 32 (f (s.reg a).toNat))

/-- The offsets of the owner-byte registers. -/
def ownerRegs : List Nat :=
  (List.range 9).map R.PTN_CLUSTER_OWN ++ (List.range 32).map R.PTN_BLOCK_OWN
    ++ ((List.range 36).map fun sl => (List.range 4).map fun j => R.PTN_WAY_OWN sl j).flatten

/-- Every unit of a partition unowned (step 6 of Table 16-3, R465). -/
def Block.disown (s : Block) (p : Nat) : Block :=
  let s1 := forEach ownerRegs (fun a t => t.rewrite a (clearOwners p)) s
  let s2 := forEach (s1.listed (R.PTN_SRC_GROUP 0) (R.PTN_SRC_GROUP 256) 4 0) (fun g t =>
    if t.isSet (F.PTN_SRC_GROUP_EN g) ∧ t.fld (F.PTN_SRC_GROUP_PARTITION g) = p then t.setFld (F.PTN_SRC_GROUP_EN g) 0 else t) s1
  forEach (s.ldsOf p) (fun f t => (t.setFld (F.PTN_FN_GRANT_OWNED f) 0).setFld (F.PTN_FN_GRANT_PTN f) 0) s2

/-- Whether some partition is in steps 1 to 6 of a teardown. -/
def Block.tearing (s : Block) : Bool :=
  (List.range 32).any fun p => decide (s.ptnState p = ptnDraining) || decide (s.ptnState p = ptnWashing)

/-- Step 6 of Table 16-3. -/
def Block.freePtn (s : Block) (p : Nat) : Block :=
  let s1 := ((s.disown p).setPtn p ptnFree).bump F.PTN_WASH_COUNT_COUNT
  let s2 := ({ s1 with sec := { s1.sec with washed := Assoc.put 0 p 0 s1.sec.washed } } : Block).emit (.pldm (.washDone p))
  if s2.tearing then s2 else (s2.setFld F.PTN_CMD_STATUS_BUSY 0).setFld F.PTN_CMD_STATUS_DONE 1

/-- The wash ends: units become unowned and the partition is FREE (R469). -/
def execWashDone (ptn : Fin 32) (s : State) : Out :=
  s.act fun s => (if s.ptnState ptn.val = ptnWashing ∧ (washSteps ≤ s.washDone ptn.val ∨ s.blocksOfPtn ptn.val = []) then s.freePtn ptn.val else s)

/-! ## Owner bytes (R465, R485) -/

/-- The partition that an owner byte names. -/
def byteOwner (b : Nat) : Option Nat := if getBits b 7 7 = 1 then some (getBits b 4 0) else none

/-- Whether a partition is DEFINED or ACTIVE. -/
def Block.ptnTakes (s : Block) (p : Nat) : Bool := decide (s.ptnState p = ptnDefined) || decide (s.ptnState p = ptnActive)

/-- Whether a write may turn one owner byte into another (R465). -/
def Block.byteMoves (s : Block) (old new : Nat) : Bool :=
  match byteOwner old, byteOwner new with
  | none, none => true
  | none, some p => s.ptnTakes p
  | some p, some q => decide (p = q)
  | some _, none => false

/-- The low `n` bytes of a register written as owner bytes, each checked on its own; reserved bits stay 0. -/
def Block.writeOwners (s : Block) (a n value : Nat) : Block :=
  forEach (List.range n) (fun k t =>
    let v := (t.reg a).toNat
    let old := getBits v (8 * k + 7) (8 * k)
    let new := getBits value (8 * k + 7) (8 * k) &&& 0x9F
    if t.byteMoves old new then t.rewrite a fun x => setBits x (8 * k + 7) (8 * k) new else t.ptnRefuse 0x04) s

/-- PTN_FN_GRANT of a function written: under SETUP_LOCK its RWL fields keep their values, and a write that would have
changed one is counted (R525); those of a locked device are not writable (R479). -/
def Block.writeGrant (s : Block) (f value : Nat) : Block :=
  if s.isSet F.GID_SETUP_LOCK_SETUP_LOCK then
    if (value ^^^ (s.reg (R.PTN_FN_GRANT f)).toNat) &&& 0x8000009F = 0 then s else s.bump F.GID_LOCK_VIOL_COUNT_COUNT
  else if s.tspIsLocked f then s
  else (s.writeOwners (R.PTN_FN_GRANT f) 1 value).setFld (F.PTN_FN_GRANT_FULL f) (getBits value 31 31)

/-- PTN_SRC_GROUP written (R461, R465). -/
def Block.writeGroup (s : Block) (g value : Nat) : Block :=
  if s.isSet (F.PTN_SRC_GROUP_EN g) then s.ptnRefuse 0x07
  else if getBits value 31 31 = 1 ∧ !s.ptnTakes (getBits value 30 26) then s.ptnRefuse 0x04
  else
    (s.setReg (R.PTN_SRC_GROUP g) (BitVec.ofNat 32 (setBits value 20 20 0))).setBit (F.PTN_SRC_GROUP_EN g)
      (decide (getBits value 31 31 = 1) && decide (getBits value 25 21 ≤ 20))

/-- A register of owner entries written by its offset in the PTN block. -/
def Block.writeOwner (s : Block) (off value : Nat) : Block :=
  let a := R.PTN_CMD + off
  if ownerRegs.contains a then s.writeOwners a 4 value
  else if R.PTN_FN_GRANT 0 ≤ a ∧ a < R.PTN_FN_GRANT 256 ∧ a % 4 = 0 then s.writeGrant ((a - R.PTN_FN_GRANT 0) / 4) value
  else if R.PTN_SRC_GROUP 0 ≤ a ∧ a < R.PTN_SRC_GROUP 256 ∧ a % 4 = 0 then s.writeGroup ((a - R.PTN_SRC_GROUP 0) / 4) value
  else s

/-- A write of owner bytes (R465). -/
def execOwnerByteWrite (by_ : Actor) (off : BitVec 18) (value : BitVec 32) (s : State) : Out :=
  s.act fun s => (s.byFull by_ fun t => t.writeOwner off.toNat value.toNat)

/-- A write of PTN_COMMONS.EN (R467). -/
def execCommonsEnWrite (by_ : Actor) (en : Bool) (s : State) : Out :=
  s.act fun s => (s.byFull by_ fun t =>
    if en && decide (t.ptnState 0 ≠ ptnActive) then t.ptnRefuse 0x02
    else if !en && t.isSet F.PTN_COMMONS_EN && decide (t.commonsOn ≠ []) then t.ptnRefuse 0x02
    else t.setBit F.PTN_COMMONS_EN en)

end Sys2Proof.Machine
end

