-- ==== Sys2Proof/Machine/Bexa.lean ====
section
/-! DEFINITION.  Bexa programs (R356–R379): instruction words, images and their verification, the machine that one
instruction runs on, how an instruction ends. -/

namespace Sys2Proof.Machine

/-! ## Instruction words (R364, Table 12-6) -/

/-- The fields of an instruction word. -/
abbrev Insn := Nat

def Insn.op (w : Insn) : Nat := getBits w 31 26
def Insn.func (w : Insn) : Nat := getBits w 4 0
def Insn.d (w : Insn) : Nat := getBits w 25 21
def Insn.a (w : Insn) : Nat := getBits w 20 16
def Insn.b (w : Insn) : Nat := getBits w 15 11
def Insn.imm (w : Insn) : Nat := getBits w 15 0
def Insn.vd (w : Insn) : Nat := getBits w 25 22
def Insn.va (w : Insn) : Nat := getBits w 21 18
def Insn.vb (w : Insn) : Nat := getBits w 17 14
def Insn.fmt (w : Insn) : Nat := getBits w 13 10
def Insn.s (w : Insn) : Nat := getBits w 9 5

/-- A field of `n` bits as a signed number. -/
def signExt (n x : Nat) : Int := if x < 2 ^ (n - 1) then x else (x : Int) - 2 ^ n

/-- imm sign-extended to 64 bits. -/
def Insn.simm (w : Insn) : Nat := (signExt 16 w.imm % 2 ^ 64).toNat

/-- The word index that a branch (form B) or jump (form J) at word `i` goes to. -/
def Insn.target (w : Insn) (i : Nat) : Int :=
  (i : Int) + (if w.op = 0x18 then signExt 26 (getBits w 25 0) else signExt 16 w.imm)

/-- Whether a format is one of Table 10-1. -/
def fmtValid (fmt : Nat) : Bool := decide (fmt ≤ 8)

/-- Bits `hi` to `lo` set. -/
def bitsOf (hi lo : Nat) : Nat := 2 ^ (hi + 1) - 2 ^ lo

/-- The bits that an instruction uses, by its major opcode and its func or sub-operation; none for a reserved encoding
(R365). -/
def Insn.used (w : Insn) : Option Nat :=
  let d := bitsOf 25 21
  let a := bitsOf 20 16
  let b := bitsOf 15 11
  let fn := bitsOf 4 0
  let imm := bitsOf 15 0
  let vd := bitsOf 25 22
  let ak := bitsOf 23 22
  let va := bitsOf 21 18
  let vb := bitsOf 17 14
  let fmt := bitsOf 13 10
  let s := bitsOf 9 5
  let f := w.func
  (match w.op with
  | 0x01 => if f ≤ 0x0F then some (d + a + b + fn) else none
  | 0x02 | 0x03 | 0x04 | 0x05 => some (d + a + imm)
  | 0x06 => if getBits w 7 6 = 3 then none else some (d + a + bitsOf 7 0)
  | 0x07 => some (d + imm)
  | 0x08 | 0x09 | 0x0A | 0x0B | 0x0C | 0x0D | 0x0E | 0x0F | 0x10 | 0x11 => some (d + a + imm)
  | 0x12 | 0x13 | 0x14 | 0x15 | 0x16 | 0x17 | 0x18 => some (bitsOf 25 0)
  | 0x19 => if f = 0 then some (d + a) else none
  | 0x1A => some (d + bitsOf 15 15 + bitsOf 11 0 + if getBits w 15 15 = 1 then a else 0)
  | 0x1B => if 1 ≤ f ∧ f ≤ 6 then some fn else none
  | 0x1C => if f = 2 ∨ f = 6 then some (d + a + fn) else if f = 3 ∨ f = 4 ∨ f = 5 then some (d + a + b + fn) else none
  | 0x1D => if f = 0 then some (a + b) else none
  | 0x1E => some (a + bitsOf 2 0)
  | 0x20 => some (vd + bitsOf 2 0)
  | 0x21 =>
    if f = 0 then (if fmtValid w.fmt then some (vd + fmt + s) else none)
    else if f = 1 then some (vd + s + fn) else none
  | 0x22 => if f ≤ 1 then some (vd + s + fn) else none
  | 0x23 => if f ≤ 0x09 then some (vd + va + vb + fn) else if f ≤ 0x0B then some (vd + va + s + fn) else none
  | 0x24 => if f ≤ 4 then some (vd + va + fn) else none
  | 0x25 => if f = 0 then some (vd + s) else none
  | 0x26 => if fmtValid w.fmt then some (vd + va + vb + fmt) else none
  | 0x27 => some (ak + va + vb + bitsOf 2 0)
  | 0x28 => some (ak + va)
  | 0x29 =>
    if f = 0 then some (ak + fn)
    else if f ≤ 3 ∨ f = 6 then some (ak + s + fn)
    else if f = 4 then (if w.fmt ≤ 2 then some (ak + s + fmt + fn) else none)
    else if f = 5 then (if w.fmt ≤ 2 then some (ak + bitsOf 15 14 + s + fmt + fn) else none)
    else none
  | 0x2A => if 3 ≤ w.fmt ∧ w.fmt ≤ 8 then some (vd + va + fmt + s) else none
  | _ => none).map (bitsOf 31 26 + ·)

/-- Whether a word is UNIT, CMT or a mutating SYNC (Table 12-3, 0x07). -/
def Insn.inPlaceOnly (w : Insn) : Bool :=
  (decide (w.op = 0x1B) && (decide (w.func = 4) || decide (w.func = 5)))
    || (decide (w.op = 0x1C) && decide (3 ≤ w.func))

/-- Why the verifier refuses word `i` of a text of `n` words, if it does: the lowest code of Table 12-3. -/
def Insn.refused (w : Insn) (i n pf : Nat) (inplace : Bool) : Option Nat :=
  match w.used with
  | none => some 0x04
  | some m =>
    if w &&& m ≠ w then some 0x05
    else if 0x12 ≤ w.op ∧ w.op ≤ 0x18 ∧ (w.target i < 0 ∨ (n : Int) ≤ w.target i) then some 0x06
    else if !inplace && w.inPlaceOnly then some 0x07
    else if (w.op = 0x1E ∨ w.op = 0x20) ∧ pf ≤ getBits w 2 0 then some 0x08
    else none

/-! ## Images (R357, Table 12-2) -/

/-- A program's image as its header gives it. -/
structure Image where
  inplace : Bool
  words : Nat
  data : Nat
  pf : Nat
  entry : Nat
  crc : Nat
  init : Nat
  deriving DecidableEq, Repr

/-- A field of `n` bytes of a header. -/
def hdrAt (b : List Byte) (at_ n : Nat) : Nat := ofLeBytes ((b.drop at_).take n)

/-- A header checked against Table 12-2: its image, or the reason of Table 12-3. -/
def checkHeader (b : List Byte) : Except Nat Image :=
  let g : Image :=
    { inplace := decide (hdrAt b 0x06 2 % 2 = 1), words := hdrAt b 0x08 4, data := hdrAt b 0x0C 4, pf := hdrAt b 0x10 1
      entry := hdrAt b 0x14 4, crc := hdrAt b 0x18 4, init := hdrAt b 0x1C 4 }
  if hdrAt b 0 4 ≠ 0xB0CA5E17 ∨ hdrAt b 4 2 ≠ 1 ∨ 2 ≤ hdrAt b 0x06 2 ∨ hdrAt b 0x11 3 ≠ 0 ∨ hdrAt b 0x20 28 ≠ 0
      ∨ hdrAt b 0x3C 4 ≠ crc32c (b.take 0x3C) then .error 0x01
  else if g.words = 0 ∨ 8192 < g.words ∨ 8192 < g.data ∨ g.data % 64 ≠ 0 ∨ 8 < g.pf ∨ g.words ≤ g.entry ∨ g.data < g.init then
    .error 0x02
  else .ok g

/-- The instruction words of a text's bytes. -/
def textOf : Nat → List Byte → List Nat
  | 0, _ => []
  | n + 1, b => ofLeBytes (b.take 4) :: textOf n (b.drop 4)

/-- The first word that the verifier refuses: its reason and its index. -/
def checkWords (text : List Nat) (g : Image) : Option (Nat × Nat) :=
  text.zipIdx.findSome? fun x => (Insn.refused x.1 x.2 text.length g.pf g.inplace).map fun c => (c, x.2)

/-- What verification finds: a reason with its word, or the image, its text, its initial data and the DPA of its
header line. -/
inductive Verdict where
  | bad (code word : Nat)
  | good (g : Image) (text : List Nat) (init : List Byte) (dpa : Nat)
  deriving DecidableEq, Repr

/-- Bytes of an image; none where a line reads as poison, is unreachable or translates under a denial (Table 12-3,
0x0A). -/
def Op.imageBytes (ca n : Nat) : Op (Option (List Byte)) := fun r =>
  match Op.caBytes ca n r with
  | .error (.deny _, s1) => .ok (none, { r with s := s1 })
  | .error x => .error x
  | .ok (b, r1) => .ok (if b.poison || b.addrErr then none else some b.bytes, r1)

/-- A program's text, or the index of the first word of the first line of it that reads as poison, is unreachable or is denied. -/
def Op.imageText (ca words : Nat) : Op (Except Nat (List Byte)) :=
  (List.range (unitsOf words 16)).foldlM (fun text l =>
    match text with
    | .error w => pure (.error w)
    | .ok b => do
      match ← Op.imageBytes (ca + 64 * l) (min 64 (4 * words - 64 * l)) with
      | none => pure (.error (16 * l))
      | some x => pure (.ok (b ++ x))) (.ok [])

/-- The rest of verification once the header is good: the text, unless it is held verified, and the initial data. -/
def Op.verifyText (ca dpa : Nat) (g : Image) (held : Option (List Nat)) : Op Verdict := do
  let text : Except (Nat × Nat) (List Nat) ← match held with
    | some t => pure (.ok t)
    | none => do
      match ← Op.imageText (ca + 0x40) g.words with
      | .error w => pure (.error (0x0A, w))
      | .ok b =>
        let t := textOf g.words b
        pure (if crc32c b ≠ g.crc then .error (0x03, 0)
          else match checkWords t g with
            | some x => .error x
            | none => .ok t)
  match text with
  | .error (c, w) => pure (.bad c w)
  | .ok t => do
    match ← Op.imageBytes (ca + 0x40 + 4 * g.words) g.init with
    | none => pure (.bad 0x0A 0)
    | some init => pure (.good g t init dpa)

/-- The verification of a BEXA_RUN's image by a cluster (R358). -/
def Op.verify (d : Desc) (cluster : Nat) : Op Verdict := do
  let ca := d.f 0x40 47 0
  match ← Op.imageBytes ca 64 with
  | none => pure (.bad 0x0A 0)
  | some b =>
    match checkHeader b with
    | .error c => pure (.bad c 0)
    | .ok g => do
      let r ← get
      if !r.s.isSet (F.PTN_CFG_PROG_OK r.ptn) ∨ r.s.fld (F.PTN_CFG_TASK_LIMIT r.ptn) < d.f 0x78 63 48 then pure (.bad 0x09 0)
      else if g.inplace ∧ d.f 0x78 63 48 ≠ 1 then pure (.bad 0x0B 0)
      else do
        let dpa ← Op.xlate ca accRead
        let held := (r.s.eng.verified.find? fun v =>
          decide (v.cluster = cluster) && decide (v.dpa = dpa) && decide (v.crc = g.crc)).map (·.text)
        Op.verifyText ca dpa g held

/-! ## Launching (R356–R360) -/

/-- `n` free bytes. -/
def Block.freshBytes : Nat → Block → List Byte × Block
  | 0, s => ([], s)
  | n + 1, s =>
    let (x, s1) := s.fresh
    let (b, s2) := s1.freshBytes n
    (x.setWidth 8 :: b, s2)

/-- A program at its task's start (R359, R360): the image's initial data followed by zeros, at ENTRY. -/
def Prog.atEntry (p : Prog) : Prog :=
  { p with
    core := { pc := p.entryPc }
    saved := { pc := p.entryPc }
    vregs := []
    window := p.init ++ List.replicate (p.window.length - p.init.length) 0
    wpoison := []
    unit := none }

/-- The program of a verified image. -/
def progOf (d : Desc) (g : Image) (text : List Nat) (init : List Byte) : Prog :=
  ({ window := List.replicate g.data 0, entryPc := 4 * g.entry, init := init, text := text
     args := (List.range 6).map fun i => d.w (0x48 + 8 * i), ntasks := d.f 0x78 63 48, pf := g.pf
     inplace := g.inplace } : Prog).atEntry

/-- The tasks of a BEXA_RUN made, all of one program; an in-place one that is replayed goes on from the checkpoint of
its last unit, its window holding free values (R377). -/
def Block.launch (s : Block) (e : LogEntry) (cluster : Nat) (p : Prog) : Block :=
  let (p1, s1) :=
    match e.saved with
    | some c =>
      if p.inplace ∧ 0 < e.unitsDone then
        let (w, s1) := s.freshBytes p.window.length
        ({ p with core := c, saved := c, window := w }, s1)
      else (p, s)
    | none => (p, s)
  let ts := (List.range p.ntasks).map fun i =>
    ({ ring := e.ring, seq := e.seq, idx := i, stream := Desc.stream e.bytes, prog := some p1 } : Task)
  let s2 := { s1.begin e with eng := { s1.eng with tasks := s1.eng.tasks ++ ts } }
  let s3 := if p.inplace then s2.mapEntry e.ring e.seq fun x => { x with units := 0xFFFFFFFF } else s2
  s3.dispatch e 0 cluster

/-- BEXA_RUN: the cluster that takes the first task verifies the image, and the tasks are made (R356, R358). -/
def execBexaRun (ring : Fin 4096) (seq : BitVec 64) (cluster : Fin 36) (s : State) : Out :=
  s.act fun s => (
    match s.runnable ring.val seq.toNat (isOpc opcBexaRun) with
    | none => s
    | some e => s.forWork e.ring e.seq fun s =>
      if s.tasksOf e.ring e.seq ≠ [] ∨ e.state = .committing
          ∨ s.clusterOwner cluster.val ≠ some (s.ringPtn e.ring) ∨ !s.clusterUp cluster.val then s
      else
        match Op.verify e.bytes cluster.val (s.begin_ e.ring e.seq e.ctx false) with
        | .error (why, s1) => s.runStopped e why s1
        | .ok (.bad code word, r) =>
          (r.s.putReport e 0x01 code 0 word 0).setFin e.ring e.seq { status := stBadField, detail := 0x40 }
        | .ok (.good g text init dpa, r) =>
          let v := r.s.eng.verified.filter fun v =>
            !(decide (v.cluster = cluster.val) && decide (v.dpa = dpa) && decide (v.crc = g.crc))
          let s1 : Block := { r.s with eng := { r.s.eng with
            verified := v ++ [{ cluster := cluster.val, dpa := dpa, crc := g.crc, text := text }] } }
          s1.launch e cluster.val (progOf e.bytes g text init))

/-! ## The machine of one instruction -/

/-- Why an instruction does not end as it would: a trap of Table 12-13 with the address involved, a denial, a fault, a
refused object, a wait that leaves everything as it was, a wait for a line not yet staged. -/
inductive BxStop where
  | trap (code ca : Nat)
  | deny (code ca : Nat)
  | fault (ca acc reason line : Nat)
  | refused (detail : Nat)
  | stall
  | empty
  deriving DecidableEq, Repr

/-- What one instruction runs on: the machine, the descriptor's entry, the task and its program. -/
structure BxRun where
  s : Block
  e : LogEntry
  t : Task
  p : Prog
  deriving DecidableEq, Repr

/-- What an instruction does. -/
abbrev Bx (α : Type) := StateT BxRun (Except (BxStop × Block)) α

/-- How an instruction ends when nothing stops it: the next instruction, another, a tile boundary, the task's end, a
wait on an object, a unit committed, an object changed. -/
inductive BxEnd where
  | next
  | jump (pc : Nat)
  | tile
  | exit
  | wait (obj threshold : Nat)
  | commit (stage : List LineOut)
  | sync (obj : Nat) (v : SyncObj)
  deriving DecidableEq, Repr

/-- Ends the instruction otherwise. -/
def Bx.stop {α : Type} (why : BxStop) : Bx α := fun r => .error (why, r.s)

/-- A trap (Table 12-13). -/
def Bx.trap {α : Type} (code : Nat) (ca : Nat := 0) : Bx α := Bx.stop (.trap code ca)

def trMisaligned : Nat := 0x81
def trWindow : Nat := 0x82
def trText : Nat := 0x83
def trUnitOrder : Nat := 0x84
def trUnitFull : Nat := 0x85
def trExhausted : Nat := 0x86
def trEselMulti : Nat := 0x87
def trCsr : Nat := 0x88
def trPattern : Nat := 0x89
def trPoison : Nat := 0x8A
def trAbort : Nat := 0x8B

/-- The status and DETAIL of a trap (Table 12-13). -/
def trapOutcome (code : Nat) : Nat × Nat :=
  if code = trPoison then (stPoison, 0) else if code = trAbort then (stBadField, 0x48) else (stAddressError, code)

/-- The program's core state. -/
def Bx.core : Bx ProgCore := do
  let r ← get
  pure r.p.core

/-- The program changed. -/
def Bx.mapProg (f : Prog → Prog) : Bx Unit := modify fun r => { r with p := f r.p }

/-- The program's core state changed. -/
def Bx.mapCore (f : ProgCore → ProgCore) : Bx Unit := Bx.mapProg fun p => { p with core := f p.core }

/-- A run over memory for this task, at a CA, as an unprivileged unit (R367). -/
def Bx.op {α : Type} (ca : Nat) (o : Op α) : Bx α := fun r =>
  match o (r.s.begin_ r.e.ring r.e.seq r.e.ctx false) with
  | .ok (x, q) => .ok (x, { r with s := q.s })
  | .error (.deny code, s1) => .error (.deny code ca, s1)
  | .error (.fault fa acc reason line, s1) => .error (.fault fa acc reason line, s1)
  | .error (_, s1) => .error (.stall, s1)

/-- A poisoned value was read (SEEN[1]), or an element was delivered as ADDRESS_ERROR (SEEN[0]). -/
def Bx.saw (poison addrErr : Bool) : Bx Unit :=
  Bx.mapCore fun c => { c with seenPoison := c.seenPoison || poison, seenAddr := c.seenAddr || addrErr }

/-- A scalar register: its value and its poison bit (R361). -/
def ProgCore.reg (c : ProgCore) (n : Nat) : Nat × Bool :=
  if n = 0 then (0, false) else ((Assoc.get (0 : DWord) n c.regs).toNat, c.rpoison.contains n)

/-- A scalar register written; s0 ignores writes. -/
def ProgCore.setReg (c : ProgCore) (n v : Nat) (poison : Bool) : ProgCore :=
  if n = 0 then c
  else { c with
    regs := Assoc.put (0 : DWord) n (BitVec.ofNat 64 v) c.regs
    rpoison := if poison then (if c.rpoison.contains n then c.rpoison else n :: c.rpoison) else c.rpoison.filter (· ≠ n) }

def Bx.reg (n : Nat) : Bx (Nat × Bool) := do
  let c ← Bx.core
  pure (c.reg n)

def Bx.setReg (n v : Nat) (poison : Bool) : Bx Unit := Bx.mapCore fun c => c.setReg n v poison

/-- A register that steers the task: a poisoned one traps (R362). -/
def Bx.ctl (n : Nat) : Bx Nat := do
  let (v, poison) ← Bx.reg n
  if poison then Bx.trap trPoison
  pure v

/-- A register given a value that the spec leaves open, marked poison. -/
def Bx.poisonReg (n : Nat) : Bx Unit := do
  let r ← get
  let (x, s1) := r.s.fresh
  set { r with s := s1 }
  Bx.setReg n x.toNat true

/-! ## Memory (R367, R375) -/

/-- The staged line of a CA line. -/
def Prog.stagedLine (p : Prog) (line : Nat) : Option LineOut :=
  p.unit.bind fun ls => ls.find? fun l => decide (l.dpa = line)

/-- `n` bytes at a CA in one line, as the task sees them: its own staged bytes over memory's. -/
def Bx.readMem (ca n : Nat) : Bx Bytes := do
  let r ← get
  let b ← Bx.op ca (Op.caBytes ca n)
  match r.p.stagedLine (lineOf ca) with
  | none => pure b
  | some l =>
    let full := l.bytes.all Option.isSome
    pure { b with
      bytes := b.bytes.zipIdx.map fun x => (l.bytes.getD (ca % 64 + x.2) none).getD x.1
      poison := l.poison || (b.poison && !full) }

/-- Bytes stored at a CA in one line: staged in the open unit of an INPLACE image, or written to memory. -/
def Bx.store (ca : Nat) (bytes : List Byte) (poison : Bool) : Bx Unit := do
  let r ← get
  if r.p.inplace then
    match r.p.unit with
    | none => Bx.trap trUnitOrder ca
    | some ls =>
      let ls1 := mergeOut (lineOut ca bytes poison) ls
      if 64 < ls1.length then Bx.trap trUnitFull ca
      Bx.mapProg fun p => { p with unit := some ls1 }
  else
    let outs ← Bx.op ca (do
      Op.out ca bytes poison
      let q ← get
      pure q.outs)
    let r1 ← get
    let ptn := r1.s.ringPtn r1.e.ring
    match applyOuts (.engine ptn) ptn outs r1.s with
    | none => do
      set { r1 with s := r1.s.noteWaits (.engine ptn) ptn true (outs.map LineOut.dpa) }
      Bx.stop .stall
    | some (met, s1) =>
      set { r1 with s := s1 }
      Bx.saw met.poison met.addr

/-- Bytes stored line by line, each line poison where `bad` says one of its bytes is. -/
def Bx.storeLines (ca : Nat) (bytes : List Byte) (bad : Nat → Bool) : Bx Unit :=
  (pieces ca bytes.length).forM fun x =>
    Bx.store x.1 ((bytes.drop (x.1 - ca)).take x.2) ((List.range x.2).any fun j => bad (x.1 - ca + j))

/-! ## The data window (R359, R367) -/

/-- `n` bytes of the window, with which of them lie in poisoned lines. -/
def Bx.winRead (off n : Nat) : Bx (List Byte × (Nat → Bool)) := do
  let r ← get
  if r.p.window.length < off + n then Bx.trap trWindow off
  pure ((r.p.window.drop off).take n, fun j => r.p.wpoison.contains ((off + j) / 64))

/-- Bytes of one line of the window written: a poisoned write poisons the line, a clean write of the whole line
cleans it (Table 6-4). -/
def Prog.winPut (p : Prog) (off : Nat) (bytes : List Byte) (poison : Bool) : Prog :=
  let l := off / 64
  { p with
    window := p.window.take off ++ bytes ++ p.window.drop (off + bytes.length)
    wpoison :=
      if poison then (if p.wpoison.contains l then p.wpoison else l :: p.wpoison)
      else if bytes.length = 64 then p.wpoison.filter (· ≠ l)
      else p.wpoison }

/-- Bytes written to the window. -/
def Bx.winWrite (off : Nat) (bytes : List Byte) (bad : Nat → Bool) : Bx Unit := do
  let r ← get
  if r.p.window.length < off + bytes.length then Bx.trap trWindow off
  (pieces off bytes.length).forM fun x =>
    Bx.mapProg fun p => p.winPut x.1 ((bytes.drop (x.1 - off)).take x.2)
      ((List.range x.2).any fun j => bad (x.1 - off + j))

/-! ## How an instruction ends -/

/-- A checkpoint taken: the vector registers read zero after it (R376). -/
def Prog.checkpoint (p : Prog) : Prog := { p with saved := p.core, vregs := [] }

/-- The program moved on to a byte offset of its text. -/
def Prog.goto (p : Prog) (pc : Nat) : Prog := { p with core := { p.core with pc := pc } }

/-- A task's program replaced. -/
def Block.setProg (s : Block) (t : Task) (p : Prog) : Block :=
  s.mapTask t.ring t.seq t.idx fun x => { x with prog := some p }

/-- A unit of an INPLACE program staged with its checkpoint, and applied (R127, R375, R376). -/
def Block.commitUnit (s : Block) (e : LogEntry) (p : Prog) (stage : List LineOut) (obj : Option (Nat × SyncObj)) : Block :=
  let s1 := s.mapEntry e.ring e.seq fun x => { x with
    state := .committing, stage := stage, stageEpoch := s.fld (F.XLT_CTX_STATUS_EPOCH e.ctx), stageObj := obj, saved := some p.saved }
  s1.endUnit (s1.now_ e)

/-- An instruction's end. -/
def Block.bexaEnd (r : BxRun) (how : BxEnd) : Block :=
  let past := r.p.goto (r.p.core.pc + 4)
  let t := r.t
  match how with
  | .next => r.s.setProg t past
  | .jump pc => r.s.setProg t (r.p.goto pc)
  | .tile =>
    let s1 := r.s.setProg t past.checkpoint
    if t.stop then (s1.endTask t).settleProgram t.ring t.seq
    else
      match t.core with
      | some k => s1.tileBoundary k
      | none => s1
  | .exit =>
    let s1 := (r.s.setProg t past).mapTask t.ring t.seq t.idx fun x => { x with exited := true }
    (s1.endTask t).settleProgram t.ring t.seq
  | .wait obj threshold =>
    let s1 := (r.s.setProg t r.p).mapTask t.ring t.seq t.idx fun x => { x with state := .waiting (.object obj threshold) }
    match t.core with
    | some k => s1.dropPrefetchers k
    | none => s1
  | .commit stage =>
    let p := { past with unit := none }.checkpoint
    (r.s.setProg t p).commitUnit r.e p stage none
  | .sync obj v =>
    let p := past.checkpoint
    ((r.s.setProg t p).reserve obj (some (r.e.ring, r.e.seq))).commitUnit r.e p [] (some (obj, v))

/-- An instruction stopped. -/
def Block.bexaStop (s : Block) (e : LogEntry) (t : Task) (p : Prog) (why : BxStop) (s1 : Block) : Block :=
  match why with
  | .stall => s.keepWaits s1
  | .empty => s.event 3 1 (e.attr (s.ringPtn e.ring))
  | .trap code ca =>
    let o := trapOutcome code
    s1.trapTask t { status := o.1, detail := o.2, code := code, word := p.core.pc / 4, ca := ca }
  | .deny code ca => s1.failTask e.ring e.seq t.idx code ca
  | .refused detail => s1.trapTask t { status := stNotPermitted, detail := detail, code := 0, word := p.core.pc / 4, ca := 0 }
  | .fault ca acc reason line => s1.faultOf e t.idx ca acc reason line

/-- A task that may execute an instruction now: it holds its core's grant, its entry goes on and no unit of it is being
committed; with its program and the word at its program counter. -/
def Block.bexaAt (s : Block) (ring seq idx : Nat) : Option (LogEntry × Task × Prog × Insn) :=
  match s.entry ring seq, s.task ring seq idx with
  | some e, some t =>
    match t.prog with
    | some p =>
      if t.state = .running ∧ e.state = .started ∧ s.mayStart e then
        (p.text[p.core.pc / 4]?).map fun w => (e, t, p, w)
      else none
    | none => none
  | _, _ => none

/-- An instruction: the words that are it, and what it does. -/
structure BxInsn where
  is : Insn → Bool
  act : Insn → Bx BxEnd

/-- A task executes an instruction; nothing happens where the instruction at its program counter is another. -/
def Block.bexa (s : Block) (ring : Fin 4096) (seq : BitVec 64) (idx : BitVec 16) (i : BxInsn) : Block :=
  match s.bexaAt ring.val seq.toNat idx.toNat with
  | none => s
  | some (e, t, p, w) =>
    if !i.is w then s
    else
      s.forWork e.ring e.seq fun u =>
        match i.act w { s := u, e := e, t := t, p := p } with
        | .ok (how, r) => Block.bexaEnd r how
        | .error (why, s1) => u.bexaStop e t p why s1

end Sys2Proof.Machine
end

