-- ==== Sys2Proof/Machine/Rind.lean ====
section
/-! DEFINITION.  The rind (R472–R477): measurements and their log, debug unlock, the minimum security version, the SPDM
responder. -/

namespace Sys2Proof.Machine

/-! ## Measurements (R474) -/

/-- The security state changed. -/
def Block.setSec (s : Block) (x : SecSt) : Block := { s with sec := x }

/-- 48 zero bytes. -/
def zeroDigest : List Byte := List.replicate 48 0

/-- A measurement taken and extended into the log, which holds 1,024 entries. -/
def Block.extend (s : Block) (idx : Nat) (what : List Nat) : Block :=
  let m := Config.measure idx what
  let full := decide (1024 ≤ s.sec.log.length)
  let s1 := s.setSec { s.sec with
    meas := Assoc.put [] idx m s.sec.meas
    log := if full then s.sec.log else s.sec.log ++ [(idx, m)] }
  if full then s1.setFld F.SEC_STATUS_LOG_FULL 1 else s1.setFld F.SEC_MEAS_COUNT_ENTRIES s1.sec.log.length

/-- DEGRADED (Table 16-4): a die out or in a Die reset, a stack on its alternate home or unreachable, or fewer than 32
clusters. -/
def Block.degraded (s : Block) : Bool :=
  (List.range 4).any s.dieOut || s.boot.dieReset.isSome || decide (s.fld F.GID_CAPS0_CLUSTERS < 32)
    || (List.range 16).any fun l =>
      match s.reachedStack (l * 2 ^ 37) with
      | some stk => s.isSet (F.DRC_HOME_ON_ALT stk)
      | none => true

/-- A number of bits as a number. -/
def flagBits (n : Nat) (p : Nat → Bool) : Nat := (List.range n).foldl (fun v k => if p k then v + 2 ^ k else v) 0

/-- Index 0x09 at the moment of a request. -/
def Block.opState (s : Block) : List Byte :=
  let b0 := (if s.degraded then 1 else 0) + (if s.isSet F.ALM_STATUS_ADRIFT then 2 else 0)
    + (if s.isSet F.RBT_STATUS_RECOVERY then 4 else 0)
  let stacks_ := flagBits 18 fun k => !(decide (s.role k = roleServing) && !s.isSet (F.DRC_HOME_ON_ALT k))
  leBytes 1 b0 ++ leBytes 1 (flagBits 4 s.dieOut) ++ leBytes 3 stacks_ ++ leBytes 1 (s.fld F.GID_CAPS0_CLUSTERS)
    ++ leBytes 2 0 ++ leBytes 8 s.now

/-- The measurement of an index as it is answered; all zero for 0x02 to 0x07 in recovery boot (Table 16-5). -/
def Block.measured (s : Block) (idx : Nat) : List Byte :=
  if idx = 9 then s.opState
  else if s.isSet F.RBT_STATUS_RECOVERY ∧ 2 ≤ idx ∧ idx ≤ 7 then zeroDigest
  else Assoc.get zeroDigest idx s.sec.meas

/-- Every measurement at one instant. -/
def Block.allMeasured (s : Block) : List (Nat × List Byte) := ((List.range 9).map (· + 1)).map fun i => (i, s.measured i)

/-- The measurements that the alias key is derived from (R472). -/
def Block.aliasBase (s : Block) : List (List Byte) := ((List.range 6).map (· + 1)).map s.measured

/-! ## Fuses and debug (R473, R475) -/

/-- Whether a vendor key slot is revoked. -/
def Block.keyRevoked (s : Block) (k : Nat) : Bool := decide (getBits (s.fld F.SEC_STATUS_REVOKED) k k = 1)

/-- A manifest's request to revoke a slot, at its activation: ignored for the last unrevoked one (R473). -/
def Block.revokeKey (s : Block) (by_ : Option (Fin 4)) (k : Option (Fin 4)) : Block :=
  match k with
  | none => s
  | some n =>
    let left := (List.range 4).filter fun j => !s.keyRevoked j && decide (j ≠ n.val)
    if left = [] ∨ by_ = some n then s
    else s.setFld F.SEC_STATUS_REVOKED (setBits (s.fld F.SEC_STATUS_REVOKED) n.val n.val 1)

/-- A challenge signed under a vendor key slot unlocks the instruments until the next Cold reset (R475). -/
def execDebugUnlock (key : Fin 4) (valid : Bool) (s : State) : Out :=
  s.act fun s => (
    if valid && !s.keyRevoked key.val && !s.isSet F.SEC_STATUS_DEBUG_UNLOCKED then
      (s.setFld F.SEC_STATUS_DEBUG_UNLOCKED 1).extend 8 [1]
    else s)

/-- SEC_SVN_COMMIT GO (R473). -/
def execSvnCommit (by_ : Actor) (s : State) : Out :=
  s.act fun s => (s.byFull by_ fun t =>
    if t.isSet F.RBT_FW_STATUS_TRIAL then t.setFld F.SEC_SVN_COMMIT_ERR 1
    else t.setFld F.SEC_SVN_MIN (max (t.fld F.SEC_SVN_MIN) (t.fld F.SEC_SVN_RUNNING)))

/-! ## The SPDM responder (R476, R477) -/

/-- Whether the binnacle island runs. -/
def Block.islandUp (s : Block) : Bool :=
  !s.pwr.bnLost && match s.boot.phase with
    | .unpowered => false
    | .latched => false
    | .release n => decide (n ≠ 1)
    | _ => true

/-- Whether the module is in a Cold or Warm reset before the end of step 5, or held there. -/
def Block.rindDown (s : Block) : Bool :=
  match s.boot.phase with
  | .release n => decide (n ≤ 5)
  | .running => false
  | .recovery => false
  | _ => true

/-- Whether an MCTP path carries messages (Table 18-8). -/
def Block.mctpUp (s : Block) : MctpPath → Bool
  | .i3c => s.islandUp
  | .vdm p => s.portUp p.val

/-- Whether a path of the responder can be reached. -/
def Block.spdmUp (s : Block) : SpdmPath → Bool
  | .doe fn => s.portUp (fn.val / 16) && s.presents fn.val
  | .doeFm p => s.portUp p.val
  | .mctp p => s.mctpUp p

/-- An SPDM answer sent. -/
def Block.spdm (s : Block) (path : SpdmPath) (r : SpdmReply) : Block := s.emit (.spdm path r)

/-- A request answered: not at all where its path is down, ResponseNotReady through the island's path in steps 1 to 5 of a
reset (its RDTM is a free value), else by `act`. -/
def Block.spdmAsk (s : Block) (path : SpdmPath) (act : Block → Block) : Block :=
  if !s.spdmUp path then s
  else if s.rindDown then
    let (v, t) := s.fresh
    t.spdm path (.error (.notReady 20 (v.toNat % 256)))
  else act s

/-- The open sessions counted. -/
def Block.countSessions (s : Block) : Block := s.setFld F.SEC_SPDM_SESSIONS_OPEN s.sec.sessions.length

/-- The lowest free session number of 16. -/
def Block.freeSession (s : Block) : Option Nat := (List.range 16).find? fun n => (Assoc.find n s.sec.sessions).isNone

/-- A session put in place, or away. -/
def Block.putSession (s : Block) (n : Nat) (v : SpdmSession) : Block :=
  (s.setSec { s.sec with sessions := Assoc.ins n v s.sec.sessions }).countSessions

/-- A session closed. -/
def Block.endSpdm (s : Block) (n : Nat) : Block :=
  (s.setSec { s.sec with sessions := s.sec.sessions.filter fun e => decide (e.1 ≠ n) }).countSessions

/-- Every session closed, and what was deferred forgotten. -/
def Block.dropSessions (s : Block) : Block := (s.setSec { s.sec with sessions := [], deferred := [] }).countSessions

/-- The answer to a request that an activation defers. -/
def Block.answerAsk (s : Block) (path : SpdmPath) : SpdmAsk → Block
  | .certificate => s.spdm path (.certificate 1 (Config.aliasChain s.aliasBase))
  | .challenge slot => s.spdm path (.challengeAuth slot s.allMeasured)
  | .measurements idx =>
    if idx = 0 then s.spdm path (.measurements [(0, leBytes 1 9)])
    else if idx = 0xFF then s.spdm path (.measurements s.allMeasured)
    else if 9 < idx then s.spdm path (.error .invalidRequest)
    else s.spdm path (.measurements [(idx, s.measured idx)])
  | .keyExchange =>
    match s.freeSession with
    | none => s.spdm path (.error .sessionLimitExceeded)
    | some n => (s.putSession n { path := path }).spdm path (.keyExchange n)

/-- A request of the first column of Table 16-5: deferred while an activation runs. -/
def Block.askOrDefer (s : Block) (path : SpdmPath) (a : SpdmAsk) : Block :=
  s.spdmAsk path fun t =>
    if t.isSet F.SEC_STATUS_ACTIVATING then
      (t.setSec { t.sec with deferred := (t.sec.deferred.filter fun x => decide (x.1 ≠ path)) ++ [(path, a)] }).spdm path
        (.error (.notReady 19 2))
    else t.answerAsk path a

/-- GET_VERSION (R476): 1.2 and 1.3. -/
def execGetVersion (path : SpdmPath) (s : State) : Out := s.act fun s => (s.spdmAsk path fun t => t.spdm path (.version [0x12, 0x13]))

/-- GET_CAPABILITIES (R476). -/
def execGetCapabilities (path : SpdmPath) (s : State) : Out := s.act fun s => (s.spdmAsk path fun t => t.spdm path .capabilities)

/-- NEGOTIATE_ALGORITHMS (R476). -/
def execNegotiateAlgorithms (path : SpdmPath) (s : State) : Out := s.act fun s => (s.spdmAsk path fun t => t.spdm path .algorithms)

/-- GET_DIGESTS (R476): of the identity and the alias chain. -/
def execGetDigests (path : SpdmPath) (s : State) : Out :=
  s.act fun s => (s.spdmAsk path fun t =>
    t.spdm path (.digests [Config.sha384 Config.identityChain, Config.sha384 (Config.aliasChain t.aliasBase)]))

/-- GET_CERTIFICATE (R476): slot 0 identity, slot 1 alias. -/
def execGetCertificate (path : SpdmPath) (slot : BitVec 8) (s : State) : Out :=
  s.act fun s => (
    if slot = 0 then s.spdmAsk path fun t => t.spdm path (.certificate 0 Config.identityChain)
    else if slot = 1 then s.askOrDefer path .certificate
    else s.spdmAsk path fun t => t.spdm path (.error .invalidRequest))

/-- CHALLENGE (R477). -/
def execChallenge (path : SpdmPath) (slot : BitVec 8) (s : State) : Out :=
  s.act fun s => (
    if slot.toNat ≤ 1 then s.askOrDefer path (.challenge slot.toNat)
    else s.spdmAsk path fun t => t.spdm path (.error .invalidRequest))

/-- GET_MEASUREMENTS (R474). -/
def execGetMeasurements (path : SpdmPath) (index : BitVec 8) (s : State) : Out :=
  s.act fun s => (s.askOrDefer path (.measurements index.toNat))

/-- KEY_EXCHANGE (R476): up to 16 sessions. -/
def execKeyExchange (path : SpdmPath) (s : State) : Out := s.act fun s => (s.askOrDefer path .keyExchange)

/-- A request in a session of its path. -/
def Block.inSession (s : Block) (path : SpdmPath) (n : Nat) (act : SpdmSession → Block → Block) : Block :=
  s.spdmAsk path fun t =>
    match Assoc.find n t.sec.sessions with
    | some v => if v.path = path then act v t else t.spdm path (.error .invalidRequest)
    | none => t.spdm path (.error .invalidRequest)

/-- FINISH (R476): `ok` says that its verification passes; a session whose FINISH fails is closed. -/
def execFinish (path : SpdmPath) (session : Fin 16) (ok : Bool) (s : State) : Out :=
  s.act fun s => (s.inSession path session.val fun v t =>
    if v.live then t.spdm path (.error .unexpectedRequest)
    else if ok then (t.putSession session.val { v with live := true }).spdm path .finish
    else (t.endSpdm session.val).spdm path (.error .decryptError))

/-- HEARTBEAT (R476). -/
def execHeartbeat (path : SpdmPath) (session : Fin 16) (s : State) : Out :=
  s.act fun s => (s.inSession path session.val fun v t =>
    t.spdm path (if v.live then .heartbeatAck else .error .unexpectedRequest))

/-- KEY_UPDATE (R476): the session's keys are of the next generation. -/
def execKeyUpdate (path : SpdmPath) (session : Fin 16) (s : State) : Out :=
  s.act fun s => (s.inSession path session.val fun v t =>
    if v.live then (t.putSession session.val { v with gen := v.gen + 1 }).spdm path .keyUpdateAck
    else t.spdm path (.error .unexpectedRequest))

/-- END_SESSION (R476). -/
def execEndSession (path : SpdmPath) (session : Fin 16) (s : State) : Out :=
  s.act fun s => (s.inSession path session.val fun v t =>
    if v.live then (t.endSpdm session.val).spdm path .endSessionAck
    else t.spdm path (.error .unexpectedRequest))

/-- RESPOND_IF_READY (R477): a deferred answer with the new values once the activation has ended. -/
def execRespondIfReady (path : SpdmPath) (s : State) : Out :=
  s.act fun s => (s.spdmAsk path fun t =>
    match t.sec.deferred.find? fun x => decide (x.1 = path) with
    | none => t.spdm path (.error .unexpectedRequest)
    | some x =>
      if t.isSet F.SEC_STATUS_ACTIVATING then t.spdm path (.error (.notReady 19 2))
      else (t.setSec { t.sec with deferred := t.sec.deferred.erase x }).answerAsk path x.2)

/-- Whether a path has a session whose establishment is complete. -/
def Block.liveSession (s : Block) (path : SpdmPath) (n : Nat) : Bool :=
  match Assoc.find n s.sec.sessions with
  | some v => v.live && decide (v.path = path)
  | none => false

/-- VENDOR_DEFINED_REQUEST of Tabragar that installs the fabric key, in a secured session (R480). -/
def execVendorDefinedRequest (path : SpdmPath) (session : Option (Fin 16)) (key : BitVec 256) (s : State) : Out :=
  s.act fun s => (s.spdmAsk path fun t =>
    match session with
    | some n =>
      if t.liveSession path n.val then
        ((t.setSec { t.sec with fabricKey := some key }).setFld F.SEC_STATUS_FABRIC_KEY 1).spdm path .vendorDefined
      else t.spdm path (.error .sessionRequired)
    | none => t.spdm path (.error .sessionRequired))

/-- Any other SPDM request (R476). -/
def execUnsupportedSpdmRequest (path : SpdmPath) (s : State) : Out :=
  s.act fun s => (s.spdmAsk path fun t => t.spdm path (.error .unsupportedRequest))

/-- The configuration report of a logical device of a partition (R478). -/
def Block.tspReport (s : Block) (p : Nat) : TspReport where
  ptn := p
  clusters := (List.range 36).filter fun c => decide (s.clusterOwner c = some p)
  ways := ((List.range 36).map fun sl => ((List.range 16).filter fun w => decide (s.wayOwner sl w = some p)).map fun w => (sl, w)).flatten
  blocks := s.blocksOfPtn p
  groups := s.entriesIn (R.PTN_SRC_GROUP 0) (R.PTN_SRC_GROUP 256) 4 0 F.PTN_SRC_GROUP_EN F.PTN_SRC_GROUP_PARTITION p
  functions := s.ldsOf p
  streams := s.streamsOf p
  rings := s.ringsOfPtn p
  contexts := s.contextsOf p
  faultQueue := s.isSet (F.XLT_FQ_CFG_ENABLE p)
  objects := s.syncBlocksOf p
  twins := s.twinsOf p
  extents := s.caveExtentsOf p
  gates := s.gatesOf p
  reader := decide (getBits (s.fld F.PTN_CMN_READERS_READERS) p p = 1)
  commons := decide (p = 0) && s.isSet F.PTN_COMMONS_EN

/-- A TSP lock of a logical device (R479): with its configuration report (R478) where it is granted. -/
def execTspLock (fn : Fin 256) (session : Fin 16) (s : State) : Out :=
  s.act fun s => (s.spdmAsk (.doe fn) fun t =>
    let ptn := (t.grantedTo fn.val).filter fun p => decide (t.ptnState p = ptnActive)
    if t.liveSession (.doe fn) session.val && t.isSet (F.HPT_PORT_STATUS_IDE (fn.val / 16)) && ptn.isSome
        && decide (t.fld (F.SEC_TSP_STATE_STATE fn.val) = tspUnlocked) then
      (t.setFld (F.SEC_TSP_STATE_STATE fn.val) tspLocked).emit (.tsp fn.val (ptn.map t.tspReport))
    else t.emit (.tsp fn.val none))

end Sys2Proof.Machine
end

