-- ==== Sys2Proof/Machine/Rose.lean ====
section
/-! DEFINITION.  The rose ring (R281–R286): requests at their home stop, NACKs and heirs, snoops, writebacks, the
re-homing of slots. -/

namespace Sys2Proof.Machine

/-- A line's copies. -/
def Block.roseLine (s : Block) (line : Nat) : RoseLine := Assoc.get {} line s.host.rose.lines

/-- A line's copies replaced. -/
def Block.setRoseLine (s : Block) (line : Nat) (v : RoseLine) : Block :=
  s.setRose { s.host.rose with lines := Assoc.put {} line v s.host.rose.lines }

/-- The die that serves a line now. -/
def Block.lineDie (s : Block) (line : Nat) : Nat :=
  s.homeSlice line / 9

/-- The re-homing that a line's slot is in. -/
def Block.rehomingAt (s : Block) (line : Nat) : Option Rehome :=
  s.host.rose.rehoming.find? fun h => decide (h.die = s.lineDie line) && decide (h.slot = slotOf (s.homeLine line))

/-- The open transaction of a line. -/
def Block.roseTxn (s : Block) (line : Nat) : Option RoseTxn := s.host.rose.txns.find? fun t => decide (t.req.line = line)

/-- Whether an operation takes the line from the stops that hold it; `sync` is done at the home itself (DESIGN CHOICE, log 202). -/
def takes : RoseOp → Bool
  | .shared | .current => false
  | .own | .upgrade | .write | .sync => true

/-- A request NACKed (R285, R286): it will retry, and at its HEIR_NACKS-th NACK it is the line's heir if the line has
none. -/
def Block.nack (s : Block) (r : RoseReq) : Block :=
  let n := r.nacks + 1
  let s1 := ((s.setRose { s.host.rose with waiting := s.host.rose.waiting ++ [{ r with nacks := n }] }).bump
    F.HPT_RING_NACK_COUNT_COUNT).event 7 1 (s.lineAttr r.line)
  let l := s1.roseLine r.line
  if l.heir.isNone ∧ n = s.fld F.HPT_RING_CFG_HEIR_NACKS then s1.setRoseLine r.line { l with heir := some r.stop } else s1

/-- Whether the home must NACK a request: its line is open, with a transaction or a writeback not acknowledged yet, no tracker
is free, or another stop is heir (R285, R286). -/
def Block.mustNack (s : Block) (r : RoseReq) : Bool :=
  let home := s.homeStop r.line
  (s.roseTxn r.line).isSome || (s.host.rose.arrived.any fun w => decide (w.1 = r.line))
    || decide (128 ≤ (s.host.rose.txns.filter fun t => decide (t.home = home)).length)
    || (takes r.op && match (s.roseLine r.line).heir with
      | some h => decide (h ≠ r.stop)
      | none => false)

/-- The stops that a broadcast snoop from a home reaches (R281). -/
def snooped (home : Nat) : List Nat := (List.range 40).filter (· ≠ home)

/-- A request at its home stop: held while its slot re-homes or its stack moves, NACKed, or served by a broadcast snoop
(R283–R286). -/
def Block.roseArrive (s0 : Block) (r : RoseReq) : Block :=
  let s := s0.event 7 0 (s0.lineAttr r.line)
  if (s.rehomingAt r.line).isSome || s.lineMoves r.line then s.setRose { s.host.rose with held := s.host.rose.held ++ [r] }
  else if s.mustNack r then s.nack r
  else
    let home := s.homeStop r.line
    (s.setRose { s.host.rose with
      txns := s.host.rose.txns ++ [{ req := r, home := home, due := snooped home }] }).event 7 2 (s.lineAttr r.line)
      (snooped home).length

/-- A writeback in its buffer at the home: it serves as the data of the line's open transaction that awaits it (R285). -/
def Block.writebackArrives (s : Block) (line stop : Nat) : Block :=
  let r := s.host.rose
  if !r.writebacks.contains (line, stop) ∨ r.arrived.contains (line, stop) then s
  else s.setRose { r with
    arrived := r.arrived ++ [(line, stop)]
    txns := r.txns.map fun t =>
      if t.req.line = line then { t with data := t.data || t.pendingWb, pendingWb := false } else t }

/-- A list in the order of a key, elements of one key as they stood. -/
def sortBy {α : Type} (key : α → Nat) : List α → List α
  | [] => []
  | x :: xs =>
    let rest := sortBy key xs
    (rest.takeWhile fun y => decide (key y < key x)) ++ x :: rest.dropWhile fun y => decide (key y < key x)

/-- The place of a request among those of its beat: a line's heir before the rest, then by stop (R285). -/
def Block.beatPlace (s : Block) (r : RoseReq) : Nat :=
  (if (s.roseLine r.line).heir = some r.stop then 0 else 40) + r.stop

/-- A REQ message reaches its home stop, with the other messages that reach it in the same beat, a message without an operation
being a writeback (R284, R285). -/
def execRoseRequest (dpa : BitVec 52) (stop : Fin 40) (op : RoseOp) (s : State)
    (beat : List (BitVec 52 × Fin 40 × Option RoseOp) := []) : Out :=
  s.act fun s => (
    let home := s.homeStop (lineOf dpa.toNat)
    let here := ((dpa, stop, some op) :: beat).filter fun m => decide (s.homeStop (lineOf m.1.toNat) = home)
    let wbs := here.filter fun m => m.2.2.isNone
    let reqs := here.filterMap fun m => m.2.2.map fun o => ({ line := lineOf m.1.toNat, stop := m.2.1.val, op := o } : RoseReq)
    let s1 := forEach wbs (fun m t => t.writebackArrives (lineOf m.1.toNat) m.2.1.val) s
    forEach (sortBy s1.beatPlace reqs) (fun r t => t.roseArrive r) s1)

/-- A NACKed request retries (R286). -/
def execRoseRetry (dpa : BitVec 52) (stop : Fin 40) (s : State) : Out :=
  s.act fun s => (
    match s.host.rose.waiting.find? fun r => decide (r.line = lineOf dpa.toNat) && decide (r.stop = stop.val) with
    | none => s
    | some r => (s.setRose { s.host.rose with waiting := s.host.rose.waiting.erase r }).roseArrive r)

/-- A transaction replaced. -/
def Block.mapTxn (s : Block) (line : Nat) (f : RoseTxn → RoseTxn) : Block :=
  s.setRose { s.host.rose with txns := s.host.rose.txns.map fun t => if t.req.line = line then f t else t }

/-- A stop answers a snoop (R284, R285): the owner brings the data, or says that its writeback is on its way; copies that
a request ends are gone; a current read leaves every copy as it is (DESIGN CHOICE, log 202). -/
def execRoseSnoop (dpa : BitVec 52) (stop : Fin 40) (s : State) : Out :=
  s.act fun s => (
    let line := lineOf dpa.toNat
    let k := stop.val
    match s.roseTxn line with
    | none => s
    | some t =>
      if !t.due.contains k then s
      else
        let l := s.roseLine line
        let sent := s.host.rose.writebacks.contains (line, k) && !s.host.rose.arrived.contains (line, k)
        let mine := decide (l.owner = some k)
        let s1 := s.mapTxn line fun t => { t with
          due := t.due.filter (· ≠ k)
          data := t.data || mine
          pendingWb := t.pendingWb || sent }
        if t.req.op = .current then s1
        else
          let keep := if mine && !takes t.req.op then l.sharers ++ [k] else l.sharers
          s1.setRoseLine line { l with
            owner := if mine then none else l.owner
            sharers := if takes t.req.op then keep.filter (· ≠ k) else keep })

/-! ## Re-homing (R282, R283) -/

/-- Whether a line lies in a slot of a die. -/
def Block.inSlot (s : Block) (die slot line : Nat) : Bool := decide (s.lineDie line = die) && decide (slotOf (s.homeLine line) = slot)

/-- Whether a slot's old home has finished: no transaction open, no writeback on its way. -/
def Block.slotQuiet (s : Block) (die slot : Nat) : Bool :=
  s.host.rose.txns.all (fun t => !s.inSlot die slot t.req.line)
    && s.host.rose.writebacks.all fun w => !s.inSlot die slot w.1

/-- Steps 3 to 5 of R283: the old slice writes back and invalidates, the map is updated, held requests are released. -/
def Block.moveSlot (s : Block) (h : Rehome) : Block :=
  let mine (l : Nat) : Bool := s.inSlot h.die h.slot l
  let s1 := s.flushCache (fun c => mine c.dpa) false
  let f := F.HPT_HOME_MAP_SLOTS h.die (h.slot / 8)
  let lo := 4 * (h.slot % 8)
  let s2 := s1.setFld f (setBits (s1.fld f) (lo + 3) lo h.cluster)
  let r := s2.host.rose
  s2.setRose { r with
    rehoming := r.rehoming.filter (fun x => !(decide (x.die = h.die) && decide (x.slot = h.slot)))
    waiting := r.waiting ++ r.held.filter fun q => mine q.line
    held := r.held.filter fun q => !mine q.line }

/-- The slots whose transactions have completed move (R283). -/
def Block.settleSlots (s : Block) : Block :=
  forEach (s.host.rose.rehoming.filter fun h => s.slotQuiet h.die h.slot) (fun h t => t.moveSlot h) s

/-- A slot re-homes: its new requests are held until its open transactions complete, then it moves (R283). -/
def Block.rehome (s : Block) (h : Rehome) : Block :=
  if s.slotQuiet h.die h.slot then s.moveSlot h
  else
    let others := s.host.rose.rehoming.filter fun x => !(decide (x.die = h.die) && decide (x.slot = h.slot))
    s.setRose { s.host.rose with rehoming := others ++ [h] }

/-! ## The end of a transaction -/

/-- Every response is in: the home sends the grant and the line is free (R284, R286). -/
def execRoseSnoopDone (dpa : BitVec 52) (s : State) : Out :=
  s.act fun s => (
    let line := lineOf dpa.toNat
    match s.roseTxn line with
    | none => s
    | some t =>
      if t.due ≠ [] ∨ t.pendingWb then s
      else
        let l := s.roseLine line
        let heir := if l.heir = some t.req.stop then none else l.heir
        ((s.setRose { s.host.rose with txns := s.host.rose.txns.erase t }).setRoseLine line
          (match t.req.op with
           | .own | .upgrade => { sharers := [], owner := some t.req.stop, heir := heir }
           | .write | .sync => { sharers := [], owner := none, heir := heir }
           | .current => { l with heir := heir }
           | .shared => { l with
             sharers := if l.sharers.contains t.req.stop then l.sharers else l.sharers ++ [t.req.stop]
             heir := heir })).settleSlots)

/-- A stop that holds a line modified sends its writeback, one at a time to any home; or a writeback reaches its home buffer and
its line is open; or the home acknowledges it and the line is free (R285). -/
def execRoseWriteback (dpa : BitVec 52) (stop : Fin 40) (at_ : RoseStep) (s : State) : Out :=
  s.act fun s => (
    let line := lineOf dpa.toNat
    let k := stop.val
    let r := s.host.rose
    match at_ with
    | .arrives => s.writebackArrives line k
    | .acknowledged =>
      if r.arrived.contains (line, k) then
        (s.setRose { r with writebacks := r.writebacks.erase (line, k), arrived := r.arrived.erase (line, k) }).settleSlots
      else s
    | .sent =>
      let l := s.roseLine line
      if l.owner = some k ∧ !(r.writebacks.any fun w => decide (w.2 = k) && decide (s.homeStop w.1 = s.homeStop line)) then
        (s.setRose { r with writebacks := r.writebacks ++ [(line, k)] }).setRoseLine line { l with owner := none }
      else s)

/-! ## Clusters that leave and return (R282) -/

/-- The slots of a die that a cluster homes. -/
def Block.slotsOf (s : Block) (cluster : Nat) : List Nat :=
  (List.range 64).filter fun k => decide (s.homeCluster (cluster / 9) k = cluster % 9)

/-- Slots of a die handed to clusters of it, in the order of both, round robin (R282); to none, where none is left. -/
def Block.handSlots (s : Block) (die : Nat) (slots clusters : List Nat) : Block :=
  if clusters = [] then s
  else forEach (slots.zip (List.range slots.length)) (fun x t =>
    t.rehome { die := die, slot := x.1, cluster := clusters.getD (x.2 % clusters.length) 0 % 9 }) s

/-- A cluster leaving service hands its slots to the clusters of its die still in service (R282). -/
def Block.handOver (s : Block) (cluster : Nat) : Block :=
  let d := cluster / 9
  s.handSlots d (s.slotsOf cluster) (((List.range 9).map (9 * d + ·)).filter fun c => decide (c ≠ cluster) && s.clusterUp c)

/-- The home map of a die made to name clusters in service alone: a spare cluster that serves its own die takes the slots of
the first cluster that does not serve, and the others' go round (R282). -/
def Block.settleHomes (s : Block) (die : Nat) : Block :=
  let sp := die * 9 + s.fld (F.RAS_DIE_STATE_SPARE_CLUSTER die)
  let lent := s.ras.lent.any fun x => decide (x.2 = sp)
  forEach ((List.range 9).map (9 * die + ·)) (fun c t =>
    if t.clusterUp c || decide (t.slotsOf c = []) then t
    else if t.clusterUp sp && !lent && decide (t.slotsOf sp = []) then t.handSlots die (t.slotsOf c) [sp]
    else t.handOver c) s

/-- A slot re-homes to a cluster of its die that is in service (R29, R30, R283): to the cluster that holds it when all are in
service, or to any while its home is not (log 197). -/
def execSlotRehome (die : Fin 4) (slot : Fin 64) (cluster : Fin 9) (s : State) : Out :=
  s.act fun s => (
    let home := s.homeCluster die.val slot.val
    if s.clusterUp (9 * die.val + cluster.val)
        && (decide (cluster.val = slot.val % 8) || !s.clusterUp (9 * die.val + home)) then
      s.rehome { die := die.val, slot := slot.val, cluster := cluster.val }
    else s)

end Sys2Proof.Machine
end

