-- ==== Sys2Proof/Machine/Service.lean ====
section
/-! DEFINITION.  Service (R488–R501): work replayed when a core, a cluster or a die is lost, the quiesce and the return of a
die, helm cores, recoveries, SRAM errors, health. -/

namespace Sys2Proof.Machine

/-! ## Work replayed (Table 4-9) -/

/-- A program that starts again from the logbook: a re-run image from ENTRY, an INPLACE one from the checkpoint stored with
its last unit, its window holding free values (R377). -/
def Block.replayProg (s : Block) (e : LogEntry) (p : Prog) : Prog × Block :=
  match e.saved with
  | some c =>
    if p.inplace ∧ 0 < e.unitsDone then
      let (w, t) := s.freshBytes p.window.length
      ({ p with core := c, saved := c, window := w, vregs := [], wpoison := [], unit := none }, t)
    else (p.atEntry, s)
  | none => (p.atEntry, s)

/-- A task re-dispatched from the logbook: it has left its core and cluster and starts again, in a new run (R121, R124). -/
def Block.redispatch (s : Block) (t : Task) : Block :=
  match s.entry t.ring t.seq with
  | none => s
  | some e =>
    let (prog, s1) := match t.prog with
      | none => (none, s)
      | some p => let (q, u) := s.replayProg e p; (some q, u)
    let fresh_ : Task := { ring := t.ring, seq := t.seq, idx := t.idx, stream := t.stream, prog := prog }
    let s2 := (s1.leaveRecord (t.ring, t.seq, t.idx)).release [t] fun u x => u.mapTask x.ring x.seq x.idx fun _ => fresh_
    (s2.mapEntry t.ring t.seq fun x => { x with replayed := true, startedAt := x.startedAt.map fun _ => s.now }).when (!e.replayed) fun u =>
      u.event 1 3 (e.attr (u.ringPtn t.ring))

/-- The tasks in clusters that satisfy a condition, still running or waiting. -/
def Block.tasksIn (s : Block) (here : Nat → Bool) : List Task :=
  s.eng.tasks.filter fun t => decide (t.state ≠ .ended) && match t.cluster with
    | some c => here c
    | none => false

/-- A restore of the logbook shown in RNG_REPLAY: its kind, the entries resumed, how long it took (R132). -/
def Block.restored (s : Block) (kind n : Nat) : Block :=
  let (v, t) := s.fresh
  (((t.setFld F.RNG_REPLAY_KIND kind).setFld F.RNG_REPLAY_ENTRIES n).setFld F.RNG_REPLAY_MS_MS v.toNat)

/-- The work of clusters that are lost replayed elsewhere: their tasks, the bursts and faults of those tasks, and the
BROADCASTs of their descriptors start again (Table 4-9, R258, R340). -/
def Block.replayClusters (s : Block) (here : Nat → Bool) : Block :=
  let ts := s.tasksIn here
  let mine (ring seq : Nat) : Bool := ts.any fun t => t.of ring seq
  let s1 := forEach ts (fun t u => u.redispatch t) s
  { s1 with
    eng := { s1.eng with
      bursts := s1.eng.bursts.filter fun b => !mine b.ring b.seq
      verified := s1.eng.verified.filter fun v => !here v.cluster }
    net := { s1.net with router := { s1.net.router with
      bcasts := s1.net.router.bcasts.filter fun b => !mine b.ring b.seq } } }

/-- The control entries that have begun and that a die's helm cores run: those of the rings whose ring engine is on the die
(DESIGN CHOICE, log 141). -/
def Block.controlOn (s : Block) (d : Nat) : List LogEntry :=
  s.ctl.logbook.filter fun e => e.begun && e.fin.isNone && !e.settled && !e.held
    && (isOpc opcXltInval e.bytes || isOpc opcPtnAdmin e.bytes) && decide (s.homeStop (s.cplBase e.ring) / 10 = d)

/-- The control entries of a die's helm core re-dispatched (Table 4-9): what they have done stands in the block's registers, so
they go on from there, and complete OK_REPLAYED. -/
def Block.replayControl (s : Block) (d : Nat) : Block :=
  forEach (s.controlOn d) (fun e t =>
    (t.mapEntry e.ring e.seq fun x => { x with replayed := true, startedAt := x.startedAt.map fun _ => s.now }).when (!e.replayed)
      fun u => u.event 1 3 (e.attr (u.ringPtn e.ring))) s

/-- The work of a die that is lost replayed by the others: its clusters' and its helm cores', with RNG_REPLAY showing KIND Die
and the entries resumed (Table 4-9, R144). -/
def Block.replayDie (s : Block) (d : Nat) : Block :=
  let here (c : Nat) : Bool := decide (c / 9 = d)
  let es := ((s.tasksIn here).map fun t => (t.ring, t.seq)).eraseDups
  ((s.replayClusters here).replayControl d).restored 0x02 (es.length + (s.controlOn d).length)

/-- A core's STATE in ENG_CORE_STATE. -/
def csIn : Nat := 0
def csSpare : Nat := 1
def csOut : Nat := 2
def csRetired : Nat := 3

/-- A core's STATE set. -/
def Block.setCore (s : Block) (k st : Nat) : Block := s.setFld (F.ENG_CORE_STATE_STATE k) st

/-- Every core of a cluster in one STATE put in another. -/
def Block.moveCores (s : Block) (cluster old new : Nat) : Block :=
  forEach (coresOf cluster) (fun k t => if t.fld (F.ENG_CORE_STATE_STATE k) = old then t.setCore k new else t) s

/-- The spare core of a cluster (R26). -/
def Block.spareCore (s : Block) (cluster : Nat) : Nat :=
  let d := cluster / 9
  let c := cluster % 9
  cluster * 9 + (if c = 8 then s.fld (F.RAS_SPARE_CORE_HI_SPARE8 d)
    else getBits (s.reg (R.RAS_SPARE_CORE_LO d)).toNat (4 * c + 3) (4 * c))

/-- The spare cluster of a die (R26). -/
def Block.spareCluster (s : Block) (d : Nat) : Nat := d * 9 + s.fld (F.RAS_DIE_STATE_SPARE_CLUSTER d)

/-- GID_CAPS0 brought up to the dies and clusters in service (R35). -/
def Block.countCaps (s : Block) : Block :=
  let up := (List.range 4).filter fun d => !s.dieOut d
  let clusters := (up.map fun d => s.fld (F.RAS_DIE_STATE_CLUSTERS d)).foldl (· + ·) 0 + s.ras.lent.length
  let helm := (up.map fun d => s.fld (F.RAS_DIE_STATE_HELM_ACTIVE d)).foldl (· + ·) 0
  ((s.setFld F.GID_CAPS0_CLUSTERS clusters).setFld F.GID_CAPS0_ENGINES (32 * clusters)).setFld F.GID_CAPS0_HELM_ACTIVE helm

/-- A cluster's ownership moved to another's name (R26). -/
def Block.moveOwner (s : Block) (a b : Nat) : Block :=
  let byte := getBits (s.reg (R.PTN_CLUSTER_OWN (a / 4))).toNat (8 * (a % 4) + 7) (8 * (a % 4))
  let put (t : Block) (k v : Nat) : Block :=
    let r := R.PTN_CLUSTER_OWN (k / 4)
    t.setReg r (BitVec.ofNat 32 (setBits (t.reg r).toNat (8 * (k % 4) + 7) (8 * (k % 4)) v))
  put (put s b byte) a 0

/-! ## Cores and clusters (R316) -/

/-- Whether the die's spare cluster can take another's place: it is not in use, and at most one of its nine cores has failed. -/
def Block.spareReady (s : Block) (d : Nat) : Bool :=
  !s.isSet (F.RAS_DIE_STATE_SPARE_USED d)
  && decide (8 ≤ (coresOf (s.spareCluster d)).countP fun k => decide (s.fld (F.ENG_CORE_STATE_STATE k) = csSpare))

/-- The spare core of a cluster shown as in use. -/
def Block.useSpareCore (s : Block) (cluster : Nat) : Block :=
  let f := F.RAS_SPARE_CORE_HI_USED (cluster / 9)
  s.setFld f (setBits (s.fld f) (cluster % 9) (cluster % 9) 1)

/-- The spare cluster of a die put in service under another cluster's ownership: eight of its cores, the spare one among them only
where another has failed (R26, R316). -/
def Block.enterSpare (s : Block) (cluster d : Nat) : Block :=
  let sp := s.spareCluster d
  let whole := (coresOf sp).all fun k => decide (s.fld (F.ENG_CORE_STATE_STATE k) = csSpare)
  let s1 := ((s.moveOwner cluster sp).setFld (F.RAS_DIE_STATE_SPARE_USED d) 1).moveCores sp csSpare csIn
  if whole then s1.setCore (s1.spareCore sp) csSpare else s1.useSpareCore sp

/-- A cluster leaves service: it moves onto its die's spare cluster where that is unused, which takes its slots over, else its
partition loses it and the other clusters take its slots (R282). -/
def Block.failCluster (s : Block) (cluster : Nat) : Block :=
  let d := cluster / 9
  let sp := s.spareCluster d
  let s1 := (s.moveCores cluster csIn csRetired).replayClusters fun c => decide (c = cluster)
  if s.spareReady d ∧ sp ≠ cluster then
    let s3 := s1.enterSpare cluster d
    s3.handSlots d (s3.slotsOf cluster) [sp]
  else
    let r := R.PTN_CLUSTER_OWN (cluster / 4)
    let s2 := s1.setReg r (BitVec.ofNat 32
      (setBits (s1.reg r).toNat (8 * (cluster % 4) + 7) (8 * (cluster % 4)) 0))
    let s3 := ((s2.drop (F.RAS_DIE_STATE_CLUSTERS d)).countCaps).handOver cluster
    s3.setRas { s3.ras with reasons := if s3.ras.reasons.contains 9 then s3.ras.reasons else 9 :: s3.ras.reasons }

/-- A core retired: its tasks are re-dispatched, and the cluster's spare core takes its place, or its cluster moves. -/
def Block.failCore (s : Block) (k : Nat) : Block :=
  let cluster := k / 9
  let s1 := (s.fault rcCore k).setCore k csRetired
  if s.fld (F.ENG_CORE_STATE_STATE (s.spareCore cluster)) ≠ csSpare then s1.failCluster cluster
  else
    let s2 := forEach (s1.tasksOn k) (fun t u => u.redispatch t) s1
    (s2.setCore (s2.spareCore cluster) csIn).useSpareCore cluster

/-- A core fails: one in service, or a spare, which is then RETIRED and can take no other's place (R316). -/
def execCoreFail (core : Fin 324) (s : State) : Out :=
  s.act fun s => (
    let st := s.fld (F.ENG_CORE_STATE_STATE core.val)
    if st = csIn then s.failCore core.val
    else if st = csSpare then (s.fault rcCore core.val).setCore core.val csRetired
    else s)

/-! ## SRAM errors (R190) -/

/-- The corrected errors of the last hour in one place, this one the newest, of a list of errors with their times. -/
def Block.hourOf {α : Type} [DecidableEq α] (s : Block) (x : α) (log : List (α × Nat)) : List (α × Nat) :=
  log.filter (fun e => decide (s.now < e.2 + 3600000000)) ++ [(x, s.now)]

/-- A corrected error of a cache way: the way is retired when its words take 16 within 1 h (R190). -/
def Block.wayError (s : Block) (w : Nat × Nat × Nat) : Block :=
  let log := s.hourOf w s.pool.wayErrors
  if 16 ≤ (log.filter fun e => decide (e.1 = w)).length then
    ({ s with pool := { s.pool with wayErrors := log.filter fun e => decide (e.1 ≠ w) } } : Block).retireWay w.1 w.2.1 w.2.2
  else { s with pool := { s.pool with wayErrors := log } }

/-- A corrected error of a buffer slot: the slot is retired when it takes 16 within 1 h (R430). -/
def Block.slotError (s : Block) (n : Nat) : Block :=
  let r := s.net.router
  let log := s.hourOf n r.slotErrors
  if r.retiredSlots.contains n then s
  else if 16 ≤ (log.filter fun e => decide (e.1 = n)).length then
    s.setRouter { r with slotErrors := log.filter (fun e => decide (e.1 ≠ n)), retiredSlots := n :: r.retiredSlots }
  else s.setRouter { r with slotErrors := log }

/-- A single-bit error corrected (R190). -/
def execSramSingleError (s : State) (place : SramWord := .other) : Out :=
  s.act fun s => (
    let t := s.bump F.INT_SRAM_CE_COUNT_COUNT
    match place with
    | .way sl g w => t.wayError (sl.val, g.toNat, w.val)
    | .slot n => t.slotError n.toNat
    | .other => t)

/-- A helm core of a die lost: its control entries are re-dispatched, and the standby takes its role, or the die runs on what is
left (R125, R493). -/
def Block.loseHelm (s : Block) (d : Nat) : Block :=
  let s1 := (s.fault rcHelm d).replayControl d
  if s1.isSet (F.RAS_DIE_STATE_HELM_STANDBY d) then s1.setFld (F.RAS_DIE_STATE_HELM_STANDBY d) 0
  else (s1.drop (F.RAS_DIE_STATE_HELM_ACTIVE d)).countCaps

/-- An active helm core is lost (R493); the loss of the last one leaves the die to the helm watchdog. -/
def execHelmCoreLoss (die : Fin 4) (s : State) : Out :=
  s.act fun s => (if s.fld (F.RAS_DIE_STATE_HELM_ACTIVE die.val) = 0 then s else s.loseHelm die.val)

/-- A double-bit error handled as its array's row of Table 6-6 says. -/
def Block.sramDouble (s : Block) : SramArray → Block
  | .cacheData dpa =>
    match s.pool.cache.find? fun c => decide (c.dpa = lineOf dpa.toNat) with
    | none => s
    | some c =>
      let s1 : Block := { s with pool := { s.pool with cache := s.pool.cache.filter fun x => decide (x.dpa ≠ c.dpa) } }
      if c.dirty then (s1.writeDram none c.dpa .poison).raise kindUncorrectable .demand none c.dpa else s1
  | .cacheTag => s
  | .engine core => forEach (s.tasksOn core.val) (fun t u => u.redispatch t) s
  | .streamOrWatch => s
  | .translations => { s with xlt := { s.xlt with pages := [], dirs := [] } }
  | .helm die => s.loseHelm die.val

/-- A double-bit error (Table 6-6). -/
def execSramDoubleError (array : SramArray) (s : State) : Out :=
  s.act fun s => ((s.bump F.INT_SRAM_UE_COUNT_COUNT).sramDouble array)

/-! ## Dies out of service (R488–R492, R500) -/

/-- The states of a die (RAS_DIE_STATE). -/
def dsIn : Nat := 0
def dsQuiescing : Nat := 1
def dsQuiesced : Nat := 2
def dsLost : Nat := 3
def dsReturning : Nat := 4

/-- A die's STATE set; one that leaves service is timed from then (R501). -/
def Block.setDie (s : Block) (d st : Nat) : Block :=
  let was := s.dieOut d
  let s1 := s.setFld (F.RAS_DIE_STATE_STATE d) st
  if st = dsIn then
    s1.setRas { s1.ras with
      outSince := s1.ras.outSince.filter fun e => decide (e.1 ≠ d)
      outHour := s1.ras.outHour.filter (· ≠ d)
      lost := s1.ras.lost.filter (· ≠ d) }
  else if was then s1
  else s1.setRas { s1.ras with outSince := Assoc.ins d s1.now s1.ras.outSince }

/-- Whether a stop of the rose ring is on a die. -/
def stopOn (d k : Nat) : Bool := decide (k / 10 = d)

/-- What the rose ring held at a die's stops gone: shared copies are dropped from the homes' tracking, a modified copy is
replayed, requests of other stops wait to be issued again (Table 17-2). -/
def Block.loseStops (s : Block) (d : Nat) : Block :=
  let r := s.host.rose
  let again := (r.txns.filter fun t => stopOn d t.home && !stopOn d t.req.stop).map (·.req)
  s.setRose { r with
    txns := (r.txns.filter fun t => !stopOn d t.home && !stopOn d t.req.stop).map fun t => { t with
      due := t.due.filter fun k => !stopOn d k
      pendingWb := t.pendingWb && r.writebacks.any fun w => decide (w.1 = t.req.line) && !stopOn d w.2 }
    waiting := (r.waiting.filter fun q => !stopOn d q.stop) ++ again
    held := r.held.filter fun q => !stopOn d q.stop
    writebacks := r.writebacks.filter fun w => !stopOn d w.2
    arrived := r.arrived.filter fun w => !stopOn d w.2 && !stopOn d (s.homeStop w.1)
    lines := (r.lines.map fun e => (e.1, { e.2 with
      sharers := e.2.sharers.filter fun k => !stopOn d k
      owner := e.2.owner.bind fun k => if stopOn d k then none else some k
      heir := e.2.heir.bind fun k => if stopOn d k then none else some k })).filter fun e => decide (e.2 ≠ {}) }

/-- The logical stacks that a die serves. -/
def Block.stacksOn (s : Block) (d : Nat) : List Nat :=
  (List.range 16).filter fun l =>
    match s.servingStack l with
    | some stk => decide (s.servingDie stk = d)
    | none => false

/-- The host tracking at a die's stops lost (R280): of its stacks' lines, and of the cave blocks in their frames. -/
def Block.loseTracking (s : Block) (d : Nat) : Block :=
  let stacks_ := s.stacksOn d
  let ls := stacks_ ++ s.pool.frames.filterMap fun e =>
    if stacks_.contains (lstackOf (e.1 * 2 ^ 21)) then e.2.block.map (16 + ·) else none
  let here (line : Nat) : Bool := ls.contains (assumedKey line)
  { s with host := { s.host with
    tracked := s.host.tracked.filter fun e => !here e.1
    precise := s.host.precise.filter fun l => !here l
    assumed := s.host.assumed ++ ls.filter fun l => !s.host.assumed.contains l } }

/-- A die's links in OFF, their sessions and what they held gone (R408). -/
def Block.dropLinks (s : Block) (d : Nat) : Block :=
  forEach ((List.range 24).map (24 * d + ·)) (fun l t =>
    let lost := (t.link l).refLost
    (t.linkOff l).setLink l { refLost := lost }) s

/-- A new incarnation for every link of a list, non-zero (R406). -/
def Block.incarnate (s : Block) (links : List Nat) : Block :=
  forEach links (fun l t =>
    let (v, u) := t.fresh
    u.setFld (F.PFL_OWN_INC_INC l) (1 + v.toNat % (2 ^ 32 - 1))) s

/-- What a Die reset does to its die's links: OFF, their registers at reset, new incarnations (R74, R408). -/
def Block.resetDieUnits (s : Block) (d : Nat) : Block :=
  let s1 := (s.dropLinks d).dropDieCells d
  let mine (l : Nat) : Bool := decide (l / 24 = d)
  let inUnit (a lo stride : Nat) : Bool := decide (lo ≤ a) && mine ((a - lo) / stride)
  let s2 : Block := { s1 with regs := s1.regs.reset .die fun a =>
    if a < 0x400000 then inUnit a (R.PFL_CTRL 0) 0x1000 else inUnit a (R.PFR_PORT_CFG 0) 0x40 }
  let s3 := (s2.setRouter { s2.net.router with charts := s2.net.router.charts.filter fun e => !mine e.1 }).dropCrossings
    fun k => (decide (2000 ≤ k ∧ k < 3000) && mine (k - 2000))
      || (decide (3000 ≤ k ∧ k < 4000) && (s2.portsOf d).contains (k - 3000))
      || (decide (4000 ≤ k ∧ k < 5000) && decide ((k - 4000) / 8 = d))
  s3.incarnate ((List.range 24).map (24 * d + ·))

/-- A die's ports down, and the state of their logical devices gone (R74, R279). -/
def Block.dropPorts (s : Block) (d : Nat) : Block :=
  forEach (s.portsOf d) (fun p t => (if t.portUp p then t.losePort p else t).clearPort p)
    (s.setBoot { s.boot with portResets := s.boot.portResets.filter fun x => !(s.portsOf d).contains x.1 })

/-- The cluster resets of a die absorbed by a wider event: the clusters have their slots back (R73, R282). -/
def Block.absorbClusters (s : Block) (d : Nat) : Block :=
  let here (x : ClusterReset) : Bool := decide (x.cluster / 9 = d)
  forEach (s.boot.clusterResets.filter here) (fun x t => t.handSlots d x.slots [x.cluster])
    (s.setBoot { s.boot with clusterResets := s.boot.clusterResets.filter fun x => !here x })

/-- A die's clusters out of service, their work replayed. -/
def Block.dropClusters (s0 : Block) (d : Nat) : Block :=
  let s := s0.absorbClusters d
  (forEach ((List.range 9).map (9 * d + ·)) (fun c t => t.moveCores c csIn csOut) s).replayDie d

/-- The fault records kept at a die's stops cleared, with what of them waits for queue space; their tasks replay and fault
afresh, and the die's cached translations are gone (R258, R261). -/
def Block.dropFaults (s : Block) (d : Nat) : Block :=
  let gone := s.xlt.faults.filter fun f => decide (f.die = d)
  let tasks := (gone.map (·.tasks)).flatten ++ (s.xlt.waiting.filter fun f => decide (f.die = d)).map (·.task)
  let s1 : Block := { s with xlt := { s.xlt with
    pages := s.xlt.pages.filter fun p => decide (p.cluster / 9 ≠ d)
    dirs := s.xlt.dirs.filter fun p => decide (p.cluster / 9 ≠ d)
    faults := s.xlt.faults.filter fun f => decide (f.die ≠ d)
    waiting := s.xlt.waiting.filter fun f => decide (f.die ≠ d)
    queues := s.xlt.queues.map fun e =>
      (e.1, { e.2 with waiting := e.2.waiting.filter fun q => q.cell || !gone.any fun f => decide (f.id = q.id) }) } }
  forEach tasks (fun r t =>
    match t.task r.1 r.2.1 r.2.2 with
    | some x => t.redispatch x
    | none => t) s1.countFaults

/-- A quiesce begins: step 1 of Table 17-3. -/
def Block.beginQuiesce (s : Block) (d : Nat) : Block :=
  (s.setDie d dsQuiescing).queueRecovery { kind := rcDie, unit := d }

/-- The next Die reset that waited begins, of those whose die is still in service (Table 3-2). -/
def Block.nextDieReset (s : Block) : Block :=
  match s.boot.dieWaits.dropWhile fun x => s.dieOut x.1 with
  | [] => s.setBoot { s.boot with dieReset := none, dieWaits := [] }
  | x :: rest => (s.setBoot { s.boot with dieReset := some x, dieWaits := rest }).beginQuiesce x.1

/-- The requests that entered on a die's host ports and wait in schedulers lost with the ports (Table 17-2). -/
def Block.dropHostReqs (s : Block) (d : Nat) : Block :=
  let keep (r : DramReq) : Bool := match r.from_ with
    | .host fn => !(s.portsOf d).contains (fn / 16)
    | _ => true
  let lost := (s.pool.pcs.filter fun e => !(e.2.queued ++ e.2.held).all keep).map (·.1)
  forEach lost (fun k t =>
    let p := t.pc k
    t.setPc k { p with queue := p.queue.filter keep, rtQueue := p.rtQueue.filter keep, held := p.held.filter keep }) s

/-- A die lost without a quiesce (R490, Table 17-2): its stacks enter self-refresh on their own and wait for their other
homes (R171), to which the base dies bring its dirty lines (R489); a Die reset of it in its sequence ends. -/
def Block.loseDie (s : Block) (d : Nat) : Block :=
  if s.fld (F.RAS_DIE_STATE_STATE d) = dsLost then s
  else
    let s1 := ((s.fault rcDie d).setDie d dsLost).bump (F.RAS_DIE_LOSS_COUNT_COUNT d)
    let s2 := s1.setRas { s1.ras with lost := if s1.ras.lost.contains d then s1.ras.lost else d :: s1.ras.lost }
    let s3 := ((((((((s2.dropHostReqs d).loseTracking d).loseStops d).dropClusters d).dropFaults d).dropLinks d).dropDieCells d).dropPorts
      d).countCaps.settleGates
    if (s3.boot.dieReset.map (·.1)) = some d then s3.nextDieReset else s3

/-- A die is lost (R490). -/
def execDieLoss (die : Fin 4) (s : State) : Out := s.act fun s => (s.loseDie die.val)

/-- A refused RAS_CMD. -/
def Block.rasRefuse (s : Block) (code : Nat) : Block :=
  ((s.setFld F.RAS_CMD_STATUS_CODE code).setFld F.RAS_CMD_STATUS_ERR 1).setFld F.RAS_CMD_STATUS_DONE 1

/-- RAS_CMD QUIESCE (R491). -/
def execQuiesce (by_ : Actor) (die : Fin 4) (s : State) : Out :=
  s.act fun s => (s.byFull by_ fun t =>
    if t.isSet F.RAS_CMD_STATUS_BUSY || t.ras.critical.isSome || (List.range 4).any t.dieOut then t.rasRefuse 0x02
    else ((t.setFld F.RAS_CMD_STATUS_CODE 0).setFld F.RAS_CMD_STATUS_BUSY 1).beginQuiesce die.val)

/-- The die's owned clusters lent to the spare clusters of the other dies that are not in use, both in ascending order (R491
step 3). -/
def Block.lendSpares (s : Block) (d : Nat) : Block :=
  if !s.isSet F.RAS_CFG_LEND_SPARES then s
  else
    let owned := ((List.range 9).map (9 * d + ·)).filter fun c => (s.clusterOwner c).isSome
    let spares := (List.range 4).filter fun e => decide (e ≠ d) && !s.dieOut e && s.spareReady e
    forEach (owned.zip spares) (fun x t =>
      let sp := t.spareCluster x.2
      let t2 := t.enterSpare x.1 x.2
      t2.setRas { t2.ras with lent := t2.ras.lent ++ [(x.1, sp)] }) s

/-- A stack served from a die moved to its other home by Table 5-8; one whose other home cannot take it, or fails its check,
stays in self-refresh, unreachable (step 5 of Table 17-3, R170, R499). -/
def Block.moveStack (s : Block) (stk : Nat) (bad : Bool) : Block :=
  let other := !s.isSet (F.DRC_HOME_ON_ALT stk)
  let s1 := (s.drainStack stk).sleepStack stk
  if !s.homeUsable stk other then s1
  else
    let s2 := s1.setFld (F.DRC_HOME_STATUS_DONE stk) 1
    if bad then
      let s3 := s2.setFld (F.DRC_HOME_STATUS_ERR stk) 1
      s3.setStk stk { s3.stk stk with stranded := true }
    else s2.settleHome stk other

/-- Steps 2 to 6 of Table 17-3. -/
def Block.quiesced (s : Block) (d : Nat) (bad : Nat → Bool) : Block :=
  let s1 := (s.lendSpares d).dropClusters d
  let s2 := forEach ((List.range 24).map (24 * d + ·)) (fun l t =>
    if t.linkState l = lkOff ∨ t.linkState l = lkDown then t else t.linkDown l 0x5) s1
  let s3 := (s2.dropDieCells d).dropPorts d
  let s4 := forEach ((List.range 18).filter fun k => decide (s.servingDie k = d) && decide (s.role k ∈ rolesInUse))
    (fun k t => t.moveStack k (bad k)) s3
  (s4.setDie d dsQuiesced).countCaps.settleGates

/-- The quiesce of a die ends; `bad` names the stacks whose new home fails its check (R491, Table 17-5).  A Die reset goes on
to release the die (R81); `forced` says that its drain was not acknowledged within 10 µs, which is recorded (R77). -/
def execQuiesceComplete (die : Fin 4) (bad : BitVec 18) (s : State) (forced : Bool := false) : Out :=
  s.act fun s => (
    let d := die.val
    if s.fld (F.RAS_DIE_STATE_STATE d) ≠ dsQuiescing then s
    else
      let s1 := s.quiesced d fun k => bad.getLsbD k
      match s.boot.dieReset with
      | some (k, cause) =>
        if k = d then
          let s2 := ((s1.dropFaults d).resetDieUnits d).setDie d dsReturning
          if forced then s2.emit (.resetForced cause d) else s2
        else (s1.setFld F.RAS_CMD_STATUS_BUSY 0).setFld F.RAS_CMD_STATUS_DONE 1
      | none => (s1.setFld F.RAS_CMD_STATUS_BUSY 0).setFld F.RAS_CMD_STATUS_DONE 1)

/-- RAS_CMD RETURN (R492). -/
def execRasReturn (by_ : Actor) (die : Fin 4) (s : State) : Out :=
  s.act fun s => (s.byFull by_ fun t =>
    let st := t.fld (F.RAS_DIE_STATE_STATE die.val)
    if t.isSet F.RAS_CMD_STATUS_BUSY then t.rasRefuse 0x02
    else if st ≠ dsQuiesced ∧ st ≠ dsLost then t.rasRefuse 0x04
    else ((t.setFld F.RAS_CMD_STATUS_CODE 0).setDie die.val dsReturning).setFld F.RAS_CMD_STATUS_BUSY 1)

/-- Lent clusters of a die handed back (R492); the slots that a lent spare took meanwhile go to clusters in service (R30). -/
def Block.handBack (s : Block) (d : Nat) : Block :=
  let mine := s.ras.lent.filter fun x => decide (x.1 / 9 = d)
  let s1 := s.replayClusters fun c => mine.any fun x => decide (x.2 = c)
  let s2 := forEach mine (fun x t =>
    ((if (t.clusterOwner x.2).isSome then t.moveOwner x.2 x.1 else t).moveCores x.2 csIn csSpare).setFld
      (F.RAS_DIE_STATE_SPARE_USED (x.2 / 9)) 0 |>.handOver x.2) s1
  s2.setRas { s2.ras with lent := s2.ras.lent.filter fun x => decide (x.1 / 9 ≠ d) }

/-- The stacks of a die back in service: those whose primary home it is move to it, but for an old stack under copy-in (R172), those that no home took move again, those
it serves leave self-refresh (R170, R492). -/
def Block.stacksHome (s : Block) (d : Nat) : Block :=
  let used := (List.range 18).filter fun k => decide (s.role k ∈ rolesInUse)
  let s1 := forEach (used.filter fun k => decide (s.role k ≠ roleCopyOut) && decide (s.homeDie k false = d) && s.isSet (F.DRC_HOME_ON_ALT k))
    (fun k t => t.beginMove k false) s
  let s2 := forEach (used.filter fun k => (s.stk k).selfRefresh && (s.stk k).moveTo.isNone && decide (s.homeDie k true = d)
    && !s.isSet (F.DRC_HOME_ON_ALT k) && (s.stk k).stranded) (fun k t => t.beginMove k true) s1
  forEach (used.filter fun k => (s2.stk k).selfRefresh && (s2.stk k).moveTo.isNone && decide (s.servingDie k = d))
    (fun k t => t.wakeUnlessHeld k) s2

/-- The end of a return: the die in service with its clusters, its stacks moving home and its links in DETECT, or as it
was before (R492). -/
def Block.returned (s : Block) (d : Nat) (ok : Bool) : Block :=
  if ok then
    let s1 := (s.setDie d dsIn).handBack d
    let s2 := forEach ((List.range 9).map (9 * d + ·)) (fun c t => t.moveCores c csOut csIn) s1
    (forEach ((List.range 24).map (24 * d + ·)) (fun l t =>
      if t.linkState l = lkDown then t.linkDetect l else t.releaseLink l) (s2.stacksHome d)).countCaps
  else (s.setDie d (if s.ras.lost.contains d then dsLost else dsQuiesced)).rasRefuse 0x03

/-- A returning die passes step 8 of Table 3-4, or fails its self-test (R492). -/
def execReturnComplete (die : Fin 4) (ok : Bool) (s : State) : Out :=
  s.act fun s => (
    let d := die.val
    if s.fld (F.RAS_DIE_STATE_STATE d) ≠ dsReturning then s
    else
      let s1 := (s.returned d ok).setFld F.RAS_CMD_STATUS_BUSY 0
      if (s.boot.dieReset.map (·.1)) = some d then s1.nextDieReset
      else s1.setFld F.RAS_CMD_STATUS_DONE 1)

/-! ## Recoveries (R498) -/

/-- The next queued critical phase starts. -/
def execRecoveryPhaseStart (s : State) : Out := s.act fun s => s.startRecovery

/-- A critical phase ends, or a background phase of a kind and unit (R498). -/
def execRecoveryPhaseEnd (background : Option (Fin 7 × BitVec 8)) (s : State) : Out :=
  s.act fun s => (
    match background with
    | none => s.endCritical
    | some x => s.endBackground { kind := x.1.val, unit := x.2.toNat })

/-- Firmware checks its own twins against the homes in force after a spare's switch (R500); their placement is the
firmware's own. -/
def execTwinPlacementCheck (s : State) : Out := s.act fun s => (s.setRas { s.ras with checkTwins := false })

/-! ## Health (R501) -/

/-- Whether a condition of Table 17-6 holds now. -/
def Block.condition (s : Block) : Nat → Bool
  | 0 => (List.range 18).any fun k => decide (2048 < (s.stk k).repairs.length)
      || decide (s.fld F.INT_CE_THRESH_CE_RATE_H < ((s.stk k).ceTimes.filter fun t => decide (s.now < t + 3600000000)).length)
  | 1 => (s.net.links.any fun e => decide (e.2.rxFailed ≠ []) || decide (e.2.txFailed ≠ []))
      || (List.range 4).any (fun d => decide (s.fld (F.RAS_SPARE_CORE_HI_USED d) ≠ 0))
      || (List.range 36).any fun i => decide (16 < s.fld (F.TIR_SLICE_WAYS_SPARES_USED i))
  | 2 => decide (75 ≤ s.fld F.TIR_CAVE_WEAR_LIFE_PCT)
  | 3 => (List.range 2).any fun i => (s.stk (16 + i)).replaces.isSome
  | 4 => (List.range 4).any fun d => s.isSet (F.RAS_DIE_STATE_SPARE_USED d) || !s.isSet (F.RAS_DIE_STATE_HELM_STANDBY d)
  | 5 => (List.range 4).any (fun d => decide (s.fld (F.RAS_STAGE_STATE_FAILED d) ≠ 0))
      || decide (s.fld F.TIR_CAVE_STATUS_CH_FAILED ≠ 0)
  | 6 => decide (90 ≤ s.fld F.TIR_CAVE_WEAR_LIFE_PCT) || s.pool.twins.any fun e => decide (3 ≤ e.2.failPasses)
  | 7 => (List.range 4).any s.dieOut
  | 8 => (List.range 18).any fun k => decide (s.role k = roleFailed)
  | 9 => s.isSet F.TIR_CAVE_STATUS_READ_ONLY
  | 10 => decide (s.fld F.RAS_DOUBLE_COUNT_COUNT ≠ 0)
  | _ => false

/-- The conditions that rest on a spare being used, or on a unit that has left service: they stay until the tray is
replaced. -/
def lasting : List Nat := [1, 3, 4, 5, 8, 9]

/-- The level of a condition. -/
def Block.levelOf (s : Block) (bit : Nat) : Nat :=
  if bit ≤ 2 then 1 else if bit ≤ 6 then 2
  else if bit = 7 then (if s.ras.outHour = [] then 2 else 3)
  else 3

/-- RAS_HEALTH and RAS_HEALTH_REASON brought up to the conditions; a rise to REPLACE_SOON or above asserts ALERT_N and
raises a PLDM event. -/
def Block.updateHealth (s : Block) : Block :=
  let bits := (List.range 11).filter fun b => s.condition b || s.ras.reasons.contains b
  let level := (bits.map s.levelOf).foldl max 0
  let old := s.fld F.RAS_HEALTH_LEVEL
  let s1 := s.setRas { s.ras with reasons := bits.filter fun b => lasting.contains b }
  let s2 := (s1.setFld F.RAS_HEALTH_LEVEL level).setFld F.RAS_HEALTH_REASON_BITS (flagBits 11 fun b => bits.contains b)
  if old < level ∧ 2 ≤ level then (s2.setPwr { s2.pwr with alert := true }).emit (.pldm (.healthLevel level)) else s2

/-- A health condition changes (R501). -/
def execHealthUpdate (s : State) : Out := s.act fun s => s.updateHealth

/-- A die has been out of service for 1 h (R501). -/
def execDieOutHour (die : Fin 4) (s : State) : Out :=
  s.act fun s => (
    if s.dieOut die.val ∧ !s.ras.outHour.contains die.val then
      (s.setRas { s.ras with outHour := die.val :: s.ras.outHour }).updateHealth
    else s)

end Sys2Proof.Machine
end

