-- ==== Sys2Proof/Machine/Sequence.lean ====
section
/-! DEFINITION.  Resets of the module: what Cold and Warm clear and keep (R16, R74), the entry before them (R78), resets
that meet (R73), the configuration copies (R96–R100) and the flush of the logbook (R128, R129). -/

namespace Sys2Proof.Machine

/-! ## Phases -/

/-- STAGE of RBT_STATUS in a phase, as step or stage of Table 3-4; in the entry it stays as it was. -/
def Phase.stage : Phase → Option Nat
  | .entry => none
  | .release n => some (min (n - 2) 7)
  | .running => some 0x8
  | .held => some 0x9
  | .thermalHold _ => some 0xA
  | .recovery => some 0xB
  | _ => some 0x0

/-- The module in a phase. -/
def Block.goTo (s : Block) (p : Phase) : Block :=
  let s1 := s.setBoot { s.boot with phase := p }
  match p.stage with
  | some n => s1.setFld F.RBT_STATUS_STAGE n
  | none => s1

/-- Whether the module is powered. -/
def Block.powered (s : Block) : Bool := decide (s.boot.phase ≠ .unpowered) && decide (s.boot.phase ≠ .latched)

/-- Whether a Cold or Warm reset is in its sequence. -/
def Block.inSequence (s : Block) : Bool :=
  match s.boot.phase with
  | .running => false
  | .recovery => false
  | _ => s.powered

/-- A step of Table 3-4 taken in its order; PWR_FAIL_N stops the sequence (R52), and so does the loss of BN_XIN (R63). -/
def Block.atStep (s : Block) (n : Nat) (act : Block → Block) : Block :=
  if s.boot.phase = .release n ∧ !s.pwr.held ∧ !s.pwr.bnLost then act s else s

/-! ## The flush (R128, R129) -/

/-- The MODE, ERR and counters of every ring that is not OFF. -/
def Block.ringRecords (s : Block) : List FlushedRing :=
  s.ringsOn.map fun r => { ring := r, counters := s.ring r, mode := s.ringMode r, err := s.fld (F.RNG_STATE_ERR r) }

/-- The disabled functions. -/
def Block.disabledFns (s : Block) : List Nat := (List.range 512).filter s.fnDisabled

/-- The payload of a piece: a flash page less its header (R128). -/
def pieceBytes : Nat := 16384 - 64

/-- What an entry takes of a flush: its header and slots, and its staging while a unit of it is COMMITTING (R128). -/
def LogEntry.flushBytes (e : LogEntry) : Nat :=
  64 * (2 + e.bodySlots) + if e.state = .committing then 4096 else 0

/-- The channels that take a piece, of those in service (R128): one, in turn, and, where there are two or more and the piece
is within the mirrored budget, another, on another die where one can be; which it is DESIGN CHOICE, log 142. -/
def pieceChannels (chans : List Nat) (mirrored : Bool) (i : Nat) : List Nat :=
  let m := chans.length
  match chans[i % m]? with
  | none => []
  | some a =>
    let k := (i % m + max 1 (m / 2)) % m
    let rest := chans.drop k ++ chans.take k
    let other := (rest.find? fun c => decide (c / 8 ≠ a / 8)).or (rest.find? fun c => decide (c ≠ a))
    a :: if mirrored then other.toList else []

/-- The XTS tweak of firmware data, by its flash unit address (R230). -/
def firmwareTweak (unit : Nat) : Nat := 2 ^ 127 + unit % 2 ^ 48

/-- The tweaks of the copies of a piece, in one half of the flush regions. -/
def pieceTweaks (half index : Nat) (channels : List Nat) : List Nat :=
  channels.map fun c => firmwareTweak (Config.flashUnit c half index).toNat

/-- The pieces of a flush of `bytes` over the channels in service, in one half of the regions (R128). -/
def flushPieces (chans : List Nat) (half bytes : Nat) : List FlushPiece :=
  let budget := (786432 * chans.length + 262144 + 64 + pieceBytes - 1) / pieceBytes
  (List.range ((bytes + pieceBytes - 1) / pieceBytes)).map fun i =>
    let on := pieceChannels chans (decide (i < budget)) i
    { index := i, channels := on, tweaks := pieceTweaks half i on }

/-- A flush begins: FLUSH_SEQ, the half that is erased, what the logbook, the rings and RNG_FN_DIS hold, in pieces over the cave
channels in service. -/
def Block.beginFlush (s : Block) : Block :=
  let f := s.ctl.flush
  let rings := s.ringRecords
  let bytes := (s.ctl.logbook.map (·.flushBytes)).sum + 64 * rings.length + 64
  let x : Flush :=
    { seq := f.begun + 1, half := f.nextHalf, device := s.deviceId, log := s.ctl.logbook, rings := rings
      disabled := s.disabledFns, pieces := flushPieces s.serviceChannels f.nextHalf bytes }
  ({ s with ctl := { s.ctl with flush := { f with
      begun := f.begun + 1
      flushes := (f.flushes.filter fun y => decide (y.half ≠ x.half)) ++ [x]
      nextHalf := 1 - f.nextHalf } } } : Block).setPwr { s.pwr with flushing := true }

/-- The flush under way has written all its pieces. -/
def Block.flushWritten (s : Block) : Block :=
  let f := s.ctl.flush
  let s1 : Block := { s with ctl := { s.ctl with flush := { f with
    flushes := f.flushes.map fun y => if y.seq = f.begun then { y with complete := true } else y } } }
  (s1.setPwr { s1.pwr with flushing := false }).setBoot { s1.boot with flush := .flushed }

/-- A flush recorded as consumed, its half to be erased before descriptors are accepted (R129, R233). -/
def Block.consumeFlush (s : Block) (seq : Nat) : Block :=
  let f := s.ctl.flush
  match f.flushes.find? fun y => decide (y.seq = seq) with
  | none => s
  | some x =>
    ({ s with ctl := { s.ctl with flush := { f with consumed := max f.consumed seq, eraseHalf := some x.half } } } :
      Block).setBoot { s.boot with flush := .notApplicable }

/-! ## What the resets clear and keep (Table 3-3) -/

/-- The FAILED pseudo-channels of FAILED stacks keep their mark through every reset (R488). -/
def Block.keepMarks (s t : Block) : Block :=
  forEach ((List.range 18).filter fun k => decide (s.role k = roleFailed)) (fun k u =>
    forEach ((List.range 64).filter fun p => s.isSet (F.DRC_PC_STATE_FAILED k p))
      (fun p v => (v.setFld (F.DRC_PC_STATE_FAILED k p) 1).bump (F.DRC_TRAIN_STATUS_FAILED_PCS k)) u) t

/-- A scheduler after a Warm reset: the turner's position and the last recalibration are kept (R196). -/
def PseudoChannel.afterWarm (p : PseudoChannel) : PseudoChannel :=
  { recalTemp := p.recalTemp, turnerRow := p.turnerRow, turnerBank := p.turnerBank, passes := p.passes }

/-- A ring's machine part after a Warm reset: its counters (R132). -/
def RingSt.counters (g : RingSt) : RingSt :=
  { accept := g.accept, nextSeq := g.nextSeq, completed := g.completed, consume := g.consume, errSeq := g.errSeq }

/-- Links after a reset: only that a reference clock is lost outlives it (R408). -/
def afterLinks (links : Assoc LinkSt) : Assoc LinkSt :=
  (links.filter fun e => e.2.refLost).map fun e => (e.1, { refLost := true })

/-- The state of a Cold reset: the backup domain, the almanac and SPI NOR kept, everything else as after power-on,
the power limit and ALERT_N among it (DESIGN CHOICE, logs 145 and 146). -/
def Block.coldClear (s : Block) : Block :=
  let p := s.pool
  let t : Block :=
    { Block.reset with
      regs := s.regs.reset .cold fun _ => true
      pool := {
        wayErrors := p.wayErrors, retiredWays := p.retiredWays, disabledWays := p.disabledWays, cave := p.cave
        caveWear := p.caveWear, keyGen := p.keyGen }
      ctl := { stopped := true, flush := s.ctl.flush
               disables := s.ctl.disables.map fun d => { fn := d.fn, byCommand := d.byCommand } }
      net := { links := afterLinks s.net.links }
      sec := { sets := s.sec.sets, fabricKey := s.sec.fabricKey, fabricCount := s.sec.fabricCount }
      pwr := { low := s.pwr.low, high := s.pwr.high, failPin := s.pwr.failPin, held := s.pwr.held
               ignored := s.pwr.ignored, tripped := s.pwr.tripped, bnLost := s.pwr.bnLost, hpLost := s.pwr.hpLost }
      boot := { s.boot with modes := [], commit := none, dieReset := none, dieWaits := [], adrift := false, logOk := false
                            syncOwn := [], clusterResets := [], portResets := [], linkResets := [] }
      ras := { reasons := s.ras.reasons, lent := s.ras.lent }
      dbg := {}
      out := s.out, now := s.now, free := s.free }
  let t1 := forEach p.stks (fun e u => u.setStk e.1
    { repairs := e.2.repairs, burned := e.2.burned, failedWhole := e.2.failedWhole
      replaces := e.2.replaces, replacedBy := e.2.replacedBy
      retrain := e.2.retrain }) t
  (s.keepMarks t1).incarnate (List.range 96)

/-- Whether an offset is a configuration register of a range gate. -/
def gateReg (a : Nat) : Bool :=
  decide (R.HPT_GATE_BASE_LO 0 ≤ a) && decide (a < R.HPT_GATE_BASE_LO 4096)
    && decide ((a - R.HPT_GATE_BASE_LO 0) % 0x20 ≠ R.HPT_GATE_STATE 0 - R.HPT_GATE_BASE_LO 0)

/-- The state of a Warm reset: the island, the almanac, the logbook, DRAM and the gates (R272) kept. -/
def Block.warmClear (s : Block) : Block :=
  let t : Block :=
    { s with
      regs := s.regs.reset .warm fun a => !gateReg a
      pool := { s.pool with
        records := [], cache := [], pcs := [], caveWaits := [], prefetchers := [], stks := [] }
      ctl := { logbook := s.ctl.logbook, owed := s.ctl.owed, flush := s.ctl.flush, disables := s.ctl.disables, stopped := true }
      eng := { objs := s.eng.objs, burstEnds := s.eng.burstEnds }
      xlt := {
        queues := (s.xlt.queues.map fun e => (e.1, { e.2 with waiting := [] })).filter fun e => decide (e.2 ≠ {}) }
      host := { tracked := s.host.tracked, given := s.host.given, assumed := s.host.assumed, precise := s.host.precise
                extents := s.host.extents }
      net := { links := afterLinks s.net.links, router := { retiredSlots := s.net.router.retiredSlots } }
      boot := { s.boot with commit := none, dieReset := none, dieWaits := [] }
      ras := { s.ras with queue := [], critical := none, background := [], atDetector := [], activation := none, phy := none }
      dbg := { lastAuto := s.dbg.lastAuto }
      bus := {}
      pwr := { s.pwr with crossings := [] } }
  let t1 := forEach s.ctl.rings (fun e u => u.setRing e.1 e.2.counters) t
  let t2 := forEach s.pool.pcs (fun e u => u.setPc e.1 e.2.afterWarm) t1
  let t3 := forEach (List.range 18) (fun k u => u.setStk k
    { s.stk k with selfRefresh := true, moveTo := none, parityErrors := [], repairing := none }) t2
  let t4 := forEach s.pool.frames (fun e u => u.setFrame e.1 { e.2 with staging := [], writing := [] }) t3
  let t5 := if s.ras.activation.isSome then t4.setFld F.RAS_UPDATE_STATUS_RESULT 0x3 else t4
  ((s.keepMarks (t5.setFld F.RAS_UPDATE_STATUS_PHY_PENDING 0)).dropSessions).incarnate (List.range 96)

/-! ## The entry (R78) -/

/-- The entry of a Cold or Warm reset begins: acceptance and the engines stop, a commit is abandoned, every Pefin link is in
OFF and every CXL link down. -/
def Block.beginEntry (s : Block) (cold : Bool) (cause : Nat) : Block :=
  let s1 := forEach (List.range 4) (fun d t => t.absorbClusters d) s.abandonCommit
  let fromRun := decide (s.boot.phase = .running)
  let own := (s.listed (R.ENG_SYNC_OWN 0) (R.ENG_SYNC_OWN 256) 4 0).map fun b => (b, s.reg (R.ENG_SYNC_OWN b))
  let s2 := s1.setBoot { s1.boot with
    cold := cold, cause := cause, t0 := s.now, dieReset := none, dieWaits := [], portResets := [], linkResets := []
    modes := if fromRun then s.ringRecords else s.boot.modes
    syncOwn := if fromRun then own else s.boot.syncOwn }
  let s3 : Block := { s2 with ctl := { s2.ctl with stopped := true } }
  (forEach (List.range 4) (fun d t => (t.dropLinks d).dropPorts d) s3).goTo .entry

/-- A Cold or Warm reset raised: absorbed by one in its sequence that is as wide, else its entry begins (Table 3-2); a
thermal trip takes the rails off whatever runs (R58, R80). -/
def Block.raiseModule (s : Block) (cold : Bool) (cause : Nat) : Block :=
  if !s.powered then s
  else
    let s1 := s.emit (.reset cause 0)
    let s2 := if cold then s1 else s1.bump F.RBT_WARM_COUNT_COUNT
    let tripping := decide (s.boot.phase = .entry) && decide (s.boot.cause = 0x02)
    if s.inSequence ∧ !(cold && (!s.boot.cold || (decide (cause = 0x02) && !tripping))) then s2.bump F.RBT_RESET_COUNT_COUNT
    else s2.beginEntry cold cause

/-- The rails off, the binnacle island reset (R78); after a thermal trip THERM_TRIP_N is asserted and they stay off (R58,
R80). -/
def Block.cutRails (s : Block) : Block :=
  let s1 := s.coldClear
  if s.boot.cause = 0x02 then (s1.setPwr { s1.pwr with tripped := true }).goTo (.thermalHold s.boot.t0)
  else s1.goTo .railsOff

/-- The entry ends (R78): a quiesce completes, dirty lines are written back, every stack is in self-refresh; then a Warm
reset is at t0, and for Cold the flush of the logbook follows, where it can be read and some channel takes it (R52, R131). -/
def Block.endEntry (s : Block) : Block :=
  let s1 := forEach ((List.range 4).filter fun d => decide (s.fld (F.RAS_DIE_STATE_STATE d) = dsQuiescing))
    (fun d t => t.quiesced d fun _ => false) s
  let s2 := s1.flushCache (fun _ => true) false
  let s3 := forEach (List.range 18) (fun k t => t.sleepStack k) s2
  if !s.boot.cold then
    let s4 := s3.warmClear
    (s4.setBoot { s4.boot with t0 := s.now }).goTo (.release 2)
  else if !s.boot.logOk then s3.cutRails
  else if s.isSet F.RNG_LOGBOOK_LIMIT_NO_FLUSH then (s3.setBoot { s3.boot with flush := .noFlush }).cutRails
  else s3.beginFlush

/-- The entry of a Warm reset, or of a Cold one not from power-on, completes (R78); `forced` names the dies whose drain was not
acknowledged within 10 µs, each recorded (R77). -/
def execResetEntryDone (s : State) (forced : BitVec 4 := 0) : Out :=
  s.act fun s => (
    if s.boot.phase = .entry ∧ !s.pwr.held ∧ !s.pwr.flushing ∧ s.boot.rwp = [] then
      (forEach ((List.range 4).filter fun d => forced.getLsbD d) (fun d t => t.emit (.resetForced s.boot.cause d)) s).endEntry
    else s)

/-- Release begins from step 1 of Table 3-4; the microseconds since the Cold reset are counted from here. -/
def Block.beginCold (s : Block) : Block :=
  ({ s with now := 0 } : Block).setBoot { s.boot with t0 := 0 } |>.goTo (.release 1)

/-- The 100 ms with the rails off end (R78). -/
def execRailOffEnd (s : State) : Out :=
  s.act fun s => (if s.boot.phase = .railsOff ∧ !s.pwr.held then s.beginCold else s)

/-! ## The thermal hold (R80) -/

/-- THERM_TRIP_N released, and Table 3-4 runs. -/
def Block.clearHold (s : Block) : Block := (s.setPwr { s.pwr with tripped := false }).beginCold

/-- Whether 10 s have passed since the trip. -/
def Block.holdMayClear (s : Block) : Bool :=
  match s.boot.phase with
  | .thermalHold since => decide (since + 10000000 ≤ s.now)
  | _ => false

/-- The board controller clears a thermal hold by PLDM, refused before 10 s have passed; without a hold nothing is to be
cleared (R80). -/
def execThermalHoldClear (s : State) : Out :=
  s.act fun s => (
    match s.boot.phase with
    | .thermalHold _ =>
      if s.holdMayClear then s.clearHold.emit (.pldmReply .ok) else s.emit (.pldmReply .notReady)
    | _ => if s.islandUp then s.emit (.pldmReply .ok) else s)

/-- RST_N asserted: it clears a thermal hold no sooner than 10 s after the trip, is ignored during a flush, and raises a
Warm reset otherwise (R72, R80, R52). -/
def execRstNAssert (s : State) : Out :=
  s.act fun s => (
    match s.boot.phase with
    | .thermalHold _ => if s.holdMayClear then s.clearHold else s
    | _ => if s.pwr.flushing then s else s.raiseModule false 0x04)

/-! ## Sources of Cold and Warm (Table 3-1) -/

/-- A command refused: RBT_CMD_STATUS.ERR. -/
def Block.cmdErr (s : Block) : Block := s.setFld F.RBT_CMD_STATUS_ERR 1

/-- RBT_RESET_CMD class Cold: it arms, or fires a software Cold reset (R101). -/
def execResetCmdCold (by_ : Actor) (target : BitVec 7) (s : State) : Out :=
  s.act fun s => (s.byFull by_ fun t =>
    if target ≠ 0 then t.cmdErr
    else if t.isSet F.RBT_CMD_STATUS_ARMED then
      (t.setFld F.RBT_CMD_STATUS_ARMED 0).raiseModule true 0x01
    else t.setFld F.RBT_CMD_STATUS_ARMED 1)

/-- No second Cold write within 1 ms (R101). -/
def execColdArmExpiry (s : State) : Out := s.act fun s => (s.setFld F.RBT_CMD_STATUS_ARMED 0)

/-- RBT_RESET_CMD class Warm (R72, R101). -/
def execResetCmdWarm (by_ : Actor) (target : BitVec 7) (s : State) : Out :=
  s.act fun s => (s.byFull by_ fun t =>
    if target ≠ 0 then t.cmdErr else t.raiseModule false 0x05)

/-- No helm heartbeat from any die for 1 s (R72); an activation holds the watchdog (Table 17-4). -/
def execBinnacleWatchdog (s : State) : Out :=
  s.act fun s => (if s.ras.activation.isSome then s else s.raiseModule false 0x06)

/-- A trial is not confirmed within 60 s (R91, R496). -/
def execTrialBootExpiry (s : State) : Out :=
  s.act fun s => (
    if s.boot.trial then ((s.setFld F.RAS_UPDATE_STATUS_RESULT 0x4)).raiseModule false 0x08 else s)

/-- A rind glitch sensor, a failed self-test or an unauthorised change of an image (R475). -/
def execRindSecurityReset (s : State) : Out := s.act fun s => (s.raiseModule true 0x03)

end Sys2Proof.Machine
end

