-- ==== Sys2Proof/Machine/Almanac.lean ====
section
/-! DEFINITION.  The almanac at work (R94–R100, R191): RWP writes, commits of the configuration, the 24 h re-check and
scrub. -/

namespace Sys2Proof.Machine

/-! ## RWP registers (R94, R95) -/

/-- The counted writes after which a register is worn, and those past which it is near it. -/
def rwpWorn : Nat := 1000000
def rwpNear : Nat := 900000

/-- A write of RBT_FW_PREF, the one RWP register.  Of the writes that are not persistent yet the oldest 64 are pending; a
65th waits at the register until a pending one finishes (R94). -/
def Block.writePref (s : Block) (slot : Bool) : Block := s.setBoot { s.boot with rwp := s.boot.rwp ++ [slot] }

/-- A write to an RWP register (R94); a scoped function's write is outside its reach (R33). -/
def execRwpWrite (by_ : Actor) (slot : Bool) (s : State) : Out := s.act fun s => (s.byFull by_ fun t => t.writePref slot)

/-- A value persistent in the slot that did not hold the latest, and in force; what its count brings (R95). -/
def Block.persistPref (s : Block) (v : Bool) : Block :=
  let n := s.rwpNow.count + 1
  let s1 := (s.rwpPut v n).setBit F.RBT_FW_PREF_SLOT v
  if n = rwpWorn then
    (((s1.setFld F.ALM_STATUS_WORN_ANY 1).bump F.ALM_WORN_COUNT_COUNT).setPwr { s1.pwr with alert := true }).emit (.pldm .rwpWorn)
  else if n = rwpNear + 1 then
    ((s1.setFld F.ALM_STATUS_NEAR_WORN_ANY 1).bump F.ALM_NEAR_WORN_COUNT_COUNT).health .rwpNearWorn
  else s1

/-- The oldest RWP write becomes persistent; a write of the value held is not counted, and a worn register drops every write
(R94, R95). -/
def Block.persistNext (s : Block) : Block :=
  match s.boot.rwp with
  | [] => s
  | v :: rest =>
    let s1 := s.setBoot { s.boot with rwp := rest }
    if v = s.rwpNow.value ∨ rwpWorn ≤ s.rwpNow.count then s1 else s1.persistPref v

/-- The oldest pending RWP write becomes persistent (R94). -/
def execRwpPersist (s : State) : Out := s.act fun s => s.persistNext

/-- The power is lost with RWP writes pending: the one being written leaves the old value or the new one (R94). -/
def Block.losePending (s : Block) : Block :=
  if s.boot.rwp = [] then s
  else
    let (v, t) := s.fresh
    let u := if v.getLsbD 0 then t.persistNext else t
    u.setBoot { u.boot with rwp := [] }

/-! ## Commits (R96, R99, R100) -/

/-- The running configuration; it always lists the quotas, whose default is no fixed value (R144). -/
def Block.running (s : Block) : Snapshot :=
  { regs := (s.regs.config.filter fun e => !(List.range 32).any fun p => decide (e.1 = R.RNG_PTN_QUOTA p))
      ++ (List.range 32).map fun p => (R.RNG_PTN_QUOTA p, s.reg (R.RNG_PTN_QUOTA p))
    extents := s.host.extents, lds := s.host.lds }

/-- A refused commit. -/
def Block.refuseCommit (s : Block) (result : Nat) : Block :=
  (s.setFld F.ALM_COMMIT_STATUS_RESULT result).setFld F.ALM_COMMIT_STATUS_DONE 1

/-- The counter of commits of a copy. -/
def commitsOf (copyB : Bool) : Fld := if copyB then F.ALM_COMMITS_B_COUNT else F.ALM_COMMITS_A_COUNT

/-- ALM_CFG_BYTES brought up to the running configuration (R96). -/
def Block.showCfgBytes (s : Block) : Block := s.setFld F.ALM_CFG_BYTES_BYTES (min (cfgBytes s.running) (2 ^ 21 - 1))

/-- A commit requested: it starts, or is refused (R99). -/
def Block.commitGo (s : Block) : Block :=
  let adrift := s.isSet F.ALM_STATUS_ADRIFT
  let toB := decide (s.fld F.ALM_STATUS_SELECTED = 0)
  let worn (b : Bool) : Bool := decide (1000000 ≤ s.fld (commitsOf b))
  let seq := if adrift then 1 else s.pair R.ALM_SEQ_LO R.ALM_SEQ_HI + 1
  if s.boot.commit.isSome then s.refuseCommit 0x01
  else if worn toB || (adrift && worn true) then s.refuseCommit 0x02
  else if 1572800 < cfgBytes s.running then s.refuseCommit 0x05
  else
    ((s.setBoot { s.boot with commit := some { copyB := toB, seq := seq, body := s.running, thenB := adrift } }).setFld
      F.ALM_STATUS_COMMIT_BUSY 1)

/-- ALM_COMMIT.GO (R99). -/
def execAlmCommitGo (by_ : Actor) (s : State) : Out := s.act fun s => (s.byFull by_ fun t => t.commitGo.showCfgBytes)

/-- The held entries of defined rings replayed after the first commit since ADRIFT was entered (R100). -/
def Block.endAdrift (s : Block) : Block :=
  if s.boot.adrift then
    let s1 := s.setBoot { s.boot with adrift := false }
    forEach ((s1.ctl.logbook.filter (·.held)).map (·.ring)).eraseDups (fun r t => t.unhold r) s1
  else s

/-- The write and read-back of a copy end (R98, R99). -/
def execAlmCommitDone (ok : Bool) (s : State) : Out :=
  s.act fun s => (
    match s.boot.commit with
    | none => s
    | some c =>
      if ok then
        let s1 := (s.putCopy c.copyB (newCopy c.seq c.body)).bump (commitsOf c.copyB)
        if c.thenB then s1.setBoot { s1.boot with commit := some { c with copyB := true, thenB := false } }
        else (((s1.endCommit 0x00).showCopies).extend 7 [c.seq]).endAdrift
      else s.cutCommit c 0x03)

/-- The binnacle re-checks both copies; the operands say which read valid (R97, R98). -/
def execAlmRecheck (aOk bOk : Bool) (s : State) : Out :=
  s.act fun s => (
    let s1 := if aOk then s else s.spoilCopy false
    (if bOk then s1 else s1.spoilCopy true).afterCheck)

/-- The health counters of the almanac. -/
def healthCounter : Nat → Fld
  | 0 => F.RAS_SINGLE_COUNT_COUNT
  | 1 => F.RAS_DOUBLE_COUNT_COUNT
  | 2 => F.RAS_LOST_LINES_COUNT
  | n => F.RAS_DIE_LOSS_COUNT_COUNT (n - 3)

/-- An uncorrectable almanac word (R191). -/
def Block.almLost (s : Block) : AlmRegion → Block
  | .rwp latest =>
    let t := s.rwpSpoil (s.rwpInB == latest)
    t.setBit F.RBT_FW_PREF_SLOT t.rwpNow.value
  | .copy b => (s.spoilCopy b).afterCheck
  | .training stk => s.setStk stk.val { s.stk stk.val with retrain := true }
  | .health n => (s.setFld (healthCounter n.val) 0).health (.counter n.val)

/-- A word found bad by the daily read of the almanac: corrected and rewritten, or uncorrectable (R191). -/
def execAlmScrub (region : AlmRegion) (lost : Bool) (s : State) : Out :=
  s.act fun s => (if lost then (s.bump F.INT_ALM_UE_COUNT_COUNT).almLost region else s.bump F.INT_ALM_CE_COUNT_COUNT)

end Sys2Proof.Machine
end

