-- ==== Sys2Proof/Machine/LocalResets.lean ====
section
/-! DEFINITION.  Resets of a die, a cluster, a host port and a link (R72, R73, R74, R81, R408), and the training of host links
(R265). -/

namespace Sys2Proof.Machine

/-! ## Die and cluster resets -/

/-- Whether a reset of one unit is absorbed by a wider one in its sequence (R73): a Cold or Warm reset, or one of its die. -/
def Block.absorbed (s : Block) (die : Nat) : Bool :=
  s.inSequence || decide ((s.boot.dieReset.map (·.1)) = some die)

/-- A Die reset raised: counted and recorded; absorbed by one in progress or waiting on that die, or by a wider one; behind
one of another die it waits; a die out of service has nothing to reset (R72, R73, R81). -/
def Block.raiseDie (s : Block) (d cause : Nat) : Block :=
  let s1 := (s.emit (.reset cause d)).bump F.RBT_DIE_COUNT_COUNT
  if s.absorbed d || s.dieOut d || s.boot.dieWaits.any (fun x => decide (x.1 = d)) then s1
  else if s1.boot.dieReset.isSome then s1.setBoot { s1.boot with dieWaits := s1.boot.dieWaits ++ [(d, cause)] }
  else (s1.setBoot { s1.boot with dieReset := some (d, cause) }).beginQuiesce d

/-- RBT_RESET_CMD class Die (R81, R101). -/
def execResetCmdDie (by_ : Actor) (target : BitVec 7) (s : State) : Out :=
  s.act fun s => (s.byFull by_ fun t => if 3 < target.toNat then t.cmdErr else t.raiseDie target.toNat 0x0A)

/-- Both helm cores of a die silent for 100 ms (R72); an activation holds the watchdog (Table 17-4). -/
def execHelmWatchdog (die : Fin 4) (s : State) : Out :=
  s.act fun s => (if s.ras.activation.isSome || !s.powered then s else s.raiseDie die.val 0x09)

/-- A cluster reset raised (R72): counted and recorded; absorbed by a wider one, or one of the cluster in its sequence.  Its
slice's dirty lines are written back, its lines re-home to the other stops of its die (R282), its work starts again from the
logbook, and its cores are out until it is released; `forced` says that its drain was not acknowledged within 10 µs (R77). -/
def Block.resetCluster (s : Block) (c : Nat) (forced : Bool) : Block :=
  let s1 := (s.emit (.reset 0x0B c)).bump F.RBT_DIE_COUNT_COUNT
  if s.absorbed (c / 9) || s.dieOut (c / 9) || !s.clusterUp c then s1
  else
    let s2 := if forced then s1.emit (.resetForced 0x0B c) else s1
    let s3 := (s2.flushCache (fun x => decide (x.slice = c)) false).handOver c
    let s4 := (s3.moveCores c csIn csOut).replayClusters fun k => decide (k = c)
    s4.setBoot { s4.boot with
      clusterResets := s4.boot.clusterResets ++ [{ cluster := c, since := s4.now, slots := s.slotsOf c }] }

/-- The clusters whose resets began 2 ms ago are released, and take their slots back (R72, R282). -/
def Block.releaseClusters (s : Block) : Block :=
  let due (x : ClusterReset) : Bool := decide (x.since + 2000 ≤ s.now)
  forEach (s.boot.clusterResets.filter due)
    (fun x t => (t.moveCores x.cluster csOut csIn).handSlots (x.cluster / 9) x.slots [x.cluster])
    (s.setBoot { s.boot with clusterResets := s.boot.clusterResets.filter fun x => !due x })

/-- What a microsecond that passes brings: the clusters whose resets end are released. -/
def Block.tick (s : Block) : Block := ({ s with now := s.now + 1 } : Block).releaseClusters

/-- RBT_RESET_CMD class cluster (R72, R101). -/
def execResetCmdCluster (by_ : Actor) (target : BitVec 7) (s : State) (forced : Bool := false) : Out :=
  s.act fun s => (s.byFull by_ fun t => if 35 < target.toNat then t.cmdErr else t.resetCluster target.toNat forced)

/-! ## Port resets -/

/-- A Port reset raised (R81): counted and recorded; absorbed by a wider one, or one of the port in its sequence; the requests
past the gates complete, then the port and its logical devices' state go. -/
def Block.resetPort (s : Block) (p cause : Nat) : Block :=
  let s1 := (s.emit (.reset cause p)).bump F.RBT_PORT_COUNT_COUNT
  if s.absorbed (s.dieOfPort p) || s.boot.portResets.any (fun x => decide (x.1 = p)) then s1
  else (s1.setBoot { s1.boot with portResets := s1.boot.portResets ++ [(p, cause)] }).settlePorts

/-- RBT_RESET_CMD class Port (R81, R101). -/
def execResetCmdPort (by_ : Actor) (target : BitVec 7) (s : State) : Out :=
  s.act fun s => (s.byFull by_ fun t => if t.hostPorts ≤ target.toNat then t.cmdErr else t.resetPort target.toNat 0x0E)

/-- HP_PERST_N asserted (R61): the land is low, and a port that the bifurcation gives is reset (R42). -/
def execHpPerstAssert (port : Fin 16) (s : State) : Out :=
  s.act fun s => (
    let p := port.val
    if s.boot.perst.contains p then s
    else
      let t := s.setBoot { s.boot with perst := p :: s.boot.perst }
      if t.powered && decide (p < t.hostPorts) then t.resetPort p 0x0C else t)

/-- A CXL hot reset, or a link down, on a port (R72). -/
def execCxlHotReset (port : Fin 16) (s : State) : Out :=
  s.act fun s => (if !s.powered || decide (s.hostPorts ≤ port.val) then s else s.resetPort port.val 0x0D)

/-- HP_PERST_N deasserted: the port may train (R82). -/
def execHpPerstRelease (port : Fin 16) (s : State) : Out :=
  s.act fun s => (s.setBoot { s.boot with perst := s.boot.perst.filter (· ≠ port.val) })

/-- The x16 port whose reference clock a port takes (R42). -/
def Block.clockOf (s : Block) (p : Nat) : Nat := if s.bifurcated then p / 2 else p

/-- Whether a port may train: past step 10, or H0 in a recovery boot (R82, R92); its reset released, its reference clock in
range, its die in service. -/
def Block.portTrains (s : Block) (p : Nat) : Bool :=
  (match s.boot.phase with
    | .running => true
    | .recovery => decide (p = 0)
    | _ => false)
  && decide (p < s.hostPorts) && !s.boot.perst.contains p && !s.pwr.hpLost.contains (s.clockOf p)
  && !s.dieOut (s.dieOfPort p) && !s.pwr.held && !s.pwr.bnLost

/-- The number of lanes of the widths that a port trains to. -/
def Block.portLanes (s : Block) (width : Nat) : Nat := min (2 ^ width) (if s.bifurcated then 8 else 16)

/-- A host port trains to a speed and a width of 2^`width` lanes (R265), with 68-byte flits at 8 to 32 GT/s only (R262); `mem` says that CXL.mem is enabled, which no
recovery boot does (R92). -/
def execHostLinkTrain (port : Fin 16) (speed : Fin 6) (width : Fin 5) (flit : Fin 3) (mem : Bool) (s : State) : Out :=
  s.act fun s => (
    let p := port.val
    if !s.portTrains p || (decide (flit.val = 0) && !(decide (2 ≤ speed.val) && decide (speed.val ≤ 4))) then s
    else
      ((((s.setBit (F.HPT_PORT_STATUS_UP p) (mem && decide (s.boot.phase = .running))).setFld (F.HPT_PORT_STATUS_SPEED p)
        speed.val).setFld (F.HPT_PORT_STATUS_WIDTH p) (s.portLanes width.val)).setFld (F.HPT_PORT_STATUS_FLIT p)
        flit.val).setFld (F.HPT_PORT_STATUS_LDS p) (Assoc.get 0 p s.host.lds))

/-- HP_REFCLK of an x16 port lost: that port, or both x8 ports fed from it, stays down until the clock is in range again
(R63). -/
def execHpRefclkLoss (port : Fin 8) (s : State) (lost : Bool := true) : Out :=
  s.act fun s => (
    let k := port.val
    if !lost then s.setPwr { s.pwr with hpLost := s.pwr.hpLost.filter (· ≠ k) }
    else if s.pwr.hpLost.contains k then s
    else
      let s1 := s.setPwr { s.pwr with hpLost := k :: s.pwr.hpLost }
      forEach ((List.range s.hostPorts).filter fun p => decide (s.clockOf p = k))
        (fun p t => if t.portUp p then t.downPort p else t) s1)

/-! ## Link resets -/

/-- Whether a link retrains. -/
def Block.retrains (s : Block) (l : Nat) : Bool := decide (s.linkState l = lkTrain) || decide (s.linkState l = lkRetrain)

/-- A Link reset raised (R73, R408); one that is commanded is in its sequence until the link has retrained. -/
def Block.raiseLink (s : Block) (l cause : Nat) : Block :=
  let s1 := (s.emit (.reset cause l)).bump F.RBT_LINK_COUNT_COUNT
  if s.absorbed (l / 24) then s1
  else
    let t := s1.linkReset l
    if t.retrains l && decide (cause = 0x0F) && !t.boot.linkResets.contains l then
      t.setBoot { t.boot with linkResets := l :: t.boot.linkResets }
    else t

/-- Whether a commanded reset is in its sequence (RBT_CMD_STATUS.BUSY, R101). -/
def Block.cmdBusy (s : Block) : Bool :=
  (s.inSequence && decide (s.boot.cause = 0x01 ∨ s.boot.cause = 0x05))
    || s.boot.dieReset.any (fun x => decide (x.2 = 0x0A)) || decide (s.boot.clusterResets ≠ [])
    || s.boot.portResets.any (fun x => decide (x.2 = 0x0E)) || decide (s.boot.linkResets ≠ [])

/-- RBT_RESET_CMD class Link (R101, R408). -/
def execResetCmdLink (by_ : Actor) (target : BitVec 7) (s : State) : Out :=
  s.act fun s => (s.byFull by_ fun t => if 95 < target.toNat then t.cmdErr else t.raiseLink target.toNat 0x0F)

end Sys2Proof.Machine
end

