-- ==== Sys2Proof/Machine/BootChain.lean ====
section
/-! DEFINITION.  The order of release, steps 1 to 8 of Table 3-4: the island, the backup domain and CFG_RSEL (R83–R87), the
configuration (R98, R100), the firmware slots (R89–R92), helm cores, DRAM training (R163, R164), pool dies (R79, R192). -/

namespace Sys2Proof.Machine

/-- The reset class of the sequence that runs. -/
def Block.bootClass (s : Block) : ResetClass := if s.boot.cold then .cold else .warm

/-! ## Steps 1 and 2 -/

/-- BN_XIN in range: the binnacle island leaves reset (R75); links and ports that its loss held idle may train again (R63). -/
def execBinnacleRelease (s : State) : Out :=
  s.act fun s => (
    let s1 := s.setPwr { s.pwr with bnLost := false }
    let s2 := if s.pwr.bnLost ∧ s.boot.phase = .running then
        forEach ((List.range 96).filter fun l => !s.dieOut (l / 24)) (fun l t => t.releaseLink l) s1
      else s1
    s2.atStep 1 fun t => t.goTo (.release 2))

/-- The samples of CFG_RSEL (R85), each its ratio × 256. -/
def rselSamples (v : BitVec 128) : List Nat := (List.range 16).map fun k => getBits v.toNat (8 * k + 7) (8 * k)

/-- The band that most samples fall in; of bands with as many, the lowest (DESIGN CHOICE, log 112). -/
def modeBand (xs : List Nat) : Nat :=
  let count (b : Nat) : Nat := (xs.filter fun x => decide (x / 16 = b)).length
  (List.range 16).foldl (fun best b => if count best < count b then b else best) 0

/-- The median of 16 samples: the lower middle one (DESIGN CHOICE, log 112). -/
def medianOf (xs : List Nat) : Nat :=
  (xs.find? fun x =>
    decide ((xs.filter fun y => decide (y < x)).length ≤ 7) && decide (7 < (xs.filter fun y => decide (y ≤ x)).length)).getD 0

/-- A CFG_RSEL code in force (R87, Table 3-6). -/
def Block.strap (s : Block) (code : Nat) : Block :=
  let bit (n : Nat) : Bool := decide (getBits code n n = 1)
  let s1 := (s.setFld F.GID_STRAPS_RSEL code).setFld F.GID_CAPS1_HOST_PORTS (if bit 0 then 16 else 8)
  let s2 := forEach (List.range 96) (fun l t => t.setBit (F.PFL_STATUS_RATE l) (bit 1)) s1
  (s2.setBit F.PFR_LEVEL_ROUTER (!bit 2)).setBit F.RBT_STATUS_RECOVERY (bit 3)

/-- CFG_RSEL sampled (R85). -/
def Block.sampleRsel (s : Block) (v : BitVec 128) : Block :=
  let xs := rselSamples v
  let code := modeBand xs
  (((s.setFld F.RBT_RSEL_STATUS_CODE code).setFld F.RBT_RSEL_STATUS_RATIO (medianOf xs)).setBit F.RBT_RSEL_STATUS_MARGINAL
    (xs.any fun x => decide (x / 16 ≠ code))).strap code

/-- The reset counted in the backup domain, whose signature a Cold reset checks (R83, R84). -/
def Block.countReset (s : Block) : Block :=
  let s1 := s.setFld F.RBT_LAST_CAUSE_CAUSE s.boot.cause
  if s.boot.cold ∧ !s.boot.vbkOk then
    ((s1.setFld F.RBT_LAST_CAUSE_VBK_LOST 1).setFld F.RBT_RESET_COUNT_COUNT 1).setBoot
      { s1.boot with vbkOk := true, flush := .unknown }
  else s1.bump F.RBT_RESET_COUNT_COUNT

/-- Step 2: the backup domain checked, the reset counted, CFG_RSEL sampled for Cold (R83–R87). -/
def execBackupDomainCheck (samples : BitVec 128) (s : State) : Out :=
  s.act fun s => (s.atStep 2 fun t =>
    let t1 := t.countReset
    let t2 := if t.boot.cold then
        (t1.sampleRsel samples).setBit F.RBT_LAST_CAUSE_NO_FLUSH (decide (t1.boot.flush = .noFlush))
      else t1
    t2.goTo (.release 3))

/-! ## Step 3 -/

/-- Whether an offset is a register of a range gate, or says what state a partition is in: what the factory defaults set whole,
beside the configuration fields of the others (R100). -/
def factoryReg (a : Nat) : Bool :=
  gateReg a || (regAt a).any fun x => decide (x.1.base = R.PTN_STATE 0)

/-- The selected configuration in force, or the factory defaults (R98, R100); a Warm reset keeps the gates (R272). -/
def Block.loadConfig (s : Block) : Block :=
  let snap := (s.selectedCopy.map (·.body)).getD {}
  let adrift := s.isSet F.ALM_STATUS_ADRIFT
  let keep := !s.boot.cold && !adrift
  let base := if keep then s.regs else if s.boot.cold then s.regs.reset .cold gateReg
    else (s.regs.reset .cold factoryReg).unset fun _ => true
  let s1 : Block := { s with
    regs := base.restore s.bootClass (snap.regs.filter fun e => !(keep && gateReg e.1))
    host := { s.host with extents := if keep then s.host.extents else snap.extents, lds := snap.lds } }
  let s2 := (s1.setBoot { s1.boot with adrift := adrift }).countGates
  if adrift then (s2.setPwr { s2.pwr with alert := true }).emit (.pldm .adrift) else s2

/-- The object blocks of a Warm reset as writes of ENG_SYNC_OWN would leave them: one no longer in use, or another
partition's, has its objects set to NONE (R347). -/
def Block.settleBlocks (s : Block) : Block :=
  forEach s.boot.syncOwn (fun e t =>
    let old := e.2.toNat
    let same := t.isSet (F.ENG_SYNC_OWN_EN e.1) && decide (t.fld (F.ENG_SYNC_OWN_PARTITION e.1) = getBits old 30 26)
    if getBits old 31 31 = 1 ∧ !same then t.clearObjBlock e.1 else t)
    (s.setBoot { s.boot with syncOwn := [] })

/-- A partition that a Cold reset finds torn down comes up WASHING, its DRAM poison already (R463). -/
def Block.rewash (s : Block) : Block :=
  forEach ((List.range 32).filter fun p => decide (s.ptnState p = ptnDraining ∨ s.ptnState p = ptnWashing)) (fun p t =>
    ({ t with sec := { t.sec with washed := Assoc.put 0 p washSteps t.sec.washed } } : Block).setPtn p ptnWashing) s

/-- Step 3: the BCH decoders tested (R192), the copies checked, a configuration selected. -/
def execConfigSelect (bchA bchB aOk bOk : Bool) (s : State) : Out :=
  s.act fun s => (s.atStep 3 fun t =>
    if !bchA && !bchB then (t.setFld F.INT_SELFTEST_RESULT 0x3).goTo .held
    else
      let t1 := t.setBit F.INT_SELFTEST_BCH_ONE (!(bchA && bchB))
      let t2 := if aOk then t1 else t1.spoilCopy false
      let t3 := ((if bOk then t2 else t2.spoilCopy true).showCopies).loadConfig
      let t4 := if t3.boot.cold then t3.rewash else t3.settleBlocks
      (((t4.setBit F.ALM_STATUS_WORN_ANY (decide (rwpWorn ≤ t.rwpNow.count))).setBit F.ALM_STATUS_NEAR_WORN_ANY
        (decide (rwpNear < t.rwpNow.count))).showCfgBytes).goTo (.release 4))

/-! ## Steps 4 to 6 -/

/-- VCORE of a die, in mV. -/
def Block.vcoreOf (s : Block) (d : Nat) : Nat := s.pwr.vcore.getD d 800

/-- The VCORE that a die may have at most: 0.65 V in a thermal trip (R58) and while the power limit is unmet (R67), 0.70 V
clamped at the limit temperature (R57), 0.75 V with a failed stage (R48). -/
def Block.vcoreCap (s : Block) (d : Nat) : Nat :=
  if (s.boot.phase = .entry ∧ s.boot.cause = 0x02) ∨ s.pwr.unmet then 650
  else if s.pwr.clamped.contains d then 700
  else if s.fld (F.RAS_STAGE_STATE_FAILED d) ≠ 0 then 750
  else 900

/-- A die's VCORE set, within its cap and no lower than 0.65 V (R67). -/
def Block.setVcore (s : Block) (d mv : Nat) : Block :=
  s.setPwr { s.pwr with vcore := s.pwr.vcore.set d (max 650 (min mv (s.vcoreCap d))) }

/-- Step 4: the main power stages bring every rail into regulation, VCORE at 0.80 V (R46, R79), or as high as the die may
have it (R48). -/
def execMainStagesStart (s : State) : Out :=
  s.act fun s => (s.atStep 4 fun t =>
    (forEach (List.range 4) (fun d u => u.setVcore d 800)
      (t.setPwr { t.pwr with setPoint := List.replicate 4 800 })).goTo (.release 5))

/-- A digest as a number, for the measurement log. -/
def imageNums (img : FwImage) : List Nat := img.digests.map (·.toNat)

/-- Whether the rind accepts an image (R89, R473). -/
def Block.accepts (s : Block) (img : FwImage) : Bool :=
  img.mldsaOk && img.ecdsaOk && img.digestsOk && decide (img.svn.toNat ≤ 64) && decide (s.fld F.SEC_SVN_MIN ≤ img.svn.toNat)
    && match img.key with
      | some k => decide (getBits (s.fld F.SEC_STATUS_REVOKED) k.val k.val = 0)
      | none => false

/-- The image in a slot. -/
def Block.slotImage (s : Block) (b : Bool) : Option FwImage := if b then s.boot.fwB else s.boot.fwA

/-- A slot verified in this boot: its VALID bit. -/
def Block.verify (s : Block) (b : Bool) : Bool × Block :=
  let ok := (s.slotImage b).any s.accepts
  (ok, if b then s.setBit F.RBT_FW_STATUS_B_VALID ok else s.setBit F.RBT_FW_STATUS_A_VALID ok)

/-- The measurements of an image from an index on: manifest, helm, binnacle, Bexa microcode, PHY (Table 16-4). -/
def Block.measureImage (s : Block) (img : FwImage) (from_ : Nat) : Block :=
  forEach ((List.range 5).filter fun k => decide (from_ ≤ k + 2)) (fun k t => t.extend (k + 2) [(imageNums img).getD k 0]) s

/-- What the rind measures at its release beside the images (Table 16-4). -/
def Block.measureRind (s : Block) : Block := s.extend 1 [s.fld F.SEC_SVN_MIN, s.fld F.SEC_STATUS_REVOKED]

/-- The debug and lifecycle state measured. -/
def Block.measureLife (s : Block) : Block := s.extend 8 [s.fld F.SEC_STATUS_DEBUG_UNLOCKED]

/-- The configuration body, and the debug and lifecycle state, measured. -/
def Block.measureRest (s : Block) : Block := (s.extend 7 [seqOf s.selectedCopy]).measureLife

/-- The measurement log restarted at an index: what was logged before it stays (R74). -/
def Block.restartLog (s : Block) (idx : Nat) : Block :=
  let kept := s.sec.log.takeWhile fun e => decide (e.1 < idx)
  (s.setSec { s.sec with log := kept }).setFld F.SEC_MEAS_COUNT_ENTRIES kept.length

/-- A slot's firmware runs. -/
def Block.runSlot (s : Block) (b : Bool) (img : FwImage) : Block :=
  let s1 := s.setBoot { s.boot with slotB := b }
  let s2 := ((s1.setBit F.RBT_FW_STATUS_SLOT b).setFld F.RBT_FW_STATUS_SVN img.svn.toNat).setFld F.SEC_SVN_RUNNING img.svn.toNat
  ((s2.setBit F.RBT_FW_STATUS_FALLBACK (decide (b ≠ s.rwpNow.value))).setBit F.RBT_FW_STATUS_TRIAL s2.boot.trial).setFld
    F.SEC_STATUS_BOOT_SLOT ((img.key.map (·.val)).getD 0)

/-- Step 5 of a Cold reset: the preferred slot, then the other (R90). -/
def Block.verifyCold (s : Block) : Block :=
  let s0 := s.setBoot { s.boot with trial := false }
  let p := s0.rwpNow.value
  let (ok, s1) := s0.verify p
  let (ok2, s2) := if ok then (false, s1) else s1.verify (!p)
  let b := if ok then p else !p
  match s2.slotImage b with
  | some img =>
    if ok || ok2 then (((((s2.runSlot b img).measureRind).measureImage img 2).measureRest).goTo (.release 6))
    else s2.goTo .held
  | none => s2.goTo .held

/-- Step 5 of a Warm reset: the running slot, or the one that ran before a trial that expired; a failure makes the reset
Cold (R90, R91). -/
def Block.verifyWarm (s : Block) : Block :=
  let expired := decide (s.boot.cause = 0x08)
  let b := if expired then s.boot.before else s.boot.slotB
  let s0 := s.setBoot { s.boot with trial := s.boot.trial && !expired }
  let (ok, s1) := s0.verify b
  match s1.slotImage b with
  | some img =>
    if ok then
      let idx := if b = s.boot.slotB then 3 else 2
      (((((s1.runSlot b img).restartLog idx).measureImage img idx).measureRest).goTo (.release 6))
    else s1.beginEntry true s1.boot.cause
  | none => s1.beginEntry true s1.boot.cause

/-- The recovery image of the rind's own ROM boots (R92). -/
def Block.bootRecovery (s : Block) : Block := ((s.measureRind).measureLife).goTo (.release 6)

/-- Step 5: firmware verified and measured (R89, R90, R92). -/
def execFirmwareVerify (s : State) : Out :=
  s.act fun s => (s.atStep 5 fun t =>
    if t.isSet F.RBT_STATUS_RECOVERY then t.bootRecovery
    else if t.boot.cold then t.verifyCold else t.verifyWarm)

/-- At HELD a PLDM update writes a slot; once a slot passes R89 the boot goes on from step 6 (R90).  A module held by its BCH
decoders has no almanac to boot with (R192). -/
def execFirmwareUpdateHeld (slot : Bool) (image : FwImage) (s : State) : Out :=
  s.act fun s => (
    if s.boot.phase ≠ .held then s
    else
      let s1 := s.setBoot (if slot then { s.boot with fwB := some image } else { s.boot with fwA := some image })
      let (ok, s2) := s1.verify slot
      if ok ∧ s.fld F.INT_SELFTEST_RESULT ≠ 0x3 then
        ((((((s2.runSlot slot image).revokeKey image.key image.revoke).measureRind).measureImage image 2).measureRest).goTo (.release 6)).emit
          (.pldmReply .ok)
      else s2.emit (.pldmReply (if ok then .ok else .verifyFailed)))

/-- Helm firmware confirms a trial: TRIAL clears and RBT_FW_PREF is written (R91, R496). -/
def execTrialConfirm (s : State) : Out :=
  s.act fun s => (
    if s.boot.trial ∧ s.boot.phase = .running then
      ((((s.setBoot { s.boot with trial := false }).setFld F.RBT_FW_STATUS_TRIAL 0).setFld F.RAS_UPDATE_STATUS_RESULT 0x2).writePref
        s.boot.slotB).setBit F.RBT_FW_STATUS_FALLBACK false
    else s)

/-- The tier blocks that firmware claims for itself after a Cold reset (R220). -/
def Block.claimBlocks (s : Block) (claims : List (BitVec 20)) : Block :=
  { s with pool := { s.pool with
      tiers := claims.foldl (fun t b => Assoc.put {} b.toNat { cls := clsFirmware, mode := modeNormal } t) s.pool.tiers } }

/-- Step 6: two active helm cores and a standby per die released; the operands name the dies whose cores do not start (R79),
and at a Cold reset the tier blocks that firmware claims (R220).  In recovery boot the module goes no further (R92). -/
def execHelmRelease (failed : BitVec 4) (s : State) (claims : List (BitVec 20) := []) : Out :=
  s.act fun s => (s.atStep 6 fun t =>
    if t.isSet F.RBT_STATUS_RECOVERY then t.goTo .recovery
    else
      let t1 := forEach ((List.range 4).filter fun d => failed.getLsbD d) (fun d u => u.loseDie d) t
      (if t.boot.cold then t1.claimBlocks claims else t1).goTo (.release 7))

/-! ## Step 7 -/

/-- Each stack's ACTIVE masks loaded from its NEXT masks (R150). -/
def Block.loadMasks (s : Block) : Block :=
  forEach (List.range 18) (fun k t => forEach (List.range 9) (fun j u =>
    u.rewrite (R.DRC_HASH_CH0 k + 4 * j) fun v => setBits v 14 0 (getBits v 30 16)) t) s

/-- The soft repairs of a stack burned where HARDEN_ALL asked for it (R169). -/
def Block.harden (s : Block) (k : Nat) : Block :=
  if s.isSet (F.DRC_PPR_STATUS_HARDEN_PENDING k) then
    let st := s.stk k
    ((s.setStk k { st with burned := st.burned ++ st.repairs, repairs := [] }).setFld (F.DRC_PPR_STATUS_HARDEN_PENDING k)
      0).setFld (F.DRC_PPR_STATUS_SOFT_COUNT k) 0
  else s

/-- The repair map of a stack whose training data was lost, rebuilt from the repairs found by its training (R191). -/
def Block.rebuildMap (s : Block) (k : Nat) (found : List (Fin 18 × Fin 64 × Fin 64 × BitVec 15)) : Block :=
  if (s.stk k).retrain then
    let mine := (found.filter fun r => decide (r.1.val = k)).map fun r => (r.2.1.val, r.2.2.1.val, r.2.2.2.toNat)
    (s.setStk k { s.stk k with retrain := false, repairs := mine }).setFld (F.DRC_PPR_STATUS_SOFT_COUNT k) mine.length
  else s

/-- A pseudo-channel marked FAILED. -/
def Block.failPc (s : Block) (k p : Nat) : Block :=
  if s.isSet (F.DRC_PC_STATE_FAILED k p) then s
  else ((s.setFld (F.DRC_PC_STATE_FAILED k p) 1).bump (F.DRC_TRAIN_STATUS_FAILED_PCS k)).health (.pcFailed k p)

/-- Failing lanes found by training on a pseudo-channel repaired onto its spare DQ, or the pseudo-channel FAILED (R163). -/
def Block.trainLanes (s : Block) (k p bad : Nat) : Block :=
  let used := s.fld (F.DRC_PC_STATE_LANES_SPARED k p)
  let s1 := s.setFld (F.DRC_PC_STATE_LANES_SPARED k p) (min (used + bad) 2)
  if 2 < used + bad then s1.failPc k p else s1

/-- Whether a stack has a FAILED pseudo-channel. -/
def Block.hasFailed (s : Block) (k : Nat) : Bool := decide (s.fld (F.DRC_TRAIN_STATUS_FAILED_PCS k) ≠ 0)

/-- A stack that fails training replaced at once by the spare of its half, with no copy-in, or left FAILED where none is to
be had (R163, R488); a spare that fails unused serves no more (DESIGN CHOICE, log 116). -/
def Block.trainedOut (s : Block) (bad : Nat → Bool) (k : Nat) : Block :=
  let sp := spareOf k
  let free := decide (k < 16) && (s.stk sp).replaces.isNone && !bad sp && decide (s.role sp = roleFilling)
  if k < 16 ∧ s.role k ≠ roleServing then s
  else if free then
    let s1 := (s.fault rcStack k).setStk sp { s.stk sp with replaces := some k }
    let s2 := (s1.setStk k { s1.stk k with replacedBy := some sp }).setFld (F.DRC_STACK_ID_ROLE k) roleRetired
    let s3 := (s2.setFld (F.DRC_STACK_ID_LOGICAL sp) k).setFld (F.DRC_STACK_ID_ROLE sp) roleServing
    s3.setRas { s3.ras with checkTwins := true }
  else if k < 16 ∨ s.role k = roleServing then s.leaveFailed k
  else s.setFld (F.DRC_STACK_ID_ROLE k) roleRetired

/-- The roles that a Cold training starts from: a replacement under way ends as a training replacement (R499), an armed spare is
filled anew (R173). -/
def Block.trainRoles (s : Block) : Block :=
  forEach (List.range 18) (fun k t =>
    let r := t.role k
    t.setFld (F.DRC_STACK_ID_ROLE k) (if r = roleCopyIn then roleServing else if r = roleCopyOut then roleRetired
      else if r = roleArmed then roleFilling else r)) s

/-- The masks and homes of the spares in service, those of the stacks that they replace (R22, R150). -/
def Block.placeSpares (s : Block) : Block :=
  forEach [16, 17] (fun sp t =>
    match (t.stk sp).replaces with
    | some k => (t.copyMasks sp k).spareHomes sp k
    | none => t) s

/-- RESULT and MS of a training. -/
def Block.trained (s : Block) (k result : Nat) : Block :=
  let (v, t) := s.fresh
  (t.setFld (F.DRC_TRAIN_STATUS_RESULT k) result).setFld (F.DRC_TRAIN_STATUS_MS k) v.toNat

/-- Step 7 of a Cold reset: every stack trained (R163).  The operands are what training finds: failing lanes beyond those
already spared, pseudo-channels whose pattern test fails, stacks that fail whole, row repairs of stacks that train in full. -/
def execDramTrain (lanes : List (Fin 18 × Fin 64 × Fin 39)) (banks : List (Fin 18 × Fin 64)) (whole : BitVec 18)
    (repairs : List (Fin 18 × Fin 64 × Fin 64 × BitVec 15)) (s : State) : Out :=
  s.act fun s => (s.atStep 7 fun t =>
    if !t.boot.cold then t
    else
      let t1 := ((t.trainRoles).loadMasks)
      let t2 := forEach (List.range 18) (fun k u => (u.harden k).rebuildMap k repairs) t1
      let t3 := forEach lanes (fun x u => u.trainLanes x.1.val x.2.1.val x.2.2.val) t2
      let t4 := forEach banks (fun x u => u.failPc x.1.val x.2.val) t3
      let t5 := forEach (List.range 18) (fun k u =>
        u.setStk k { u.stk k with failedWhole := (u.stk k).failedWhole || whole.getLsbD k }) t4
      let bad (k : Nat) : Bool := t5.hasFailed k || (t5.stk k).failedWhole
      let t6 := forEach (List.range 18) (fun k u => u.trained k
        (if bad k then 3 else if lanes.any fun x => decide (x.1.val = k) then 2 else 1)) t5
      let t7 := forEach ((List.range 18).filter bad) (fun k u => u.trainedOut bad k) t6
      let t8 : Block := { t7 with mem := { cells := [], vacant := [] } }
      ((t8.placeSpares).countDram).goTo (.release 8))

/-- Step 7 of a Warm reset: every stack but a retired one leaves self-refresh and retrains from its stored results, one whose
results were lost in full; an armed spare then rests in self-refresh again (R173); the operands name the pseudo-channels that fail, and the repairs found in full training (R164, R191). -/
def execDramRetrain (failed : List (Fin 18 × Fin 64)) (repairs : List (Fin 18 × Fin 64 × Fin 64 × BitVec 15)) (s : State) : Out :=
  s.act fun s => (s.atStep 7 fun t =>
    if t.boot.cold then t
    else
      let live (k : Nat) : Bool := decide (t.role k ≠ roleRetired) && (t.reachable k || decide (16 ≤ k))
      let t1 := forEach ((List.range 18).filter live) (fun k u =>
        let v := ((u.wakeStack k).trained k (if (u.stk k).retrain then 1 else 4)).rebuildMap k repairs
        if u.role k = roleArmed then v.sleepStack k else v) t
      let t2 := forEach failed (fun x u => u.failPc x.1.val x.2.val) t1
      let hit := (List.range 16).filter fun k => failed.any fun x => decide (x.1.val = k)
      let t3 := forEach hit (fun k u =>
        if u.role k = roleServing then
          if u.role (spareOf k) = roleArmed ∧ (u.stk (spareOf k)).replaces.isNone then u.replaceStack k else u.wantSpare k
        else u) t2
      let t4 := forEach ([16, 17].filter fun k => failed.any fun x => decide (x.1.val = k)) (fun k u =>
        if u.role k = roleServing then u.leaveFailed k
        else if u.role k = roleCopyIn then u.spareFails k else u.setFld (F.DRC_STACK_ID_ROLE k) roleRetired) t3
      t4.goTo (.release 8))

/-! ## Step 8 -/

/-- The cave channels found at a Cold reset, each with its usable targets; one with none counts as unfitted.  `rawGib` is the
raw capacity in GiB, the flush regions and the cave map counted out (R222, R223); the wear shown is the flash's (R231). -/
def Block.discover (s : Block) (found : List (Fin 32 × BitVec 8)) (rawGib : BitVec 32) : Block :=
  let channels := found.filter fun c => decide (c.2 ≠ 0)
  let s1 := forEach channels (fun c t =>
    (t.setFld (F.TIR_CH_STATUS_STATE c.1.val) 2).setFld (F.TIR_CH_STATUS_TGT_FITTED c.1.val) c.2.toNat)
    (s.setFld F.TIR_CAVE_WEAR_LIFE_PCT s.pool.caveWear)
  let fitted := ((List.range 32).filter fun c => channels.any fun x => decide (x.1.val = c)).length
  ((s1.setFld F.TIR_CAVE_STATUS_CH_FITTED fitted).setFld F.TIR_CAVE_CAPACITY_GIB
    (min (rawGib.toNat * 7 * 3 / 32) 262144)).setBit F.TIR_CAVE_STATUS_READ_ONLY
    (decide (100 ≤ s.pool.caveWear))

/-- A die released with the others: in service, its clusters with it, the slots of one that is retired handed over; a cluster
lent for it is handed back (R79, R282, R492). -/
def Block.releaseDie (s : Block) (d : Nat) : Block :=
  let s1 := s.setDie d dsIn
  let s2 := if s.ras.lent.any fun x => decide (x.1 / 9 = d) then s1.handBack d else s1
  let s3 := (forEach ((List.range 9).map (9 * d + ·)) (fun c t => t.moveCores c csOut csIn) s2).settleHomes d
  if s.fld (F.RAS_DIE_STATE_STATE d) = dsReturning then s3.stacksHome d else s3

/-- Whether step 8 releases a die: at Cold every one, at Warm those in service and RETURNING (R79). -/
def Block.releases (s : Block) (d : Nat) : Bool :=
  let st := s.fld (F.RAS_DIE_STATE_STATE d)
  if s.boot.cold then decide (st ≠ dsLost) else decide (st = dsIn ∨ st = dsReturning)

/-- A stack port whose line-code checker fails: it serves no stack from now, a spare brought in later neither, and each stack that has a home there loses that interface
(R192). -/
def Block.failStackPort (s : Block) (die port : Nat) : Block :=
  forEach (List.range 18) (fun k t =>
    let t1 := if t.homeDie k false = die ∧ t.fld (F.DRC_HOME_PRI_PORT k) = port then t.failIface k 0 else t
    if t1.homeDie k true = die ∧ t1.fld (F.DRC_HOME_ALT_PORT k) = port then t1.failIface k 1 else t1)
    { s with pool := { s.pool with badPorts := if s.pool.badPorts.contains (die, port) then s.pool.badPorts
                                               else (die, port) :: s.pool.badPorts } }

/-- The stack ports whose checker fails: those found by their hardware, or every one should the code not give the vectors of
Table 6-7 (R192). -/
def failedPorts (found : List (Fin 4 × Fin 4)) : List (Nat × Nat) :=
  if lineSelfTest then found.map fun x => (x.1.val, x.2.val)
  else (List.range 16).map fun i => (i / 4, i % 4)

/-- Step 8: pool dies released and checkers tested.  The operands name the dies that fail their self-test, the stack ports
whose checker fails (a die and its port), clusters, cores and ways whose SECDED checker fails, and the cave channels found
(R79, R192). -/
def execPoolDieRelease (dies : BitVec 4) (found : List (Fin 4 × Fin 4)) (clusters : BitVec 36) (cores : List (Fin 324))
    (ways : List (Fin 36 × BitVec 8 × Fin 16)) (channels : List (Fin 32 × BitVec 8)) (rawGib : BitVec 32) (s : State) : Out :=
  s.act fun s => (s.atStep 8 fun t =>
    let t1 := forEach ((List.range 4).filter t.releases) (fun d u => if dies.getLsbD d then u.loseDie d else u.releaseDie d) t
    let t2 := if t.boot.cold then t1.discover channels rawGib else t1
    let ports := failedPorts found
    let t3 := forEach ports (fun x u => u.failStackPort x.1 x.2) t2
    let bad := (List.range 36).filter fun c => clusters.getLsbD c
    let t4 := forEach bad (fun c u => u.failCluster c) t3
    let t5 := forEach cores (fun k u => if u.fld (F.ENG_CORE_STATE_STATE k.val) = csIn then u.failCore k.val else u) t4
    let t6 := forEach ways (fun w u => u.retireWay w.1.val w.2.1.toNat w.2.2.val) t5
    let sram := bad.length + cores.length + ways.length
    let some_ := decide (dies ≠ 0) || decide (ports ≠ []) || decide (sram ≠ 0)
    let t7 := ((t6.setFld F.INT_SELFTEST_RS_FAILED (min ports.length 255)).setFld F.INT_SELFTEST_SRAM_FAILED
      (min sram 255)).setFld F.INT_SELFTEST_RESULT (if some_ then 2 else 1)
    let held := match t7.selectedCopy with
      | some c => c.body.regs.map (·.1)
      | none => []
    ((t7.followChannels.defaultQuotas held).countCaps).goTo (.release 9))

end Sys2Proof.Machine
end

