-- ==== Sys2Proof/Machine/Replay.lean ====
section
/-! DEFINITION.  Steps 9 and 10 of Table 3-4: the configuration's units in force again, the logbook restored (R129, R130) and
replayed (R132–R134), ports and links released (R79). -/

namespace Sys2Proof.Machine

/-! ## Units that the configuration enables -/

/-- Whether a partition's units come back in force: not those of one torn down (R463). -/
def Block.comesBack (s : Block) (p : Nat) : Bool :=
  decide (s.ptnState p ≠ ptnWashing) && !(decide (s.ptnState p = ptnDraining) && s.ptnSettled p)

/-- The entries of a register array whose register at `off` differs from its reset value. -/
def Block.entries (s : Block) (base stop stride off : Nat) : List Nat := (s.listed base stop stride off).eraseDups

/-- A unit's restored ENABLE acted on as a write of it would be: 1 from OFF enables it, 0 takes it out of force. -/
def Block.reEnable (s : Block) (f : Fld) (live back : Bool) (on off_ : Block → Block) : Block :=
  if s.isSet f ∧ back then (if live then s else on (s.setFld f 0))
  else if live then off_ s
  else s.setFld f 0

/-- A fault queue enabled again at Cold: its region written with zeros, PRODUCE and CONSUME 0 (R261). -/
def Block.reviveQueue (s : Block) (p : Nat) : Block :=
  let s1 := forEach (List.range (s.fqBytes p / 64)) (fun i t =>
    t.writeModule { q := .engine p, at_ := .line (s.fqBase p + 64 * i), mask := List.replicate 64 true
                    bytes := List.replicate 64 0 }) s
  s1.fqEnable p

/-- An EXTENT gate of the configuration: ACTIVE if it had been accepted, else OFFERED. -/
def Block.reviveExtent (s : Block) (g : Nat) : Block :=
  if s.fld (F.HPT_GATE_STATE_STATE g) ≠ gtOff then s
  else s.setGate g (if s.isSet (F.HPT_GATE_CFG_ENABLE g) then gtActive else gtOffered)

/-- The units of the configuration in force again, in the order in which they lean on each other: twins, cave extents,
commons regions, gates, contexts, fault queues, streams. -/
def Block.reviveUnits (s : Block) : Block :=
  let s1 := forEach ((s.entries (R.INT_TWIN_BASE_LO 16) (R.INT_TWIN_BASE_LO 256) 0x40
      (R.INT_TWIN_CFG 0 - R.INT_TWIN_BASE_LO 0)).map (· + 16)) (fun t u =>
    u.reEnable (F.INT_TWIN_CFG_ENABLE t) (decide (u.fld (F.INT_TWIN_STATE_STATE t) ≠ twOff))
      (u.comesBack (u.fld (F.INT_TWIN_CFG_PARTITION t))) (·.twinEnable t) (·.twinOff t)) s
  let s2 := forEach (List.range 1024) (fun x u =>
    u.reEnable (F.TIR_CX_CFG_ENABLE x) (decide (u.fld (F.TIR_CX_STATE_STATE x) ≠ 0))
      (u.comesBack (u.fld (F.TIR_CX_CFG_PARTITION x))) (·.extentEnable x) (·.extentRelease x true)) s1
  let s3 := forEach (List.range 64) (fun r u =>
    u.reEnable (F.HPT_CMN_CFG_ENABLE r) (decide (u.fld (F.HPT_CMN_STATE_STATE r) ≠ cmOff)) true (·.commonsEnable r)
      (·.commonsDisable r)) s2
  let s4 := forEach (s3.entries (R.HPT_GATE_BASE_LO 0) (R.HPT_GATE_BASE_LO 4096) 0x20
      (R.HPT_GATE_CFG 0 - R.HPT_GATE_BASE_LO 0)) (fun g u =>
    if u.isExtent g then u.reviveExtent g
    else u.reEnable (F.HPT_GATE_CFG_ENABLE g) (decide (u.fld (F.HPT_GATE_STATE_STATE g) ≠ gtOff))
      (u.comesBack (u.fld (F.HPT_GATE_CFG_PARTITION g))) (·.gateEnable g) (·.gateDisable g)) s3
  let s5 := forEach (s4.entries (R.XLT_CTX_TABLE_LO 0) (R.XLT_CTX_TABLE_LO 4096) 0x10
      (R.XLT_CTX_CFG 0 - R.XLT_CTX_TABLE_LO 0)) (fun c u =>
    if u.isSet (F.XLT_CTX_CFG_ENABLE c) ∧ u.comesBack (u.fld (F.XLT_CTX_CFG_PARTITION c)) then (u.reloadErr c).loadSegments c
    else u.setFld (F.XLT_CTX_CFG_ENABLE c) 0) s4
  let s6 := forEach (List.range 32) (fun p u =>
    if u.isSet (F.XLT_FQ_CFG_ENABLE p) ∧ (u.boot.cold || !u.comesBack p) then
      let v := u.setFld (F.XLT_FQ_CFG_ENABLE p) 0
      if u.comesBack p then v.reviveQueue p else v.setFq p {}
    else u) s5
  forEach (s6.entries (R.ENG_ST_CFG 0) (R.ENG_ST_CFG 16384) 0x10 0) (fun st u =>
    u.reEnable (F.ENG_ST_CFG_ENABLE st) false (u.comesBack (u.fld (F.ENG_ST_CFG_PARTITION st))) (·.streamEnable st) id) s6

/-- Steps 3 and 4 of Table 16-3 against the configuration restored, for every partition torn down (R463). -/
def Block.reTear (s : Block) : Block :=
  forEach ((List.range 32).filter fun p => !s.comesBack p) (fun p t =>
    let t1 := t.closeHosts p
    if t1.ptnState p = ptnWashing ∨ t1.gatesOf p ≠ [] then t1.settleFour p
    else (t1.settleFour p).beginWash p) s

/-! ## The logbook (R129, R130) -/

/-- What a restore finds in the flush regions other than what was written (R129): the channels that supply no pieces, and the
copies of pieces, by channel, half (true is the second) and INDEX, that read differently, with the header and payload read. -/
structure FlushFaults where
  silent : List Nat
  read : List ((Nat × Bool × Nat) × (List Byte × List Byte))

/-- The header of a piece of a flush, with a payload (Table 4-14). -/
def Flush.header (x : Flush) (index : Nat) (payload : List Byte) : List Byte :=
  let h := leBytes 4 0x464C5553 ++ leBytes 2 1 ++ leBytes 2 0 ++ leBytes 8 x.seq ++ leBytes 4 index
    ++ leBytes 4 x.pieces.length ++ x.device ++ leBytes 4 (crc32c payload) ++ List.replicate 16 0
  h ++ leBytes 4 (crc32c h)

/-- Whether a piece copy reads as a piece of a flush: every field of its header as Table 4-14 has it, and both CRCs matching. -/
def Flush.takes (x : Flush) (index : Nat) (header payload : List Byte) : Bool := decide (header = x.header index payload)

/-- Whether a piece of a flush is read with both CRCs matching, from a fitted channel, FAILED ones too (R129): a copy that reads
as it was written, or one that still takes its place. -/
def Block.suppliesPiece (s : Block) (w : FlushFaults) (x : Flush) (p : FlushPiece) : Bool :=
  decide (p.tweaks = pieceTweaks x.half p.index p.channels) && p.channels.any fun c => decide (s.fld (F.TIR_CH_STATUS_STATE c) ≠ 0) && !s.dieOut (c / 8) && !w.silent.contains c
    && match w.read.find? fun r => decide (r.1 = (c, decide (x.half ≠ 0), p.index)) with
      | some r => x.takes p.index r.2.1 r.2.2
      | none => true

/-- The flush that a restore takes: the highest FLUSH_SEQ of the module's own flushes that are not consumed and of which every
piece is supplied (R129). -/
def Block.candidate (s : Block) (w : FlushFaults) : Option Flush :=
  let f := s.ctl.flush
  (f.flushes.filter fun x => x.complete && decide (f.consumed < x.seq) && decide (x.device = s.deviceId)
    && decide (x.pieces ≠ []) && x.pieces.all (s.suppliesPiece w x)).foldl
    (fun best x => match best with
      | none => some x
      | some b => if b.seq < x.seq then some x else some b) none

/-- The logbook, the rings' counters and the disabled functions taken from a flush. -/
def Block.takeFlush (s : Block) (x : Flush) : Block :=
  let s1 : Block := { s with ctl := { s.ctl with logbook := x.log } }
  let s2 := forEach x.rings (fun g t => t.setRing g.ring g.counters.counters) s1
  let s3 := forEach x.disabled (fun fn t => t.setFnDisabled fn true) s2
  (s3.setBoot { s3.boot with modes := x.rings }).consumeFlush x.seq

/-- Without a flush every ring is OFF with ENABLE 0, and no entry survives (R130). -/
def Block.noFlush (s : Block) : Block :=
  let s1 := forEach (s.entries (R.RNG_DESC_LO 0) (R.RNG_DESC_LO 4096) 0x20 (R.RNG_CFG 0 - R.RNG_DESC_LO 0))
    (fun r t => t.setFld (F.RNG_CFG_ENABLE r) 0) s
  ({ s1 with ctl := { s1.ctl with logbook := [], rings := [], disables := [] } } : Block).setBoot { s1.boot with modes := [], flush := .notApplicable }
    |>.setFld F.RBT_LAST_CAUSE_NO_FLUSH 1

/-- The logbook of a Cold reset restored. -/
def Block.restoreLog (s : Block) (w : FlushFaults) : Block :=
  match s.candidate w with
  | some x => s.takeFlush x
  | none => s.noFlush

/-- The STATE code of an entry (Table 4-6). -/
def EntryState.code : EntryState → Nat
  | .accepted => 1
  | .started => 2
  | .committing => 3
  | .done => 4
  | .completed => 5

/-- The 64-byte header of an entry in the logbook (Table 4-6); the place of its staging area is the module's own. -/
def LogEntry.header (e : LogEntry) : List Byte :=
  let stage := if e.stage = [] then 0 else (Config.stagePlace e.ring e.seq).toNat
  let h := leBytes 8 (e.state.code * 2 ^ 60 + e.ring * 2 ^ 48 + e.bodySlots * 2 ^ 46 + (if e.signalled then 2 ^ 45 else 0)
      + (if e.held then 2 ^ 44 else 0))
    ++ leBytes 8 e.seq ++ leBytes 8 e.slot ++ leBytes 8 (e.units * 2 ^ 32 + e.unitsDone) ++ leBytes 8 stage
    ++ leBytes 8 e.result ++ leBytes 8 (e.cplStatus * 2 ^ 56 + e.cplDetail * 2 ^ 48 + e.resultLen)
  h ++ leBytes 8 (crc32c h)

/-- Whether a header read from the logbook is sound: its HDR_CHECK matches and its STATE is not reserved (Table 4-6). -/
def entryHeaderOk (h : List Byte) : Bool :=
  let st := ofLeBytes (h.take 8) / 2 ^ 60
  decide (ofLeBytes ((h.drop 56).take 4) = crc32c (h.take 56)) && decide (1 ≤ st ∧ st ≤ 5)

/-- The entries whose header reads differently from what was written in both copies of the logbook twin, and is sound in neither
(R131): each with the two headers read. -/
def Block.corruptEntries (s : Block) (read : List ((Nat × Nat) × (List Byte × List Byte))) : List (Nat × Nat) :=
  (s.ctl.logbook.filter fun e => match read.find? fun r => decide (r.1 = (e.ring, e.seq)) with
    | some r => [r.2.1, r.2.2].all fun h => !(decide (h = e.header) || entryHeaderOk h)
    | none => false).map fun e => (e.ring, e.seq)

/-- Entries found corrupt in both copies of the logbook twin, by HDR_CHECK or a reserved STATE, are lost: their ring comes up in
MODE ERROR with ERR 0x09 and ERR_SEQ the first of them (R120, R131). -/
def Block.loseEntries (s : Block) (lost : List (Nat × Nat)) : Block :=
  let gone := s.ctl.logbook.filter fun e => lost.contains (e.ring, e.seq)
  let first (r : Nat) : Option Nat := ((gone.filter fun e => decide (e.ring = r)).map (·.seq)).min?
  let s1 : Block := { s with ctl := { s.ctl with
    logbook := s.ctl.logbook.filter fun e => !lost.contains (e.ring, e.seq) } }
  let s2 := forEach (gone.map (·.ring)).eraseDups (fun r t =>
    t.setRing r { t.ring r with errSeq := (first r).getD (t.ring r).errSeq }) s1
  s2.setBoot { s2.boot with
    modes := s2.boot.modes.map fun g => if (first g.ring).isSome then { g with mode := mdError, err := 0x09 } else g }

/-! ## Replay (R132–R134) -/

/-- An EMPTY record, or an unconsumed completion record, in a completion slot of a ring (R133). -/
def Block.slotRecord (s : Block) (r slot : Nat) : List Byte :=
  let n := s.ringSlots r
  let g := s.ring r
  let due := g.completed + (slot + n - g.completed % n) % n
  let old := (s.entriesOf r).find? fun e => decide (e.seq + n = due) && decide (g.consume ≤ e.seq) && decide (e.state = .completed)
  match old with
  | some e => s.completionRecord e e.seq
  | none => List.replicate 16 0 ++ leBytes 8 (0xFF * 2 ^ 56) ++ leBytes 8 (due / n % 2 * 2 ^ 63 + r * 2 ^ 48)

/-- The completion region of a ring written whole, line by line, so that no line of it stays poison (R133). -/
def Block.putRegion (s : Block) (r : Nat) : Block :=
  let g := s.ring r
  let put (t : Block) (k : Nat) (bytes : List Byte) : Block :=
    t.writeModule { q := .engine (s.ringPtn r), ring := some r, at_ := .line (s.cplBase r + 64 * k), mask := List.replicate 64 true
                    bytes := bytes }
  let s1 := put s 0 (leBytes 8 g.accept ++ leBytes 8 g.consume ++ List.replicate 48 0)
  forEach (List.range (s.ringSlots r / 2)) (fun c t => put t (2 + c) (s.slotRecord r (2 * c) ++ s.slotRecord r (2 * c + 1))) s1

/-- The MODE that a ring takes when its replay ends: what it held before the reset (R132). -/
def FlushedRing.target (g : FlushedRing) : Nat :=
  if g.mode = mdStepping then mdRunning
  else if g.mode = mdReplay then g.counters.after.getD mdRunning
  else g.mode

/-- Whether a ring is defined after the reset: enabled, or in DRAINING or ERROR when the reset came, MODEs that a ring whose
ENABLE is 0 may have and that the reset gives back (R100, R109, R132). -/
def Block.ringDefined (s : Block) (r : Nat) : Bool :=
  s.isSet (F.RNG_CFG_ENABLE r)
    || s.boot.modes.any fun g => decide (g.ring = r) && (decide (g.target = mdDraining) || decide (g.target = mdError))

/-- An entry as a replay takes it up: finished ones as they are, others from their last mark (R127). -/
def LogEntry.resumed (e : LogEntry) : LogEntry :=
  if e.settled then e
  else { e with
    replayed := true, waitMet := false, released := false, startedAt := none
    fin := if e.state = .accepted then e.fin else none }

/-- A defined ring whose record the reset kept goes into REPLAY, or into COLD_HOLD (R132, R134). -/
def Block.replayRing (s : Block) (g : FlushedRing) : Block :=
  let r := g.ring
  let hold := decide (g.target = mdColdHold) || (s.boot.cold && s.isSet (F.RNG_CFG_COLD_HOLD r))
  let back := if g.target = mdColdHold then mdRunning else g.target
  let armed := decide (back ≠ mdFnDisabled)
  let s1 := (s.setRing r { s.ring r with armed := armed, pending := armed, after := some back }).setFld (F.RNG_STATE_ERR r) g.err
  let s2 := if s.boot.cold then s1.putRegion r else s1
  (s2.setMode r (if hold then mdColdHold else mdReplay)).countEntries r

/-- A ring that the configuration enables and that was OFF before is enabled as by a write (R138). -/
def Block.replayNew (s : Block) (r : Nat) : Block := (s.setFld (F.RNG_CFG_ENABLE r) 0).ringEnable r

/-- Step 9: every entry of a defined ring resumed, the others held; the rings in their MODEs (R132).  What
RNG_REPLAY shows of it is DESIGN CHOICE, logs 139 and 140. -/
def Block.replay (s : Block) : Block :=
  let kept := s.boot.modes
  let free (e : LogEntry) : Bool := s.ringDefined e.ring && !s.boot.adrift
  let s1 : Block := { s with ctl := { s.ctl with
    stopped := false
    logbook := s.ctl.logbook.map fun e => if free e then { e.resumed with held := false } else { e with held := true } } }
  let resumed := (s1.ctl.logbook.filter fun e => free e && !e.settled
    && !(s.boot.cold && s.isSet (F.RNG_CFG_COLD_HOLD e.ring))).length
  let s2 := forEach (kept.filter fun g => s.ringDefined g.ring && !s.boot.adrift) (fun g t => t.replayRing g) s1
  let s3 := forEach ((s2.entries (R.RNG_DESC_LO 0) (R.RNG_DESC_LO 4096) 0x20 (R.RNG_CFG 0 - R.RNG_DESC_LO 0)).filter fun r =>
    s2.isSet (F.RNG_CFG_ENABLE r) && !kept.any fun g => decide (g.ring = r)) (fun r t => t.replayNew r) s2
  let s4 := forEach s3.ringsOn (fun r t => t.endReplay r)
    (forEach (s3.ctl.logbook.map (·.ring)).eraseDups (fun r t => t.countEntries r) s3).evalWaits
  let s5 := forEach s4.ringsOn (fun r t => if t.ringMode r = mdRunning ∨ t.ringMode r = mdDraining then t.service r else t) s4
  (s5.setBoot { s5.boot with modes := [], logOk := true }).restored (if s.boot.cold then 0x03 else 0x01) resumed

/-- Step 9 of Table 3-4: the configuration's units, the logbook of a Cold reset from the flush regions, the replay.  The operands
name what is found: channels that supply no pieces; copies of pieces that read differently, by channel, half and INDEX, with the
header and payload read; and entries whose headers read differently, with those of the two copies of the logbook. -/
def execLogbookReplay (silent : List (Fin 32)) (pieces : List (Fin 32 × Bool × BitVec 16 × List (BitVec 8) × List (BitVec 8)))
    (s : State) (headers : List (Fin 4096 × BitVec 64 × List (BitVec 8) × List (BitVec 8)) := []) : Out :=
  s.act fun s => (s.atStep 9 fun t =>
    let t1 := (t.reviveUnits).reTear
    let w : FlushFaults := { silent := silent.map (·.val), read := pieces.map fun x =>
      ((x.1.val, x.2.1, x.2.2.1.toNat), (x.2.2.2.1, x.2.2.2.2)) }
    let t2 := if t.boot.cold then t1.restoreLog w else t1
    let lost := t2.corruptEntries (headers.map fun x => ((x.1.val, x.2.1.toNat), (x.2.2.1, x.2.2.2)))
    ((t2.loseEntries lost).replay).goTo (.release 10))

/-- Step 10: host ports and Pefin links released; the stage reads PORTS_READY. -/
def execPortsRelease (s : State) : Out :=
  s.act fun s => (s.atStep 10 fun t =>
    let t1 := forEach ((List.range 96).filter fun l => !t.dieOut (l / 24)) (fun l u => u.releaseLink l) t
    (t1.setFld F.RBT_BOOT_TIME_MS ((t.now - t.boot.t0) / 1000)).goTo .running)

end Sys2Proof.Machine
end

