-- ==== Sys2Proof/Machine/Power.lean ====
section
/-! DEFINITION.  Supply, PWR_FAIL_N, temperatures and clocks (chapter 2): what each event of them does. -/

namespace Sys2Proof.Machine

/-! ## Power-up and shutdowns (R46) -/

/-- VIN passes the rising lockout: a power-on Cold reset (R46, R72). -/
def execPowerOn (s : State) : Out :=
  s.act fun s => (
    if s.boot.phase = .unpowered then
      ((s.setBoot { s.boot with cold := true, cause := 0x00 }).emit (.reset 0x00 0)).beginCold
    else s)

/-- Every power stage stops: what is not kept by the almanac, SPI NOR or the backup domain is gone; without a flush that
completed, none took place (R46, R52). -/
def Block.shutDown (s : Block) (p : Phase) : Block :=
  let s1 := s.abandonCommit
  let s1 := s1.losePending
  let s2 := s1.setBoot { s1.boot with flush := if s1.boot.flush = .flushed then .flushed else .noFlush }
  let s3 := s2.coldClear
  (s3.setPwr { failPin := s.pwr.failPin, hpLost := s.pwr.hpLost }).goTo p

/-- VIN falls below the falling lockout (R46); it ends a latched shutdown too. -/
def execUndervoltageShutdown (s : State) : Out :=
  s.act fun s => (
    match s.boot.phase with
    | .unpowered => s
    | .latched => s.goTo .unpowered
    | _ => s.shutDown .unpowered)

/-- VIN exceeds the overvoltage threshold: the shutdown is latched (R46). -/
def execOvervoltageShutdown (s : State) : Out := s.act fun s => (if s.powered then s.shutDown .latched else s)

/-- VBK below its retention threshold while VIN is absent (R54). -/
def execVbkRetentionLoss (s : State) : Out :=
  s.act fun s => (if s.boot.phase = .unpowered then s.setBoot { s.boot with vbkOk := false, flush := .unknown } else s)

/-- VIN enters or leaves the band from 43 V to 46 V: the limit is 1,200 W in it (R46). -/
def execInputLow (on : Bool) (s : State) : Out :=
  s.act fun s => (
    if !s.powered then s
    else
      let t := s.setPwr { s.pwr with low := on }
      if on ∧ !s.pwr.low then t.emit (.pldm .inputLow) else t)

/-- VIN enters or leaves the band from 59 V to 62 V (R46). -/
def execInputHigh (on : Bool) (s : State) : Out :=
  s.act fun s => (
    if !s.powered then s
    else
      let t := s.setPwr { s.pwr with high := on }
      if on ∧ !s.pwr.high then t.emit (.pldm .inputHigh) else t)

/-! ## VCORE -/

/-- Whether the rails are up, so that the sensors read. -/
def Block.railsUp (s : Block) : Bool :=
  s.powered && match s.boot.phase with
    | .railsOff => false
    | .thermalHold _ => false
    | .release n => decide (4 < n)
    | _ => true

/-- VCORE of every die lowered, in steps of 5 mV; how far is the module's own (R47). -/
def Block.lowerVcore (s : Block) : Block :=
  forEach (List.range 4) (fun d t =>
    let (v, u) := t.fresh
    let steps := (u.vcoreOf d - 650) / 5
    u.setVcore d (u.vcoreOf d - 5 * (1 + v.toNat % max steps 1))) s

/-- Input power above 2,150 W (R47). -/
def execPeakPowerLimit (s : State) : Out := s.act fun s => (if s.railsUp then s.lowerVcore else s)

/-- Input power above the limit in force for 8 ms: firmware lowers VCORE; the operand says that the limit is still unmet with
every rail at 0.65 V (R47, R67). -/
def execPowerExcursionTimeout (unmet : Bool) (s : State) : Out :=
  s.act fun s => (
    if !s.railsUp then s
    else if unmet then
      let s1 := s.setPwr { s.pwr with unmet := true, alert := true }
      (forEach (List.range 4) (fun d t => t.setVcore d 650) s1).emit (.pldm .limitUnmet)
    else (s.setPwr { s.pwr with unmet := false }).lowerVcore)

/-- Whether the binnacle switches to its new image, and answers PLDM and I3C requests as not ready (Table 17-4). -/
def Block.switching (s : Block) : Bool := s.ras.activation.any fun a => decide (a.step = 3)

/-- A PLDM request sets the power limit, or is refused with invalid data (R47). -/
def execSetPowerLimit (watts : BitVec 16) (s : State) : Out :=
  s.act fun s => (
    let w := watts.toNat
    if !s.islandUp then s
    else if s.switching then s.emit (.pldmReply .notReady)
    else if 1000 ≤ w ∧ w ≤ 1800 ∧ w % 10 = 0 then (s.setPwr { s.pwr with limit := w }).emit (.pldmReply .ok)
    else s.emit (.pldmReply .invalidData))

/-- The power limit in force (R46, R47); 600 W while PWR_FAIL_N holds the module (R50). -/
def Block.limitNow (s : Block) : Nat :=
  if s.pwr.held then 600 else if s.pwr.low then min s.pwr.limit 1200 else s.pwr.limit

/-- A power stage fails: its partner carries the rails with VCORE capped, or the die is lost (R48). -/
def execPowerStageFail (die : Fin 4) (stage : Fin 2) (s : State) : Out :=
  s.act fun s => (
    let d := die.val
    let f := F.RAS_STAGE_STATE_FAILED d
    if !s.powered || decide (getBits (s.fld f) stage.val stage.val = 1) then s
    else
      let s1 := s.setFld f (setBits (s.fld f) stage.val stage.val 1)
      if s1.fld f = 3 then s1.loseDie d
      else ((s1.setVcore d (s1.vcoreOf d)).bump F.RAS_SINGLE_COUNT_COUNT).emit (.pldm (.stageFailed d stage.val)))

/-- VCORE of a die below 0.62 V with no set-point that asked for it (R56). -/
def execVcoreDroop (die : Fin 4) (s : State) : Out := s.act fun s => (if s.railsUp then s.loseDie die.val else s)

/-! ## PWR_FAIL_N (R49–R53) -/

/-- Whether a logical stack can be read through either home of the stack that serves it. -/
def Block.readableStack (s : Block) (l : Nat) : Bool := (s.servingStack l).any s.reachable

/-- Whether every part of the logbook can be read in copy A or copy B (R52, Table 4-9). -/
def Block.logReadable (s : Block) : Bool :=
  s.boot.logOk && Config.logbookStacks.all fun p => s.readableStack p.1 || s.readableStack p.2

/-- The flush of R50 begins, or the backup domain records that none took place (R52). -/
def Block.flushOrNot (s : Block) : Block :=
  if s.pwr.flushing then s
  else if s.logReadable ∧ !s.isSet F.RNG_LOGBOOK_LIMIT_NO_FLUSH then
    let t := s.beginFlush
    t.setPwr { t.pwr with own := some t.ctl.flush.begun }
  else if s.boot.flush = .flushed then s
  else s.setBoot { s.boot with flush := .noFlush }

/-- Every Pefin link that sends goes to DOWN, its lanes in electrical idle (R50). -/
def Block.idleLinks (s : Block) : Block :=
  forEach (List.range 96) (fun l t =>
    if t.linkState l = lkOff ∨ t.linkState l = lkDown then t else t.linkDown l 0x5) s

/-- What R50 does at once: acceptance and engines stop, stacks without the logbook sleep, links stay idle, and the input
power falls to 600 W. -/
def Block.failHold (s : Block) : Block :=
  let rest := (List.range 18).filter fun k =>
    !(s.stk k).selfRefresh && !Config.logbookStacks.any fun p =>
      decide (s.servingStack p.1 = some k) || decide (s.servingStack p.2 = some k)
  let s1 := forEach rest (fun k t => t.sleepStack k) s.abandonCommit
  let s2 := (forEach (List.range 4) (fun d t => t.dropPorts d) s1).idleLinks
  let s3 := s2.setPwr { s2.pwr with held := true, slept := rest }
  ({ s3 with ctl := { s3.ctl with stopped := true } } : Block).flushOrNot

/-- PWR_FAIL_N asserted (R50, R53). -/
def execPwrFailAssert (s : State) : Out :=
  s.act fun s => (
    let s1 := s.setPwr { s.pwr with failPin := true }
    if !s.powered || s.pwr.ignored || s.pwr.held then s1 else s1.failHold)

/-- The flush that the hold began is superseded (R52, R129). -/
def Block.supersede (s : Block) : Block :=
  match s.pwr.own with
  | some q => s.consumeFlush q
  | none => s

/-- The hold ends without a reset (R52, R53): a sequence that it stopped goes on where it was. -/
def Block.endHold (s : Block) : Block :=
  let cut := decide (s.boot.phase = .entry) && s.pwr.own.isNone && decide (s.boot.flush = .flushed)
  let s1 := forEach s.pwr.slept (fun k t => t.wakeStack k) s.supersede
  let s2 := s1.setPwr { s1.pwr with held := false, own := none, slept := [] }
  if cut then s2.cutRails
  else forEach (List.range 96) (fun l t => t.linkWake l) { s2 with ctl := { s2.ctl with stopped := decide (s.boot.phase ≠ .running) } }

/-- The flush has been written: a Cold entry goes on to take the rails off, a stuck input is resumed from (R53, R78). -/
def execFlushComplete (s : State) : Out :=
  s.act fun s => (
    if !s.pwr.flushing then s
    else
      let t := s.flushWritten
      if t.pwr.held then (if t.pwr.ignored then t.endHold else t)
      else if t.boot.phase = .entry then t.cutRails else t)

/-- PWR_FAIL_N released: 10 ms must pass (R52, R53). -/
def execPwrFailRelease (s : State) : Out := s.act fun s => (s.setPwr { s.pwr with failPin := false })

/-- PWR_FAIL_N released for 10 ms: a stuck input counts again, and with VIN at or above 46 V the module resumes once its
flush is complete (R52, R53). -/
def execPwrFailResume (s : State) : Out :=
  s.act fun s => (
    if s.pwr.failPin then s
    else
      let t := s.setPwr { s.pwr with ignored := false }
      if t.pwr.held ∧ !t.pwr.flushing ∧ !t.pwr.low then t.endHold else t)

/-- PWR_FAIL_N asserted for 1 s with VIN good, or 16 assertions in 1 s: the input is stuck (R53). -/
def execPwrFailStuck (s : State) : Out :=
  s.act fun s => (
    if !s.powered || s.pwr.ignored || !s.pwr.failPin || s.pwr.low then s
    else
      let t := (s.setPwr { s.pwr with ignored := true, alert := true }).emit (.pldm .failStuck)
      if t.pwr.held ∧ !t.pwr.flushing then t.endHold else t)

/-! ## Temperatures (R57, R58, R67) -/

/-- The bytes of a sample. -/
def sampleBytes (n v : Nat) : List Nat := (List.range n).map fun k => getBits v (8 * k + 7) (8 * k)

/-- The dies that throttle after a sample: from 100 °C until Tj falls to 98 °C. -/
def Block.throttledBy (s : Block) (tj : List Nat) : List Nat :=
  (List.range 4).filter fun d =>
    decide (100 ≤ tj.getD d 0) || (s.pwr.throttled.contains d && decide (98 < tj.getD d 0))

/-- A stack's case temperature: its refresh interval, and the alarm above 95 °C.  ALERT_N stays asserted until a Cold reset
or the loss of power (DESIGN CHOICE, log 145). -/
def Block.stackTemp (s : Block) (k c : Nat) : Block :=
  let hot := decide (95 < c)
  let s1 := (s.setFld (F.DRC_TEMP_CASE_C k) c).setBit (F.DRC_REF_STATUS_HOT k) hot
  if hot ∧ !s.pwr.hot.contains k then
    (s1.setPwr { s1.pwr with hot := k :: s1.pwr.hot, alert := true }).emit (.pldm (.stackHot k))
  else if hot then s1
  else s1.setPwr { s1.pwr with hot := s1.pwr.hot.filter (· ≠ k) }

/-- A thermal trip (R58): VCORE at 0.65 V, and the Cold reset of cause 0x02, whose entry halts the engines and flushes. -/
def Block.thermalTrip (s : Block) : Block :=
  let s1 := ((s.emit (.pldm .thermalTrip)).raiseModule true 0x02)
  forEach (List.range 4) (fun d t => t.setVcore d 650) s1

/-- The sample of every 10 µs: Tj of the pool dies, case temperatures of the stacks, in °C (Table 2-6). -/
def execThermalSample (tj : BitVec 32) (tcase : BitVec 144) (s : State) : Out :=
  s.act fun s => (
    if !s.railsUp then s
    else
      let a := sampleBytes 4 tj.toNat
      let b := sampleBytes 18 tcase.toNat
      let s1 := s.setPwr { s.pwr with
        tj := a, tcase := b, throttled := s.throttledBy a
        clamped := (List.range 4).filter fun d => decide (105 ≤ a.getD d 0) }
      let s2 := forEach (List.range 4) (fun d t => t.setVcore d (t.vcoreOf d)) s1
      let s3 := forEach (List.range 18) (fun k t => t.stackTemp k (b.getD k 0)) s2
      let tripping := decide (s.boot.phase = .entry) && decide (s.boot.cause = 0x02)
      if !tripping && ((a.any fun x => decide (115 ≤ x)) || b.any fun x => decide (100 ≤ x)) then s3.thermalTrip else s3)

/-- Every 100 µs while a die throttles, its VCORE falls by 10 mV (R57). -/
def execThrottleStep (die : Fin 4) (s : State) : Out :=
  s.act fun s => (
    if s.pwr.throttled.contains die.val ∧ s.railsUp then s.setVcore die.val (s.vcoreOf die.val - 10) else s)

/-- Firmware's set-point of a die's VCORE (R56): within the rail's range, in steps of 5 mV, no lower than 0.70 V (R65); it
takes effect at once where it is below the voltage. -/
def Block.setPointOf (s : Block) (d mv : Nat) : Block :=
  if 700 ≤ mv ∧ mv ≤ 900 ∧ mv % 5 = 0 then
    let s1 := s.setPwr { s.pwr with setPoint := s.pwr.setPoint.set d mv }
    if mv < s1.vcoreOf d then s1.setVcore d mv else s1
  else s

/-- Every 100 µs after a throttle ceases, VCORE rises by 10 mV towards its set-point (R67), which the operand sets where
firmware gives the rail a new one (R56); `within` says that the input power is within the limit again, so that a limit that was
unmet no longer holds the rails (log 198). -/
def execVcoreRaiseStep (die : Fin 4) (s : State) (setPoint : Option (BitVec 10) := none) (within : Bool := false) : Out :=
  s.act fun s => (
    let d := die.val
    if !s.railsUp then s
    else
      let s1 := if within then s.setPwr { s.pwr with unmet := false } else s
      let t := match setPoint with
        | some mv => s1.setPointOf d mv.toNat
        | none => s1
      let goal := t.pwr.setPoint.getD d 800
      if t.pwr.throttled.contains d ∨ goal ≤ t.vcoreOf d then t
      else t.setVcore d (min goal (t.vcoreOf d + 10)))

/-! ## Clocks and crossings -/

/-- BN_XIN lost: the island is held in reset; every lane and host link stays idle or down (R63). -/
def execBnXinLoss (s : State) : Out :=
  s.act fun s => (
    if s.pwr.bnLost ∨ !s.powered then s
    else
      let s1 := (s.setPwr { s.pwr with bnLost := true }).abandonCommit.dropSessions
      forEach (List.range 4) (fun d t => (t.dropLinks d).dropPorts d) s1)

/-- Whether a unit that crosses is there. -/
def Block.crosses (s : Block) (u : CrossUnit) : Bool :=
  s.powered && match u with
    | .port p => decide (p.val < s.hostPorts)
    | _ => true

/-- A step of an inbound entry's way from the clocked side to the core (R69–R71, Table 2-12). -/
def execCrossingInbound (unit : CrossUnit) (cross : CrossStep) (s : State) : Out :=
  s.act fun s => (if s.crosses unit then (s.cross true unit cross).crossOff unit else s)

/-- A step of an outbound entry's way from the core to the clocked side (R69–R71). -/
def execCrossingOutbound (unit : CrossUnit) (cross : CrossStep) (s : State) : Out :=
  s.act fun s => (if s.crosses unit then s.cross false unit cross else s)

/-- GID_BEAT_RATE takes the slowest reading of the dies in service, in M beats/s (R35). -/
def execBeatRateUpdate (rates : BitVec 64) (s : State) : Out :=
  s.act fun s => (
    let read (d : Nat) : Nat := getBits rates.toNat (16 * d + 15) (16 * d)
    match (List.range 4).filter fun d => !s.dieOut d with
    | [] => s
    | d :: ds => s.setFld F.GID_BEAT_RATE_MBEATS (ds.foldl (fun m e => min m (read e)) (read d)))

/-- The rails of Table 2-5 other than VCORE, with the voltages in mV within which each is regulated; VCAVEQ's are ONFI's and
stay open. -/
def fixedRails : List (Nat × Nat) :=
  [(1020, 1080), (390, 410), (1750, 1850), (730, 770), (1170, 1230), (780, 820), (1710, 1890), (0, 4095), (780, 820)]

/-- What a rail's sensors read (R55): its voltage within a range, its current and its temperature, all free values. -/
def Block.senseRail (s : Block) (lo hi : Nat) : RailSense × Block :=
  let (v, s1) := s.fresh
  let (i, s2) := s1.fresh
  let (c, s3) := s2.fresh
  ({ mv := lo + v.toNat % (hi + 1 - lo), ma := i.toNat % 65536, celsius := c.toNat % 256 }, s3)

/-- The voltages within which the sensors of the rails read, VCORE0–VCORE3 first and VBN last: any while the main stages do not
make a rail, as with both stages of a die's pair failed (R46, R48). -/
def Block.railRanges (s : Block) : List (Nat × Nat) :=
  let all := ((List.range 4).map fun d => if s.fld (F.RAS_STAGE_STATE_FAILED d) = 3 then (0, 4095) else (s.vcoreOf d, s.vcoreOf d))
    ++ fixedRails
  if s.railsUp then all else (all.dropLast.map fun _ => (0, 4095)) ++ all.drop (all.length - 1)

/-- What the sensors of every rail read, VCORE0–VCORE3 first. -/
def Block.senseRails (s : Block) : List RailSense × Block :=
  s.railRanges.foldl (fun acc r =>
    let (x, t) := acc.2.senseRail r.1 r.2
    (acc.1 ++ [x], t)) ([], s)

/-- A PLDM sensor read: health, the rails' voltages, currents and temperatures, the dies' and stacks' temperatures, beat rate,
power limit, boot stage, the conditions reported (R46, R55, R67, R100, R521). -/
def execPldmSensorRead (s : State) : Out :=
  s.act fun s => (
    if !s.islandUp then s
    else if s.switching then s.emit (.pldmReply .notReady)
    else
      let (rails, t) := s.senseRails
      t.emit (.pldmReply (.sensors (t.fld F.RAS_HEALTH_LEVEL) rails t.pwr.tj t.pwr.tcase (t.fld F.GID_BEAT_RATE_MBEATS)
        t.limitNow (t.fld F.RBT_STATUS_STAGE) t.pwr.low t.pwr.high t.pwr.unmet (t.isSet F.ALM_STATUS_ADRIFT))))

end Sys2Proof.Machine
end

