-- ==== Sys2Proof/Machine/Activation.lean ====
section
/-! DEFINITION.  Firmware updates and their activation with hot handover (R494–R497, Table 17-4). -/

namespace Sys2Proof.Machine

/-! ## The update (R494) -/

/-- The slot that an update writes: the one not running; in recovery boot the one that the request names (R92, R494). -/
def Block.updateSlot (s : Block) (slot : Bool) : Bool := if s.boot.phase = .recovery then slot else !s.boot.slotB

/-- A PLDM request of firmware update: not answered while the island is down, answered as not ready before the firmware runs and
while the binnacle switches. -/
def Block.pldmUpdate (s : Block) (act : Block → Block) : Block :=
  if !s.islandUp then s
  else if s.switching ∨ (s.boot.phase ≠ .running ∧ s.boot.phase ≠ .recovery) then s.emit (.pldmReply .notReady)
  else act s

/-- A whole slot image is written into its slot (R494); during an activation the request is to be repeated. -/
def execPldmFwUpdateTransfer (image : FwImage) (slot : Bool) (s : State) : Out :=
  s.act fun s => (s.pldmUpdate fun t =>
    if t.ras.activation.isSome then t.emit (.pldmReply .retryRequest)
    else
      let b := t.updateSlot slot
      let t1 := t.setBoot (if b then { t.boot with fwB := some image } else { t.boot with fwA := some image })
      let t2 := if b then t1.setBit F.RBT_FW_STATUS_B_VALID false else t1.setBit F.RBT_FW_STATUS_A_VALID false
      (t2.setRas { t2.ras with written := some b, verified := false }).emit (.pldmReply .ok))

/-- The image written is verified under R89 and the result reported. -/
def execVerifyComplete (s : State) : Out :=
  s.act fun s => (s.pldmUpdate fun t =>
    match t.ras.written with
    | none => t.emit (.pldmReply .invalidData)
    | some b =>
      let (ok, t1) := t.verify b
      (t1.setRas { t1.ras with verified := ok }).emit (.pldmReply (if ok then .ok else .verifyFailed)))

/-! ## Activation (Table 17-4) -/

/-- The next die in service from a place on. -/
def Block.nextDie (s : Block) (d : Nat) : Option Nat := (List.range 4).find? fun k => decide (d ≤ k) && !s.dieOut k

/-- The activation put at the handover of the next die in service from a place on, or past the last one. -/
def Block.handoverFrom (s : Block) (d : Nat) (image : FwImage) : Block :=
  let a : Activation := match s.nextDie d with
    | some k => { step := 2, die := k, image := image }
    | none => { step := 3, die := 4, image := image }
  s.setRas { s.ras with activation := some a }

/-- Whether ActivateFirmware is to be repeated later (R494). -/
def Block.activationBarred (s : Block) : Bool :=
  s.ras.critical.isSome || decide (s.ras.queue ≠ []) || s.boot.trial || s.isSet F.SEC_STATUS_DEBUG_UNLOCKED
    || s.ras.activation.isSome

/-- ActivateFirmware (R494, step 1 of Table 17-4). -/
def execActivateFirmware (s : State) : Out :=
  s.act fun s => (s.pldmUpdate fun t =>
    if t.activationBarred then t.emit (.pldmReply .retryRequest)
    else
      match t.ras.verified, t.slotImage (!t.boot.slotB) with
      | true, some img =>
        if t.boot.phase = .running then
          (((t.setFld F.SEC_STATUS_ACTIVATING 1).handoverFrom 0 img)).emit (.pldmReply .ok)
        else t.emit (.pldmReply .invalidData)
      | _, _ => t.emit (.pldmReply .invalidData))

/-- An event of a step of Table 17-4, where the activation stands at it. -/
def Block.atActivation (s : Block) (n : Nat) (act : Activation → Block → Block) : Block :=
  match s.ras.activation with
  | some a => if a.step = n then act a s else s
  | none => s

/-- The activation put at a step. -/
def Block.activationAt (s : Block) (n : Nat) : Block :=
  s.setRas { s.ras with activation := s.ras.activation.map fun a => { a with step := n } }

/-- The helm cores of the next die have taken the new image by handover: one active role is served throughout. -/
def execActivationHelmHandover (s : State) : Out := s.act fun s => (s.atActivation 2 fun a t => t.handoverFrom (a.die + 1) a.image)

/-- The binnacle has passed its state to its new image and runs it. -/
def execActivationBinnacleSwitch (s : State) : Out := s.act fun s => (s.atActivation 3 fun _ t => t.activationAt 4)

/-- Bexa microcode is loaded into every cluster; results do not depend on its version (R495). -/
def execActivationMicrocodeLoad (s : State) : Out := s.act fun s => (s.atActivation 4 fun _ t => t.activationAt 5)

/-- The units with a PHY image of their own: pseudo-channels, links, host ports, cave channels (R497). -/
def Block.phyUnits (s : Block) : Nat :=
  18 * 64 + 96 + s.hostPorts + s.fld F.TIR_CAVE_STATUS_CH_FITTED

/-- PHY_PENDING brought up to the units that still await their image; its 9 bits hold at most 511. -/
def Block.showPhy (s : Block) : Block :=
  s.setFld F.RAS_UPDATE_STATUS_PHY_PENDING
    (match s.ras.phy with
     | some done => min (s.phyUnits - done.length) 511
     | none => 0)

/-- PHY images are staged in every PHY controller. -/
def execActivationPhyStage (s : State) : Out :=
  s.act fun s => (s.atActivation 5 fun _ t =>
    ((t.setRas { t.ras with phy := some [] }).activationAt 6).showPhy)

/-- The rind extends indices 0x02 to 0x06, ACTIVATING clears, the trial of R91 begins (R496). -/
def execActivationExtend (s : State) : Out :=
  s.act fun s => (s.atActivation 6 fun a t =>
    let b := !t.boot.slotB
    let t1 := t.setBoot { t.boot with trial := true, before := t.boot.slotB }
    let t2 := (((t1.runSlot b a.image).revokeKey a.image.key a.image.revoke).measureImage a.image 2)
    ((t2.setRas { t2.ras with activation := none, written := none, verified := false }).setFld F.SEC_STATUS_ACTIVATING 0).setFld
      F.RAS_UPDATE_STATUS_RESULT 0x1)

/-- A fault during steps 2 to 5 abandons the activation: the running slot's image everywhere, nothing extended, RESULT
REVERTED (R495). -/
def execActivationAbandon (s : State) : Out :=
  s.act fun s => (
    match s.ras.activation with
    | some a =>
      if a.step ≤ 5 then
        (((s.setRas { s.ras with activation := none, phy := none }).setFld F.SEC_STATUS_ACTIVATING 0).setFld
          F.RAS_UPDATE_STATUS_RESULT 0x3).showPhy
      else s
    | none => s)

/-! ## PHY images taken (R497) -/

/-- Whether a unit is one of those that take a PHY image. -/
def Block.phyUnit (s : Block) : CrossUnit → Bool
  | .pc _ _ => true
  | .link _ => true
  | .port p => decide (p.val < s.hostPorts)
  | .cave c => decide (s.fld (F.TIR_CH_STATUS_STATE c.val) ≠ 0)
  | .binnacle => false

/-- Whether some other link of a link's chiplet retrains. -/
def Block.chipletBusy (s : Block) (l : Nat) : Bool :=
  ((List.range 8).map (8 * (l / 8) + ·)).any fun k => decide (k ≠ l) && decide (s.fld (F.PFL_STATUS_STATE k) = lkRetrain)

/-- A unit takes its new PHY image, or fails with it and goes back to the old one: a link that is UP by a RETRAIN with reason
0x5, one of a chiplet at a time; a pseudo-channel, host port or cave channel at the recalibration, Recovery or retraining
that is this event. -/
def execPhyImageApply (unit : CrossUnit) (ok : Bool) (s : State) : Out :=
  s.act fun s => (
    match s.ras.phy, s.ras.activation with
    | some done, none =>
      if done.contains unit ∨ !s.phyUnit unit then s
      else
        let took (t : Block) : Block :=
          let t1 := (t.setRas { t.ras with phy := some (done ++ [unit]) }).showPhy
          if ok then t1
          else t1.setFld F.RAS_UPDATE_STATUS_REVERTED_UNITS (min (t1.fld F.RAS_UPDATE_STATUS_REVERTED_UNITS + 1) 255)
        match unit with
        | .link l => if s.chipletBusy l.val then s else took (s.retrainIf l.val 0x5)
        | _ => took s
    | _, _ => s)

end Sys2Proof.Machine
end

