-- ==== Sys2Proof/Machine/Bar2.lean ====
section
/-! DEFINITION.  The BAR2 window: synchronisation objects as hosts reach them (R352). -/

namespace Sys2Proof.Machine

/-- Whether a logical device reaches an object (R352, R462). -/
def Block.bar2Reaches (s : Block) (fn o : Nat) : Bool :=
  s.presents fn && s.isSet (F.ENG_SYNC_OWN_HOST (o / 256)) &&
    match s.objOwner o with
    | some p =>
      decide (s.ptnState p = ptnActive)
        && s.activeGates.any fun g =>
          decide (s.fld (F.HPT_GATE_STATE_STATE g) = 1) && decide (s.gateFn g = fn)
            && decide (s.fld (F.HPT_GATE_CFG_PARTITION g) = p)
    | none => false

/-- An access completed: with a value, or with Completer Abort. -/
def Block.bar2 (s : Block) (fn : Nat) (v : Option Nat) : Block := s.emit (.bar2 fn v)

/-- A host read of an object: VALUE, or the half it addresses; one of another size completes with Completer Abort (R352). -/
def execBar2Read (fn : Fin 256) (obj : BitVec 16) (half : Option Bool) (s : State) (other : Bool := false) : Out :=
  s.act fun s => (
    let o := obj.toNat
    if other || !s.bar2Reaches fn.val o then s.bar2 fn.val none
    else if (s.obj o).reserved.isSome then s
    else
      let v := (s.obj o).value
      (s.event 11 0 (s.objAttr o)).bar2 fn.val (some (match half with
        | none => v
        | some false => v % 2 ^ 32
        | some true => v / 2 ^ 32)))

/-- A host memory write is dropped and counted, whatever it addresses (R352). -/
def execBar2Write (fn : Fin 256) (obj : BitVec 16) (s : State) : Out :=
  let _ := (fn, obj)
  s.act fun s => s.bump F.ENG_SYNC_DENIED_COUNT

/-- What an AtomicOp makes of an object: none where its kind refuses. -/
abbrev ObjChange := SyncObj → Option SyncObj

/-- An AtomicOp on an object: the old VALUE, or its low half for a 32-bit one, is returned; one of an `other` size completes with
Completer Abort (R352). -/
def Block.bar2Atomic (s : Block) (fn o : Nat) (wide other : Bool) (f : ObjChange) : Block :=
  if other || !s.bar2Reaches fn o then s.bar2 fn none
  else if (s.obj o).reserved.isSome then s
  else
    let x := s.obj o
    match f x with
    | none => (s.bump F.ENG_SYNC_DENIED_COUNT).bar2 fn none
    | some y => (((s.setObj o y).event 11 0 (s.objAttr o)).bar2 fn (some (if wide then x.value else x.value % 2 ^ 32))).evalWaits

/-- VALUE with its low half replaced. -/
def SyncObj.withLow (o : SyncObj) (low : Nat) : SyncObj := { o with value := o.value / 2 ^ 32 * 2 ^ 32 + low % 2 ^ 32 }

/-- A 32-bit pattern as a signed number. -/
def signed32 (n : Nat) : Int := if n % 2 ^ 32 < 2 ^ 31 then (n % 2 ^ 32 : Nat) else ((n % 2 ^ 32 : Nat) : Int) - 2 ^ 32

/-- A 32-bit FetchAdd (R352). -/
def SyncObj.add32 (o : SyncObj) (x : Nat) : Option SyncObj :=
  let low := o.value % 2 ^ 32
  match o.kind with
  | 1 => some (o.withLow (low + x))
  | 2 =>
    let r := (low : Int) + signed32 x
    some (if 0 ≤ r ∧ r < 2 ^ 32 then o.withLow r.toNat else o)
  | 3 => some (o.withLow (if low + 1 = o.parties then 0 else low + 1))
  | _ => none

/-- FetchAdd: ADD, or SIGNAL on a BARRIER (R352). -/
def execBar2Fetchadd (fn : Fin 256) (obj : BitVec 16) (wide : Bool) (operand : BitVec 64) (s : State) (other : Bool := false) : Out :=
  s.act fun s => (s.bar2Atomic fn.val obj.toNat wide other fun o =>
    if wide then (if o.kind = objBarrier then o.signal else o.add operand.toNat) else o.add32 operand.toNat)

/-- Swap: SWAP (R352). -/
def execBar2Swap (fn : Fin 256) (obj : BitVec 16) (wide : Bool) (operand : BitVec 64) (s : State) (other : Bool := false) : Out :=
  s.act fun s => (s.bar2Atomic fn.val obj.toNat wide other fun o =>
    if wide then o.apply opSwap operand.toNat 0
    else if o.takesValue 0 then some (o.withLow operand.toNat) else none)

/-- CAS: CAS; a 32-bit one compares the low half alone (R352). -/
def execBar2Cas (fn : Fin 256) (obj : BitVec 16) (wide : Bool) (operand compare : BitVec 64) (s : State) (other : Bool := false) : Out :=
  s.act fun s => (s.bar2Atomic fn.val obj.toNat wide other fun o =>
    if wide then o.apply opCas operand.toNat compare.toNat
    else if o.takesValue 0 then
      some (if o.value % 2 ^ 32 = compare.toNat % 2 ^ 32 then o.withLow operand.toNat else o)
    else none)

end Sys2Proof.Machine
end

