-- ==== Sys2Proof/Machine/Bound.lean ====
section
/-! DEFINITION.  Bound weights (R481–R484): set blobs and the device-set slots, weight packages. -/

namespace Sys2Proof.Machine

/-- The states of a device-set slot (SEC_SET_STATE). -/
def setEmpty : Nat := 0
def setEnrolled : Nat := 1
def setRevoked : Nat := 2

/-- The DETAIL codes of a failure (R483). -/
def bdUnknownSet : Nat := 0x10
def bdUnwrap : Nat := 0x11
def bdTag : Nat := 0x12
def bdBlob : Nat := 0x13
def bdDebug : Nat := 0x14
def bdNoSlot : Nat := 0x15

/-- Bytes of a string. -/
def bytesAt (b : List Byte) (off n : Nat) : List Byte := (b.drop off).take n

/-- A little-endian number in a string. -/
def natAt (b : List Byte) (off n : Nat) : Nat := ofLeBytes (bytesAt b off n)

/-- Whether bytes are all zero. -/
def allZero (b : List Byte) : Bool := b.all fun x => decide (x = 0)

/-- The slot of a SET_ID. -/
def Block.setSlot (s : Block) (id : Nat) : Option Nat :=
  (List.range 8).find? fun k => decide (s.fld (F.SEC_SET_STATE_STATE k) ≠ setEmpty) && decide (s.fld (F.SEC_SET_ID_SET_ID k) = id)

/-- What a slot holds beside its registers. -/
def Block.setKeys (s : Block) (k : Nat) : SetSlot := Assoc.get {} k s.sec.sets

/-- A slot written whole. -/
def Block.putSet (s : Block) (k id st epoch : Nat) (v : SetSlot) : Block :=
  (((s.setSec { s.sec with sets := Assoc.put {} k v s.sec.sets }).setFld (F.SEC_SET_ID_SET_ID k) id).setFld
    (F.SEC_SET_STATE_STATE k) st).setFld (F.SEC_SET_STATE_EPOCH_MIN k) epoch

/-! ## Set blobs (R481, Table 16-6) -/

/-- The bytes of a set blob. -/
def blobBytes : Nat := 12019

/-- The kinds of a set blob. -/
def bkEnrol : Nat := 1
def bkRaise : Nat := 2
def bkRevoke : Nat := 3

/-- Whether a blob's fields hold valid values and its signature verifies (Table 16-6). -/
def Block.blobOk (s : Block) (b : List Byte) : Bool :=
  let enrol := decide (natAt b 0x06 2 = bkEnrol)
  decide (natAt b 0x00 4 = 0x5345544B) && decide (natAt b 0x04 2 = 1) && decide (natAt b 0x08 4 ≠ 0)
    && decide (natAt b 0x0C 2 ≠ 0) && allZero (bytesAt b 0x0E 2) && allZero (bytesAt b 0x2C 4)
    && (decide (bytesAt b 0x10 16 = s.deviceId) || (!enrol && allZero (bytesAt b 0x10 16)))
    && (enrol || (allZero (bytesAt b 0x20 12) && allZero (bytesAt b 0x30 16) && allZero (bytesAt b 0xA60 1568)
        && allZero (bytesAt b 0x1080 3168)))
    && Config.mldsaOk (bytesAt b 0x40 2592) (b.take 0x1CE0) (bytesAt b 0x1CE0 4627)

/-- The set's decapsulation key in an ENROL blob, if it opens. -/
def blobKey (b : List Byte) : Option (List Byte) :=
  (Config.identityDecap (bytesAt b 0xA60 1568)).bind fun secret =>
    Config.gcmOpen (Config.hkdf secret (b.take 0x20)) (bytesAt b 0x20 12) (b.take 0x30) (bytesAt b 0x1080 3168)
      (bytesAt b 0x30 16)

/-- A set blob applied, if its kind is among those that the sub-operation takes: the DETAIL of its failure, or the state
with the slot changed. -/
def Block.applyBlob (s : Block) (kinds : List Nat) (b : List Byte) : Except Nat Block :=
  let kind := natAt b 0x06 2
  let id := natAt b 0x08 4
  let epoch := natAt b 0x0C 2
  let auth := Config.sha384 (bytesAt b 0x40 2592)
  if kind = bkEnrol ∧ s.isSet F.SEC_STATUS_DEBUG_UNLOCKED then .error bdDebug
  else if kind ∉ kinds ∨ !s.blobOk b then .error bdBlob
  else
    match s.setSlot id with
    | some k =>
      let live := decide (s.fld (F.SEC_SET_STATE_STATE k) = setEnrolled)
      if kind ≠ bkEnrol ∧ !live then .error bdUnknownSet
      else if (s.setKeys k).auth ≠ auth ∨ epoch ≤ s.fld (F.SEC_SET_STATE_EPOCH_MIN k) then .error bdBlob
      else if kind = bkRaise then .ok (s.putSet k id setEnrolled epoch (s.setKeys k))
      else if kind = bkRevoke then .ok (s.putSet k id setRevoked epoch { auth := auth })
      else
        match blobKey b with
        | none => .error bdUnwrap
        | some dk => .ok (s.putSet k id setEnrolled epoch { auth := auth, dk := dk })
    | none =>
      if kind ≠ bkEnrol then .error bdUnknownSet
      else
        match (List.range 8).find? fun k => decide (s.fld (F.SEC_SET_STATE_STATE k) = setEmpty), blobKey b with
        | none, _ => .error bdNoSlot
        | some _, none => .error bdUnwrap
        | some k, some dk => .ok (s.putSet k id setEnrolled epoch { auth := auth, dk := dk })

/-- Bytes that steer a sub-operation: a poisoned or unreachable one completes it. -/
def steerBytes (ca n : Nat) : Op (List Byte) := do
  let b ← Op.caBytes ca n
  if b.addrErr then Op.stop (.finish { status := stAddressError })
  else if b.poison then Op.stop (.finish { status := stPoison })
  else pure b.bytes

/-- A failure of R483 counted. -/
def Block.bindFail (s : Block) : Block := s.bump F.SEC_BIND_FAIL_COUNT

/-- The finish of a failure of R483. -/
def bindFinish (code : Nat) : Finish := { status := stNotPermitted, detail := code }

/-- A sub-operation that takes a set blob, of the kinds given, where the row asks for that blob: any, or only one that is
a RAISE_EPOCH, or only one that is not. -/
def Block.setAdmin (s : Block) (ring seq sub : Nat) (kinds : List Nat) (raises : Option Bool) : Block :=
  match s.runnable ring seq (Desc.isAdmin sub) with
  | none => s
  | some e => s.forWork e.ring e.seq fun s =>
    match steerBytes (Desc.f e.bytes 0x48 47 0) blobBytes (s.begin_ e.ring e.seq e.ctx true) with
    | .error (why, s1) => if raises = some true then s else s.runStopped e why s1
    | .ok (b, r) =>
      if raises = some (decide (natAt b 0x06 2 ≠ bkRaise)) then s
      else
        match r.s.applyBlob kinds b with
        | .error code => r.s.bindFail.oneUnit e (bindFinish code)
        | .ok t => t.oneUnit e { status := stOk }

/-- PTN_ADMIN SET_ENROL with any blob but a RAISE_EPOCH (R481). -/
def execSetEnrol (ring : Fin 4096) (seq : BitVec 64) (s : State) : Out :=
  s.act fun s => (s.setAdmin ring.val seq.toNat 0x20 [bkEnrol, bkRaise] (some false))

/-- PTN_ADMIN SET_ENROL with a RAISE_EPOCH blob (R481). -/
def execRaiseEpoch (ring : Fin 4096) (seq : BitVec 64) (s : State) : Out :=
  s.act fun s => (s.setAdmin ring.val seq.toNat 0x20 [bkEnrol, bkRaise] (some true))

/-- PTN_ADMIN SET_REVOKE (R481). -/
def execSetRevoke (ring : Fin 4096) (seq : BitVec 64) (s : State) : Out :=
  s.act fun s => (s.setAdmin ring.val seq.toNat 0x21 [bkRevoke] none)

/-! ## Weight packages (R482, R483) -/

/-- The bytes of a package's header. -/
def pkgHeader : Nat := 0x6C0

/-- Whether a package's header is as Table 16-7 has it, for a descriptor of `total` bytes. -/
def pkgOk (h : List Byte) (total : Nat) : Bool :=
  let n := natAt h 0x10 8
  decide (natAt h 0x00 4 = 0x57424E44) && decide (natAt h 0x04 2 = 1) && allZero (bytesAt h 0x0C 4)
    && decide (n % 64 = 0) && decide (64 ≤ n) && decide (n ≤ 2 ^ 40) && decide (n + pkgHeader = total)
    && allZero (bytesAt h 0x24 12) && allZero (bytesAt h 0x688 56)

/-- The weight key of a package under a set's key. -/
def pkgKey (dk h : List Byte) : Option (List Byte) :=
  (Config.kemDecap dk (bytesAt h 0x40 1568)).bind fun secret =>
    Config.keyUnwrap (Config.hkdf secret (h.take 0x10)) (bytesAt h 0x660 40)

/-- The failure that stops a BIND_LOAD before its ciphertext is read, or the slot and the weight key. -/
def Block.bindKey (s : Block) (h : List Byte) : Except Nat (Nat × List Byte) :=
  if s.isSet F.SEC_STATUS_DEBUG_UNLOCKED then .error bdDebug
  else
    match s.setSlot (natAt h 0x08 4) with
    | none => .error bdUnknownSet
    | some k =>
      if s.fld (F.SEC_SET_STATE_STATE k) ≠ setEnrolled ∨ natAt h 0x06 2 < s.fld (F.SEC_SET_STATE_EPOCH_MIN k) then
        .error bdUnknownSet
      else
        match pkgKey (s.setKeys k).dk h with
        | none => .error bdUnwrap
        | some key => .ok (k, key)

/-- What a BIND_LOAD does: how it finishes when its output is applied, and the slot it loaded under. -/
def bindOp (src total dst : Nat) : Op (Finish × Option Nat) := do
  let h ← steerBytes src pkgHeader
  if !pkgOk h total then
    let (v, t) := (← get).s.fresh
    modify fun r => { r with s := t }
    Op.stop (.finish { status := stBadField, detail := v.toNat % 256 })
  match (← get).s.bindKey h with
  | .error code => do
    Op.tell fun t => t.bindFail
    Op.stop (.finish (bindFinish code))
  | .ok (k, key) => do
    let n := natAt h 0x10 8
    let ct ← Op.caBytes (src + pkgHeader) n
    let bad := List.replicate n (0 : Byte)
    if ct.poison || ct.addrErr then do
      Op.out dst bad true
      pure ({ status := endStatus ct.addrErr ct.poison, len := min n (2 ^ 32 - 1) }, none)
    else
      match Config.gcmOpen key (bytesAt h 0x18 12) (h.take 0x30 ++ bytesAt h 0x40 0x680) ct.bytes (bytesAt h 0x30 16) with
      | none => do
        Op.tell fun t => t.bindFail
        Op.out dst bad true
        pure (bindFinish bdTag, none)
      | some plain => do
        Op.out dst (fitTo 0 n plain) false
        pure ({ status := stOk, len := min n (2 ^ 32 - 1) }, some k)

/-- A BIND_LOAD run whole, its output applied (R126, R483). -/
def Block.bindLoad (s : Block) (e : LogEntry) : Block :=
  s.forWork e.ring e.seq fun s =>
  let d := e.bytes
  match bindOp (Desc.f d 0x48 47 0) (Desc.w d 0x50) (Desc.f d 0x58 47 0) (s.begin_ e.ring e.seq e.ctx true) with
  | .error (why, s1) => s.runStopped e why s1
  | .ok ((f, slot), r) =>
    match applyOuts (.engine r.ptn) r.ptn r.outs r.s with
    | none => s.noteWaits (.engine r.ptn) r.ptn true (r.outs.map (·.dpa))
    | some (met, s1) =>
      let bad := met.addr || met.poison
      let g : Finish := if bad then { f with status := endStatus met.addr met.poison } else f
      let s2 := (s1.begin e).setFin e.ring e.seq g
      match slot with
      | some k => if bad then s2 else (s2.bump F.SEC_BIND_COUNT_COUNT).bump (F.SEC_SET_LOADS_COUNT k)
      | none => s2

/-- PTN_ADMIN BIND_LOAD (R483). -/
def execBindLoad (ring : Fin 4096) (seq : BitVec 64) (s : State) : Out :=
  s.act fun s => (
    match s.runnable ring.val seq.toNat (Desc.isAdmin 0x22) with
    | some e => s.bindLoad e
    | none => s)

end Sys2Proof.Machine
end

