-- ==== Sys2Proof/Machine/Broadcast.lean ====
section
/-! DEFINITION.  BROADCAST (R344): its remote destinations are written by collective cells with a TAG each (R417), its local
ones by its run. -/

namespace Sys2Proof.Machine

/-- The bytes that a BROADCAST sends. -/
def Desc.bcastBytes (d : Desc) : Nat := d.f 0x48 63 32

/-- The BROADCAST of an entry, once its destinations are read. -/
def Block.bcast (s : Block) (ring seq : Nat) : Option Bcast :=
  s.net.router.bcasts.find? fun b => decide (b.ring = ring) && decide (b.seq = seq)

/-- The BROADCAST of an entry replaced. -/
def Block.setBcast (s : Block) (b : Bcast) : Block :=
  s.setRouter { s.net.router with
    bcasts := s.net.router.bcasts.map fun x => if x.ring = b.ring ∧ x.seq = b.seq then b else x }

/-- A destination of a BROADCAST replaced. -/
def Block.setDest (s : Block) (b : Bcast) (x : BcastDest) : Block :=
  s.setBcast { b with dests := b.dests.map fun y => if y.idx = x.idx then x else y }

/-- The lowest TAG free towards a node: of no open request, and not in quarantine (R417). -/
def Block.freeTag (s : Block) (dst : Nat) : Option Nat :=
  (List.range 4096).find? fun t =>
    (s.openReq dst t).isNone && !s.net.router.quarantine.any fun q => decide (q.1 = dst) && decide (q.2.1 = t)

/-- A write of a destination: the line it starts at, its lines and its bytes. -/
def BcastDest.span (x : BcastDest) (total : Nat) : Nat × Nat × Nat :=
  let a := x.addr + x.sent
  let left := total - x.sent
  let lines := min 16 ((a % 64 + left + 63) / 64)
  (lineOf a, lines, min left (64 * lines - a % 64))

/-- The byte enables of line `i` of a destination's write. -/
def BcastDest.maskOf (x : BcastDest) (total i : Nat) : Nat :=
  let (base, _, n) := x.span total
  let a := x.addr + x.sent
  (List.range 64).foldl (fun m j =>
    if a ≤ base + 64 * i + j ∧ base + 64 * i + j < a + n then m + 2 ^ j else m) 0

/-- The head of a destination's write. -/
def Block.bcastHead (s : Block) (x : BcastDest) (total tag : Nat) : Cell :=
  let (base, lines, _) := x.span total
  mkCell x.node s.node clsColl kWrite (tag * 16 + (lines - 1)) false
    (leBytes 8 base ++ leBytes 8 (x.maskOf total 0) ++ leBytes 8 (x.maskOf total (lines - 1)))

/-- A data cell of a destination's write, from the source as it was read (R188, R344). -/
def bcastData (src : List SrcPiece) (x : BcastDest) (total tag node i : Nat) : Cell :=
  let (base, _, n) := x.span total
  let a := x.addr + x.sent
  let lo := max a (base + 64 * i)
  let hi := min (a + n) (base + 64 * i + 64)
  let ps := cutSource src (x.sent + (lo - a)) (hi - lo)
  mkCell x.node node clsColl kWdata (tag * 16 + i) (ps.any (·.poison))
    (List.replicate (lo - (base + 64 * i)) 0 ++ (ps.map (·.bytes)).flatten)

/-- A created collective cell on its way: to this pool itself, or into its subscriber; none without a route (R424). -/
def Block.launchCollective (s : Block) (stream : Nat) (c : Cell) : Option Block :=
  if !s.isSet F.PFR_NODE_VALID then none
  else if c.dst = s.node then
    some (s.setRouter { s.net.router with
      local_ := s.net.router.local_ ++
        [{ port := 0, cls := clsColl, cell := c, colour := some 0, stamp := s.net.router.chrono.time }] })
  else s.sendCell (.subscriber stream) c

/-- A destination that cannot be written in full. -/
def Block.failDest (s : Block) (b : Bcast) (x : BcastDest) : Block :=
  (s.setDest b { x with failed := true }).bump F.PFR_NO_ROUTE_COUNT

/-- The next cell of a destination sent; none while no cell can be sent. -/
def Block.sendNext (s : Block) (e : LogEntry) (b : Bcast) (x : BcastDest) : Option Block :=
  let d := e.bytes
  let total := Desc.bcastBytes d
  let stream := Desc.stream d
  match x.tag with
  | none =>
    match s.freeTag x.node with
    | none => none
    | some tag =>
      match s.launchCollective stream (s.bcastHead x total tag) with
      | none => some (s.failDest b x)
      | some t =>
        some ((t.setRouter { t.net.router with
          reqs := t.net.router.reqs ++
            [{ dst := x.node, tag := tag, ring := e.ring, seq := e.seq, idx := x.idx, since := t.now }] }).setDest b
          { x with tag := some tag, cell := 0 })
  | some tag =>
    match s.launchCollective stream (bcastData b.src x total tag s.node x.cell) with
    | none => some (s.failDest b x)
    | some t =>
      let (_, lines, n) := x.span total
      some (t.setDest b (if x.cell + 1 < lines then { x with cell := x.cell + 1 }
        else { x with tag := none, cell := 0, sent := x.sent + n }))

/-- The next destination of a BROADCAST that has cells to send. -/
def Bcast.next (b : Bcast) (total : Nat) : Option BcastDest := b.dests.find? fun x => !x.failed && decide (x.sent < total)

/-- The record of a BROADCAST removed. -/
def Block.dropBcast (s : Block) (ring seq : Nat) : Block :=
  s.setRouter { s.net.router with bcasts := s.net.router.bcasts.filter fun b => !(decide (b.ring = ring) && decide (b.seq = seq)) }

/-- The record of a BROADCAST removed once its descriptor has an outcome. -/
def Block.settleBcast (s : Block) (ring seq : Nat) : Block :=
  match s.entry ring seq with
  | some e => if e.fin.isSome then s.dropBcast ring seq else s
  | none => s.dropBcast ring seq

/-- Cells of a BROADCAST sent in order while its subscriber has room (R446). -/
def Block.sendBcast (e : LogEntry) : Nat → Block → Block
  | 0, s => s
  | n + 1, s =>
    match s.bcast e.ring e.seq with
    | none => s
    | some b =>
      match b.next (Desc.bcastBytes e.bytes) with
      | none => s
      | some x =>
        if s.subFull (Desc.stream e.bytes) then s
        else
          match s.sendNext e b x with
          | some t => Block.sendBcast e n t
          | none => s

/-- A BROADCAST whose remote writes are all answered, or have failed, runs to its end (R344). -/
def Block.endBcast (s : Block) (e : LogEntry) : Block :=
  match s.bcast e.ring e.seq with
  | none => s
  | some b =>
    if (b.next (Desc.bcastBytes e.bytes)).isNone
        && !(s.net.router.reqs.any fun r => decide (r.ring = e.ring) && decide (r.seq = e.seq)) then
      let bad := (b.dests.filter (·.failed)).map (·.idx)
      (s.rerun e true (opBroadcast e.bytes b.src fun k => !bad.contains k)).settleBcast e.ring e.seq
    else s

/-- The destinations and the source of a BROADCAST read (R344). -/
def Block.startBcast (s : Block) (e : LogEntry) : Except (Stop × Block) Block :=
  let d := e.bytes
  let reads : Op (List (Nat × Nat × Bool) × List SrcPiece) := do
    let ws ← (List.range (Desc.f d 0x48 31 19)).mapM (broadcastEntry d)
    let src ← Op.source (Desc.f d 0x40 47 0) (Desc.bcastBytes d)
    pure (ws, src)
  match reads (s.begin_ e.ring e.seq e.ctx true) with
  | .error x => .error x
  | .ok ((ws, src), r) =>
    let dests := ((List.range ws.length).zip ws).filterMap fun w =>
      if w.2.2.2 && decide (getBits w.2.1 63 63 = 1) then
        some { idx := w.1, node := getBits w.2.1 19 0, addr := getBits w.2.2.1 47 0 }
      else none
    let t := r.s.begin e
    .ok (t.setRouter { t.net.router with bcasts := t.net.router.bcasts ++ [{ ring := e.ring, seq := e.seq, dests := dests, src := src }] })

/-- BROADCAST (R344). -/
def execBroadcast (ring : Fin 4096) (seq : BitVec 64) (s : State) : Out :=
  s.act fun s => (
    match s.working ring.val seq.toNat (isOpc opcBroadcast) with
    | none => s
    | some e => s.forWork e.ring e.seq fun s =>
      match if (s.bcast e.ring e.seq).isSome then .ok s else s.startBcast e with
      | .error (why, t) => s.runStopped e why t
      | .ok t =>
        let t1 := Block.sendBcast e 256 t
        match t1.working ring.val seq.toNat (isOpc opcBroadcast) with
        | some e1 => t1.endBcast e1
        | none => t1)

end Sys2Proof.Machine
end

