-- ==== Sys2Proof/Machine/Debug.lean ====
section
/-! DEFINITION.  Event counters (R507–R510), the trace region (R511–R514), stepping a ring (R515, R516), the JTAG port
(R523). -/

namespace Sys2Proof.Machine

/-- A write or command of the DBG block refused: its CODE, and ERR. -/
def Block.dbgRefuse (s : Block) (code : Nat) : Block :=
  (s.setFld F.DBG_CMD_STATUS_CODE code).setFld F.DBG_CMD_STATUS_ERR 1

/-! ## Counters -/

/-- Whether an actor reaches a counter (R510): firmware and full functions every one; a scoped function those from 192 that
are disabled or set for its own partition. -/
def Block.reachesCounter (s : Block) (a : Actor) (n : Nat) : Bool :=
  match a with
  | .firmware => true
  | .fn f => s.isFull f || match s.scopeOf f with
    | some p =>
      decide (192 ≤ n) && (!s.isSet (F.DBG_CNT_CTL_EN n)
        || (s.isSet (F.DBG_CNT_CTL_PTN_EN n) && decide (s.fld (F.DBG_CNT_CTL_PTN n) = p)))
    | none => false

/-- The partition that an actor's write of CTL puts into PTN (R510). -/
def Block.ownFilter (s : Block) : Actor → Option Nat
  | .firmware => none
  | .fn f => if s.isFull f then none else s.scopeOf f

/-- A counter's value and OVF at 0. -/
def DbgSt.clear (d : DbgSt) (n : Nat) : DbgSt :=
  { d with counts := Assoc.put 0 n 0 d.counts, ovf := d.ovf.erase n }

/-- A write of a counter's CTL: EN with a reserved GROUP or EVENT is refused, and the counter stays disabled (R507). -/
def Block.writeCtl (s : Block) (a : Actor) (n : Nat) (value : Nat) : Block :=
  if !s.reachesCounter a n then s.scopeViol
  else
    let v := match s.ownFilter a with
      | some p => setBits (setBits value 14 14 1) 13 9 p
      | none => value
    let bad := decide (getBits v 31 31 = 1) && decide (eventCodes (getBits v 28 24) ≤ getBits v 23 16)
    let keep := setBits (setBits v 30 29 0) 8 0 0
    let t := s.setReg (R.DBG_CNT_CTL n) (BitVec.ofNat 32 (if bad then setBits keep 31 31 0 else keep))
    let d := if getBits v 30 30 = 1 then t.dbg.clear n
      else if getBits v 29 29 = 1 then { t.dbg with ovf := t.dbg.ovf.erase n }
      else t.dbg
    (t.setDbg d).when bad fun u => u.dbgRefuse 0x01

/-- A write of DBG_CNT_CTL (R507, R510). -/
def execCounterConfigure (by_ : Actor) (n : BitVec 8) (value : BitVec 32) (s : State) : Out :=
  s.act fun s => (s.writeCtl by_ n.toNat value.toNat)

/-- DBG_CNT_CTL.CLEAR: a counter's value and OVF to 0, its other fields written as they stand (R507). -/
def execCounterClear (by_ : Actor) (n : BitVec 8) (s : State) : Out :=
  s.act fun s => (s.writeCtl by_ n.toNat (setBits (s.reg (R.DBG_CNT_CTL n.toNat)).toNat 30 30 1))

/-- A write of FREEZE (R509). -/
def execCounterFreeze (by_ : Actor) (freeze : Bool) (s : State) : Out :=
  s.act fun s => (s.byFull by_ fun t => t.setBit F.DBG_CNT_GLOBAL_FREEZE freeze)

/-! ## The trace region -/

/-- The start of the trace region, and its number of records. -/
def Block.traceBase (s : Block) : Nat := s.pair R.DBG_TRACE_BASE_LO R.DBG_TRACE_BASE_HI / 4096 % 2 ^ 40 * 4096
def Block.traceSlots (s : Block) : Nat := 2 ^ s.fld F.DBG_TRACE_BASE_LO_LOG2

/-- Whether `n` bytes from a DPA lie wholly in ORDINARY tier blocks of channel blocks of a partition (R511, R519). -/
def Block.ordinaryOf (s : Block) (p dpa n : Nat) : Bool :=
  s.ownsRange p dpa n && (List.range ((dpa % 2 ^ 21 + n + 2 ^ 21 - 1) / 2 ^ 21)).all fun i =>
    decide ((s.tier (tierBlockOf dpa + i)).cls = clsOrdinary)

/-- Whether the trace region may be enabled for a partition (R511): LOG2 in its range, the region in place, its control line
zero. -/
def Block.traceRegionOk (s : Block) (p : Nat) : Bool :=
  let l := s.fld F.DBG_TRACE_BASE_LO_LOG2
  decide (10 ≤ l) && decide (l ≤ 24) && s.ordinaryOf p s.traceBase (64 + 32 * s.traceSlots)
    && decide (s.peek s.traceBase 64 = (List.replicate 64 0, false))

/-- A write of DBG_TRACE_CFG: MAX_PER_US outside its range drops it whole; EN is refused where the region does not do. -/
def Block.writeTraceCfg (s : Block) (v : Nat) : Block :=
  let rate := getBits v 10 0
  if rate = 0 ∨ 1024 < rate then s.dbgRefuse 0x01
  else
    let was := s.isSet F.DBG_TRACE_CFG_EN
    let on := decide (getBits v 31 31 = 1)
    let bad := on && !was && !s.traceRegionOk (getBits v 28 24)
    let keep := setBits v 23 11 0
    let t := s.setReg R.DBG_TRACE_CFG (BitVec.ofNat 32 (if bad then setBits keep 31 31 0 else keep))
    if bad then t.dbgRefuse 0x04
    else if on && was then t
    else t.setDbg { t.dbg with records := [], produce := 0, budget := (0, 0), lost := 0 }

/-- DBG_TRACE_CFG.EN enables the trace region or is refused (R511). -/
def execTraceEnable (by_ : Actor) (value : BitVec 32) (s : State) : Out :=
  s.act fun s => (s.byFull by_ fun t => t.writeTraceCfg value.toNat)

/-- A trace record's 32 bytes (Table 18-2). -/
def TraceRec.encode (r : TraceRec) (die : Nat) : List Byte :=
  let ids := r.attr.getD (0, 0, 0)
  leBytes 8 (r.type_ * 2 ^ 56 + die * 2 ^ 54 + r.ptn * 2 ^ 49 + (if r.attr.isSome then 2 ^ 48 else 0) + ids.1 * 2 ^ 32
      + ids.2.1 * 2 ^ 16 + ids.2.2 * 4)
    ++ leBytes 8 r.time ++ leBytes 8 r.arg0 ++ leBytes 8 r.arg1

/-- The address of record `n` of the trace region. -/
def Block.traceAt (s : Block) (n : Nat) : Nat := s.traceBase + 64 + 32 * (n % s.traceSlots)

/-- A record written at PRODUCE, and PRODUCE advanced (R511, R513); bytes outside DRAM are not stored. -/
def Block.putTrace (s : Block) (r : TraceRec) (die : Nat) : Block :=
  let n := s.dbg.produce
  let t := if s.traceAt n < dramBytes then s.poke .firmware (s.traceAt n) (r.encode die) else s
  let u := if s.traceBase < dramBytes then t.poke .firmware s.traceBase (leBytes 8 (n + 1)) else t
  (u.setDbg { u.dbg with produce := n + 1, budget := (s.now, u.dbg.budget.2 + 1) }).setFld F.DBG_TRACE_STATUS_FULL 0

/-- A record dropped (R513). -/
def Block.dropTrace (s : Block) (full : Bool) : Block :=
  let t := (s.setDbg { s.dbg with lost := s.dbg.lost + 1 }).bump F.DBG_TRACE_LOST_COUNT
  t.when full fun u => u.setFld F.DBG_TRACE_STATUS_FULL 1

/-- A record that reaches the trace writer (R513): dropped where the microsecond's records are used up or the region is full;
else written, behind a LOST record where records were dropped since the last one written. -/
def Block.takeTrace (s0 : Block) (r : TraceRec) (die : Nat) : Block :=
  let s := if s0.dbg.budget.1 = s0.now then s0 else s0.setDbg { s0.dbg with budget := (s0.now, 0) }
  let need := if s.dbg.lost = 0 then 1 else 2
  let consume := s.peekNat (s.traceBase + 8) 8
  let full := !s.isSet F.DBG_TRACE_CFG_WRAP && decide (consume + s.traceSlots < s.dbg.produce + need)
  if full then s.dropTrace true
  else if s.fld F.DBG_TRACE_CFG_MAX_PER_US ≤ s.dbg.budget.2 then s.dropTrace false
  else if s.dbg.lost = 0 then s.putTrace r die
  else
    let t := s.putTrace { type_ := ttLost, time := s.net.router.chrono.time / 16, arg0 := s.dbg.lost, arg1 := 0 } die
    (t.setDbg { t.dbg with lost := 0 }).putTrace r die

/-- The trace writer takes a record that waits, from a die; it waits while a host holds a line that it writes (R277). -/
def execTraceRecordWrite (pos : BitVec 16) (die : Fin 4) (s : State) : Out :=
  s.act fun s => (
    match s.dbg.records[pos.toNat]? with
    | none => s
    | some r =>
      let n := s.dbg.produce
      let lines := [s.traceBase, lineOf (s.traceAt n), lineOf (s.traceAt (n + 1))]
      if s.blocked .firmware true lines then s.noteWants .firmware true lines
      else (s.setDbg { s.dbg with records := s.dbg.records.eraseIdx pos.toNat }).takeTrace r die.val)

/-- What a MARK record says of its writer: a logical device's number, or 0x1FF for an MCTP path; the table gives nothing for
an FM-owned logical device or firmware. -/
def Block.markWriter (s : Block) : Actor → Nat × Block
  | .fn (.ld n) => (n.val, s)
  | .fn (.mctp _) => (0x1FF, s)
  | _ => let (v, t) := s.fresh; (v.toNat % 512, t)

/-- A write of DBG_TRACE_MARK (R512). -/
def execTraceMark (by_ : Actor) (value : BitVec 32) (s : State) : Out :=
  s.act fun s => (s.byFull by_ fun t =>
    let (w, u) := t.markWriter by_
    u.trace ttMark .none_ value.toNat w)

/-! ## Stepping a ring -/

/-- A ring paused at a descriptor: MODE STEPPING, PAUSED and SEQ in the lowest slot that names it (R515). -/
def Block.pauseAt (s : Block) (e : LogEntry) : Block :=
  match s.stepSlots e.ring with
  | [] => s
  | k :: _ =>
    let t := (s.setFld (F.DBG_STEP_CFG_PAUSED k) 1).setFld (F.DBG_STEP_SEQ_SEQ k) e.seq
    let u := (t.setRing e.ring { t.ring e.ring with paused := some e.seq }).setMode e.ring mdStepping
    u.trace ttPause (e.attr (s.ringPtn e.ring)) e.seq (e.ring * 2 ^ 48 + k)

/-- Whether an entry's pause may begin: with DRAIN, every earlier descriptor has its completion written (R515). -/
def Block.pauseDue (s : Block) (e : LogEntry) : Bool :=
  s.startable e && s.pausesAt e
    && (s.earlierDone e || !(s.stepSlots e.ring).any fun k => s.isSet (F.DBG_STEP_CFG_DRAIN k))

/-- A stepped ring's descriptor reaches a pause point (R515). -/
def execStepPause (ring : Fin 4096) (s : State) : Out :=
  s.act fun s => (
    if s.ringMode ring.val ≠ mdRunning then s
    else
      match (s.entriesOf ring.val).find? s.pauseDue with
      | some e => s.pauseAt e
      | none => s)

/-- Whether an actor reaches a step slot (R510). -/
def Block.reachesSlot (s : Block) (a : Actor) (k : Nat) : Bool :=
  match a with
  | .firmware => true
  | .fn f => s.isFull f || match s.scopeOf f with
    | some p =>
      decide (12 ≤ k) && (!s.isSet (F.DBG_STEP_CFG_EN k) || decide (s.ringPtn (s.fld (F.DBG_STEP_CFG_RING k)) = p))
    | none => false

/-- A slot's paused descriptor released: its ring RUNNING and serviced; with `run`, the slot's EN cleared first (R516). -/
def Block.stepOn (s : Block) (k : Nat) (run : Bool) : Block :=
  let r := s.fld (F.DBG_STEP_CFG_RING k)
  match (s.ring r).paused with
  | none => s
  | some q =>
    let t := ((s.mapEntry r q fun e => { e with released := true }).unpause r).setMode r mdRunning
    (t.when run fun u => u.setFld (F.DBG_STEP_CFG_EN k) 0).service r

/-- A command on a step slot, refused where the slot is not PAUSED. -/
def Block.stepCmd (s : Block) (a : Actor) (k : Nat) (run : Bool) : Block :=
  if !s.reachesSlot a k then s.scopeViol
  else if !s.isSet (F.DBG_STEP_CFG_PAUSED k) then s.dbgRefuse 0x02
  else s.stepOn k run

/-- DBG_STEP_CMD STEP (R516). -/
def execStepCmdStep (by_ : Actor) (slot : Fin 16) (s : State) : Out := s.act fun s => (s.stepCmd by_ slot.val false)

/-- DBG_STEP_CMD RUN (R516). -/
def execStepCmdRun (by_ : Actor) (slot : Fin 16) (s : State) : Out := s.act fun s => (s.stepCmd by_ slot.val true)

/-! ## JTAG (R523) -/

/-- The JTAG port changed, available whenever VIN is present; `bits` are what it shifts out. -/
def State.jtag (s : State) (tap : TapSt) (bits : List Bool) : Out :=
  .next (if s.blk.boot.phase = .unpowered then s else { s with tap := tap, blk := s.blk.emit (.jtag bits) })

/-- The bits of the identification register, least significant first: version 1, part 0x6480, manufacturer 0x5A7. -/
def idcodeBits : List Bool := (List.range 32).map fun i => decide (getBits 0x16480B4F i i = 1)

/-- IDCODE. -/
def execJtagIdcode (s : State) : Out := s.jtag { s.tap with ir := .idcode, driven := false } idcodeBits

/-- BYPASS: a register of one bit that reads 0. -/
def execJtagBypass (s : State) : Out := s.jtag { s.tap with ir := .bypass, driven := false } [false]

/-- SAMPLE/PRELOAD: the boundary register captures the lands and takes new values. -/
def execSamplePreload (lands load : List Bool) (s : State) : Out :=
  s.jtag { s.tap with ir := .sample, driven := false, captured := lands, boundary := load } lands

/-- Whether the entry of a Warm reset has ended. -/
def Block.warmEntered (s : Block) : Bool :=
  !s.boot.cold && match s.boot.phase with
    | .release _ => true
    | _ => false

/-- EXTEST: it drives the boundary lands while RST_N is asserted and the Warm entry has ended; else it loads as BYPASS. -/
def execExtest (rstLow : Bool) (s : State) : Out :=
  if rstLow && s.blk.warmEntered then s.jtag { s.tap with ir := .extest, driven := true } s.tap.boundary
  else s.jtag { s.tap with ir := .bypass, driven := false } [false]

end Sys2Proof.Machine
end

