-- ==== Sys2Proof/Machine/Fabric.lean ====
section
/-! DEFINITION.  FABRIC cells (R480): resets and partition state commands of the fabric manager, authenticated. -/

namespace Sys2Proof.Machine

/-- The MGMT cell at the head of those delivered from a port, if it is of an MTYPE and, for FABRIC, of an FCMD. -/
def Block.mgmtCell (s : Block) (p mtype : Nat) (sub : Nat → Bool) : Option InCell :=
  (s.localCell p kMgmt).filter fun e => decide (e.cell.f 0 63 56 = mtype) && sub (e.cell.f 0 55 48)

/-- Whether a FABRIC cell is authentic: a key is installed, the MAC holds over bytes 4–11 of the cell and payload bytes
0x00–0x2F, COUNTER is above the last accepted one. -/
def Block.fabricAuth (s : Block) (c : Cell) : Bool :=
  match s.sec.fabricKey with
  | none => false
  | some key =>
    decide (c.payload.drop 48 = Config.cmac key (leBytes 8 c.hdr ++ c.payload.take 48)) && decide (s.sec.fabricCount < c.w 16)

/-- A FABRIC cell taken: refused and counted unless authentic; else its COUNTER is the last accepted and `act` applies it,
answering true, or false where the command itself is refused, with a DETAIL that the spec does not state. -/
def Block.fabricCell (s : Block) (e : InCell) (act : Block → Bool × Block) : Option Block :=
  if !s.fabricAuth e.cell then (s.bump F.SEC_FABRIC_FAIL_COUNT).finishCell e rsNotPermitted 0x04 0
  else
    let t := s.setSec { s.sec with fabricCount := e.cell.w 16 }
    match act t with
    | (true, u) => u.finishCell e rsOk 0 0
    | (false, u) =>
      let (v, w) := u.fresh
      w.finishCell e rsNotPermitted (v.toNat % 256) 0

/-- What a RESET cell asks for: Warm, a Link reset, or neither. -/
def Cell.fabricReset (c : Cell) : Option (Block → Block) :=
  let cls := c.f 0 31 28
  let target := c.f 0 6 0
  if cls = 2 ∧ target = 0 then some fun t => t.raiseModule false 0x07
  else if cls = 6 ∧ target ≤ 95 then some fun t => t.raiseLink target 0x10
  else none

/-- A FABRIC RESET cell (R72, R480): its answer leaves before the reset that it raises. -/
def execFabricReset (port : Fin 96) (s : State) : Out :=
  s.act fun s => (
    match s.mgmtCell port.val 0x10 fun f => decide (f = 1) with
    | none => s
    | some e =>
      match e.cell.fabricReset with
      | some raise => ((s.fabricCell e fun t => (true, t)).map fun t => if s.fabricAuth e.cell then raise t else t).getD s
      | none => (s.fabricCell e fun t => (false, t.emit (.fabricRefused (e.cell.f 0 31 28)))).getD s)

/-- A FABRIC STATE cell: a state command of PTN_CMD (R460, R480). -/
def execFabricState (port : Fin 96) (s : State) : Out :=
  s.act fun s => (
    match s.mgmtCell port.val 0x10 fun f => decide (f = 2) with
    | none => s
    | some e =>
      (s.fabricCell e fun t =>
        match t.ptnCommand (e.cell.f 0 31 28) (e.cell.f 0 4 0) none with
        | (none, u) => (true, u)
        | (some _, u) => (false, u)).getD s)

end Sys2Proof.Machine
end

