-- ==== Sys2Proof/Machine/Plot.lean ====
section
/-! DEFINITION.  The plot (R517–R520): its triggers, the sample of what waits for what, its cycles and their confirmation,
the records written; the Tabragar messages that concern regions and captures (R522). -/

namespace Sys2Proof.Machine

/-! ## Nodes (Table 18-6) -/

/-- STATE of a task. -/
def TaskState.code : TaskState → Nat
  | .backoff => 1
  | .running => 2
  | .waiting _ => 3
  | _ => 0

/-- STATE of an open transaction of the rose ring: the class of what it waits for, in the order of Table 9-5. -/
def RoseTxn.class_ (t : RoseTxn) : Nat := if t.due ≠ [] then 2 else if t.data then 4 else 3

/-- DETAIL of a transaction of the rose ring. -/
def roseDetail (home stop nacks : Nat) : Nat := home * 2 ^ 58 + stop * 2 ^ 52 + min nacks 65535

/-- What a node of the plot shows now; none where what it stands for is gone. -/
def Block.plotNode (s : Block) : PlotKey → Option PlotNode
  | .ring r =>
    some { kind := 1, ptn := s.ringPtn r, die := some (s.lineDie (s.cplBase r)), st := s.ringMode r, id := r
           detail := s.fld (F.RNG_STATE_INFLIGHT r) * 2 ^ 32 + s.fld (F.RNG_STATE_ERR r) * 2 ^ 20 }
  | .entry r q => (s.entry r q).map fun e =>
    { kind := 2, ptn := s.ringPtn r, die := some (s.lineDie (s.cplBase r)), st := e.state.code, id := q
      detail := Desc.layer e.bytes * 2 ^ 48 + Desc.operatorId e.bytes * 2 ^ 32 + r * 2 ^ 20 + Desc.opcode e.bytes * 2 ^ 8 }
  | .task r q i => (s.task r q i).bind fun t =>
    if t.state = .ended then none
    else some { kind := 3, ptn := s.ringPtn r, die := t.cluster.map (· / 9), st := t.state.code, id := t.stream, detail := t.core.getD 511 }
  | .object o =>
    some { kind := 4, ptn := (s.objOwner o).getD 0, st := (s.obj o).kind, id := o, detail := (s.obj o).value }
  | .link l =>
    some { kind := 5, die := some (dieOfLink l), st := s.fld (F.PFL_STATUS_STATE l), id := l
           detail := s.fld (F.PFL_STATUS_REASON l) * 2 ^ 24 + (s.reg (R.PFL_CLASS_OFF l)).toNat % 256 }
  | .rose line stop =>
    match s.host.rose.txns.find? fun t => decide (t.req.line = line) && decide (t.req.stop = stop) with
    | some t => some { kind := 6, ptn := (s.lineOwner line).getD 0, die := some (t.home / 10), st := t.class_, id := line
                       detail := roseDetail t.home stop t.req.nacks }
    | none => (s.host.rose.waiting.find? fun q => decide (q.line = line) && decide (q.stop = stop)).map fun q =>
      { kind := 6, ptn := (s.lineOwner line).getD 0, die := some (s.homeStop line / 10), st := 1, id := line
        detail := roseDetail (s.homeStop line) stop q.nacks }
  | .fault id => (s.xlt.faults.find? fun f => decide (f.id = id)).map fun f =>
    { kind := 7, ptn := f.ptn, die := some f.die, st := f.reason, id := id, detail := f.ctx * 2 ^ 52 + f.page * 2 ^ 12 }
  | .burst src tag => (s.burst src tag).map fun b =>
    { kind := 8, ptn := s.ringPtn b.ring, st := 0, id := src * 2 ^ 44 + tag, detail := b.committed }
  | .outside k id => some { kind := 9, ptn := if k = 2 then id else 0, st := k, id := id }

/-! ## Edges (Table 18-7) -/

/-- Whether a logbook entry waits to start. -/
def LogEntry.waits (e : LogEntry) : Bool := decide (e.state = .accepted) && e.fin.isNone && !e.held

/-- The edge from a ring to its oldest entry without a completion. -/
def Block.headEdge (s : Block) (r : Nat) : List PlotEdge :=
  match (s.entriesOf r).find? fun e => decide (e.state ≠ .completed) with
  | some e => [{ src := .ring r, dst := .entry r e.seq, reason := 0x01 }]
  | none => []

/-- The edges from an entry: to the earlier entries that its FENCE waits for, to its WAIT_OBJ, to its tasks. -/
def Block.entryEdges (s : Block) (e : LogEntry) : List PlotEdge :=
  let me : PlotKey := .entry e.ring e.seq
  (if e.waits && Desc.fence e.bytes then
      ((s.entriesOf e.ring).filter fun x => decide (x.seq < e.seq) && decide (x.state ≠ .completed)).map fun x =>
        { src := me, dst := .entry x.ring x.seq, reason := 0x02, arg := x.seq }
    else [])
    ++ (if e.waits && Desc.waitEn e.bytes && !e.waitMet then
      [{ src := me, dst := .object (Desc.waitObj e.bytes), reason := 0x03, arg := Desc.waitThreshold e.bytes }] else [])
    ++ ((s.tasksOf e.ring e.seq).filter fun t => decide (t.state ≠ .ended)).map fun t =>
      { src := me, dst := .task t.ring t.seq t.idx, reason := 0x05 }

/-- The edges from an object that something waits for: to each entry whose SIGNAL_EN names it, else to the driver. -/
def Block.objectEdges (s : Block) (o : Nat) : List PlotEdge :=
  match s.ctl.logbook.filter fun e => Desc.signalEn e.bytes && decide (Desc.signalObj e.bytes = o) && !e.signalled with
  | [] => [{ src := .object o, dst := .outside 2 ((s.objOwner o).getD 0), reason := 0x04 }]
  | es => es.map fun e => { src := .object o, dst := .entry e.ring e.seq, reason := 0x04 }

/-- The node that a request of the pool waits for: the remote node while a link to it is UP, else a link that leads there. -/
def Block.answerNode (s : Block) (q : OutReq) : PlotKey :=
  match s.route false q.dst s.node q.tag with
  | some _ => .outside 1 q.dst
  | none =>
    match s.setPorts (s.waitSet false q.dst) with
    | l :: _ => .link l
    | [] => .outside 1 q.dst

/-- The edges from a task by what it waits for, and to what answers its descriptor's requests. -/
def Block.taskEdges (s : Block) (t : Task) : List PlotEdge :=
  let me : PlotKey := .task t.ring t.seq t.idx
  let held := match t.state with
    | .waiting (.object o th) => [{ src := me, dst := .object o, reason := 0x06, arg := th }]
    | .waiting (.fault id) => [{ src := me, dst := .fault id, reason := 0x07 }]
    | .waiting .burst => match s.burstOf t.ring t.seq with
      | some b => [{ src := me, dst := .burst b.source b.tag, reason := 0x0A }]
      | none => []
    | .waiting .slot => match t.core with
      | some k => ((s.tasksOn k).filter (·.logit)).map fun x => { src := me, dst := .task x.ring x.seq x.idx, reason := 0x0E }
      | none => []
    | .waiting .maxima => ((s.tasksOf t.ring t.seq).filter fun x =>
        decide (x.idx ≠ t.idx) && decide (x.state ≠ .ended) && decide (x.state ≠ .waiting .maxima)).map fun x =>
      { src := me, dst := .task x.ring x.seq x.idx, reason := 0x0E }
    | _ => []
  held ++ (s.net.router.reqs.filter fun q => decide (q.ring = t.ring) && decide (q.seq = t.seq)).map fun q =>
    { src := me, dst := s.answerNode q, reason := 0x09, arg := q.tag }

/-- The edges from a transaction of the rose ring: to the logical devices snooped for its line, and from a NACKed request to
the transaction that holds its line open. -/
def Block.roseEdges (s : Block) : List PlotEdge :=
  (s.host.rose.txns.flatMap fun t => (s.host.bisnps.filter fun b => decide (b.dpa = t.req.line)).map fun b =>
      { src := .rose t.req.line t.req.stop, dst := .outside 0 b.fn, reason := 0x0D })
    ++ s.host.rose.waiting.flatMap fun q => match s.roseTxn q.line with
      | some t => [{ src := .rose q.line q.stop, dst := .rose t.req.line t.req.stop, reason := 0x0C }]
      | none => []

/-- The edges from links whose partner sends an OFF bit. -/
def Block.linkEdges (s : Block) : List PlotEdge :=
  (List.range 96).flatMap fun l =>
    let off := s.fld (F.PFL_CLASS_OFF_RECEIVED l)
    if off = 0 then []
    else [{ src := .link l, dst := .outside 1 (s.fld (F.PFL_PARTNER_NODE_NODE l)), reason := 0x0B, arg := off }]

/-- Every edge of Table 18-7 that holds now. -/
def Block.plotEdges (s : Block) : List PlotEdge :=
  let live := s.eng.tasks.filter fun t => decide (t.state ≠ .ended)
  let base := s.ringsOn.flatMap s.headEdge ++ s.ctl.logbook.flatMap s.entryEdges ++ live.flatMap s.taskEdges
  let objs := (base.filterMap fun e => match e.dst with
    | .object o => some o
    | _ => none).eraseDups
  base ++ objs.flatMap s.objectEdges
    ++ s.xlt.faults.map (fun f => { src := .fault f.id, dst := .outside 2 f.ptn, reason := 0x08 })
    ++ s.eng.bursts.map (fun b => { src := .burst b.source b.tag, dst := .outside 1 b.source, reason := 0x0A })
    ++ s.linkEdges ++ s.roseEdges

/-- The ends of edges. -/
def endsOf (es : List PlotEdge) : List PlotKey := (es.flatMap fun e => [e.src, e.dst]).eraseDups

/-- The nodes of a plot in its order: ring by ring the ring, its entries and the objects that they wait for, then the rest;
only what an edge touches. -/
def Block.plotOrder (s : Block) (es : List PlotEdge) : List PlotKey :=
  let ends := endsOf es
  let byRing := s.ringsOn.flatMap fun r =>
    [PlotKey.ring r] ++ (s.entriesOf r).map (fun e => PlotKey.entry r e.seq)
      ++ ((s.entriesOf r).filter fun e => Desc.waitEn e.bytes).map fun e => PlotKey.object (Desc.waitObj e.bytes)
  ((byRing.filter fun k => ends.contains k) ++ ends).eraseDups

/-! ## Cycles -/

/-- The nodes reached from some along edges, in at most so many rounds. -/
def reachFrom (es : List PlotEdge) : Nat → List PlotKey → List PlotKey
  | 0, seen => seen
  | n + 1, seen =>
    match ((es.filter fun e => seen.contains e.src && !seen.contains e.dst).map (·.dst)).eraseDups with
    | [] => seen
    | new => reachFrom es n (seen ++ new)

/-- The edges that lie on a cycle. -/
def loopsOf (es : List PlotEdge) : List PlotEdge :=
  es.filter fun e => (reachFrom es es.length [e.dst]).contains e.src

/-- The number of cycles that edges on cycles make: those that share a node count as one. -/
def cyclesOf (loops : List PlotEdge) : Nat :=
  ((loops.map (·.src)).eraseDups.foldl (fun (acc : Nat × List PlotKey) k =>
    if acc.2.contains k then acc else (acc.1 + 1, acc.2 ++ reachFrom loops loops.length [k])) (0, [])).1

/-! ## Captures -/

/-- The plot region's start, and the slot that a plot takes (R519). -/
def Block.plotBase (s : Block) : Nat := s.pair R.DBG_PLOT_BASE_LO R.DBG_PLOT_BASE_HI / 2 ^ 21 % 2 ^ 31 * 2 ^ 21
def Block.plotSlot (s : Block) : Nat := s.plotBase + 2 ^ 21 * (s.fld F.DBG_PLOT_SEQ_COUNT % 2)

/-- Whether the plot region may be enabled for a partition (R519). -/
def Block.plotRegionOk (s : Block) (p : Nat) : Bool := s.ordinaryOf p s.plotBase (2 ^ 22)

/-- Bytes written by firmware into the plot region; bytes outside DRAM are not stored. -/
def Block.plotPoke (s : Block) (dpa : Nat) (bytes : List Byte) : Block :=
  if bytes = [] ∨ dramBytes < dpa + bytes.length then s else s.poke .firmware dpa bytes

/-- A capture begins: MAGIC 0 in the header of its slot, BUSY, LAST_TRIGGER (R518). -/
def Block.beginCapture (s : Block) (trigger : Nat) (root : Option PlotKey) : Block :=
  let t := s.plotPoke s.plotSlot (leBytes 4 0)
  ((t.setDbg { t.dbg with capture := some { trigger := trigger, root := root, start := t.net.router.chrono.time / 16 } }).setFld
    F.DBG_PLOT_STATUS_BUSY 1).setFld F.DBG_PLOT_STATUS_LAST_TRIGGER trigger

/-- A capture asked for: refused while one runs, or while the region is not enabled; whether it began. -/
def Block.askCapture (s : Block) (trigger : Nat) : Option Nat × Block :=
  if s.isSet F.DBG_PLOT_STATUS_BUSY then (some 0x03, s)
  else if !s.isSet F.DBG_PLOT_CFG_EN then (some 0x04, s)
  else (none, s.beginCapture trigger none)

/-- DBG_PLOT_CMD.CAPTURE (R517). -/
def execCapture (by_ : Actor) (s : State) : Out :=
  s.act fun s => (s.byFull by_ fun t =>
    match t.askCapture 0x01 with
    | (some code, u) => u.dbgRefuse code
    | (none, u) => u)

/-- Whether what an automatic trigger names stands: a ring with work in flight, an open transaction, a link with an OFF
bit. -/
def Block.hangs (s : Block) : HangCause → Bool
  | .ring r => decide (0 < s.fld (F.RNG_STATE_INFLIGHT r.val))
  | .rose line => (s.roseTxn line.toNat).isSome
  | .off l => decide ((s.reg (R.PFL_CLASS_OFF l.val)).toNat % 256 ≠ 0)

/-- The TRIGGER and the node of an automatic trigger. -/
def Block.hangNode (s : Block) : HangCause → Nat × Option PlotKey
  | .ring r => (0x03, some (.ring r.val))
  | .rose line => (0x04, (s.roseTxn line.toNat).map fun t => .rose t.req.line t.req.stop)
  | .off l => (0x05, some (.link l.val))

/-- An automatic trigger (R517), suppressed while a capture runs, within MIN_S of the last automatic one, or with EN 0. -/
def execPlotHangTrigger (cause : HangCause) (s : State) : Out :=
  s.act fun s => (
    if !s.isSet F.DBG_PLOT_CFG_AUTO || !s.hangs cause then s
    else
      let soon := s.dbg.lastAuto.any fun x => decide (s.now < x + s.fld F.DBG_PLOT_CFG_MIN_S * 1000000)
      if s.isSet F.DBG_PLOT_STATUS_BUSY || soon || !s.isSet F.DBG_PLOT_CFG_EN then s.bump F.DBG_PLOT_SUPPRESSED_COUNT
      else
        let (trigger, root) := s.hangNode cause
        let t := s.beginCapture trigger root
        t.setDbg { t.dbg with lastAuto := some s.now })

/-- The dies that are sampled: those in service, none in a Die reset. -/
def Block.plotDies (s : Block) : List Nat :=
  (List.range 4).filter fun d => !s.dieOut d && !(s.boot.dieReset.any fun x => decide (x.1 = d))

/-- The sample of a capture: nodes of the dies sampled, and the edges between them. -/
def Block.sampled (s : Block) (c : Capture) : Capture :=
  let dies := s.plotDies
  let es := s.plotEdges
  let ns := (s.plotOrder es).filterMap fun k => (s.plotNode k).bind fun n =>
    if n.die.all dies.contains then some (k, n) else none
  let here := fun k => ns.any fun x => decide (x.1 = k)
  let edges := es.filter fun e => here e.src && here e.dst
  { c with nodes := ns, edges := edges, dies := dies, sampled := true, confirmed := decide (loopsOf edges = []) }

/-- The second sample: a cycle is confirmed when its nodes are found again in the same state and its edges hold again. -/
def Block.confirmed (s : Block) (c : Capture) : Capture :=
  let now := s.plotEdges
  let same := fun k => match c.nodes.find? fun x => decide (x.1 = k) with
    | some x => (s.plotNode k).any fun n => decide (n.st = x.2.st)
    | none => false
  { c with
    confirmed := true
    loops := loopsOf ((loopsOf c.edges).filter fun e => now.contains e && same e.src && same e.dst) }

/-- Helm cores have sampled every die, and firmware adds the edges; where there are cycles, the second sample confirms them
(R518). -/
def execPlotSampleDone (s : State) : Out :=
  s.act fun s => (
    match s.dbg.capture with
    | none => s
    | some c =>
      let c' := if !c.sampled then s.sampled c else if !c.confirmed then s.confirmed c else c
      s.setDbg { s.dbg with capture := some c' })

/-- AGE_US of the node at a place. -/
def plotAge (seq place : Nat) : Nat := Config.plotOpen seq place 1 % 2 ^ 32

/-- An entry put into a list in descending order of its first part. -/
def putByAge (x : Nat × PlotKey) : List (Nat × PlotKey) → List (Nat × PlotKey)
  | [] => [x]
  | y :: t => if y.1 < x.1 then x :: y :: t else y :: putByAge x t

/-- The nodes that a plot keeps (R518): those of confirmed cycles, those on chains from the node that triggered it, the rest
by descending AGE_US, as far as there is room. -/
def Capture.kept (c : Capture) (seq : Nat) : List PlotKey :=
  let keys := c.nodes.map (·.1)
  if keys.length ≤ 16384 then keys
  else
    let cyc := (c.loops.map (·.src)).eraseDups
    let chain := match c.root with
      | some k => reachFrom c.edges c.edges.length [k]
      | none => []
    let aged := ((keys.zipIdx).foldl (fun acc x => putByAge (plotAge seq x.2, x.1) acc) []).map (·.2)
    let first := ((cyc ++ chain ++ aged).eraseDups.filter keys.contains).take 16384
    keys.filter first.contains

/-- A node record's 32 bytes (R520), of the node at a place. -/
def PlotNode.encode (n : PlotNode) (k : PlotKey) (seq place : Nat) (cyc : Bool) : List Byte :=
  let die := n.die.getD (Config.plotOpen seq place 0 % 4)
  let id := if n.kind = 9 ∧ n.st = 2 then Config.plotOpen seq place 2 % 2 ^ 64 else n.id
  let detail := match k with
    | .task .. => if n.detail = 511 then Config.plotOpen seq place 3 % 512 else n.detail
    | _ => n.detail
  leBytes 8 (n.kind * 2 ^ 60 + n.ptn * 2 ^ 55 + die * 2 ^ 53 + (if cyc then 2 ^ 52 else 0) + n.st * 2 ^ 48)
    ++ leBytes 8 id ++ leBytes 8 detail ++ leBytes 8 (plotAge seq place * 2 ^ 32)

/-- An edge record's 16 bytes (R520), between the nodes at two places. -/
def PlotEdge.encode (e : PlotEdge) (src dst : Nat) (cyc : Bool) : List Byte :=
  leBytes 8 (src * 2 ^ 50 + dst * 2 ^ 36 + e.reason * 2 ^ 28 + (if cyc then 2 ^ 27 else 0)) ++ leBytes 8 e.arg

/-- The records of a plot: its node records, its edge records, and their numbers, with whether some were dropped. -/
def Capture.records (c : Capture) (seq : Nat) : List Byte × List Byte × Nat × Nat × Bool × Bool :=
  let keys := c.kept seq
  let cyc := c.loops.map (·.src)
  let nodes := (keys.zipIdx.filterMap fun x => (c.nodes.find? fun y => decide (y.1 = x.1)).map fun y =>
    y.2.encode x.1 seq x.2 (cyc.contains x.1)).flatten
  let all := c.edges.filter fun e => keys.contains e.src && keys.contains e.dst
  let es := all.take 65536
  let edges := (es.map fun e => e.encode (keys.findIdx (· == e.src)) (keys.findIdx (· == e.dst)) (c.loops.contains e)).flatten
  (nodes, edges, keys.length, es.length, decide (keys.length < c.nodes.length), decide (es.length < c.edges.length))

/-- The first 60 bytes of a plot's header (Table 18-5). -/
def Capture.header (c : Capture) (seq end_ n m flags : Nat) : List Byte :=
  leBytes 4 0x504C4F54 ++ leBytes 2 1 ++ leBytes 1 c.trigger ++ leBytes 1 flags ++ leBytes 8 seq ++ leBytes 8 c.start
    ++ leBytes 8 end_ ++ leBytes 4 n ++ leBytes 4 m ++ leBytes 4 (cyclesOf c.loops)
    ++ leBytes 1 (c.dies.foldl (fun v d => v + 2 ^ d) 0) ++ List.replicate 15 0

/-- A capture's records and then its header written, a PLOT record traced, the fabric manager told (R518). -/
def Block.writePlot (s : Block) (c : Capture) : Block :=
  let seq := s.fld F.DBG_PLOT_SEQ_COUNT
  let slot := s.plotSlot
  let (nodes, edges, n, m, cutN, cutE) := c.records seq
  let missing := decide (c.dies.length < 4) || decide (s.plotDies.length < 4)
  let flags := (if cutN then 1 else 0) + (if cutE then 2 else 0) + (if missing then 4 else 0)
  let head := c.header seq (s.net.router.chrono.time / 16) n m flags
  let t := ((s.plotPoke (slot + 0x40) nodes).plotPoke (slot + 0x80040) edges).plotPoke slot
    (head ++ leBytes 4 (crc32c (head ++ nodes ++ edges)))
  let u := ((t.bump F.DBG_PLOT_SEQ_COUNT).setFld F.DBG_PLOT_STATUS_BUSY 0).trace ttPlot .none_ seq c.trigger
  (u.setDbg { u.dbg with capture := none }).emit (.pldm (.plot seq))

/-- The lines of the slot that a capture writes. -/
def Capture.lines (c : Capture) (slot seq : Nat) : List Nat :=
  let (nodes, edges, _) := c.records seq
  slot :: ((List.range ((nodes.length + 63) / 64)).map fun i => slot + 64 * (i + 1))
    ++ (List.range ((edges.length + 63) / 64)).map fun i => slot + 0x80040 + 64 * i

/-- The records of a confirmed capture are written; they wait while a host holds one of their lines (R277). -/
def execPlotWritten (s : State) : Out :=
  s.act fun s => (
    match s.dbg.capture with
    | none => s
    | some c =>
      if !c.sampled || !c.confirmed then s
      else if s.blocked .firmware true (c.lines s.plotSlot (s.fld F.DBG_PLOT_SEQ_COUNT)) then
        s.noteWants .firmware true (c.lines s.plotSlot (s.fld F.DBG_PLOT_SEQ_COUNT))
      else s.writePlot c)

/-! ## Tabragar messages (R522) -/

/-- The completion codes. -/
def tabOk : Nat := 0x00
def tabNotSecured : Nat := 0x01
def tabBadAccess : Nat := 0x02
def tabBusy : Nat := 0x03

/-- Whether only GID and RBT are read: at HELD, in recovery boot, and before firmware serves a path. -/
def Block.onlyIsland (s : Block) : Bool := s.rindDown || decide (s.boot.phase = .recovery)

/-- Whether a message comes in a live secured session of its path. -/
def Block.secured (s : Block) (path : MctpPath) (session : Option (Fin 16)) : Bool :=
  session.any fun n => s.liveSession (.mctp path) n.val

/-- A Tabragar message answered: not at all where its path is down, or while the island waits for its crossing (R71); BUSY while the binnacle switches its image, and where
only the island serves unless `early`; NOT_SECURED outside a session unless `open_`; else by `act`. -/
def Block.tabragar (s : Block) (path : MctpPath) (session : Option (Fin 16)) (early open_ : Bool)
    (act : Block → MctpReply × Block) : Block :=
  if !s.mctpUp path ∨ (path = .i3c ∧ s.crossFull true .binnacle) then s
  else if s.switching ∧ path = .i3c then s.emit (.mctp path { code := tabBusy })
  else if s.onlyIsland && !early then s.emit (.mctp path { code := tabBusy })
  else if !open_ && !s.secured path session then s.emit (.mctp path { code := tabNotSecured })
  else
    let (r, t) := act s
    t.emit (.mctp path r)

/-- PLOT_CAPTURE: a capture with TRIGGER 0x02; it completes BUSY while one runs, BAD_ACCESS where the region is not
enabled. -/
def execMctpPlotCapture (path : MctpPath) (session : Option (Fin 16)) (s : State) : Out :=
  s.act fun s => (s.tabragar path session false false fun t =>
    match t.askCapture 0x02 with
    | (none, u) => ({ code := tabOk }, u)
    | (some code, u) => ({ code := if code = 0x03 then tabBusy else tabBadAccess }, u))

/-- The start and size of an enabled region: 0 the trace, 1 the plot. -/
def Block.tabRegion (s : Block) (region : Nat) : Option (Nat × Nat) :=
  if region = 0 ∧ s.isSet F.DBG_TRACE_CFG_EN then some (s.traceBase, 64 + 32 * s.traceSlots)
  else if region = 1 ∧ s.isSet F.DBG_PLOT_CFG_EN then some (s.plotBase, 2 ^ 22)
  else none

/-- REGION_READ: bytes of the trace or plot region. -/
def execRegionRead (path : MctpPath) (session : Option (Fin 16)) (region : BitVec 8) (off : BitVec 64) (n : BitVec 16)
    (s : State) : Out :=
  s.act fun s => (s.tabragar path session false false fun t =>
    match t.tabRegion region.toNat with
    | some (base, size) =>
      if n.toNat = 0 ∨ 1024 < n.toNat ∨ size < off.toNat + n.toNat ∨ dramBytes < base + size then ({ code := tabBadAccess }, t)
      else
        let ((bytes, _), u) := t.moduleBytes (base + off.toNat) n.toNat
        ({ code := tabOk, bytes := bytes }, u)
    | none => ({ code := tabBadAccess }, t))

end Sys2Proof.Machine
end

