-- ==== Sys2Proof/Machine/RegAccess.lean ====
section
/-! DEFINITION.  Access to the setup registers (R13–R16, R31–R33): what a function reaches, what a register shows, the
latched halves of pairs, how a written value is merged field by field. -/

namespace Sys2Proof.Machine

/-! ## Reach (R33) -/

/-- Whether a function reaches the register space through BAR0 (R521): its host port is up, and presents it. -/
def Block.barUp (s : Block) : Fn → Bool
  | .ld n => s.portUp (n.val / 16) && s.presents n.val
  | .fm p => s.portUp p.val
  | .mctp _ => false

/-- Whether a logical device is granted to a partition (R485). -/
def Block.ldOwned (s : Block) (n p : Nat) : Bool :=
  s.isSet (F.PTN_FN_GRANT_OWNED n) && decide (s.fld (F.PTN_FN_GRANT_PTN n) = p)

/-- What a scoped function of partition `p` reaches of the RNG globals (R144); `v` is the value of a write. -/
def Block.ringGlobalReach (s : Block) (p base i : Nat) (write : Bool) (v : Nat) : Bool :=
  if base = R.RNG_CMD then
    !write || ((decide (getBits v 31 28 = 1) || decide (getBits v 31 28 = 2)) && decide (s.ringPtn (v % 4096) = p))
  else if base = R.RNG_CMD_STATUS then true
  else if base = R.RNG_PTN_QUOTA 0 then !write && decide (i = p)
  else !write && [R.RNG_LOGBOOK_LIMIT, R.RNG_LOGBOOK_USED, R.RNG_LOGBOOK_PEAK, R.RNG_ACCEPT_LO, R.RNG_ACCEPT_HI, R.RNG_REPLAY,
    R.RNG_REPLAY_MS].contains base

/-- What it reaches of the TIR block (R241). -/
def Block.tierReach (s : Block) (p base i a : Nat) (write : Bool) (v : Nat) : Bool :=
  if R.TIR_CX_BASE 0 ≤ a then decide (s.fld (F.TIR_CX_CFG_PARTITION i) = p)
  else if base = R.TIR_BLOCK_READ then
    decide (s.ownerOf (s.fld F.TIR_BLOCK_FIRST_BLOCK * 2 ^ 21) = some p)
  else if base = R.TIR_CACHE_CMD ∨ base = R.TIR_CAVE_CMD then !write || decide (getBits v 4 0 = p)
  else [R.TIR_BLOCK_FIRST, R.TIR_BLOCK_COUNT, R.TIR_BLOCK_CMD, R.TIR_BLOCK_STATUS].contains base

/-- What it reaches of the DBG block (R510). -/
def Block.debugReach (s : Block) (f : Fn) (base i a : Nat) (write : Bool) (v : Nat) : Bool :=
  if R.DBG_CNT_CTL 0 ≤ a then s.reachesCounter (.fn f) i
  else if base = R.DBG_STEP_CFG 0 ∨ base = R.DBG_STEP_SEQ 0 then s.reachesSlot (.fn f) i
  else decide (base = R.DBG_STEP_CMD) && (!write || s.reachesSlot (.fn f) (v % 16))

/-- What a scoped function of partition `p` reaches from the MBX block on: the register at offset `a`, of the array that
begins at `base`, with index `i`. -/
def Block.scopedReach (s : Block) (f : Fn) (p base i a : Nat) (write : Bool) (v : Nat) : Bool :=
  if a < 0x080000 then decide (a ≤ R.MBX_ALLOC)
  else if a < R.RNG_CMD then decide (s.ringPtn i = p)
  else if a < 0x0C0000 then s.ringGlobalReach p base i write v
  else if a < 0x100000 then
    !write && (decide (base = R.PTN_STATE 0) || decide (base = R.PTN_UNITS 0)) && decide (i = p)
  else if a < 0x180000 then false
  else if a < 0x1C0000 then
    decide (R.INT_TWIN_BASE_LO 0 ≤ a) && decide (a < R.INT_TWIN_PATROL) && decide (s.fld (F.INT_TWIN_CFG_PARTITION i) = p)
  else if a < 0x200000 then s.tierReach p base i a write v
  else if a < R.XLT_FQ_BASE_LO 0 then decide (s.ctxPtn i = p)
  else if a < R.XLT_SRC_CTX 0 then decide (i = p)
  else if a < 0x300000 then false
  else if a < R.ENG_SYNC_OWN 0 then decide (s.fld (F.ENG_ST_CFG_PARTITION i) = p)
  else if a < R.ENG_ARB_CFG then decide (s.fld (F.ENG_SYNC_OWN_PARTITION i) = p)
  else if a < 0x480000 then false
  else if a < R.SHP_SVC_CFG_LO 0 then decide (s.fld (F.ENG_ST_CFG_PARTITION i) = p)
  else if a < R.SHP_FN_RATE_LO 0 then !write && decide (8 ≤ a % 16) && decide (i / 8 = p)
  else if a < 0x500000 then false
  else if a < 0x580000 then !write && decide (base = R.SEC_TSP_STATE 0) && s.ldOwned i p
  else if a < 0x600000 then !write && (decide (base = R.RAS_HEALTH) || decide (base = R.RAS_HEALTH_REASON))
  else s.debugReach f base i a write v

/-- Whether a register is of a twin entry that firmware holds: every function reads these (R200). -/
def firmwareTwin (i a : Nat) : Bool :=
  decide (R.INT_TWIN_BASE_LO 0 ≤ a) && decide (a < R.INT_TWIN_PATROL) && decide (i < 16)

/-- Whether a function reaches a register for a read or a write (R33, R200, R462). -/
def Block.reachesReg (s : Block) (f : Fn) (base i a : Nat) (write : Bool) (v : Nat) : Bool :=
  match s.fnKind f with
  | .full => true
  | .ungranted => !write && (decide (a < 0x010000) || firmwareTwin i a)
  | .scoped _ =>
    if !write && firmwareTwin i a then true
    else if a < 0x040000 then !write && decide (a < 0x030000)
    else
      match s.scopeOf f with
      | some p => s.scopedReach f p base i a write v
      | none => false

/-! ## What a register shows -/

/-- GID_FN_INFO as a function reads it. -/
def Block.fnInfo (s : Block) (f : Fn) : Nat :=
  let port := match f with
    | .ld n => n.val / 16
    | .fm p => p.val
    | .mctp (.vdm p) => p.val
    | .mctp .i3c => 0
  match s.fnKind f with
  | .full => 2 ^ 10 + 2 ^ 9 + port
  | .scoped p => 2 ^ 10 + p * 2 ^ 4 + port
  | .ungranted => port

/-- Whole tokens of a bucket, as a field of `w` bits shows them (R459). -/
def Block.tokens (s : Block) (k w : Nat) : Nat := min (s.bucketT k / oneCell) (2 ^ w - 1)

/-- PTN_UNITS of a partition. -/
def Block.unitsOf (s : Block) (p : Nat) : Nat :=
  let clusters := ((List.range 36).filter fun c => decide (s.clusterOwner c = some p)).length
  let ways := ((List.range 576).filter fun w => decide (s.ownerByte (R.PTN_WAY_OWN (w / 16) 0) (w % 16) = some p)).length
  clusters * 2 ^ 24 + min (s.blocksOfPtn p).length 255 * 2 ^ 16 + ways * 2 ^ 6

/-- PFR_STATUS: the free shared slots of the die in service with fewest, the slots retired. -/
def Block.poolStatus (s : Block) : Nat :=
  let free := ((List.range 4).filter fun d => !s.dieOut d).foldl (fun m d => min m (s.sharedFree d)) (2 ^ 18 - 1)
  let retired := ((List.range 4).map s.slotsRetired).foldl (· + ·) 0
  free * 2 ^ 14 + min retired (2 ^ 14 - 1)

/-- Cells parked for sets that hold a port. -/
def Block.parkedFor (s : Block) (p : Nat) : Nat :=
  (s.net.router.parked.filter fun e => (s.setPorts e.1).contains p).length

/-- The value of a register, `v` being what the register file holds at its offset `a`: fields that the state holds elsewhere
put in their places, by the register's array `base` and index `i`. -/
def Block.view (s : Block) (f : Fn) (base i a v : Nat) : Nat :=
  if a < 0x010000 then
    if base = R.GID_FN_INFO then s.fnInfo f else if base = R.GID_CAPS1 then setBits v 15 8 s.hostPorts else v
  else if base = R.RBT_CMD_STATUS then setBits v 0 0 (if s.cmdBusy then 1 else 0)
  else if a < 0x040000 then
    let first := decide (s.fld F.ALM_RWP_INDEX_INDEX = 0)
    if base = R.ALM_RWP_ADDR then (if first then R.RBT_FW_PREF else 0xFFFFFF)
    else if base = R.ALM_RWP_WRITES then
      if first then min s.rwpNow.count (2 ^ 20 - 1) + (if rwpWorn ≤ s.rwpNow.count then 2 ^ 31 else 0) else 0
    else if base = R.ALM_CFG_BYTES then min (cfgBytes s.running) (2 ^ 21 - 1)
    else v
  else if base = R.PTN_UNITS 0 then s.unitsOf i
  else if base = R.TIR_BLOCK_READ then
    let e := s.tier (s.fld F.TIR_BLOCK_FIRST_BLOCK)
    e.cls * 2 ^ 28 + e.mode * 2 ^ 26
  else if base = R.ENG_CORE_STATE 0 then
    setBits v 22 18 (if getBits v 31 28 = 1 then 0 else (s.clusterOwner (i / 9)).getD 0)
  else if base = R.PFR_STATUS then s.poolStatus
  else if base = R.PFR_CHR_TIME_LO then s.ticks % 2 ^ 32
  else if base = R.PFR_CHR_TIME_HI then s.ticks / 2 ^ 32 % 2 ^ 32
  else if base = R.PFR_PORT_STATUS 0 then
    let armed := if (s.portChart i).armed.isSome then 1 else 0
    setBits (setBits (setBits v 31 28 (s.chartShown i)) 27 27 armed) 17 0 (min (s.parkedFor i) (2 ^ 18 - 1))
  else if base = R.SHP_SUB_STATUS 0 then setBits v 19 0 (s.tokens (bkSub i) 20)
  else if base = R.SHP_SVC_STATUS 0 then setBits v 19 0 (s.tokens (bkSvc i) 20)
  else if base = R.SHP_FN_TOKENS 0 then s.tokens (bkTp i) 16 * 2 ^ 16 + s.tokens (bkTc i) 16
  else if R.SHP_PORT_FWD_LO 104 ≤ a ∧ a < R.SHP_PORT_FWD_LO 112 ∧ !s.portEntry i then 0
  else if base = R.RAS_DIE_STATE 0 then if s.dieServing i then v else setBits v 22 17 0
  else if base = R.SEC_STATUS then setBits v 30 30 (if s.degraded then 1 else 0)
  else if base = R.DBG_CNT_CTL 0 then setBits v 29 29 (if s.dbg.ovf.contains i then 1 else 0)
  else if base = R.DBG_CNT_VAL_LO 0 then Assoc.get 0 i s.dbg.counts % 2 ^ 32
  else if base = R.DBG_CNT_VAL_HI 0 then Assoc.get 0 i s.dbg.counts / 2 ^ 32 % 2 ^ 16
  else v

/-- A register's value without its WO fields, which read 0 (R15). -/
def RegDef.readable (r : RegDef) (v : Nat) : Nat :=
  r.fields.foldl (fun x f => if f.acc = .wo then setBits x f.hi f.lo 0 else x) v

/-- The value of a register to a reader; the almanac window shows the almanac from the page that ALM_WIN_PAGE names (R102). -/
def Block.shown (s : Block) (f : Fn) (r : RegDef) (i a : Nat) : Nat × Block :=
  if 0x030000 ≤ a ∧ a < 0x040000 then s.almWord (s.fld F.ALM_WIN_PAGE_PAGE * 0x10000 + (a - 0x030000))
  else (s.view f r.base i a (r.readable (s.reg a).toNat), s)

/-! ## Pairs (R13) -/

/-- The register pairs that are only read, by their _LO halves. -/
def readPairs : List Nat :=
  [R.ALM_SEQ_LO, R.RNG_ACCEPT_LO, R.INT_S_LOG_DPA_LO 0 0, R.INT_S_LOG_TIME_LO 0 0, R.HPT_CMN_VERSION_LO 0,
   R.HPT_CMN_VISIBLE_LO 0, R.PFL_CW_CORR_LO 0, R.PFR_CHR_TIME_LO, R.RAS_SPARE_CORE_LO 0, R.DBG_CNT_VAL_LO 0]

/-- The register pairs that are written. -/
def writePairs : List Nat :=
  [R.RNG_DESC_LO 0, R.RNG_CPL_LO 0, R.INT_INJECT_DPA_LO, R.INT_TWIN_BASE_LO 0, R.INT_TWIN_MIRROR_LO 0, R.XLT_CTX_TABLE_LO 0,
   R.XLT_FQ_BASE_LO 0, R.HPT_CMN_BANK0_LO 0, R.HPT_CMN_BANK1_LO 0, R.HPT_GATE_BASE_LO 0, R.PFR_CHART_DPA_LO 0,
   R.PFR_CHART_AT_LO 0, R.SHP_SUB_CFG_LO 0, R.SHP_SVC_CFG_LO 0, R.SHP_FN_RATE_LO 0, R.SHP_FN_BURST_LO 0, R.SHP_PORT_FWD_LO 0,
   R.DBG_TRACE_BASE_LO, R.DBG_PLOT_BASE_LO]

/-- Whether a register is the _LO half, or the _HI half, of a pair. -/
def isLoHalf (base : Nat) : Bool := (readPairs ++ writePairs).contains base
def isHiHalf (base : Nat) : Bool := (readPairs ++ writePairs).contains (base - 4) && decide (4 ≤ base)

/-- What a function's accesses hold, by the key of the function (a node's is 2^20 + its ID). -/
def Block.latch (s : Block) (key : Nat) : Latches := Assoc.get {} key s.bus.latches

/-- What a function's accesses hold, replaced. -/
def Block.setLatch (s : Block) (key : Nat) (v : Latches) : Block :=
  { s with bus := { s.bus with latches := Assoc.put {} key v s.bus.latches } }

/-- A _LO half held until its _HI half is written. -/
def Block.hold (s : Block) (key a v : Nat) : Block :=
  s.setLatch key { s.latch key with held := Assoc.ins a (BitVec.ofNat 32 v) (s.latch key).held }

/-- The _LO half held at an offset, no longer held. -/
def Block.unheld (s : Block) (key a : Nat) : Block :=
  s.setLatch key { s.latch key with held := Assoc.drop a (s.latch key).held }

/-- A register read: what it shows; a _LO half latches its _HI half, a _HI half shows what was latched. -/
def Block.readReg (s : Block) (f : Fn) (key : Nat) (r : RegDef) (i a : Nat) : Nat × Block :=
  if isHiHalf r.base then ((Assoc.get 0 a (s.latch key).read).toNat, s)
  else
    let (v, t) := s.shown f r i a
    if isLoHalf r.base then
      match regAt (a + 4) with
      | some (hi, _) =>
        let (h, u) := t.shown f hi i (a + 4)
        (v, u.setLatch key { u.latch key with read := Assoc.put 0 (a + 4) (BitVec.ofNat 32 h) (u.latch key).read })
      | none => (v, t)
    else (v, t)

/-! ## Merging a written value (R14–R16, R33, R525) -/

/-- A register with a value merged into it: its new value; whether a field for full functions only, and one behind
SETUP_LOCK, would have changed; whether a written field is out of its range. -/
structure Merged where
  value : Nat
  viol : Bool := false
  locked : Bool := false
  bad : Bool := false
  deriving DecidableEq, Repr

/-- Whether a field may hold a value. -/
def FieldDef.holds (f : FieldDef) (v : Nat) : Bool :=
  f.ranges = [] || f.ranges.any fun x => decide (x.1 ≤ v) && decide (v ≤ x.2)

/-- One field of a written value merged, by its access type. -/
def Merged.field (full lock : Bool) (old v : Nat) (m : Merged) (f : FieldDef) : Merged :=
  let was := getBits old f.hi f.lo
  let new := getBits v f.hi f.lo
  let put (x : Nat) : Merged := { m with value := setBits m.value f.hi f.lo x }
  match f.acc with
  | .ro => m
  | .wo => m
  | .rw1c => put (was - (was &&& new))
  | .w1s => put (was ||| new)
  | .rw | .rwl | .rwp =>
    if f.full && !full then { m with viol := m.viol || decide (new ≠ was) }
    else if decide (f.acc = .rwl) && lock then { m with locked := m.locked || decide (new ≠ was) }
    else { put new with bad := m.bad || !f.holds new }

/-- A value merged into the register at an offset, as a function writes it. -/
def Block.merged (s : Block) (f : Fn) (r : RegDef) (a v : Nat) : Merged :=
  let old := (s.reg a).toNat
  r.fields.foldl (Merged.field (s.isFull f) (s.isSet F.GID_SETUP_LOCK_SETUP_LOCK) old v) { value := old }

/-- What a merge counts. -/
def Block.countKept (s : Block) (m : Merged) : Block :=
  (s.when m.viol Block.scopeViol).when m.locked fun t => t.bump F.GID_LOCK_VIOL_COUNT_COUNT

/-- A merge stored, or the write dropped whole, as `drop` says, where a field is out of its range. -/
def Block.putMerged (s : Block) (a : Nat) (m : Merged) (drop : Block → Block) : Block :=
  if m.bad then drop s else (s.setReg a (BitVec.ofNat 32 m.value)).countKept m

end Sys2Proof.Machine
end

