-- ==== Sys2Proof/Machine/RegWrite.lean ====
section
/-! DEFINITION.  What a write of each setup register does, block by block: its fields merged (R15, R33, R525), its ENABLE
acted on, its command given to the meaning of that command. -/

namespace Sys2Proof.Machine

/-- A write of a register with fields alone, dropped whole as `drop` says. -/
def Block.plain (s : Block) (f : Fn) (r : RegDef) (a v : Nat) (drop : Block → Block) : Block :=
  s.putMerged a (s.merged f r a v) drop

/-- A write of a _HI half, which takes effect with the _LO half held, if one is (R13). -/
def Block.halves (s : Block) (f : Fn) (r : RegDef) (a v : Nat) (lo : Option Nat) (drop : Block → Block) : Block :=
  match lo, regAt (a - 4) with
  | some l, some (rl, _) =>
    let m := s.merged f rl (a - 4) l
    let h := s.merged f r a v
    if m.bad || h.bad then drop s
    else
      ((s.setReg (a - 4) (BitVec.ofNat 32 m.value)).setReg a (BitVec.ofNat 32 h.value)).countKept
        { h with viol := m.viol || h.viol, locked := m.locked || h.locked }
  | _, _ => s.plain f r a v drop

/-- A write of a register whose bit 31 is ENABLE and whose other fields are written only while its unit is OFF: there the
other fields are written first; elsewhere ENABLE acts, and a write that would have changed another field is refused.  A write of a field out of its range is
dropped whole. -/
def Block.enableReg (s : Block) (f : Fn) (r : RegDef) (a v : Nat) (off : Bool) (refuse en dis : Block → Block) : Block :=
  let cur := (s.reg a).toNat
  let on := decide (getBits v 31 31 = 1)
  if off then
    let m := s.merged f r a (setBits v 31 31 0)
    if m.bad then s else (s.putMerged a m id).when on en
  else
    let m := s.merged f r a (setBits v 31 31 (getBits cur 31 31))
    if m.bad then s else ((if on then en s else dis s).when (decide (m.value ≠ cur)) refuse).countKept m

/-! ## Writes dropped with an error -/

/-- A write to a ring's registers while its MODE is not OFF (R138). -/
def Block.ringFrozen (s : Block) (k : Nat) : Block := (s.setFld (F.RNG_STATE_ERR k) 0x06).putStatus k

/-- A write to a gate that is not made (R271, R479); none where it may be. -/
def Block.gateFrozen (s : Block) (g : Nat) : Option Block :=
  if s.tspIsLocked (s.gateFn g) then some (s.bump F.SEC_TSP_VIOL_COUNT_COUNT)
  else if s.isExtent g then some (s.gateErr g 0x5)
  else if s.fld (F.HPT_GATE_STATE_STATE g) ≠ gtOff then some (s.gateErr g 0x4)
  else none

/-- A write of an address, a size or a key of a unit that is not OFF: dropped, with ERR (R138, R200, R209, R241, R260, R271,
Table 9-7); none where it is made. -/
def Block.frozen (s : Block) (base i a : Nat) : Option Block :=
  let unlessOff (off : Bool) (t : Block) : Option Block := if off then none else some t
  if 0x080000 ≤ a ∧ a < R.RNG_CMD ∧ base ≠ R.RNG_CFG 0 ∧ base ≠ R.RNG_STATE 0 then
    unlessOff (decide (s.ringMode i = mdOff)) (s.ringFrozen i)
  else if R.INT_TWIN_BASE_LO 0 ≤ a ∧ a < R.INT_TWIN_PATROL then
    if i < 16 then some s
    else if base ≤ R.INT_TWIN_MIRROR_HI 0 then
      unlessOff (decide (s.fld (F.INT_TWIN_STATE_STATE i) = twOff)) (s.setFld (F.INT_TWIN_STATE_ERR i) 5)
    else none
  else if base = R.TIR_CX_BASE 0 ∨ base = R.TIR_CX_COUNT 0 then
    unlessOff (decide (s.fld (F.TIR_CX_STATE_STATE i) = 0)) (s.setFld (F.TIR_CX_STATE_ERR i) 4)
  else if base = R.XLT_CTX_TABLE_LO 0 ∨ base = R.XLT_CTX_TABLE_HI 0 then
    unlessOff (!s.isSet (F.XLT_CTX_CFG_ENABLE i)) (s.setFld (F.XLT_CTX_STATUS_ERR i) 3)
  else if base = R.XLT_FQ_BASE_LO 0 ∨ base = R.XLT_FQ_BASE_HI 0 then
    unlessOff (!s.isSet (F.XLT_FQ_CFG_ENABLE i)) (s.setFld (F.XLT_FQ_CFG_ERR i) 3)
  else if R.HPT_CMN_BANK0_LO 0 ≤ base ∧ base ≤ R.HPT_CMN_BANK1_HI 0 then
    unlessOff (decide (s.fld (F.HPT_CMN_STATE_STATE i) = cmOff)) (s.setFld (F.HPT_CMN_STATE_ERR i) 4)
  else if R.HPT_GATE_BASE_LO 0 ≤ base ∧ base ≤ R.HPT_GATE_KEY 0 then s.gateFrozen i
  else none

/-! ## The blocks -/

/-- RBT: reset commands, RBT_FW_PREF (R94, R101). -/
def Block.writeRbt (s : Block) (f : Fn) (r : RegDef) (a v : Nat) : Block :=
  let by_ : Actor := .fn f
  let target := BitVec.ofNat 7 v
  if a = R.RBT_RESET_CMD then
    match getBits v 31 28 with
    | 1 => after s (execResetCmdCold by_ target)
    | 2 => after s (execResetCmdWarm by_ target)
    | 3 => after s (execResetCmdDie by_ target)
    | 4 => after s fun t => execResetCmdCluster by_ target t
    | 5 => after s (execResetCmdPort by_ target)
    | 6 => after s (execResetCmdLink by_ target)
    | _ => s.cmdErr
  else if a = R.RBT_FW_PREF then after s (execRwpWrite by_ (v % 2 == 1))
  else s.plain f r a v id

/-- ALM: a commit (R99). -/
def Block.writeAlm (s : Block) (f : Fn) (r : RegDef) (a v : Nat) : Block :=
  if a = R.ALM_COMMIT then if v % 2 = 1 then after s (execAlmCommitGo (.fn f)) else s else s.plain f r a v id

/-- RNG: rings (R138), commands (R144). -/
def Block.writeRng (s : Block) (f : Fn) (r : RegDef) (i a v : Nat) (lo : Option Nat) : Block :=
  let by_ : Actor := .fn f
  if r.base = R.RNG_CFG 0 then
    s.enableReg f r a v (decide (s.ringMode i = mdOff)) id (·.ringEnable i) (·.ringDisable i)
  else if r.base = R.RNG_CMD then
    match getBits v 31 28 with
    | 1 => after s (execResumeRing by_ (Fin.ofNat 4096 v))
    | 2 => after s (execRestartRing by_ (Fin.ofNat 4096 v))
    | 3 => after s (execDisableFn by_ (BitVec.ofNat 12 v))
    | 4 => after s (execEnableFn by_ (BitVec.ofNat 12 v))
    | _ => s.rngRefused
  else s.halves f r a v lo id

/-- PTN: state commands, owner bytes, commons (R460–R467). -/
def Block.writePtn (s : Block) (f : Fn) (r : RegDef) (a v : Nat) : Block :=
  let by_ : Actor := .fn f
  if a = R.PTN_CMD then
    match getBits v 31 28 with
    | 1 => after s (execDefine by_ (Fin.ofNat 32 v))
    | 2 => after s (execActivate by_ (Fin.ofNat 32 v))
    | 3 => after s (execTeardown by_ (Fin.ofNat 32 v))
    | op => (s.ptnCommand op (v % 32) none).2
  else if a = R.PTN_COMMONS then after s (execCommonsEnWrite by_ (getBits v 31 31 == 1))
  else if a = R.PTN_CMN_READERS then s.plain f r a (v / 2 * 2) id
  else if R.PTN_CLUSTER_OWN 0 ≤ a then after s (execOwnerByteWrite by_ (BitVec.ofNat 18 (a - R.PTN_CMD)) (BitVec.ofNat 32 v))
  else s.plain f r a v id

/-- DRC: moves, replacements, repairs (R168–R174); a value out of its range drops a write, and is counted (R178). -/
def Block.writeDrc (s : Block) (f : Fn) (r : RegDef) (i a v : Nat) : Block :=
  let by_ : Actor := .fn f
  let stack := Fin.ofNat 18 i
  let drop (t : Block) : Block := t.bump (F.DRC_CFG_ERR_COUNT_COUNT i)
  if r.base = R.DRC_HOME_CMD 0 then
    match getBits v 31 28 with
    | 1 => after s (execMoveToAlt by_ stack)
    | 2 => after s (execMoveToPri by_ stack)
    | _ => s.setFld (F.DRC_HOME_STATUS_ERR i) 1
  else if r.base = R.DRC_SPARE_CMD 0 then
    if getBits v 31 28 ≠ 1 then s.setFld (F.DRC_SPARE_STATUS_ERR i) 0x05
    else if 16 ≤ i then s.byFull by_ fun t => t.replaceSpare i
    else after s (execReplace by_ (Fin.ofNat 16 i))
  else if r.base = R.DRC_PPR_CMD 0 then
    match getBits v 31 30 with
    | 0 => s
    | 1 => after s (execPprSoft by_ stack (Fin.ofNat 64 (getBits v 29 24)) (Fin.ofNat 64 (getBits v 23 18)) (BitVec.ofNat 15 v))
    | 2 => after s (execHardenAll by_ stack)
    | _ => s.pprRefuse i 0x05
  else if r.base = R.DRC_SCHED 0 ∧ getBits v 18 13 ≤ getBits v 12 7 then drop s
  else s.plain f r a v drop

/-- INT: injections, logs, twin entries (R198–R209). -/
def Block.writeInt (s : Block) (f : Fn) (r : RegDef) (i a v : Nat) (lo : Option Nat) : Block :=
  let by_ : Actor := .fn f
  if a = R.INT_INJECT_CTRL ∧ getBits v 31 31 = 1 then
    after s (execInjectArm by_ (BitVec.ofNat 2 (v / 2 ^ 29)) (BitVec.ofNat 7 (v / 2 ^ 11)) (BitVec.ofNat 3 (v / 2 ^ 8))
      (BitVec.ofNat 8 v))
  else if r.base = R.INT_S_LOG_CLEAR 0 then if v % 2 = 1 then after s (execCeLogClear by_ (Fin.ofNat 18 i)) else s
  else if r.base = R.INT_TWIN_CFG 0 then
    s.enableReg f r a v (decide (s.fld (F.INT_TWIN_STATE_STATE i) = twOff)) (·.setFld (F.INT_TWIN_STATE_ERR i) 5)
      (·.twinEnable i) (·.twinOff i)
  else s.halves f r a v lo id

/-- TIR: cache, tier and cave commands, extents (R214, R221, R225, R228). -/
def Block.writeTir (s : Block) (f : Fn) (r : RegDef) (i a v : Nat) : Block :=
  let by_ : Actor := .fn f
  let op := getBits v 31 28
  if a = R.TIR_CACHE_CMD then
    if op = 1 then after s (execFlushPtn by_ (Fin.ofNat 32 v))
    else if op = 2 then after s (execFlushAll by_)
    else s.setFld F.TIR_CACHE_CMD_STATUS_ERR 1
  else if a = R.TIR_CAVE_CMD then
    if op = 1 then after s (execSyncPtn by_ (Fin.ofNat 32 v)) else s.setFld F.TIR_CAVE_CMD_STATUS_ERR 1
  else if a = R.TIR_BLOCK_CMD then
    if op = 1 then after s (execBlockSet by_ (BitVec.ofNat 4 (v / 2 ^ 24)) (BitVec.ofNat 2 (v / 2 ^ 22)))
    else s.setFld F.TIR_BLOCK_STATUS_ERR 0x07
  else if a = R.TIR_PF_CFG ∧ getBits v 23 12 < getBits v 11 0 then s
  else if r.base = R.TIR_CX_CFG 0 then
    s.enableReg f r a v (decide (s.fld (F.TIR_CX_STATE_STATE i) = 0)) (·.setFld (F.TIR_CX_STATE_ERR i) 4)
      (·.extentEnable i) (·.extentRelease i true)
  else s.plain f r a v id

/-- XLT_CTX_CFG: PARTITION is not written while the context is enabled (R260). -/
def Block.writeCtxCfg (s : Block) (f : Fn) (r : RegDef) (c a v : Nat) : Block :=
  let cur := (s.reg a).toNat
  let on := s.isSet (F.XLT_CTX_CFG_ENABLE c)
  let moved := on && s.isFull f && decide (getBits v 30 26 ≠ getBits cur 30 26)
  let kept := setBits v 31 31 (getBits cur 31 31)
  let t := s.plain f r a (if on then setBits kept 30 26 (if s.isFull f then getBits cur 30 26 else getBits v 30 26) else kept) id
  let u := if getBits v 31 31 = 1 then t.ctxEnable c else if on then t.ctxDisable c else t
  u.when moved fun x => x.setFld (F.XLT_CTX_STATUS_ERR c) 3

/-- XLT: contexts, fault queues (R245, R256, R258); a KIND 0 TARGET that no MSI-X table holds drops the write whole (R260). -/
def Block.writeXlt (s : Block) (f : Fn) (r : RegDef) (i a v : Nat) (lo : Option Nat) : Block :=
  if r.base = R.XLT_CTX_CFG 0 then s.writeCtxCfg f r i a v
  else if r.base = R.XLT_FQ_CFG 0 then
    if getBits v 31 31 = 1 then after s (execXltFqEnable (.fn f) (Fin.ofNat 32 i))
    else if s.isSet (F.XLT_FQ_CFG_ENABLE i) then after s (execXltFqDisable (.fn f) (Fin.ofNat 32 i))
    else s
  else if r.base = R.XLT_FQ_NOTIFY 0 ∧ getBits v 30 30 = 0 ∧ 2047 < getBits v 19 0 then s
  else s.halves f r a v lo id

/-- HPT: gates, commons regions (R271, R287). -/
def Block.writeHpt (s : Block) (f : Fn) (r : RegDef) (i a v : Nat) (lo : Option Nat) : Block :=
  if r.base = R.HPT_GATE_CFG 0 then
    s.gateWrite (.fn f) i fun t =>
      t.enableReg f r a v (decide (t.fld (F.HPT_GATE_STATE_STATE i) = gtOff)) (·.gateErr i 0x4) (·.gateEnable i) (·.gateDisable i)
  else if r.base = R.HPT_CMN_CFG 0 then
    s.enableReg f r a v (decide (s.fld (F.HPT_CMN_STATE_STATE i) = cmOff)) (·.setFld (F.HPT_CMN_STATE_ERR i) 4)
      (·.commonsEnable i) (·.commonsDisable i)
  else s.halves f r a v lo id

/-- ENG_SYNC_OWN: PARTITION is written only where EN reads 0; clearing EN empties the block (R347, Table 11-19). -/
def Block.writeSyncOwn (s : Block) (f : Fn) (r : RegDef) (b a v : Nat) : Block :=
  let was := s.isSet (F.ENG_SYNC_OWN_EN b)
  let cur := (s.reg a).toNat
  let t := s.plain f r a (if was && s.isFull f then setBits v 30 26 (getBits cur 30 26) else v) id
  if was && !t.isSet (F.ENG_SYNC_OWN_EN b) then t.disableBlock b else t

/-- ENG: streams, object blocks (R319, R347). -/
def Block.writeEng (s : Block) (f : Fn) (r : RegDef) (i a v : Nat) : Block :=
  if r.base = R.ENG_ST_CFG 0 then
    s.enableReg f r a v (decide (s.fld (F.ENG_ST_STATUS_STATE i) = strOff)) (·.setFld (F.ENG_ST_STATUS_ERR i) 0x2)
      (·.streamEnable i) (·.streamDisable i)
  else if r.base = R.ENG_SYNC_OWN 0 then s.writeSyncOwn f r i a v
  else s.plain f r a v id

/-- PFL: link control and commands; a value out of its range drops a write, and CMD_ERR is set (R407, R409, R410). -/
def Block.writePfl (s : Block) (f : Fn) (r : RegDef) (i a v : Nat) : Block :=
  let by_ : Actor := .fn f
  let link := Fin.ofNat 96 i
  if r.base = R.PFL_CTRL 0 then
    let was := s.isSet (F.PFL_CTRL_EN i)
    let t := s.plain f r a v (·.linkRefuse i)
    let now_ := t.isSet (F.PFL_CTRL_EN i)
    if was = now_ then t else if now_ then after t (execLinkEnable by_ link) else after t (execLinkDisable by_ link)
  else if r.base = R.PFL_CMD 0 then
    match getBits v 31 28 with
    | 1 => after s (execPflRetrain by_ link)
    | 2 => after s (execPflDown by_ link)
    | 3 => after s (execPflUp by_ link)
    | _ => s.linkRefuse i
  else if r.base = R.PFL_FENCE 0 then after s (execPflFenceWrite by_ link (BitVec.ofNat 32 v))
  else s.plain f r a v (·.linkRefuse i)

/-- PFR_CHR_CFG: a master is LOCKED, one that no longer is FREE, and a FREE chronometer with an UP parent link acquires
(R432, Table 14-6). -/
def Block.writeChrono (s : Block) (f : Fn) (r : RegDef) (a v : Nat) : Block :=
  let was := s.isSet F.PFR_CHR_CFG_MASTER
  let t := s.plain f r a v (·.routeRefuse 3)
  let master := t.isSet F.PFR_CHR_CFG_MASTER
  let u := if master && !was then t.setFld F.PFR_CHR_STATUS_STATE chLocked
    else if was && !master then t.setFld F.PFR_CHR_STATUS_STATE chFree
    else t
  let parent := u.fld F.PFR_CHR_CFG_PARENT_PORT
  if !master && decide (u.fld F.PFR_CHR_STATUS_STATE = chFree) && decide (parent < 96) && u.linkUp parent then u.acquire else u

/-- PFR: tables (R422), charts (R437), the chronometer; a value out of its range drops a write with CODE 0x3. -/
def Block.writePfr (s : Block) (f : Fn) (r : RegDef) (i a v : Nat) (lo : Option Nat) : Block :=
  let by_ : Actor := .fn f
  if a = R.PFR_LEVEL ∧ getBits v 3 0 ≠ 0 ∧ !s.isSet F.PFR_LEVEL_ROUTER ∧ !s.isSet F.GID_SETUP_LOCK_SETUP_LOCK then s.routeRefuse 3
  else if a = R.PFR_CHR_CFG then s.writeChrono f r a v
  else if r.base = R.PFR_CHART_CMD 0 then
    match getBits v 31 28 with
    | 1 => after s (execArm by_ (Fin.ofNat 96 i))
    | 2 => after s (execDisarm by_ (Fin.ofNat 96 i))
    | 3 => after s (execStop by_ (Fin.ofNat 96 i))
    | _ => s.chartRefuse i 4
  else if R.PFR_SET 0 0 ≤ a then after s (execRouteTableWrite by_ (BitVec.ofNat 16 (a - R.PFR_NODE)) (BitVec.ofNat 32 v))
  else s.halves f r a v lo (·.routeRefuse 3)

/-- The partition of a function of R135. -/
def Block.ptnOfFn (s : Block) (n : Nat) : Option Nat :=
  if n < 256 then if s.isSet (F.PTN_FN_GRANT_OWNED n) then some (s.fld (F.PTN_FN_GRANT_PTN n)) else none
  else if s.isSet (F.PTN_SRC_GROUP_EN (n - 256)) then some (s.fld (F.PTN_SRC_GROUP_PARTITION (n - 256)))
  else none

/-- SHP: shaper and meter pairs (R452); without a _LO half held, the _LO half stays and FILL is 0. -/
def Block.writeShp (s : Block) (f : Fn) (r : RegDef) (i a v : Nat) (lo : Option Nat) : Block :=
  if writePairs.contains (r.base - 4) then
    after s (execShaperConfigWrite (.fn f) (BitVec.ofNat 20 (a - R.SHP_SUB_CFG_LO 0))
      (BitVec.ofNat 32 (lo.getD (s.reg (a - 4)).toNat)) (BitVec.ofNat 32 v))
  else if r.base = R.SHP_FN_SUB 0 ∧ s.ptnOfFn i ≠ some (s.fld (F.ENG_ST_CFG_PARTITION (getBits v 13 0))) then s
  else s.plain f r a v Block.shpRefuse

/-- SEC: SEC_SVN_COMMIT (R473). -/
def Block.writeSec (s : Block) (f : Fn) (r : RegDef) (a v : Nat) : Block :=
  let t := s.plain f r a v id
  if a = R.SEC_SVN_COMMIT ∧ v % 2 = 1 then after t (execSvnCommit (.fn f)) else t

/-- RAS: RAS_CMD (R491, R492). -/
def Block.writeRas (s : Block) (f : Fn) (r : RegDef) (a v : Nat) : Block :=
  if a = R.RAS_CMD then
    match getBits v 31 28 with
    | 1 => after s (execQuiesce (.fn f) (Fin.ofNat 4 v))
    | 2 => after s (execRasReturn (.fn f) (Fin.ofNat 4 v))
    | _ => s.rasRefuse 0x01
  else s.plain f r a v id

/-- DBG_STEP_CFG: fields are written while EN is 0; a scoped function names a ring of its partition; clearing EN while
PAUSED runs the ring on (R510, R515, R516). -/
def Block.writeStep (s : Block) (f : Fn) (r : RegDef) (k a v : Nat) : Block :=
  let on := decide (getBits v 31 31 = 1)
  if s.isSet (F.DBG_STEP_CFG_EN k) then
    let cur := (s.reg a).toNat
    let m := s.merged f r a (setBits v 31 31 1)
    let t := if on then s else if s.isSet (F.DBG_STEP_CFG_PAUSED k) then s.stepOn k true else s.setFld (F.DBG_STEP_CFG_EN k) 0
    t.when (decide (m.value ≠ cur)) fun u => u.dbgRefuse 0x06
  else
    let foreign := match s.ownFilter (.fn f) with
      | some p => decide (s.ringPtn (v % 4096) ≠ p)
      | none => false
    if foreign then s.dbgRefuse 0x05 else s.plain f r a v (·.dbgRefuse 0x01)

/-- DBG_PLOT_CFG: EN is refused where the region does not do (R519). -/
def Block.writePlotCfg (s : Block) (f : Fn) (r : RegDef) (a v : Nat) : Block :=
  let refused := decide (getBits v 31 31 = 1) && !s.isSet F.DBG_PLOT_CFG_EN && !s.plotRegionOk (getBits v 29 25)
  let m := s.merged f r a (if refused then setBits v 31 31 0 else v)
  if m.bad then s.dbgRefuse 0x01 else (s.putMerged a m id).when refused fun t => t.dbgRefuse 0x04

/-- DBG: counters, trace, stepping, the plot; a value out of its range drops a write with CODE 0x01 (R524). -/
def Block.writeDbg (s : Block) (f : Fn) (r : RegDef) (i a v : Nat) (lo : Option Nat) : Block :=
  let by_ : Actor := .fn f
  let word := BitVec.ofNat 32 v
  if r.base = R.DBG_CNT_CTL 0 then after s (execCounterConfigure by_ (BitVec.ofNat 8 i) word)
  else if a = R.DBG_CNT_GLOBAL then after s (execCounterFreeze by_ (getBits v 31 31 == 1))
  else if a = R.DBG_TRACE_CFG then after s (execTraceEnable by_ word)
  else if a = R.DBG_TRACE_MARK then after s (execTraceMark by_ word)
  else if r.base = R.DBG_STEP_CFG 0 then s.writeStep f r i a v
  else if a = R.DBG_STEP_CMD then
    match getBits v 31 28 with
    | 1 => after s (execStepCmdStep by_ (Fin.ofNat 16 v))
    | 2 => after s (execStepCmdRun by_ (Fin.ofNat 16 v))
    | _ => s.dbgRefuse 0x01
  else if a = R.DBG_PLOT_CFG then s.writePlotCfg f r a v
  else if a = R.DBG_PLOT_CMD then if v % 2 = 1 then after s (execCapture by_) else s
  else s.halves f r a v lo (·.dbgRefuse 0x01)

/-- A write that a function reaches, given to its block; MBX has its own. -/
def Block.writeBlock (s : Block) (f : Fn) (r : RegDef) (i a v : Nat) (lo : Option Nat) : Block :=
  if a < 0x010000 then s.plain f r a v id
  else if a < 0x020000 then s.writeRbt f r a v
  else if a < 0x040000 then s.writeAlm f r a v
  else if a < 0x0C0000 then s.writeRng f r i a v lo
  else if a < 0x100000 then s.writePtn f r a v
  else if a < 0x180000 then s.writeDrc f r i a v
  else if a < 0x1C0000 then s.writeInt f r i a v lo
  else if a < 0x200000 then s.writeTir f r i a v
  else if a < 0x280000 then s.writeXlt f r i a v lo
  else if a < 0x300000 then s.writeHpt f r i a v lo
  else if a < 0x380000 then s.writeEng f r i a v
  else if a < 0x400000 then s.writePfl f r i a v
  else if a < 0x480000 then s.writePfr f r i a v lo
  else if a < 0x500000 then s.writeShp f r i a v lo
  else if a < 0x580000 then s.writeSec f r a v
  else if a < 0x600000 then s.writeRas f r a v
  else s.writeDbg f r i a v lo

/-- A register written: dropped while its unit is not OFF; a _LO half held; a _HI half with the _LO half held for it. -/
def Block.writeReg (s : Block) (f : Fn) (key : Nat) (r : RegDef) (i a v : Nat) : Block :=
  match s.frozen r.base i a with
  | some t => t
  | none =>
    if writePairs.contains r.base then s.hold key a v
    else
      match if writePairs.contains (r.base - 4) then Assoc.find (a - 4) (s.latch key).held else none with
      | some lo => (s.unheld key (a - 4)).writeBlock f r i a v (some lo.toNat)
      | none => s.writeBlock f r i a v none

end Sys2Proof.Machine
end

