-- ==== Sys2Proof/Machine/RegRows.lean ====
section
/-! DEFINITION.  Accesses to the setup registers: by the functions through BAR0 (R12–R16, R31–R35), by Pefin nodes through
MGMT cells (R139, R415), by the MCTP paths (R522). -/

namespace Sys2Proof.Machine

/-! ## MBX (R139–R143) -/

/-- The full function among the senders. -/
def Block.fullSender (s : Block) : Sender → Bool
  | .fn f => s.isFull f
  | .node _ => false

/-- The key of a sender's latches. -/
def latchKey : Sender → Nat
  | .fn f => fnNumber f
  | .node n => 2 ^ 20 + n.toNat

/-- A read in the MBX block: a channel's registers by its owner, MBX_CH_STATE by a full function; MBX_ALLOC; the counts by a
full function. -/
def Block.mbxRead (s : Block) (who : Sender) (r : RegDef) (c a : Nat) : Nat × Block :=
  let v := r.readable (s.reg a).toNat
  if a = R.MBX_ALLOC then s.mbxAlloc who
  else if R.MBX_ALLOC < a then if s.fullSender who then (v, s) else (0, s.mbxDenied)
  else if s.ownsCh who c || (decide (r.base = R.MBX_CH_STATE 0) && s.fullSender who) then (v, s)
  else (0, s.mbxDenied)

/-- MBX_CH_CTRL written: CLOSE, else OPEN. -/
def Block.mbxCtrl (s : Block) (who : Sender) (c v : Nat) : Block :=
  if getBits v 1 1 = 1 then after s (execMbxClose who (Fin.ofNat 1024 c))
  else if getBits v 0 0 = 1 then after s (execMbxOpen who (Fin.ofNat 1024 c))
  else s.asOwner who c id

/-- MBX_CH_DB written by the owner: RSP bits cleared, a held reply delivered; a reserved REQ bit dropped with LAST_ERR 0x03;
SEND, CANCEL (R141, R143). -/
def Block.mbxDoorbell (s : Block) (who : Sender) (c v : Nat) : Block :=
  let ch := Fin.ofNat 1024 c
  let rsp := s.fld (F.MBX_CH_DB_RSP c)
  let clear := getBits v 31 16
  let s1 := s.setFld (F.MBX_CH_DB_RSP c) (rsp - (rsp &&& (clear / 2 * 2)))
  let s2 := if getBits (rsp &&& clear) 0 0 = 1 then s1.replyCleared c else s1
  let s3 := if getBits v 15 2 ≠ 0 then s2.setFld (F.MBX_CH_STATUS_LAST_ERR c) 0x03 else s2
  let s4 := if getBits v 0 0 = 1 then after s3 (execMbxSend who ch) else s3
  if getBits v 1 1 = 1 then after s4 (execMbxCancel who ch) else s4

/-- A write of a channel's other registers by its owner; REQ0–REQ11 while BUSY are dropped with LAST_ERR 0x02 (R143). -/
def Block.mbxField (s : Block) (r : RegDef) (c a v : Nat) : Block :=
  if r.base = R.MBX_CH_REQ 0 0 ∧ s.isSet (F.MBX_CH_STATUS_BUSY c) then s.setFld (F.MBX_CH_STATUS_LAST_ERR c) 0x02
  else s.putMerged a (r.fields.foldl (Merged.field true false (s.reg a).toNat v) { value := (s.reg a).toNat }) id

/-- A write in the MBX block. -/
def Block.mbxWrite (s : Block) (who : Sender) (r : RegDef) (c a v : Nat) : Block :=
  if a = R.MBX_FORCE_CLOSE then
    match who with
    | .fn f => after s (execMbxForceClose (.fn f) (Fin.ofNat 1024 v))
    | .node _ => s.mbxDenied
  else if R.MBX_ALLOC ≤ a then s
  else if r.base = R.MBX_CH_CTRL 0 then s.mbxCtrl who c v
  else if r.base = R.MBX_CH_DB 0 then s.asOwner who c fun t => t.mbxDoorbell who c v
  else s.asOwner who c fun t => t.mbxField r c a v

/-! ## Accesses by a function -/

/-- An access to an offset that no chapter assigns, or of another width or alignment (R32). -/
def Block.badAccess (s : Block) : Block := s.bump F.GID_BAD_ACCESS_COUNT_COUNT

/-- Whether an offset lies in the MBX block. -/
def inMbx (a : Nat) : Bool := decide (0x040000 ≤ a) && decide (a < 0x080000)

/-- A register read by a function: unassigned offsets read 0 and are counted (R32); outside its reach it reads 0 (R33).  The
map comes first, whoever reads (DESIGN CHOICE, log 144). -/
def Block.fnRead (s : Block) (f : Fn) (a : Nat) : Nat × Block :=
  match regAt a with
  | none => (0, s.badAccess)
  | some (r, ix) =>
    let i := ix.headD 0
    if !s.reachesReg f r.base i a false 0 then (0, s.scopeViol)
    else if inMbx a then s.mbxRead (.fn f) r i a
    else s.readReg f (fnNumber f) r i a

/-- A register written by a function. -/
def Block.fnWrite (s : Block) (f : Fn) (a v : Nat) : Block :=
  match regAt a with
  | none => s.badAccess
  | some (r, ix) =>
    let i := ix.headD 0
    if !s.reachesReg f r.base i a true v then s.scopeViol
    else if inMbx a then s.mbxWrite (.fn f) r i a v
    else s.writeReg f (fnNumber f) r i a v

/-- A register written through BAR0, applied field by field under its access types and the reserved-field, lock and scope
rules (R14–R16, R33, R34, R525). -/
def execRegisterWrite (f : Fn) (addr : BitVec 24) (value : BitVec 32) (s : State) : Out :=
  s.act fun s => (
    if !s.barUp f then s
    else if addr.toNat % 4 ≠ 0 then s.badAccess.emit (.unsupportedRequest (.fn f))
    else s.fnWrite f addr.toNat value.toNat)

/-- A register read through BAR0: a _LO half latches its _HI half (R13). -/
def execLoHalfRead (f : Fn) (addr : BitVec 24) (s : State) : Out :=
  s.act fun s => (
    if !s.barUp f then s
    else if addr.toNat % 4 ≠ 0 then s.badAccess.emit (.unsupportedRequest (.fn f))
    else
      let (v, t) := s.fnRead f addr.toNat
      t.emit (.regRead (.fn f) addr.toNat v))

/-- An access of another width than 4 bytes, or not aligned to 4 bytes: Unsupported Request, counted (R32). -/
def execBadRegisterAccess (f : Fn) (off : BitVec 24) (width : BitVec 4) (s : State) : Out :=
  s.act fun s => (
    if s.barUp f && (decide (width ≠ 4) || decide (off.toNat % 4 ≠ 0)) then s.badAccess.emit (.unsupportedRequest (.fn f))
    else s)

/-- A full function sets SETUP_LOCK (R35). -/
def execSetupLockSet (by_ : Actor) (s : State) : Out :=
  s.act fun s => (s.byFull by_ fun t => t.setFld F.GID_SETUP_LOCK_SETUP_LOCK 1)

/-! ## MGMT cells (R415) -/

/-- A register of the MBX block read by a node. -/
def Block.nodeRead (s : Block) (n : BitVec 20) (a : Nat) : Nat × Block :=
  match if inMbx a then regAt a else none with
  | none => (0, s.badAccess)
  | some (r, ix) => s.mbxRead (.node n) r (ix.headD 0) a

/-- A register of the MBX block written by a node. -/
def Block.nodeWrite (s : Block) (n : BitVec 20) (a v : Nat) : Block :=
  match if inMbx a then regAt a else none with
  | none => s.badAccess
  | some (r, ix) => s.mbxWrite (.node n) r (ix.headD 0) a v

/-- The offset that a MGMT REG cell names in the register space. -/
def Cell.mbxOffset (c : Cell) : Nat := R.MBX_CH_STATE 0 + c.f 0 23 0

/-- A MGMT REG_READ cell: a register of the MBX block read with the node as owner identity (R139, R415). -/
def execMgmtRegRead (port : Fin 96) (s : State) : Out :=
  s.act fun s => (
    match s.mgmtCell port.val 0x01 fun _ => true with
    | none => s
    | some e =>
      let (v, t) := s.nodeRead (BitVec.ofNat 20 e.cell.src) e.cell.mbxOffset
      (t.finishCell e rsOk 0 v).getD s)

/-- A MGMT REG_WRITE cell: a register of the MBX block written with the node as owner identity (R139, R415). -/
def execMgmtRegWrite (port : Fin 96) (s : State) : Out :=
  s.act fun s => (
    match s.mgmtCell port.val 0x02 fun _ => true with
    | none => s
    | some e =>
      ((s.nodeWrite (BitVec.ofNat 20 e.cell.src) e.cell.mbxOffset (e.cell.f 8 31 0)).finishCell e rsOk 0 0).getD s)

/-! ## Tabragar messages (R522) -/

/-- The offsets of `n` words from `a`; none where R32 refuses one of them, or there are not 1 to 16. -/
def wordsAt (a n : Nat) : Option (List Nat) :=
  let offs := (List.range n).map fun k => a + 4 * k
  if n = 0 ∨ 16 < n ∨ !offs.all fun x => (regAt x).isSome then none else some offs

/-- Whether every word of a message lies below an offset, or in RAS where `ras` allows. -/
def lowWords (a n : Nat) (ras : Bool) : Bool :=
  decide (a + 4 * n ≤ 0x020000) || (ras && decide (0x580000 ≤ a) && decide (a + 4 * n ≤ 0x600000))

/-- REG_READ: 1 to 16 words; outside a session only of GID, RBT and RAS. -/
def execMctpRegRead (path : MctpPath) (session : Option (Fin 16)) (addr : BitVec 32) (count : BitVec 8) (s : State) : Out :=
  s.act fun s => (s.tabragar path session (lowWords addr.toNat count.toNat false) (lowWords addr.toNat count.toNat true) fun t =>
    match wordsAt addr.toNat count.toNat with
    | none => ({ code := tabBadAccess }, t.badAccess)
    | some offs =>
      let (vs, u) := offs.foldl (fun (acc : List Word × Block) a =>
        let (v, x) := acc.2.fnRead (.mctp path) a
        (acc.1 ++ [BitVec.ofNat 32 v], x)) ([], t)
      ({ code := tabOk, words := vs }, u))

/-- REG_WRITE: 1 to 16 words, in a secured session. -/
def execMctpRegWrite (path : MctpPath) (session : Option (Fin 16)) (addr : BitVec 32) (values : List Word) (s : State) : Out :=
  s.act fun s => (s.tabragar path session false false fun t =>
    match wordsAt addr.toNat values.length with
    | none => ({ code := tabBadAccess }, t.badAccess)
    | some offs => ({ code := tabOk }, forEach (offs.zip values) (fun e u => u.fnWrite (.mctp path) e.1 e.2.toNat) t))

end Sys2Proof.Machine
end

