-- ==== Sys2Proof/Machine/Scalars.lean ====
section
/-! DEFINITION.  The scalar, control and synchronisation instructions of Bexa programs (R362–R367, R374–R378). -/

namespace Sys2Proof.Machine

/-! ## Shapes of instructions -/

/-- Whether a word has a major opcode. -/
def isOp (op : Nat) (w : Insn) : Bool := decide (w.op = op)

/-- Whether a word has a major opcode and a func. -/
def isFn (op fn : Nat) (w : Insn) : Bool := decide (w.op = op) && decide (w.func = fn)

/-- An arithmetic shift right of a 64-bit pattern, the amount modulo 64. -/
def shiftRightA (a n : Nat) : Nat := (signed64 a / 2 ^ (n % 64) % 2 ^ 64).toNat

/-- d = a ∘ b (R362). -/
def alu (fn : Nat) (f : Nat → Nat → Nat) : BxInsn where
  is := isFn 0x01 fn
  act w := do
    let (a, pa) ← Bx.reg w.a
    let (b, pb) ← Bx.reg w.b
    Bx.setReg w.d (f a b) (pa || pb)
    pure .next

/-- d = a ∘ immediate (R362). -/
def aluImm (op : Nat) (f : Nat → Insn → Nat) : BxInsn where
  is := isOp op
  act w := do
    let (a, pa) ← Bx.reg w.a
    Bx.setReg w.d (f a w) pa
    pure .next

/-- SHI: the sub-operation of imm[7:6], the amount of imm[5:0]. -/
def shi (sub : Nat) (f : Nat → Nat → Nat) : BxInsn where
  is w := isOp 0x06 w && decide (getBits w 7 6 = sub)
  act w := do
    let (a, pa) ← Bx.reg w.a
    Bx.setReg w.d (f a (getBits w 5 0)) pa
    pure .next

/-- The CA a + imm of an aligned access of `n` bytes. -/
def bxAddr (w : Insn) (n : Nat) : Bx Nat := do
  let a ← Bx.ctl w.a
  let ca := (a + w.simm) % 2 ^ 64
  if ca % n ≠ 0 then Bx.trap trMisaligned ca
  pure ca

/-- d = the zero-extended `n` bytes at CA a + imm. -/
def load (op n : Nat) : BxInsn where
  is := isOp op
  act w := do
    let ca ← bxAddr w n
    let b ← Bx.readMem ca n
    Bx.saw b.poison b.addrErr
    if b.poison || b.addrErr then Bx.poisonReg w.d else Bx.setReg w.d (ofLeBytes b.bytes) false
    pure .next

/-- The low `n` bytes of d stored at CA a + imm. -/
def storeI (op n : Nat) : BxInsn where
  is := isOp op
  act w := do
    let ca ← bxAddr w n
    let (v, poison) ← Bx.reg w.d
    Bx.store ca (leBytes n v) poison
    pure .next

/-- The window offset a + imm of an aligned access of 8 bytes. -/
def bxWinAddr (w : Insn) : Bx Nat := bxAddr w 8

/-- LDS. -/
def bxLds (w : Insn) : Bx BxEnd := do
  let off ← bxWinAddr w
  let (b, bad) ← Bx.winRead off 8
  Bx.saw (bad 0) false
  if bad 0 then Bx.poisonReg w.d else Bx.setReg w.d (ofLeBytes b) false
  pure .next

/-- STS. -/
def bxSts (w : Insn) : Bx BxEnd := do
  let off ← bxWinAddr w
  let (v, poison) ← Bx.reg w.d
  Bx.winWrite off (leBytes 8 v) fun _ => poison
  pure .next

/-- A branch on a against b; in form B, a is [25:21] and b is [20:16]. -/
def branch (op : Nat) (f : Nat → Nat → Bool) : BxInsn where
  is := isOp op
  act w := do
    let a ← Bx.ctl (getBits w 25 21)
    let b ← Bx.ctl (getBits w 20 16)
    let c ← Bx.core
    pure (if f a b then .jump (4 * w.target (c.pc / 4)).toNat else .next)

/-- JAL. -/
def bxJal (w : Insn) : Bx BxEnd := do
  let c ← Bx.core
  Bx.setReg 31 (c.pc + 4) false
  pure (.jump (4 * w.target (c.pc / 4)).toNat)

/-- JR: a target outside the text, or not a multiple of 4, traps with TEXT_RANGE. -/
def bxJr (w : Insn) : Bx BxEnd := do
  let r ← get
  let a ← Bx.ctl w.a
  if a % 4 ≠ 0 ∨ 4 * r.p.text.length ≤ a then Bx.trap trText a
  Bx.setReg w.d (r.p.core.pc + 4) false
  pure (.jump a)

/-! ## CSRs (R366, Table 12-7) -/

/-- The value of a CSR; none where the number is not listed. -/
def BxRun.csr (r : BxRun) (n : Nat) : Option Nat :=
  let c := r.p.core
  match n with
  | 0x000 => some r.t.idx
  | 0x001 => some r.p.ntasks
  | 0x002 | 0x003 | 0x004 | 0x005 | 0x006 | 0x007 => some (r.p.args.getD (n - 2) 0)
  | 0x008 => some c.esel
  | 0x009 => some c.rmode
  | 0x00A => some (Desc.stream r.e.bytes)
  | 0x00B => some (Desc.layer r.e.bytes)
  | 0x00C => some (Desc.operatorId r.e.bytes)
  | 0x00D => some (c.seenAddr.toNat + 2 * c.seenPoison.toNat)
  | _ => none

/-- CSR: d = old value; with imm[15] set, CSR = a. -/
def bxCsr (w : Insn) : Bx BxEnd := do
  let r ← get
  let n := getBits w 11 0
  match r.csr n with
  | none => Bx.trap trCsr
  | some old => do
    if getBits w 15 15 = 1 then do
      if n ≠ 0x008 ∧ n ≠ 0x009 then Bx.trap trCsr
      let v ← Bx.ctl w.a
      if n = 0x008 then do
        if v = 0 ∨ 16 ≤ v then Bx.trap trCsr
        Bx.mapCore fun c => { c with esel := v }
      else do
        if 16 ≤ v ∨ 5 ≤ v % 8 then Bx.trap trCsr
        Bx.mapCore fun c => { c with rmode := v }
    Bx.setReg w.d old false
    pure .next

/-! ## SYS (R360, R367, R375, R376) -/

/-- SYS with a func. -/
def sys (fn : Nat) (act : Bx BxEnd) : BxInsn where
  is := isFn 0x1B fn
  act _ := act

/-- An instruction that may not stand between UNIT and CMT. -/
def bxOutside : Bx Unit := do
  let r ← get
  if r.p.unit.isSome then Bx.trap trUnitOrder

/-- TILE. -/
def bxTile : Bx BxEnd := do
  bxOutside
  pure .tile

/-- EXIT. -/
def bxExit : Bx BxEnd := do
  bxOutside
  pure .exit

/-- UNIT; a second one before its CMT, or one in an image without INPLACE, is out of order. -/
def bxUnit : Bx BxEnd := do
  let r ← get
  if r.p.unit.isSome || !r.p.inplace then Bx.trap trUnitOrder
  Bx.mapProg fun p => { p with unit := some [] }
  pure .next

/-- Staged lines of CAs as lines of DPAs. -/
def bxTranslate : List LineOut → Bx (List LineOut)
  | [] => pure []
  | l :: rest => do
    let dpa ← Bx.op l.dpa (Op.xlate l.dpa accWrite)
    let ls ← bxTranslate rest
    pure (mergeOut { l with dpa := lineOf dpa } ls)

/-- CMT: every staged line is translated first; it waits while the staging is full (R127). -/
def bxCmt : Bx BxEnd := do
  let r ← get
  match r.p.unit with
  | none => Bx.trap trUnitOrder
  | some ls => do
    if r.s.stagingSize ≤ r.s.stagingUsed then Bx.stop .stall
    let stage ← bxTranslate ls
    pure (.commit stage)

/-! ## SYNC and SWAIT (R374, R375) -/

/-- The object that register a names. -/
def bxObject (w : Insn) : Bx Nat := do
  let o ← Bx.ctl w.a
  let r ← get
  if 65536 ≤ o then Bx.stop (.refused 0x02)
  if r.s.objOwner o ≠ some (r.s.ringPtn r.e.ring) then Bx.stop (.refused 0x02)
  pure o

/-- An operation that the object's kind refuses, counted (R348). -/
def bxRefuseKind {α : Type} : Bx α := do
  modify fun r => { r with s := r.s.bump F.ENG_SYNC_DENIED_COUNT }
  Bx.stop (.refused 0x01)

/-- SYNC with an operation of Table 11-16; a mutating one is a unit of its own, for which INPLACE is needed. -/
def sync (op : Nat) : BxInsn where
  is := isFn 0x1C op
  act w := do
    bxOutside
    let o ← bxObject w
    let x ← if op = opRead ∨ op = opSignal then pure 0 else Bx.ctl w.b
    let cmp ← if op = opCas then Bx.ctl w.d else pure 0
    let r ← get
    let v := r.s.obj o
    if v.reserved.isSome then Bx.stop .stall
    match v.apply op x cmp with
    | none => bxRefuseKind
    | some v1 =>
      if op = opRead then
        modify fun r => { r with s := r.s.event 11 0 (r.s.objAttr o) }
        Bx.setReg w.d v.value false
        pure .next
      else do
        if !r.p.inplace then Bx.trap trUnitOrder
        if r.s.stagingSize ≤ r.s.stagingUsed then Bx.stop .stall
        Bx.setReg w.d v.value false
        pure (.sync o { v1 with reserved := none })

/-- SWAIT on object a with threshold b. -/
def bxSwait (w : Insn) : Bx BxEnd := do
  let o ← bxObject w
  let th ← Bx.ctl w.b
  let r ← get
  let v := r.s.obj o
  if v.kind = objNone then bxRefuseKind
  pure (if v.reached th then .next else .wait o th)

/-! ## The instructions of Table 12-8 -/

/-- ALU ADD (R365). -/
def insnAluAdd : BxInsn := alu 0x00 fun a b => a + b

/-- ALU SUB (R365). -/
def insnAluSub : BxInsn := alu 0x01 fun a b => a + 2 ^ 64 - b

/-- ALU AND (R365). -/
def insnAluAnd : BxInsn := alu 0x02 fun a b => a &&& b

/-- ALU OR (R365). -/
def insnAluOr : BxInsn := alu 0x03 fun a b => a ||| b

/-- ALU XOR (R365). -/
def insnAluXor : BxInsn := alu 0x04 fun a b => a ^^^ b

/-- ALU SLL, the amount modulo 64 (R362). -/
def insnAluSll : BxInsn := alu 0x05 fun a b => a * 2 ^ (b % 64)

/-- ALU SRL (R362). -/
def insnAluSrl : BxInsn := alu 0x06 fun a b => a / 2 ^ (b % 64)

/-- ALU SRA (R362). -/
def insnAluSra : BxInsn := alu 0x07 fun a b => shiftRightA a b

/-- ALU SLT (R365). -/
def insnAluSlt : BxInsn := alu 0x08 fun a b => (decide (signed64 a < signed64 b)).toNat

/-- ALU SLTU (R365). -/
def insnAluSltu : BxInsn := alu 0x09 fun a b => (decide (a < b)).toNat

/-- ALU MUL, the low 64 bits (R365). -/
def insnAluMul : BxInsn := alu 0x0A fun a b => a * b

/-- ALU MULHU (R365). -/
def insnAluMulhu : BxInsn := alu 0x0B fun a b => a * b / 2 ^ 64

/-- ALU DIVU (R362). -/
def insnAluDivu : BxInsn := alu 0x0C fun a b => if b = 0 then 2 ^ 64 - 1 else a / b

/-- ALU REMU; by zero it gives the dividend (R362). -/
def insnAluRemu : BxInsn := alu 0x0D fun a b => a % b

/-- ALU MIN, signed (R365). -/
def insnAluMin : BxInsn := alu 0x0E fun a b => if signed64 b < signed64 a then b else a

/-- ALU MAX, signed (R365). -/
def insnAluMax : BxInsn := alu 0x0F fun a b => if signed64 a < signed64 b then b else a

/-- ADDI (R365). -/
def insnAddi : BxInsn := aluImm 0x02 fun a w => a + w.simm

/-- ANDI (R365). -/
def insnAndi : BxInsn := aluImm 0x03 fun a w => a &&& w.imm

/-- ORI (R365). -/
def insnOri : BxInsn := aluImm 0x04 fun a w => a ||| w.imm

/-- XORI (R365). -/
def insnXori : BxInsn := aluImm 0x05 fun a w => a ^^^ w.imm

/-- SHI shift left (R365). -/
def insnShiSll : BxInsn := shi 0 fun a n => a * 2 ^ n

/-- SHI shift right logical (R365). -/
def insnShiSrl : BxInsn := shi 1 fun a n => a / 2 ^ n

/-- SHI shift right arithmetic (R365). -/
def insnShiSra : BxInsn := shi 2 fun a n => shiftRightA a n

/-- LUI: the immediate, sign-extended as in every form I (R364), shifted left 16 (R365). -/
def insnLui : BxInsn := { is := isOp 0x07, act := fun w => do
    Bx.setReg w.d (w.simm * 2 ^ 16) false
    pure .next }

/-- LDB (R367). -/
def insnLdb : BxInsn := load 0x08 1

/-- LDH (R367). -/
def insnLdh : BxInsn := load 0x09 2

/-- LDW (R367). -/
def insnLdw : BxInsn := load 0x0A 4

/-- LDD (R367). -/
def insnLdd : BxInsn := load 0x0B 8

/-- STB (R367, R375). -/
def insnStb : BxInsn := storeI 0x0C 1

/-- STH (R367, R375). -/
def insnSth : BxInsn := storeI 0x0D 2

/-- STW (R367, R375). -/
def insnStw : BxInsn := storeI 0x0E 4

/-- STD (R367, R375). -/
def insnStd : BxInsn := storeI 0x0F 8

/-- LDS (R367). -/
def insnLds : BxInsn := { is := isOp 0x10, act := bxLds }

/-- STS (R367). -/
def insnSts : BxInsn := { is := isOp 0x11, act := bxSts }

/-- BEQ (R364). -/
def insnBeq : BxInsn := branch 0x12 fun a b => decide (a = b)

/-- BNE (R364). -/
def insnBne : BxInsn := branch 0x13 fun a b => decide (a ≠ b)

/-- BLT, signed (R364). -/
def insnBlt : BxInsn := branch 0x14 fun a b => decide (signed64 a < signed64 b)

/-- BGE, signed (R364). -/
def insnBge : BxInsn := branch 0x15 fun a b => decide (signed64 b ≤ signed64 a)

/-- BLTU (R364). -/
def insnBltu : BxInsn := branch 0x16 fun a b => decide (a < b)

/-- BGEU (R364). -/
def insnBgeu : BxInsn := branch 0x17 fun a b => decide (b ≤ a)

/-- JAL links into s31 (R365). -/
def insnJal : BxInsn := { is := isOp 0x18, act := bxJal }

/-- JR (R365, TEXT_RANGE). -/
def insnJr : BxInsn := { is := isOp 0x19, act := bxJr }

/-- CSR that only reads (R366). -/
def insnCsrRead : BxInsn := { is := fun w => isOp 0x1A w && decide (getBits w 15 15 = 0), act := bxCsr }

/-- CSR that writes (R366). -/
def insnCsrWrite : BxInsn := { is := fun w => isOp 0x1A w && decide (getBits w 15 15 = 1), act := bxCsr }

/-- SYS TILE (R376). -/
def insnTile : BxInsn := sys 1 bxTile

/-- SYS EXIT (R360). -/
def insnExit : BxInsn := sys 2 bxExit

/-- SYS ABORT (R378). -/
def insnAbort : BxInsn := sys 3 (Bx.trap trAbort)

/-- SYS UNIT (R375). -/
def insnUnit : BxInsn := sys 4 bxUnit

/-- SYS CMT (R375). -/
def insnCmt : BxInsn := sys 5 bxCmt

/-- SYS FENCE: every earlier store of the task has been ordered, since stores take effect in order (R367). -/
def insnSysFence : BxInsn := sys 6 (pure .next)

/-- SYNC READ (R374). -/
def insnSyncRead : BxInsn := sync opRead

/-- SYNC ADD (R374, R375). -/
def insnSyncAdd : BxInsn := sync opAdd

/-- SYNC SWAP (R374, R375). -/
def insnSyncSwap : BxInsn := sync opSwap

/-- SYNC CAS, the compare from d (R374, R375). -/
def insnSyncCas : BxInsn := sync opCas

/-- SYNC SIGNAL (R374, R375). -/
def insnSyncSignal : BxInsn := sync opSignal

/-- SWAIT (R374). -/
def insnSwait : BxInsn := { is := isOp 0x1D, act := bxSwait }

/-! ## The commands -/

/-- ALU ADD (R365): a task executes it. -/
def execAluAdd (ring : Fin 4096) (seq : BitVec 64) (idx : BitVec 16) (s : State) : Out :=
  s.act fun s => (s.bexa ring seq idx insnAluAdd)

/-- ALU SUB (R365): a task executes it. -/
def execAluSub (ring : Fin 4096) (seq : BitVec 64) (idx : BitVec 16) (s : State) : Out :=
  s.act fun s => (s.bexa ring seq idx insnAluSub)

/-- ALU AND (R365): a task executes it. -/
def execAluAnd (ring : Fin 4096) (seq : BitVec 64) (idx : BitVec 16) (s : State) : Out :=
  s.act fun s => (s.bexa ring seq idx insnAluAnd)

/-- ALU OR (R365): a task executes it. -/
def execAluOr (ring : Fin 4096) (seq : BitVec 64) (idx : BitVec 16) (s : State) : Out :=
  s.act fun s => (s.bexa ring seq idx insnAluOr)

/-- ALU XOR (R365): a task executes it. -/
def execAluXor (ring : Fin 4096) (seq : BitVec 64) (idx : BitVec 16) (s : State) : Out :=
  s.act fun s => (s.bexa ring seq idx insnAluXor)

/-- ALU SLL, the amount modulo 64 (R362): a task executes it. -/
def execAluSll (ring : Fin 4096) (seq : BitVec 64) (idx : BitVec 16) (s : State) : Out :=
  s.act fun s => (s.bexa ring seq idx insnAluSll)

/-- ALU SRL (R362): a task executes it. -/
def execAluSrl (ring : Fin 4096) (seq : BitVec 64) (idx : BitVec 16) (s : State) : Out :=
  s.act fun s => (s.bexa ring seq idx insnAluSrl)

/-- ALU SRA (R362): a task executes it. -/
def execAluSra (ring : Fin 4096) (seq : BitVec 64) (idx : BitVec 16) (s : State) : Out :=
  s.act fun s => (s.bexa ring seq idx insnAluSra)

/-- ALU SLT (R365): a task executes it. -/
def execAluSlt (ring : Fin 4096) (seq : BitVec 64) (idx : BitVec 16) (s : State) : Out :=
  s.act fun s => (s.bexa ring seq idx insnAluSlt)

/-- ALU SLTU (R365): a task executes it. -/
def execAluSltu (ring : Fin 4096) (seq : BitVec 64) (idx : BitVec 16) (s : State) : Out :=
  s.act fun s => (s.bexa ring seq idx insnAluSltu)

/-- ALU MUL, the low 64 bits (R365): a task executes it. -/
def execAluMul (ring : Fin 4096) (seq : BitVec 64) (idx : BitVec 16) (s : State) : Out :=
  s.act fun s => (s.bexa ring seq idx insnAluMul)

/-- ALU MULHU (R365): a task executes it. -/
def execAluMulhu (ring : Fin 4096) (seq : BitVec 64) (idx : BitVec 16) (s : State) : Out :=
  s.act fun s => (s.bexa ring seq idx insnAluMulhu)

/-- ALU DIVU (R362): a task executes it. -/
def execAluDivu (ring : Fin 4096) (seq : BitVec 64) (idx : BitVec 16) (s : State) : Out :=
  s.act fun s => (s.bexa ring seq idx insnAluDivu)

/-- ALU REMU; by zero it gives the dividend (R362): a task executes it. -/
def execAluRemu (ring : Fin 4096) (seq : BitVec 64) (idx : BitVec 16) (s : State) : Out :=
  s.act fun s => (s.bexa ring seq idx insnAluRemu)

/-- ALU MIN, signed (R365): a task executes it. -/
def execAluMin (ring : Fin 4096) (seq : BitVec 64) (idx : BitVec 16) (s : State) : Out :=
  s.act fun s => (s.bexa ring seq idx insnAluMin)

/-- ALU MAX, signed (R365): a task executes it. -/
def execAluMax (ring : Fin 4096) (seq : BitVec 64) (idx : BitVec 16) (s : State) : Out :=
  s.act fun s => (s.bexa ring seq idx insnAluMax)

/-- ADDI (R365): a task executes it. -/
def execAddi (ring : Fin 4096) (seq : BitVec 64) (idx : BitVec 16) (s : State) : Out :=
  s.act fun s => (s.bexa ring seq idx insnAddi)

/-- ANDI (R365): a task executes it. -/
def execAndi (ring : Fin 4096) (seq : BitVec 64) (idx : BitVec 16) (s : State) : Out :=
  s.act fun s => (s.bexa ring seq idx insnAndi)

/-- ORI (R365): a task executes it. -/
def execOri (ring : Fin 4096) (seq : BitVec 64) (idx : BitVec 16) (s : State) : Out :=
  s.act fun s => (s.bexa ring seq idx insnOri)

/-- XORI (R365): a task executes it. -/
def execXori (ring : Fin 4096) (seq : BitVec 64) (idx : BitVec 16) (s : State) : Out :=
  s.act fun s => (s.bexa ring seq idx insnXori)

/-- SHI shift left (R365): a task executes it. -/
def execShiSll (ring : Fin 4096) (seq : BitVec 64) (idx : BitVec 16) (s : State) : Out :=
  s.act fun s => (s.bexa ring seq idx insnShiSll)

/-- SHI shift right logical (R365): a task executes it. -/
def execShiSrl (ring : Fin 4096) (seq : BitVec 64) (idx : BitVec 16) (s : State) : Out :=
  s.act fun s => (s.bexa ring seq idx insnShiSrl)

/-- SHI shift right arithmetic (R365): a task executes it. -/
def execShiSra (ring : Fin 4096) (seq : BitVec 64) (idx : BitVec 16) (s : State) : Out :=
  s.act fun s => (s.bexa ring seq idx insnShiSra)

/-- LUI: the immediate, sign-extended as in every form I (R364), shifted left 16 (R365): a task executes it. -/
def execLui (ring : Fin 4096) (seq : BitVec 64) (idx : BitVec 16) (s : State) : Out :=
  s.act fun s => (s.bexa ring seq idx insnLui)

/-- LDB (R367): a task executes it. -/
def execLdb (ring : Fin 4096) (seq : BitVec 64) (idx : BitVec 16) (s : State) : Out :=
  s.act fun s => (s.bexa ring seq idx insnLdb)

/-- LDH (R367): a task executes it. -/
def execLdh (ring : Fin 4096) (seq : BitVec 64) (idx : BitVec 16) (s : State) : Out :=
  s.act fun s => (s.bexa ring seq idx insnLdh)

/-- LDW (R367): a task executes it. -/
def execLdw (ring : Fin 4096) (seq : BitVec 64) (idx : BitVec 16) (s : State) : Out :=
  s.act fun s => (s.bexa ring seq idx insnLdw)

/-- LDD (R367): a task executes it. -/
def execLdd (ring : Fin 4096) (seq : BitVec 64) (idx : BitVec 16) (s : State) : Out :=
  s.act fun s => (s.bexa ring seq idx insnLdd)

/-- STB (R367, R375): a task executes it. -/
def execStb (ring : Fin 4096) (seq : BitVec 64) (idx : BitVec 16) (s : State) : Out :=
  s.act fun s => (s.bexa ring seq idx insnStb)

/-- STH (R367, R375): a task executes it. -/
def execSth (ring : Fin 4096) (seq : BitVec 64) (idx : BitVec 16) (s : State) : Out :=
  s.act fun s => (s.bexa ring seq idx insnSth)

/-- STW (R367, R375): a task executes it. -/
def execStw (ring : Fin 4096) (seq : BitVec 64) (idx : BitVec 16) (s : State) : Out :=
  s.act fun s => (s.bexa ring seq idx insnStw)

/-- STD (R367, R375): a task executes it. -/
def execStd (ring : Fin 4096) (seq : BitVec 64) (idx : BitVec 16) (s : State) : Out :=
  s.act fun s => (s.bexa ring seq idx insnStd)

/-- LDS (R367): a task executes it. -/
def execLds (ring : Fin 4096) (seq : BitVec 64) (idx : BitVec 16) (s : State) : Out :=
  s.act fun s => (s.bexa ring seq idx insnLds)

/-- STS (R367): a task executes it. -/
def execSts (ring : Fin 4096) (seq : BitVec 64) (idx : BitVec 16) (s : State) : Out :=
  s.act fun s => (s.bexa ring seq idx insnSts)

/-- BEQ (R364): a task executes it. -/
def execBeq (ring : Fin 4096) (seq : BitVec 64) (idx : BitVec 16) (s : State) : Out :=
  s.act fun s => (s.bexa ring seq idx insnBeq)

/-- BNE (R364): a task executes it. -/
def execBne (ring : Fin 4096) (seq : BitVec 64) (idx : BitVec 16) (s : State) : Out :=
  s.act fun s => (s.bexa ring seq idx insnBne)

/-- BLT, signed (R364): a task executes it. -/
def execBlt (ring : Fin 4096) (seq : BitVec 64) (idx : BitVec 16) (s : State) : Out :=
  s.act fun s => (s.bexa ring seq idx insnBlt)

/-- BGE, signed (R364): a task executes it. -/
def execBge (ring : Fin 4096) (seq : BitVec 64) (idx : BitVec 16) (s : State) : Out :=
  s.act fun s => (s.bexa ring seq idx insnBge)

/-- BLTU (R364): a task executes it. -/
def execBltu (ring : Fin 4096) (seq : BitVec 64) (idx : BitVec 16) (s : State) : Out :=
  s.act fun s => (s.bexa ring seq idx insnBltu)

/-- BGEU (R364): a task executes it. -/
def execBgeu (ring : Fin 4096) (seq : BitVec 64) (idx : BitVec 16) (s : State) : Out :=
  s.act fun s => (s.bexa ring seq idx insnBgeu)

/-- JAL links into s31 (R365): a task executes it. -/
def execJal (ring : Fin 4096) (seq : BitVec 64) (idx : BitVec 16) (s : State) : Out :=
  s.act fun s => (s.bexa ring seq idx insnJal)

/-- JR (R365, TEXT_RANGE): a task executes it. -/
def execJr (ring : Fin 4096) (seq : BitVec 64) (idx : BitVec 16) (s : State) : Out :=
  s.act fun s => (s.bexa ring seq idx insnJr)

/-- CSR that only reads (R366): a task executes it. -/
def execCsrRead (ring : Fin 4096) (seq : BitVec 64) (idx : BitVec 16) (s : State) : Out :=
  s.act fun s => (s.bexa ring seq idx insnCsrRead)

/-- CSR that writes (R366): a task executes it. -/
def execCsrWrite (ring : Fin 4096) (seq : BitVec 64) (idx : BitVec 16) (s : State) : Out :=
  s.act fun s => (s.bexa ring seq idx insnCsrWrite)

/-- SYS TILE (R376): a task executes it. -/
def execTile (ring : Fin 4096) (seq : BitVec 64) (idx : BitVec 16) (s : State) : Out :=
  s.act fun s => (s.bexa ring seq idx insnTile)

/-- SYS EXIT (R360): a task executes it. -/
def execExit (ring : Fin 4096) (seq : BitVec 64) (idx : BitVec 16) (s : State) : Out :=
  s.act fun s => (s.bexa ring seq idx insnExit)

/-- SYS ABORT (R378): a task executes it. -/
def execAbort (ring : Fin 4096) (seq : BitVec 64) (idx : BitVec 16) (s : State) : Out :=
  s.act fun s => (s.bexa ring seq idx insnAbort)

/-- SYS UNIT (R375): a task executes it. -/
def execUnit (ring : Fin 4096) (seq : BitVec 64) (idx : BitVec 16) (s : State) : Out :=
  s.act fun s => (s.bexa ring seq idx insnUnit)

/-- SYS CMT (R375): a task executes it. -/
def execCmt (ring : Fin 4096) (seq : BitVec 64) (idx : BitVec 16) (s : State) : Out :=
  s.act fun s => (s.bexa ring seq idx insnCmt)

/-- SYS FENCE: every earlier store of the task has been ordered, since stores take effect in order (R367): a task executes it. -/
def execSysFence (ring : Fin 4096) (seq : BitVec 64) (idx : BitVec 16) (s : State) : Out :=
  s.act fun s => (s.bexa ring seq idx insnSysFence)

/-- SYNC READ (R374): a task executes it. -/
def execSyncRead (ring : Fin 4096) (seq : BitVec 64) (idx : BitVec 16) (s : State) : Out :=
  s.act fun s => (s.bexa ring seq idx insnSyncRead)

/-- SYNC ADD (R374, R375): a task executes it. -/
def execSyncAdd (ring : Fin 4096) (seq : BitVec 64) (idx : BitVec 16) (s : State) : Out :=
  s.act fun s => (s.bexa ring seq idx insnSyncAdd)

/-- SYNC SWAP (R374, R375): a task executes it. -/
def execSyncSwap (ring : Fin 4096) (seq : BitVec 64) (idx : BitVec 16) (s : State) : Out :=
  s.act fun s => (s.bexa ring seq idx insnSyncSwap)

/-- SYNC CAS, the compare from d (R374, R375): a task executes it. -/
def execSyncCas (ring : Fin 4096) (seq : BitVec 64) (idx : BitVec 16) (s : State) : Out :=
  s.act fun s => (s.bexa ring seq idx insnSyncCas)

/-- SYNC SIGNAL (R374, R375): a task executes it. -/
def execSyncSignal (ring : Fin 4096) (seq : BitVec 64) (idx : BitVec 16) (s : State) : Out :=
  s.act fun s => (s.bexa ring seq idx insnSyncSignal)

/-- SWAIT (R374): a task executes it. -/
def execSwait (ring : Fin 4096) (seq : BitVec 64) (idx : BitVec 16) (s : State) : Out :=
  s.act fun s => (s.bexa ring seq idx insnSwait)

end Sys2Proof.Machine
end

