-- ==== Sys2Proof/Machine/Vectors.lean ====
section
/-! DEFINITION.  The stream, vector and accumulator instructions of Bexa programs (R363, R368–R372), and traps. -/

namespace Sys2Proof.Machine

/-! ## Vector registers (R363, Table 12-5) -/

/-- The elements of a vector register with a tag. -/
def vecCount (fmt : Nat) : Nat := if widthOf fmt = 6 then 256 else 2048 / widthOf fmt

/-- The element bytes that a tag uses. -/
def vecBytes (fmt : Nat) : Nat := if widthOf fmt = 6 then 192 else 256

/-- The MX blocks of a vector register with a tag. -/
def vecBlocks (fmt : Nat) : Nat := if isMx fmt then vecCount fmt / 32 else 0

/-- The engines that ESEL names, in ascending order (R369). -/
def ProgCore.engines (c : ProgCore) : List Nat := (List.range 4).filter fun e => decide (getBits c.esel e e = 1)

/-- ROUND and SAT of RMODE. -/
def ProgCore.round (c : ProgCore) : Nat := c.rmode % 8
def ProgCore.sat (c : ProgCore) : Bool := decide (c.rmode / 8 % 2 = 1)

/-- A vector register of an engine. -/
def Prog.vec (p : Prog) (e v : Nat) : Vec := Assoc.get {} (16 * e + v) p.vregs

/-- A vector register of an engine replaced. -/
def Prog.setVec (p : Prog) (e v : Nat) (x : Vec) : Prog := { p with vregs := Assoc.put {} (16 * e + v) x p.vregs }

/-- An accumulator of an engine. -/
def Prog.acc (p : Prog) (e k : Nat) : Acc := Assoc.get {} (4 * e + k) p.core.accs

/-- An accumulator of an engine replaced. -/
def Prog.setAcc (p : Prog) (e k : Nat) (x : Acc) : Prog :=
  { p with core := { p.core with accs := Assoc.put {} (4 * e + k) x p.core.accs } }

/-- The program. -/
def Bx.prog : Bx Prog := do
  let r ← get
  pure r.p

/-- The same on every engine that ESEL names. -/
def Bx.eachEngine (f : Nat → Bx Unit) : Bx Unit := do
  let c ← Bx.core
  c.engines.forM f

/-- The lanes that element `i` of width `w` touches. -/
def lanesOf (w i : Nat) : List Nat := [w * i / 32, (w * i + w - 1) / 32].eraseDups

/-- Element `i` of a vector register. -/
def Vec.elem (v : Vec) (i : Nat) : Num :=
  let w := widthOf v.fmt
  if (lanesOf w i).any v.poison.contains then .poison
  else decodeElem v.fmt (unpackAt w i v.bytes) (if isMx v.fmt then (v.scales.getD (i / 32) 0).toNat else 0)

/-- The lanes in which a vector register's bytes `first` to `first + n - 1` lie, marked poisoned or not. -/
def Vec.mark (v : Vec) (first n : Nat) (bad : Bool) : Vec :=
  let ls := (List.range (n / 4)).map (first / 4 + ·)
  let kept := v.poison.filter fun l => !ls.contains l
  { v with poison := if bad then kept ++ ls else kept }

/-- Bytes of a vector register replaced. -/
def Vec.putBytes (v : Vec) (first : Nat) (b : List Byte) : Vec :=
  { v with bytes := v.bytes.take first ++ b ++ v.bytes.drop (first + b.length) }

/-- The lanes of a vector register as u32. -/
def Vec.lane (v : Vec) (i : Nat) : Nat := ofLeBytes ((v.bytes.drop (4 * i)).take 4)

/-- A vector register of FP32 lanes. -/
def Vec.ofLanes (old : Vec) (lane : Nat → Nat) (poison : List Nat) : Vec :=
  { old with
    bytes := ((List.range 64).map fun i => leBytes 4 (lane i)).flatten
    fmt := 0
    poison := poison }

/-! ## VALU, VFUN, SPLAT (R370) -/

/-- vd = va ∘ vb lane by lane. -/
def valu (fn : Nat) (f : Nat → Nat → Nat) : BxInsn where
  is := isFn 0x23 fn
  act w := do
    Bx.eachEngine fun e => Bx.mapProg fun p =>
      let a := p.vec e w.va
      let b := p.vec e w.vb
      p.setVec e w.vd ((p.vec e w.vd).ofLanes (fun i => f (a.lane i) (b.lane i))
        ((List.range 64).filter fun i => a.poison.contains i || b.poison.contains i))
    pure .next

/-- vd = va shifted by s[4:0] lane by lane. -/
def vshift (fn : Nat) (f : Nat → Nat → Nat) : BxInsn where
  is := isFn 0x23 fn
  act w := do
    let (n, bad) ← Bx.reg w.s
    Bx.eachEngine fun e => Bx.mapProg fun p =>
      let a := p.vec e w.va
      p.setVec e w.vd ((p.vec e w.vd).ofLanes (fun i => f (a.lane i) (n % 32))
        ((List.range 64).filter fun i => a.poison.contains i || bad))
    pure .next

/-- vd = f(va) per lane in the rounding of RMODE. -/
def vfun (fn : Nat) (f : Nat → Nat → Nat) : BxInsn where
  is := isFn 0x24 fn
  act w := do
    let c ← Bx.core
    Bx.eachEngine fun e => Bx.mapProg fun p =>
      let a := p.vec e w.va
      p.setVec e w.vd ((p.vec e w.vd).ofLanes (fun i => f c.round (a.lane i))
        ((List.range 64).filter fun i => a.poison.contains i))
    pure .next

/-- SPLAT. -/
def bxSplat (w : Insn) : Bx BxEnd := do
  let (x, bad) ← Bx.reg w.s
  Bx.eachEngine fun e => Bx.mapProg fun p =>
    p.setVec e w.vd ((p.vec e w.vd).ofLanes (fun _ => x) (if bad then List.range 64 else []))
  pure .next

/-! ## VCVT (R304, R370) -/

/-- Elements of one format put into a vector register from element `first` on: whole blocks for an MX format. -/
def Vec.putElems (v : Vec) (fmt mode : Nat) (sat : Bool) (first : Nat) (vs : List OutVal) : Vec :=
  let w := widthOf fmt
  if isMx fmt then
    (List.range (vs.length / 32)).foldl (fun v b =>
      let blk := roundMx fmt mode ((vs.drop (32 * b)).take 32)
      let k := first / 32 + b
      let at_ := k * blockBytes fmt
      let v1 := ((v.putBytes at_ (packBits w blk.codes)).mark at_ (blockBytes fmt) blk.poison : Vec)
      { v1 with scales := v1.scales.set k (BitVec.ofNat 8 blk.scale) }) v
  else
    let codes := vs.map fun x => x.round fmt mode sat
    let v1 := (v.putBytes (w * first / 8) (packBits w (codes.map fun c => c.getD 0))).mark (w * first / 8) (w * vs.length / 8) false
    { v1 with poison := v1.poison ++ (((codes.zipIdx.filter fun c => c.1.isNone).map fun c =>
        lanesOf w (first + c.2)).flatten).eraseDups }

/-- VCVT: elements 0 to n − 1 of va to elements W × n on of vd. -/
def bxVcvt (w : Insn) : Bx BxEnd := do
  let c ← Bx.core
  Bx.eachEngine fun e => Bx.mapProg fun p =>
    let a := p.vec e w.va
    let n := min (vecCount a.fmt) (vecCount w.fmt)
    let old := { p.vec e w.vd with fmt := w.fmt }
    p.setVec e w.vd (if vecCount w.fmt ≤ w.vb * n then old
      else old.putElems w.fmt c.round c.sat (w.vb * n) ((List.range n).map fun i => (a.elem i).out))
  pure .next

/-! ## Vector registers and memory (R365, R367) -/

/-- VLDS. -/
def bxVlds (w : Insn) : Bx BxEnd := do
  let off ← Bx.ctl w.s
  let mx := isMx w.fmt
  let (b, bad) ← Bx.winRead off (if mx then 272 else 256)
  let lanes := (List.range 64).filter fun i => (List.range 4).any fun j => bad (4 * i + j)
  let blk := blockBytes w.fmt
  let scaled := (List.range 64).filter fun i => mx && decide (4 * i / blk < vecBlocks w.fmt) && bad (256 + 4 * i / blk)
  Bx.saw (!lanes.isEmpty || !scaled.isEmpty) false
  Bx.eachEngine fun e => Bx.mapProg fun p =>
    let old := p.vec e w.vd
    p.setVec e w.vd { old with
      bytes := b.take 256
      scales := if mx then b.drop 256 else old.scales
      fmt := w.fmt
      poison := (lanes ++ scaled).eraseDups }
  pure .next

/-- VSTS. -/
def bxVsts (w : Insn) : Bx BxEnd := do
  let off ← Bx.ctl w.s
  Bx.eachEngine fun e => do
    let p ← Bx.prog
    let v := p.vec e w.vd
    Bx.winWrite off (v.bytes ++ if isMx v.fmt then v.scales else [])
      fun j => if j < 256 then v.poison.contains (j / 4) else !v.poison.isEmpty
  pure .next

/-- VST func 0: the element bytes that vd's tag uses. -/
def bxVstElems (w : Insn) : Bx BxEnd := do
  let ca ← Bx.ctl w.s
  if ca % 64 ≠ 0 then Bx.trap trMisaligned ca
  Bx.eachEngine fun e => do
    let p ← Bx.prog
    let v := p.vec e w.vd
    Bx.storeLines ca (v.bytes.take (vecBytes v.fmt)) fun j => v.poison.contains (j / 4)
  pure .next

/-- VST func 1: the scale bytes of vd, one per block. -/
def bxVstScales (w : Insn) : Bx BxEnd := do
  let ca ← Bx.ctl w.s
  Bx.eachEngine fun e => do
    let p ← Bx.prog
    let v := p.vec e w.vd
    let n := vecBlocks v.fmt
    if n ≠ 0 ∧ ca % n ≠ 0 then Bx.trap trMisaligned ca
    Bx.storeLines ca (v.scales.take n) fun _ => !v.poison.isEmpty
  pure .next

/-! ## Streams (R368, Table 12-9) -/

/-- The pattern of 64 window bytes, with its format and SCALE_BASE; none where it breaks Table 12-9. -/
def parsePattern (b : List Byte) : Option (Nat × PfPattern × Nat) :=
  let q (k : Nat) : Nat := ofLeBytes ((b.drop (8 * k)).take 8)
  let h := q 0
  let rowLines := getBits h 31 16
  let idx64 := getBits h 12 12
  let fmt := getBits h 11 8
  let base := q 1
  let second := q 2
  let rows := getBits (q 3) 63 32
  let count := getBits (q 3) 31 0
  let scale := q 4
  let plain := decide (rowLines = 0) && decide (idx64 = 0) && decide (rows = 0)
  if getBits h 63 32 ≠ 0 ∨ getBits h 15 13 ≠ 0 ∨ !fmtValid fmt ∨ count = 0 ∨ (b.drop 0x28).any (· ≠ 0) then none
  else
    match getBits h 7 0 with
    | 0x01 =>
      if plain ∧ (isMx fmt ∨ scale = 0) then some (fmt, .linear base (signed64 second) count, scale) else none
    | 0x02 =>
      if 1 ≤ rowLines ∧ rowLines ≤ 1024 ∧ (isMx fmt ∨ scale = 0) then
        some (fmt, .indexed second (decide (idx64 = 1)) base (64 * rowLines) rows count, scale)
      else none
    | 0x03 => if plain ∧ second = 0 ∧ scale = 0 then some (fmt, .pageList base count, scale) else none
    | _ => none

/-- The first address of a pattern that is not naturally aligned. -/
def PfPattern.misaligned (p : PfPattern) : Option Nat :=
  match p with
  | .linear base _ _ => if base % 64 = 0 then none else some base
  | .indexed list wide table _ _ _ =>
    if table % 64 ≠ 0 then some table else if list % (if wide then 8 else 4) ≠ 0 then some list else none
  | .pageList list _ => if list % 8 = 0 then none else some list

/-- PFSET. -/
def bxPfset (w : Insn) : Bx BxEnd := do
  let off ← Bx.ctl w.a
  let (b, bad) ← Bx.winRead off 64
  if (List.range 64).any bad then Bx.trap trPoison
  match parsePattern b with
  | none => Bx.trap trPattern off
  | some (fmt, pat, scale) => do
    match pat.misaligned with
    | some a => Bx.trap trMisaligned a
    | none => pure ()
    let i := getBits w 2 0
    let bind : PfBind := { fmt := fmt, pattern := pat, scaleBase := scale }
    Bx.mapCore fun c => { c with binds := Assoc.ins i bind c.binds }
    modify fun r =>
      match r.t.core with
      | some k => { r with s := r.s.bindPrefetcher r.e k i bind }
      | none => r
    pure .next

/-- The value of line `i` of a stream: from the stage, or read by the task itself where the prefetcher has stopped at
it; it is not there yet otherwise. -/
def Bx.streamLine (f : Prefetcher) (i : Nat) : Bx StagedLine := do
  match f.staged.find? fun l => decide (l.idx = i) with
  | some l => pure l
  | none =>
    if f.stopped ∧ f.next ≤ i then do
      let step ← Bx.op 0 (Op.pfStep f.pattern i)
      match step with
      | .ask page dpa =>
        Bx.op 0 (Op.pfArrive f.pattern { idx := i, page := page, dpa := dpa, epoch := 0 })
      | .stage l => pure l
    else Bx.stop .empty

/-- The scale byte of block `j` of a stream (R368). -/
def Bx.streamScale (b : PfBind) (j : Nat) : Bx Bytes := do
  match b.pattern with
  | .linear _ _ _ =>
    let ca := (b.scaleBase + j) % 2 ^ 64
    Bx.op ca (Op.caBytes ca 1)
  | .indexed list wide _ rowBytes _ _ => do
    let bb := blockBytes b.fmt
    let n := if wide then 8 else 4
    let row := j * bb / rowBytes
    let (r, bad, gone) ← Bx.op (list + n * row) (Op.caNat (list + n * row) n)
    if bad || gone then pure { bytes := [0], poison := bad, addrErr := gone }
    else do
      let ca := (b.scaleBase + r * (rowBytes / bb) + j * bb % rowBytes / bb) % 2 ^ 64
      Bx.op ca (Op.caBytes ca 1)
  | .pageList _ _ => pure { bytes := [0] }

/-- The next register of a stream into one engine. -/
def bxTake (f : Prefetcher) (i vd e : Nat) : Bx Unit := do
  let c ← Bx.core
  match c.binds.find? fun x => decide (x.1 = i) with
  | none => Bx.trap trExhausted
  | some (_, b) => do
    let total := 64 * b.pattern.lines
    if total ≤ b.taken then Bx.trap trExhausted
    let n := min (vecBytes b.fmt) (total - b.taken)
    let lines ← (List.range (n / 64)).mapM fun j => Bx.streamLine f (b.taken / 64 + j)
    let drawn := isMx b.fmt && (match b.pattern with
      | .pageList _ _ => false
      | _ => true)
    let bb := blockBytes b.fmt
    let scales ← (List.range (vecBlocks b.fmt)).mapM fun j =>
      if drawn then
        if bb * j < n then Bx.streamScale b (b.taken / bb + j) else pure { bytes := [0x7F] }
      else pure { bytes := [] }
    let badLane (k : Nat) : Bool :=
      let l := 4 * k / 64
      (match lines[l]? with
      | some x => x.addressError || x.val.isPoison
      | none => false)
        || (drawn && decide (4 * k / bb < scales.length) && (scales.map fun x => x.poison || x.addrErr).getD (4 * k / bb) false)
    Bx.saw ((lines.any fun x => x.val.isPoison && !x.addressError) || scales.any (·.poison))
      ((lines.any (·.addressError)) || scales.any (·.addrErr))
    Bx.mapProg fun p =>
      let old := p.vec e vd
      let data := (lines.map fun x => x.val.bytes).flatten
      let used := data ++ List.replicate (vecBytes b.fmt - n) 0
      let fresh : List Byte := scales.map fun x => x.bytes.headD 0
      (p.setVec e vd { old with
        bytes := used ++ old.bytes.drop (vecBytes b.fmt)
        scales := if drawn then fresh ++ old.scales.drop fresh.length else old.scales
        fmt := b.fmt
        poison := (List.range (vecBytes b.fmt / 4)).filter badLane })
    Bx.mapCore fun c => { c with binds := Assoc.ins i { b with taken := b.taken + n } c.binds }

/-- VLD: successive registers of prefetcher func[2:0]'s stream to the named engines; a prefetcher whose stage was
discarded is started again from its saved position (R377). -/
def bxVld (w : Insn) : Bx BxEnd := do
  let r ← get
  let i := getBits w 2 0
  match r.p.core.binds.find? (fun x => decide (x.1 = i)), r.t.core with
  | some (_, b), some k => do
    if 64 * b.pattern.lines ≤ b.taken then Bx.trap trExhausted
    match r.s.prefetcher k i with
    | none => do
      modify fun q => { q with s := q.s.bindPrefetcher q.e k i b }
      pure (.jump r.p.core.pc)
    | some f => do
      Bx.eachEngine fun e => bxTake f i w.vd e
      let c ← Bx.core
      modify fun q =>
        match c.binds.find? (fun x => decide (x.1 = i)), q.s.prefetcher k i with
        | some (_, b1), some g =>
          let at_ := b1.taken / 64
          { q with s := q.s.setPrefetcher k i { g with
              used := at_
              next := max g.next at_
              staged := g.staged.filter fun l => decide (at_ ≤ l.idx)
              stopped := g.stopped && decide (at_ ≤ g.next) } }
        | _, _ => q
      pure .next
  | _, _ => Bx.trap trExhausted

/-! ## Accumulators (R371, R372) -/

/-- The accumulator that the vd field names. -/
def Insn.ak (w : Insn) : Nat := w.vd % 4

/-- An accumulator of each named engine changed. -/
def Bx.mapAcc (k : Nat) (f : Prog → Nat → Acc → Acc) : Bx Unit :=
  Bx.eachEngine fun e => Bx.mapProg fun p => p.setAcc e k (f p e (p.acc e k))

/-- The products that an ADOT adds on one engine. -/
def adotCount (na nb off : Nat) : Nat :=
  let n := min na nb
  min n (if na ≤ nb then nb - off else na - off)

/-- ADOT. -/
def bxAdot (w : Insn) : Bx BxEnd := do
  Bx.eachEngine fun e => modify fun r =>
    let na := vecCount (r.p.vec e w.va).fmt
    let nb := vecCount (r.p.vec e w.vb).fmt
    { r with s := r.s.event 2 0 (r.e.attr (r.s.ringPtn r.e.ring)) (adotCount na nb (getBits w 2 0 * min na nb)) }
  Bx.mapAcc w.ak fun p e c =>
    let a := p.vec e w.va
    let b := p.vec e w.vb
    let na := vecCount a.fmt
    let nb := vecCount b.fmt
    let n := min na nb
    let off := getBits w 2 0 * n
    (List.range n).foldl (fun c i =>
      if na ≤ nb then (if off + i < nb then c.addProd (a.elem i) (b.elem (off + i)) else c)
      else if off + i < na then c.addProd (a.elem (off + i)) (b.elem i) else c) c
  pure .next

/-- AADD. -/
def bxAadd (w : Insn) : Bx BxEnd := do
  Bx.mapAcc w.ak fun p e c =>
    let a := p.vec e w.va
    (List.range (vecCount a.fmt)).foldl (fun c i => c.addVal (a.elem i)) c
  pure .next

/-- The window offset of images in register s, 32-byte aligned. -/
def bxImageAt (w : Insn) : Bx Nat := do
  let off ← Bx.ctl w.s
  if off % 32 ≠ 0 then Bx.trap trMisaligned off
  pure off

/-- The image of an accumulator at a window offset; one in a poisoned line is poison. -/
def bxImage (off : Nat) : Bx Acc := do
  let (b, bad) ← Bx.winRead off 96
  let poison := (List.range 96).any bad
  Bx.saw poison false
  let c := Acc.ofImage b
  pure (if poison then { c with poison := true } else c)

/-- AOP CLEAR. -/
def bxClear (w : Insn) : Bx BxEnd := do
  Bx.mapAcc w.ak fun _ _ _ => {}
  pure .next

/-- AOP MERGE. -/
def bxMerge (w : Insn) : Bx BxEnd := do
  let off ← bxImageAt w
  let x ← bxImage off
  Bx.mapAcc w.ak fun _ _ c => c.merge x
  pure .next

/-- AOP SAVE. -/
def bxSave (w : Insn) : Bx BxEnd := do
  let off ← bxImageAt w
  Bx.eachEngine fun e => do
    let p ← Bx.prog
    Bx.winWrite off (p.acc e w.ak).image fun _ => false
  pure .next

/-- AOP LOAD. -/
def bxLoad (w : Insn) : Bx BxEnd := do
  let off ← bxImageAt w
  let x ← bxImage off
  Bx.mapAcc w.ak fun _ _ _ => x
  pure .next

/-- The one engine that ESEL names; several trap with ESEL_MULTI (R369). -/
def bxOneEngine : Bx Nat := do
  let c ← Bx.core
  match c.engines with
  | [e] => pure e
  | _ => Bx.trap trEselMulti

/-- A rounded value to scalar s, zero-extended; a poison result sets its poison bit. -/
def bxResult (w : Insn) (v : OutVal) : Bx BxEnd := do
  let c ← Bx.core
  match v.round w.fmt c.round c.sat with
  | some x => Bx.setReg w.s x false
  | none => Bx.poisonReg w.s
  pure .next

/-- AOP ROUND. -/
def bxRound (w : Insn) : Bx BxEnd := do
  let e ← bxOneEngine
  let p ← Bx.prog
  bxResult w (p.acc e w.ak).out

/-- AOP DIV. -/
def bxDiv (w : Insn) : Bx BxEnd := do
  let e ← bxOneEngine
  let p ← Bx.prog
  bxResult w ((p.acc e w.ak).div (p.acc e (w.vb % 4)))

/-- AOP ADDS. -/
def bxAdds (w : Insn) : Bx BxEnd := do
  let (x, bad) ← Bx.reg w.s
  Bx.mapAcc w.ak fun _ _ c => c.addVal (if bad then .poison else num32 (x % 2 ^ 32))
  pure .next

/-- ARNDMX: the 32 images at window offset s into block va of vd. -/
def bxArndmx (w : Insn) : Bx BxEnd := do
  let off ← bxImageAt w
  if vecBlocks w.fmt ≤ w.va then Bx.trap trWindow
  let accs ← (List.range 32).mapM fun i => bxImage (off + 96 * i)
  let c ← Bx.core
  Bx.eachEngine fun e => Bx.mapProg fun p =>
    p.setVec e w.vd ({ p.vec e w.vd with fmt := w.fmt }.putElems w.fmt c.round c.sat (32 * w.va) (accs.map Acc.out))
  pure .next

/-! ## The instructions of Table 12-8 -/

/-- PFSET (R368). -/
def insnPfset : BxInsn := { is := isOp 0x1E, act := bxPfset }

/-- VLD (R368). -/
def insnVld : BxInsn := { is := isOp 0x20, act := bxVld }

/-- VLDS (R365). -/
def insnVlds : BxInsn := { is := isFn 0x21 0, act := bxVlds }

/-- VSTS (R365). -/
def insnVsts : BxInsn := { is := isFn 0x21 1, act := bxVsts }

/-- VST func 0 (R365). -/
def insnVstElements : BxInsn := { is := isFn 0x22 0, act := bxVstElems }

/-- VST func 1 (R365). -/
def insnVstScales : BxInsn := { is := isFn 0x22 1, act := bxVstScales }

/-- VADDF (R370). -/
def insnVaddf : BxInsn := valu 0x00 add32

/-- VSUBF (R370). -/
def insnVsubf : BxInsn := valu 0x01 sub32

/-- VMULF (R370). -/
def insnVmulf : BxInsn := valu 0x02 mul32

/-- A lane chosen by an order: a NaN's payload does not propagate (R295, R370). -/
def noPayload (b : Nat) : Nat := if num32 b = .nan then nan32 else b

/-- VMAXF in the order of R305 (R370). -/
def insnVmaxf : BxInsn := valu 0x03 fun a b => noPayload (if (num32 a).below (num32 b) then b else a)

/-- VMINF in the order of R305 (R370). -/
def insnVminf : BxInsn := valu 0x04 fun a b => noPayload (if (num32 b).below (num32 a) then b else a)

/-- VADDI (R370). -/
def insnVaddi : BxInsn := valu 0x05 fun a b => a + b

/-- VSUBI (R370). -/
def insnVsubi : BxInsn := valu 0x06 fun a b => a + 2 ^ 32 - b

/-- VAND (R370). -/
def insnVand : BxInsn := valu 0x07 fun a b => a &&& b

/-- VOR (R370). -/
def insnVor : BxInsn := valu 0x08 fun a b => a ||| b

/-- VXOR (R370). -/
def insnVxor : BxInsn := valu 0x09 fun a b => a ^^^ b

/-- VSHL (R370). -/
def insnVshl : BxInsn := vshift 0x0A fun a n => a * 2 ^ n

/-- VSHR (R370). -/
def insnVshr : BxInsn := vshift 0x0B fun a n => a / 2 ^ n

/-- VFUN EXP2 (R307, R370). -/
def insnVfunExp2 : BxInsn := vfun 0 exp2Of

/-- VFUN LOG2 (R307, R370). -/
def insnVfunLog2 : BxInsn := vfun 1 log2Of

/-- VFUN RCP (R307, R370). -/
def insnVfunRcp : BxInsn := vfun 2 rcpOf

/-- VFUN RSQRT (R307, R370). -/
def insnVfunRsqrt : BxInsn := vfun 3 rsqrtOf

/-- VFUN TANH (R307, R370). -/
def insnVfunTanh : BxInsn := vfun 4 tanhOf

/-- SPLAT (R365). -/
def insnSplat : BxInsn := { is := isOp 0x25, act := bxSplat }

/-- VCVT (R370). -/
def insnVcvt : BxInsn := { is := isOp 0x26, act := bxVcvt }

/-- ADOT (R371). -/
def insnAdot : BxInsn := { is := isOp 0x27, act := bxAdot }

/-- AADD (R371). -/
def insnAadd : BxInsn := { is := isOp 0x28, act := bxAadd }

/-- AOP CLEAR (R372). -/
def insnAopClear : BxInsn := { is := isFn 0x29 0, act := bxClear }

/-- AOP MERGE (R372). -/
def insnAopMerge : BxInsn := { is := isFn 0x29 1, act := bxMerge }

/-- AOP SAVE (R372). -/
def insnAopSave : BxInsn := { is := isFn 0x29 2, act := bxSave }

/-- AOP LOAD (R372). -/
def insnAopLoad : BxInsn := { is := isFn 0x29 3, act := bxLoad }

/-- AOP ROUND (R372). -/
def insnAopRound : BxInsn := { is := isFn 0x29 4, act := bxRound }

/-- AOP DIV (R308, R372). -/
def insnAopDiv : BxInsn := { is := isFn 0x29 5, act := bxDiv }

/-- AOP ADDS (R372). -/
def insnAopAdds : BxInsn := { is := isFn 0x29 6, act := bxAdds }

/-- ARNDMX (R372). -/
def insnArndmx : BxInsn := { is := isOp 0x2A, act := bxArndmx }

/-! ## The commands -/

/-- PFSET (R368): a task executes it. -/
def execPfset (ring : Fin 4096) (seq : BitVec 64) (idx : BitVec 16) (s : State) : Out :=
  s.act fun s => (s.bexa ring seq idx insnPfset)

/-- VLD (R368): a task executes it. -/
def execVld (ring : Fin 4096) (seq : BitVec 64) (idx : BitVec 16) (s : State) : Out :=
  s.act fun s => (s.bexa ring seq idx insnVld)

/-- VLDS (R365): a task executes it. -/
def execVlds (ring : Fin 4096) (seq : BitVec 64) (idx : BitVec 16) (s : State) : Out :=
  s.act fun s => (s.bexa ring seq idx insnVlds)

/-- VSTS (R365): a task executes it. -/
def execVsts (ring : Fin 4096) (seq : BitVec 64) (idx : BitVec 16) (s : State) : Out :=
  s.act fun s => (s.bexa ring seq idx insnVsts)

/-- VST func 0 (R365): a task executes it. -/
def execVstElements (ring : Fin 4096) (seq : BitVec 64) (idx : BitVec 16) (s : State) : Out :=
  s.act fun s => (s.bexa ring seq idx insnVstElements)

/-- VST func 1 (R365): a task executes it. -/
def execVstScales (ring : Fin 4096) (seq : BitVec 64) (idx : BitVec 16) (s : State) : Out :=
  s.act fun s => (s.bexa ring seq idx insnVstScales)

/-- VADDF (R370): a task executes it. -/
def execVaddf (ring : Fin 4096) (seq : BitVec 64) (idx : BitVec 16) (s : State) : Out :=
  s.act fun s => (s.bexa ring seq idx insnVaddf)

/-- VSUBF (R370): a task executes it. -/
def execVsubf (ring : Fin 4096) (seq : BitVec 64) (idx : BitVec 16) (s : State) : Out :=
  s.act fun s => (s.bexa ring seq idx insnVsubf)

/-- VMULF (R370): a task executes it. -/
def execVmulf (ring : Fin 4096) (seq : BitVec 64) (idx : BitVec 16) (s : State) : Out :=
  s.act fun s => (s.bexa ring seq idx insnVmulf)

/-- VMAXF in the order of R305 (R370): a task executes it. -/
def execVmaxf (ring : Fin 4096) (seq : BitVec 64) (idx : BitVec 16) (s : State) : Out :=
  s.act fun s => (s.bexa ring seq idx insnVmaxf)

/-- VMINF in the order of R305 (R370): a task executes it. -/
def execVminf (ring : Fin 4096) (seq : BitVec 64) (idx : BitVec 16) (s : State) : Out :=
  s.act fun s => (s.bexa ring seq idx insnVminf)

/-- VADDI (R370): a task executes it. -/
def execVaddi (ring : Fin 4096) (seq : BitVec 64) (idx : BitVec 16) (s : State) : Out :=
  s.act fun s => (s.bexa ring seq idx insnVaddi)

/-- VSUBI (R370): a task executes it. -/
def execVsubi (ring : Fin 4096) (seq : BitVec 64) (idx : BitVec 16) (s : State) : Out :=
  s.act fun s => (s.bexa ring seq idx insnVsubi)

/-- VAND (R370): a task executes it. -/
def execVand (ring : Fin 4096) (seq : BitVec 64) (idx : BitVec 16) (s : State) : Out :=
  s.act fun s => (s.bexa ring seq idx insnVand)

/-- VOR (R370): a task executes it. -/
def execVor (ring : Fin 4096) (seq : BitVec 64) (idx : BitVec 16) (s : State) : Out :=
  s.act fun s => (s.bexa ring seq idx insnVor)

/-- VXOR (R370): a task executes it. -/
def execVxor (ring : Fin 4096) (seq : BitVec 64) (idx : BitVec 16) (s : State) : Out :=
  s.act fun s => (s.bexa ring seq idx insnVxor)

/-- VSHL (R370): a task executes it. -/
def execVshl (ring : Fin 4096) (seq : BitVec 64) (idx : BitVec 16) (s : State) : Out :=
  s.act fun s => (s.bexa ring seq idx insnVshl)

/-- VSHR (R370): a task executes it. -/
def execVshr (ring : Fin 4096) (seq : BitVec 64) (idx : BitVec 16) (s : State) : Out :=
  s.act fun s => (s.bexa ring seq idx insnVshr)

/-- VFUN EXP2 (R307, R370): a task executes it. -/
def execVfunExp2 (ring : Fin 4096) (seq : BitVec 64) (idx : BitVec 16) (s : State) : Out :=
  s.act fun s => (s.bexa ring seq idx insnVfunExp2)

/-- VFUN LOG2 (R307, R370): a task executes it. -/
def execVfunLog2 (ring : Fin 4096) (seq : BitVec 64) (idx : BitVec 16) (s : State) : Out :=
  s.act fun s => (s.bexa ring seq idx insnVfunLog2)

/-- VFUN RCP (R307, R370): a task executes it. -/
def execVfunRcp (ring : Fin 4096) (seq : BitVec 64) (idx : BitVec 16) (s : State) : Out :=
  s.act fun s => (s.bexa ring seq idx insnVfunRcp)

/-- VFUN RSQRT (R307, R370): a task executes it. -/
def execVfunRsqrt (ring : Fin 4096) (seq : BitVec 64) (idx : BitVec 16) (s : State) : Out :=
  s.act fun s => (s.bexa ring seq idx insnVfunRsqrt)

/-- VFUN TANH (R307, R370): a task executes it. -/
def execVfunTanh (ring : Fin 4096) (seq : BitVec 64) (idx : BitVec 16) (s : State) : Out :=
  s.act fun s => (s.bexa ring seq idx insnVfunTanh)

/-- SPLAT (R365): a task executes it. -/
def execSplat (ring : Fin 4096) (seq : BitVec 64) (idx : BitVec 16) (s : State) : Out :=
  s.act fun s => (s.bexa ring seq idx insnSplat)

/-- VCVT (R370): a task executes it. -/
def execVcvt (ring : Fin 4096) (seq : BitVec 64) (idx : BitVec 16) (s : State) : Out :=
  s.act fun s => (s.bexa ring seq idx insnVcvt)

/-- ADOT (R371): a task executes it. -/
def execAdot (ring : Fin 4096) (seq : BitVec 64) (idx : BitVec 16) (s : State) : Out :=
  s.act fun s => (s.bexa ring seq idx insnAdot)

/-- AADD (R371): a task executes it. -/
def execAadd (ring : Fin 4096) (seq : BitVec 64) (idx : BitVec 16) (s : State) : Out :=
  s.act fun s => (s.bexa ring seq idx insnAadd)

/-- AOP CLEAR (R372): a task executes it. -/
def execAopClear (ring : Fin 4096) (seq : BitVec 64) (idx : BitVec 16) (s : State) : Out :=
  s.act fun s => (s.bexa ring seq idx insnAopClear)

/-- AOP MERGE (R372): a task executes it. -/
def execAopMerge (ring : Fin 4096) (seq : BitVec 64) (idx : BitVec 16) (s : State) : Out :=
  s.act fun s => (s.bexa ring seq idx insnAopMerge)

/-- AOP SAVE (R372): a task executes it. -/
def execAopSave (ring : Fin 4096) (seq : BitVec 64) (idx : BitVec 16) (s : State) : Out :=
  s.act fun s => (s.bexa ring seq idx insnAopSave)

/-- AOP LOAD (R372): a task executes it. -/
def execAopLoad (ring : Fin 4096) (seq : BitVec 64) (idx : BitVec 16) (s : State) : Out :=
  s.act fun s => (s.bexa ring seq idx insnAopLoad)

/-- AOP ROUND (R372): a task executes it. -/
def execAopRound (ring : Fin 4096) (seq : BitVec 64) (idx : BitVec 16) (s : State) : Out :=
  s.act fun s => (s.bexa ring seq idx insnAopRound)

/-- AOP DIV (R308, R372): a task executes it. -/
def execAopDiv (ring : Fin 4096) (seq : BitVec 64) (idx : BitVec 16) (s : State) : Out :=
  s.act fun s => (s.bexa ring seq idx insnAopDiv)

/-- AOP ADDS (R372): a task executes it. -/
def execAopAdds (ring : Fin 4096) (seq : BitVec 64) (idx : BitVec 16) (s : State) : Out :=
  s.act fun s => (s.bexa ring seq idx insnAopAdds)

/-- ARNDMX (R372): a task executes it. -/
def execArndmx (ring : Fin 4096) (seq : BitVec 64) (idx : BitVec 16) (s : State) : Out :=
  s.act fun s => (s.bexa ring seq idx insnArndmx)

/-- The instructions of Table 12-8. -/
def bexaTable : List BxInsn :=
  [insnAluAdd, insnAluSub, insnAluAnd, insnAluOr, insnAluXor, insnAluSll, insnAluSrl, insnAluSra, insnAluSlt,
      insnAluSltu, insnAluMul, insnAluMulhu, insnAluDivu, insnAluRemu, insnAluMin]
    ++ [insnAluMax, insnAddi, insnAndi, insnOri, insnXori, insnShiSll, insnShiSrl, insnShiSra, insnLui,
      insnLdb, insnLdh, insnLdw, insnLdd, insnStb, insnSth]
    ++ [insnStw, insnStd, insnLds, insnSts, insnBeq, insnBne, insnBlt, insnBge, insnBltu, insnBgeu, insnJal,
      insnJr, insnCsrRead, insnCsrWrite, insnTile]
    ++ [insnExit, insnAbort, insnUnit, insnCmt, insnSysFence, insnSyncRead, insnSyncAdd, insnSyncSwap,
      insnSyncCas, insnSyncSignal, insnSwait, insnPfset, insnVld, insnVlds, insnVsts]
    ++ [insnVstElements, insnVstScales, insnVaddf, insnVsubf, insnVmulf, insnVmaxf, insnVminf, insnVaddi,
      insnVsubi, insnVand, insnVor, insnVxor, insnVshl, insnVshr, insnVfunExp2]
    ++ [insnVfunLog2, insnVfunRcp, insnVfunRsqrt, insnVfunTanh, insnSplat, insnVcvt, insnAdot, insnAadd,
      insnAopClear, insnAopMerge, insnAopSave, insnAopLoad, insnAopRound, insnAopDiv, insnAopAdds]
    ++ [insnArndmx]

/-- The instruction at a task's program counter traps (R378): it ends its task, and the other tasks of the descriptor stop
at their next TILE or EXIT (R379).  An instruction that does not trap is left to its own command. -/
def execProgramTrap (ring : Fin 4096) (seq : BitVec 64) (idx : BitVec 16) (s : State) : Out :=
  s.act fun s => (
    match s.bexaAt ring.val seq.toNat idx.toNat with
    | none => s
    | some (e, t, p, w) =>
      match bexaTable.find? fun i => i.is w with
      | none => s
      | some i =>
        match i.act w { s := s, e := e, t := t, p := p } with
        | .error (.trap code ca, s1) => s.bexaStop e t p (.trap code ca) s1
        | .error (.refused detail, s1) => s.bexaStop e t p (.refused detail) s1
        | .error (.deny code ca, s1) => s.bexaStop e t p (.deny code ca) s1
        | _ => s)

end Sys2Proof.Machine
end

