-- ==== Sys2Proof/Machine/Dispatch.lean ====
section
/-! DEFINITION.  Which meaning each command has: one direct call per constructor. -/

namespace Sys2Proof.Machine

/-- The effect of a command on everything but the queue. -/
def exec (i : Instr) (s : State) : Host.Outcome State Fault Refusal :=
  match i with
  | .registerWrite f addr value => Sys2Proof.Machine.execRegisterWrite f addr value s
  | .loHalfRead f addr => Sys2Proof.Machine.execLoHalfRead f addr s
  | .badRegisterAccess f off width => Sys2Proof.Machine.execBadRegisterAccess f off width s
  | .setupLockSet by_ => Sys2Proof.Machine.execSetupLockSet by_ s
  | .powerOn => Sys2Proof.Machine.execPowerOn s
  | .mainStagesStart => Sys2Proof.Machine.execMainStagesStart s
  | .undervoltageShutdown => Sys2Proof.Machine.execUndervoltageShutdown s
  | .overvoltageShutdown => Sys2Proof.Machine.execOvervoltageShutdown s
  | .inputLow on => Sys2Proof.Machine.execInputLow on s
  | .inputHigh on => Sys2Proof.Machine.execInputHigh on s
  | .peakPowerLimit => Sys2Proof.Machine.execPeakPowerLimit s
  | .powerExcursionTimeout unmet => Sys2Proof.Machine.execPowerExcursionTimeout unmet s
  | .setPowerLimit watts => Sys2Proof.Machine.execSetPowerLimit watts s
  | .powerStageFail die stage => Sys2Proof.Machine.execPowerStageFail die stage s
  | .pwrFailAssert => Sys2Proof.Machine.execPwrFailAssert s
  | .flushComplete => Sys2Proof.Machine.execFlushComplete s
  | .pwrFailRelease => Sys2Proof.Machine.execPwrFailRelease s
  | .pwrFailResume => Sys2Proof.Machine.execPwrFailResume s
  | .pwrFailStuck => Sys2Proof.Machine.execPwrFailStuck s
  | .vcoreDroop die => Sys2Proof.Machine.execVcoreDroop die s
  | .thermalSample tj tcase => Sys2Proof.Machine.execThermalSample tj tcase s
  | .throttleStep die => Sys2Proof.Machine.execThrottleStep die s
  | .vcoreRaiseStep die setPoint within => Sys2Proof.Machine.execVcoreRaiseStep die s setPoint within
  | .bnXinLoss => Sys2Proof.Machine.execBnXinLoss s
  | .crossingInbound unit cross => Sys2Proof.Machine.execCrossingInbound unit cross s
  | .crossingOutbound unit cross => Sys2Proof.Machine.execCrossingOutbound unit cross s
  | .beatRateUpdate rates => Sys2Proof.Machine.execBeatRateUpdate rates s
  | .pldmSensorRead => Sys2Proof.Machine.execPldmSensorRead s
  | .rstNAssert => Sys2Proof.Machine.execRstNAssert s
  | .resetCmdCold by_ target => Sys2Proof.Machine.execResetCmdCold by_ target s
  | .coldArmExpiry => Sys2Proof.Machine.execColdArmExpiry s
  | .resetCmdWarm by_ target => Sys2Proof.Machine.execResetCmdWarm by_ target s
  | .resetCmdDie by_ target => Sys2Proof.Machine.execResetCmdDie by_ target s
  | .resetCmdCluster by_ target forced => Sys2Proof.Machine.execResetCmdCluster by_ target s forced
  | .resetCmdPort by_ target => Sys2Proof.Machine.execResetCmdPort by_ target s
  | .resetCmdLink by_ target => Sys2Proof.Machine.execResetCmdLink by_ target s
  | .binnacleWatchdog => Sys2Proof.Machine.execBinnacleWatchdog s
  | .helmWatchdog die => Sys2Proof.Machine.execHelmWatchdog die s
  | .trialBootExpiry => Sys2Proof.Machine.execTrialBootExpiry s
  | .hpPerstAssert port => Sys2Proof.Machine.execHpPerstAssert port s
  | .cxlHotReset port => Sys2Proof.Machine.execCxlHotReset port s
  | .resetEntryDone forced => Sys2Proof.Machine.execResetEntryDone s forced
  | .railOffEnd => Sys2Proof.Machine.execRailOffEnd s
  | .binnacleRelease => Sys2Proof.Machine.execBinnacleRelease s
  | .backupDomainCheck samples => Sys2Proof.Machine.execBackupDomainCheck samples s
  | .configSelect bchA bchB aOk bOk => Sys2Proof.Machine.execConfigSelect bchA bchB aOk bOk s
  | .firmwareVerify => Sys2Proof.Machine.execFirmwareVerify s
  | .helmRelease failed claims => Sys2Proof.Machine.execHelmRelease failed s claims
  | .dramTrain lanes banks whole repairs => Sys2Proof.Machine.execDramTrain lanes banks whole repairs s
  | .dramRetrain failed repairs => Sys2Proof.Machine.execDramRetrain failed repairs s
  | .poolDieRelease dies found clusters cores ways channels rawGib => Sys2Proof.Machine.execPoolDieRelease dies found clusters cores ways channels rawGib s
  | .logbookReplay silent pieces headers => Sys2Proof.Machine.execLogbookReplay silent pieces s headers
  | .portsRelease => Sys2Proof.Machine.execPortsRelease s
  | .thermalHoldClear => Sys2Proof.Machine.execThermalHoldClear s
  | .firmwareUpdateHeld slot image => Sys2Proof.Machine.execFirmwareUpdateHeld slot image s
  | .trialConfirm => Sys2Proof.Machine.execTrialConfirm s
  | .rwpWrite by_ slot => Sys2Proof.Machine.execRwpWrite by_ slot s
  | .rwpPersist => Sys2Proof.Machine.execRwpPersist s
  | .almCommitGo by_ => Sys2Proof.Machine.execAlmCommitGo by_ s
  | .almCommitDone ok => Sys2Proof.Machine.execAlmCommitDone ok s
  | .almRecheck aOk bOk => Sys2Proof.Machine.execAlmRecheck aOk bOk s
  | .almScrub region lost => Sys2Proof.Machine.execAlmScrub region lost s
  | .watchHit dpa => Sys2Proof.Machine.execWatchHit dpa s
  | .ringService ring => Sys2Proof.Machine.execRingService ring s
  | .descriptorReread ring => Sys2Proof.Machine.execDescriptorReread ring s
  | .seqStuckTimeout ring => Sys2Proof.Machine.execSeqStuckTimeout ring s
  | .checkRetryTimeout ring => Sys2Proof.Machine.execCheckRetryTimeout ring s
  | .logbookWaitResume => Sys2Proof.Machine.execLogbookWaitResume s
  | .acceptDescriptor ring => Sys2Proof.Machine.execAcceptDescriptor ring s
  | .descriptorDone ring seq => Sys2Proof.Machine.execDescriptorDone ring seq s
  | .completionWrite ring => Sys2Proof.Machine.execCompletionWrite ring s
  | .runLimitExpiry ring seq => Sys2Proof.Machine.execRunLimitExpiry ring seq s
  | .commitUnitBegin ring seq => Sys2Proof.Machine.execCommitUnitBegin ring seq s
  | .commitUnitEnd ring seq => Sys2Proof.Machine.execCommitUnitEnd ring seq s
  | .resumeRing by_ ring => Sys2Proof.Machine.execResumeRing by_ ring s
  | .restartRing by_ ring => Sys2Proof.Machine.execRestartRing by_ ring s
  | .disableFn by_ fn => Sys2Proof.Machine.execDisableFn by_ fn s
  | .enableFn by_ fn => Sys2Proof.Machine.execEnableFn by_ fn s
  | .fnDisableDone fn => Sys2Proof.Machine.execFnDisableDone fn s
  | .cxlFlr fn => Sys2Proof.Machine.execCxlFlr fn s
  | .ringEnable by_ ring => Sys2Proof.Machine.execRingEnable by_ ring s
  | .ringDisable by_ ring => Sys2Proof.Machine.execRingDisable by_ ring s
  | .logbookLimitUpdate => Sys2Proof.Machine.execLogbookLimitUpdate s
  | .mbxAllocRead who => Sys2Proof.Machine.execMbxAllocRead who s
  | .mbxOpen who ch => Sys2Proof.Machine.execMbxOpen who ch s
  | .mbxClose who ch => Sys2Proof.Machine.execMbxClose who ch s
  | .mbxForceClose by_ ch => Sys2Proof.Machine.execMbxForceClose by_ ch s
  | .mbxSend who ch => Sys2Proof.Machine.execMbxSend who ch s
  | .mbxTake ch => Sys2Proof.Machine.execMbxTake ch s
  | .mbxCancel who ch => Sys2Proof.Machine.execMbxCancel who ch s
  | .mbxReply ch status payload => Sys2Proof.Machine.execMbxReply ch status payload s
  | .mbxReplyClear who ch => Sys2Proof.Machine.execMbxReplyClear who ch s
  | .mbxEvent ch tag payload => Sys2Proof.Machine.execMbxEvent ch tag payload s
  | .echo ch => Sys2Proof.Machine.execEcho ch s
  | .ringQuery ch => Sys2Proof.Machine.execRingQuery ch s
  | .fnDisable ch => Sys2Proof.Machine.execFnDisable ch s
  | .fnEnable ch => Sys2Proof.Machine.execFnEnable ch s
  | .dramRequestEnqueue id q dpa write stream mask bytes poison => Sys2Proof.Machine.execDramRequestEnqueue id q dpa write stream mask bytes poison s
  | .schedSlot stack pc t => Sys2Proof.Machine.execSchedSlot stack pc t s
  | .errorRecordWindowClose key recipient => Sys2Proof.Machine.execErrorRecordWindowClose key recipient s
  | .refreshTick stack pc => Sys2Proof.Machine.execRefreshTick stack pc s
  | .selfRefreshEnter stack => Sys2Proof.Machine.execSelfRefreshEnter stack s
  | .selfRefreshExit stack bank => Sys2Proof.Machine.execSelfRefreshExit stack bank s
  | .panicRaise stream => Sys2Proof.Machine.execPanicRaise stream s
  | .panicClear stream => Sys2Proof.Machine.execPanicClear stream s
  | .panicWindowRoll stack pc => Sys2Proof.Machine.execPanicWindowRoll stack pc s
  | .recalTrigger stack pc period => Sys2Proof.Machine.execRecalTrigger stack pc period s
  | .recalSliceStart stack pc deferred afterRefresh => Sys2Proof.Machine.execRecalSliceStart stack pc deferred afterRefresh s
  | .recalSliceEnd stack pc badLanes => Sys2Proof.Machine.execRecalSliceEnd stack pc badLanes s
  | .interfaceParityError stack second => Sys2Proof.Machine.execInterfaceParityError stack second s
  | .pprSoft by_ stack pc bank row => Sys2Proof.Machine.execPprSoft by_ stack pc bank row s
  | .pprDone stack => Sys2Proof.Machine.execPprDone stack s
  | .hardenAll by_ stack => Sys2Proof.Machine.execHardenAll by_ stack s
  | .moveToAlt by_ stack => Sys2Proof.Machine.execMoveToAlt by_ stack s
  | .moveToPri by_ stack => Sys2Proof.Machine.execMoveToPri by_ stack s
  | .homeMoveComplete stack ok => Sys2Proof.Machine.execHomeMoveComplete stack ok s
  | .baseDieSelfRefresh stack => Sys2Proof.Machine.execBaseDieSelfRefresh stack s
  | .spareFillDone spare => Sys2Proof.Machine.execSpareFillDone spare s
  | .replace by_ stack => Sys2Proof.Machine.execReplace by_ stack s
  | .spareSwitchDone spare ok => Sys2Proof.Machine.execSpareSwitchDone spare ok s
  | .copyInStep spare t => Sys2Proof.Machine.execCopyInStep spare s t
  | .demandFill q dpa => Sys2Proof.Machine.execDemandFill q dpa s
  | .copyInDone spare => Sys2Proof.Machine.execCopyInDone spare s
  | .sramSingleError place => Sys2Proof.Machine.execSramSingleError s place
  | .sramDoubleError array => Sys2Proof.Machine.execSramDoubleError array s
  | .wayRetire slice group way => Sys2Proof.Machine.execWayRetire slice group way s
  | .turnerRowRead stack pc early => Sys2Proof.Machine.execTurnerRowRead stack pc s early
  | .turnerLag stack pc => Sys2Proof.Machine.execTurnerLag stack pc s
  | .ceLogClear by_ stack => Sys2Proof.Machine.execCeLogClear by_ stack s
  | .injectArm by_ mode pos count value => Sys2Proof.Machine.execInjectArm by_ mode pos count value s
  | .twinWrite q dpa bytes poison => Sys2Proof.Machine.execTwinWrite q dpa bytes poison s
  | .twinEnable by_ t => Sys2Proof.Machine.execTwinEnable by_ t s
  | .twinDisable by_ t => Sys2Proof.Machine.execTwinDisable by_ t s
  | .twinWalkStep t => Sys2Proof.Machine.execTwinWalkStep t s
  | .twinWalkDone t => Sys2Proof.Machine.execTwinWalkDone t s
  | .twinCopyUnreadable t copyB => Sys2Proof.Machine.execTwinCopyUnreadable t copyB s
  | .twinStackReturn t copyB => Sys2Proof.Machine.execTwinStackReturn t copyB s
  | .twinPatrolRead t => Sys2Proof.Machine.execTwinPatrolRead t s
  | .twinPatrolPassEnd t => Sys2Proof.Machine.execTwinPatrolPassEnd t s
  | .cacheLookup q dpa write mask bytes poison => Sys2Proof.Machine.execCacheLookup q dpa write mask bytes poison s
  | .flushPtn by_ ptn => Sys2Proof.Machine.execFlushPtn by_ ptn s
  | .flushAll by_ => Sys2Proof.Machine.execFlushAll by_ s
  | .prefetchIssue core p => Sys2Proof.Machine.execPrefetchIssue core p s
  | .prefetchLineArrive core p => Sys2Proof.Machine.execPrefetchLineArrive core p s
  | .prefetchDepthDouble core p => Sys2Proof.Machine.execPrefetchDepthDouble core p s
  | .prefetchDepthHalve core p => Sys2Proof.Machine.execPrefetchDepthHalve core p s
  | .blockSet by_ cls mode => Sys2Proof.Machine.execBlockSet by_ cls mode s
  | .extentEnable by_ x => Sys2Proof.Machine.execExtentEnable by_ x s
  | .extentPinDone x => Sys2Proof.Machine.execExtentPinDone x s
  | .extentDisable by_ x => Sys2Proof.Machine.execExtentDisable by_ x s
  | .caveAccess q ptn dpa write mask bytes poison => Sys2Proof.Machine.execCaveAccess q ptn dpa write mask bytes poison s
  | .cavePageStaged page how => Sys2Proof.Machine.execCavePageStaged page s how
  | .frameWaitResume => Sys2Proof.Machine.execFrameWaitResume s
  | .caveClean frame page => Sys2Proof.Machine.execCaveClean frame page s
  | .syncPtn by_ ptn => Sys2Proof.Machine.execSyncPtn by_ ptn s
  | .frameEvict ptn => Sys2Proof.Machine.execFrameEvict ptn s
  | .caveWearLimit pct => Sys2Proof.Machine.execCaveWearLimit pct s
  | .flashTimeout ch target second => Sys2Proof.Machine.execFlashTimeout ch target second s
  | .flashReadUncorrectable page rebuilt => Sys2Proof.Machine.execFlashReadUncorrectable page rebuilt s
  | .flashProgramFail ch => Sys2Proof.Machine.execFlashProgramFail ch s
  | .flashEraseFail ch => Sys2Proof.Machine.execFlashEraseFail ch s
  | .channelFail ch => Sys2Proof.Machine.execChannelFail ch s
  | .channelRebuildDone ch => Sys2Proof.Machine.execChannelRebuildDone ch s
  | .flushRegionErase => Sys2Proof.Machine.execFlushRegionErase s
  | .translationWalk ctx ca acc priv => Sys2Proof.Machine.execTranslationWalk ctx ca acc priv s
  | .translationFault ring seq idx ca acc => Sys2Proof.Machine.execTranslationFault ring seq idx ca acc s
  | .faultRecordWaitResume => Sys2Proof.Machine.execFaultRecordWaitResume s
  | .faultQueueWrite ptn => Sys2Proof.Machine.execFaultQueueWrite ptn s
  | .faultQueueSpace ptn => Sys2Proof.Machine.execFaultQueueSpace ptn s
  | .faultLimitExpiry id => Sys2Proof.Machine.execFaultLimitExpiry id s
  | .xltCtxEnable by_ ctx => Sys2Proof.Machine.execXltCtxEnable by_ ctx s
  | .xltCtxDisable by_ ctx => Sys2Proof.Machine.execXltCtxDisable by_ ctx s
  | .xltFqEnable by_ ptn => Sys2Proof.Machine.execXltFqEnable by_ ptn s
  | .xltFqDisable by_ ptn => Sys2Proof.Machine.execXltFqDisable by_ ptn s
  | .xltInvalNone ring seq => Sys2Proof.Machine.execXltInvalNone ring seq s
  | .xltInvalPages ring seq => Sys2Proof.Machine.execXltInvalPages ring seq s
  | .xltInvalSegment ring seq => Sys2Proof.Machine.execXltInvalSegment ring seq s
  | .xltInvalContext ring seq => Sys2Proof.Machine.execXltInvalContext ring seq s
  | .xltInvalDrained ctx => Sys2Proof.Machine.execXltInvalDrained ctx s
  | .drainWarn ctx => Sys2Proof.Machine.execDrainWarn ctx s
  | .cxlMemRequest fn spid tag dpa op => Sys2Proof.Machine.execCxlMemRequest fn spid tag dpa op s
  | .cxlMemComplete fn tag => Sys2Proof.Machine.execCxlMemComplete fn tag s
  | .gateEnable by_ gate => Sys2Proof.Machine.execGateEnable by_ gate s
  | .gateDisable by_ gate => Sys2Proof.Machine.execGateDisable by_ gate s
  | .initiateDynamicCapacityAdd fn ptn base blocks tag read write coherent => Sys2Proof.Machine.execInitiateDynamicCapacityAdd fn ptn base blocks tag read write coherent s
  | .addDynamicCapacityResponse fn gate => Sys2Proof.Machine.execAddDynamicCapacityResponse fn gate s
  | .extentOfferExpiry gate => Sys2Proof.Machine.execExtentOfferExpiry gate s
  | .releaseDynamicCapacity fn gate => Sys2Proof.Machine.execReleaseDynamicCapacity fn gate s
  | .initiateDynamicCapacityRelease gate forced => Sys2Proof.Machine.execInitiateDynamicCapacityRelease gate forced s
  | .extentClosed gate => Sys2Proof.Machine.execExtentClosed gate s
  | .extentScrubDone gate => Sys2Proof.Machine.execExtentScrubDone gate s
  | .identifyMemoryDevice fn => Sys2Proof.Machine.execIdentifyMemoryDevice fn s
  | .getEventRecords fn => Sys2Proof.Machine.execGetEventRecords fn s
  | .clearEventRecords fn count => Sys2Proof.Machine.execClearEventRecords fn count s
  | .getDynamicCapacityConfiguration fn => Sys2Proof.Machine.execGetDynamicCapacityConfiguration fn s
  | .getDynamicCapacityExtentList fn => Sys2Proof.Machine.execGetDynamicCapacityExtentList fn s
  | .getLdInfo port => Sys2Proof.Machine.execGetLdInfo port s
  | .getLdAllocations port => Sys2Proof.Machine.execGetLdAllocations port s
  | .setLdAllocations port count => Sys2Proof.Machine.execSetLdAllocations port count s
  | .unsupportedCxlCommand fn => Sys2Proof.Machine.execUnsupportedCxlCommand fn s
  | .ideKmKeyProg port key skid => Sys2Proof.Machine.execIdeKmKeyProg port key skid s
  | .hostLinkTrain port speed width flit mem => Sys2Proof.Machine.execHostLinkTrain port speed width flit mem s
  | .bisnpSend dpa fn invalidate => Sys2Proof.Machine.execBisnpSend dpa fn invalidate s
  | .birsp dpa fn data keepShared => Sys2Proof.Machine.execBirsp dpa fn data keepShared s
  | .bisnpTimeout dpa fn => Sys2Proof.Machine.execBisnpTimeout dpa fn s
  | .hostLost port ld => Sys2Proof.Machine.execHostLost port ld s
  | .roseRequest dpa stop op beat => Sys2Proof.Machine.execRoseRequest dpa stop op s beat
  | .roseRetry dpa stop => Sys2Proof.Machine.execRoseRetry dpa stop s
  | .roseSnoop dpa stop => Sys2Proof.Machine.execRoseSnoop dpa stop s
  | .roseSnoopDone dpa => Sys2Proof.Machine.execRoseSnoopDone dpa s
  | .roseWriteback dpa stop at_ => Sys2Proof.Machine.execRoseWriteback dpa stop at_ s
  | .slotRehome die slot cluster => Sys2Proof.Machine.execSlotRehome die slot cluster s
  | .commonsEnable by_ region => Sys2Proof.Machine.execCommonsEnable by_ region s
  | .publish ring seq => Sys2Proof.Machine.execPublish ring seq s
  | .publishCopyDone region => Sys2Proof.Machine.execPublishCopyDone region s
  | .publishDrainDone region => Sys2Proof.Machine.execPublishDrainDone region s
  | .bar2Read fn obj half other => Sys2Proof.Machine.execBar2Read fn obj half s other
  | .bar2Write fn obj => Sys2Proof.Machine.execBar2Write fn obj s
  | .bar2Fetchadd fn obj wide operand other => Sys2Proof.Machine.execBar2Fetchadd fn obj wide operand s other
  | .bar2Swap fn obj wide operand other => Sys2Proof.Machine.execBar2Swap fn obj wide operand s other
  | .bar2Cas fn obj wide operand compare other => Sys2Proof.Machine.execBar2Cas fn obj wide operand compare s other
  | .taskDispatch ring seq idx cluster => Sys2Proof.Machine.execTaskDispatch ring seq idx cluster s
  | .arbGrant core => Sys2Proof.Machine.execArbGrant core s
  | .tileBoundary core => Sys2Proof.Machine.execTileBoundary core s
  | .backoffExpiry core slot => Sys2Proof.Machine.execBackoffExpiry core slot s
  | .quotaWindowRoll => Sys2Proof.Machine.execQuotaWindowRoll s
  | .holdMaxCutoff core => Sys2Proof.Machine.execHoldMaxCutoff core s
  | .coreFail core => Sys2Proof.Machine.execCoreFail core s
  | .streamEnable by_ stream => Sys2Proof.Machine.execStreamEnable by_ stream s
  | .streamDisable by_ stream => Sys2Proof.Machine.execStreamDisable by_ stream s
  | .nop ring seq => Sys2Proof.Machine.execNop ring seq s
  | .gatherReduce ring seq => Sys2Proof.Machine.execGatherReduce ring seq s
  | .attnDecode ring seq => Sys2Proof.Machine.execAttnDecode ring seq s
  | .attnMaxCombined ring seq head => Sys2Proof.Machine.execAttnMaxCombined ring seq head s
  | .logitSlotFree core slot => Sys2Proof.Machine.execLogitSlotFree core slot s
  | .kvAppend ring seq => Sys2Proof.Machine.execKvAppend ring seq s
  | .burstIdleTimeout source tag => Sys2Proof.Machine.execBurstIdleTimeout source tag s
  | .press ring seq => Sys2Proof.Machine.execPress ring seq s
  | .unpress ring seq => Sys2Proof.Machine.execUnpress ring seq s
  | .topk ring seq => Sys2Proof.Machine.execTopk ring seq s
  | .reduce ring seq => Sys2Proof.Machine.execReduce ring seq s
  | .broadcast ring seq => Sys2Proof.Machine.execBroadcast ring seq s
  | .copy ring seq => Sys2Proof.Machine.execCopy ring seq s
  | .fillPattern ring seq => Sys2Proof.Machine.execFillPattern ring seq s
  | .fillPoison ring seq => Sys2Proof.Machine.execFillPoison ring seq s
  | .bexaRun ring seq cluster => Sys2Proof.Machine.execBexaRun ring seq cluster s
  | .syncOpInit ring seq => Sys2Proof.Machine.execSyncOpInit ring seq s
  | .syncOpRead ring seq => Sys2Proof.Machine.execSyncOpRead ring seq s
  | .syncOpAdd ring seq => Sys2Proof.Machine.execSyncOpAdd ring seq s
  | .syncOpSwap ring seq => Sys2Proof.Machine.execSyncOpSwap ring seq s
  | .syncOpCas ring seq => Sys2Proof.Machine.execSyncOpCas ring seq s
  | .syncOpSignal ring seq => Sys2Proof.Machine.execSyncOpSignal ring seq s
  | .syncOpAcquire ring seq => Sys2Proof.Machine.execSyncOpAcquire ring seq s
  | .acquireWake ring seq => Sys2Proof.Machine.execAcquireWake ring seq s
  | .waitMet => Sys2Proof.Machine.execWaitMet s
  | .syncBlockDisable by_ block => Sys2Proof.Machine.execSyncBlockDisable by_ block s
  | .aluAdd ring seq idx => Sys2Proof.Machine.execAluAdd ring seq idx s
  | .aluSub ring seq idx => Sys2Proof.Machine.execAluSub ring seq idx s
  | .aluAnd ring seq idx => Sys2Proof.Machine.execAluAnd ring seq idx s
  | .aluOr ring seq idx => Sys2Proof.Machine.execAluOr ring seq idx s
  | .aluXor ring seq idx => Sys2Proof.Machine.execAluXor ring seq idx s
  | .aluSll ring seq idx => Sys2Proof.Machine.execAluSll ring seq idx s
  | .aluSrl ring seq idx => Sys2Proof.Machine.execAluSrl ring seq idx s
  | .aluSra ring seq idx => Sys2Proof.Machine.execAluSra ring seq idx s
  | .aluSlt ring seq idx => Sys2Proof.Machine.execAluSlt ring seq idx s
  | .aluSltu ring seq idx => Sys2Proof.Machine.execAluSltu ring seq idx s
  | .aluMul ring seq idx => Sys2Proof.Machine.execAluMul ring seq idx s
  | .aluMulhu ring seq idx => Sys2Proof.Machine.execAluMulhu ring seq idx s
  | .aluDivu ring seq idx => Sys2Proof.Machine.execAluDivu ring seq idx s
  | .aluRemu ring seq idx => Sys2Proof.Machine.execAluRemu ring seq idx s
  | .aluMin ring seq idx => Sys2Proof.Machine.execAluMin ring seq idx s
  | .aluMax ring seq idx => Sys2Proof.Machine.execAluMax ring seq idx s
  | .addi ring seq idx => Sys2Proof.Machine.execAddi ring seq idx s
  | .andi ring seq idx => Sys2Proof.Machine.execAndi ring seq idx s
  | .ori ring seq idx => Sys2Proof.Machine.execOri ring seq idx s
  | .xori ring seq idx => Sys2Proof.Machine.execXori ring seq idx s
  | .shiSll ring seq idx => Sys2Proof.Machine.execShiSll ring seq idx s
  | .shiSrl ring seq idx => Sys2Proof.Machine.execShiSrl ring seq idx s
  | .shiSra ring seq idx => Sys2Proof.Machine.execShiSra ring seq idx s
  | .lui ring seq idx => Sys2Proof.Machine.execLui ring seq idx s
  | .ldb ring seq idx => Sys2Proof.Machine.execLdb ring seq idx s
  | .ldh ring seq idx => Sys2Proof.Machine.execLdh ring seq idx s
  | .ldw ring seq idx => Sys2Proof.Machine.execLdw ring seq idx s
  | .ldd ring seq idx => Sys2Proof.Machine.execLdd ring seq idx s
  | .stb ring seq idx => Sys2Proof.Machine.execStb ring seq idx s
  | .sth ring seq idx => Sys2Proof.Machine.execSth ring seq idx s
  | .stw ring seq idx => Sys2Proof.Machine.execStw ring seq idx s
  | .std ring seq idx => Sys2Proof.Machine.execStd ring seq idx s
  | .lds ring seq idx => Sys2Proof.Machine.execLds ring seq idx s
  | .sts ring seq idx => Sys2Proof.Machine.execSts ring seq idx s
  | .beq ring seq idx => Sys2Proof.Machine.execBeq ring seq idx s
  | .bne ring seq idx => Sys2Proof.Machine.execBne ring seq idx s
  | .blt ring seq idx => Sys2Proof.Machine.execBlt ring seq idx s
  | .bge ring seq idx => Sys2Proof.Machine.execBge ring seq idx s
  | .bltu ring seq idx => Sys2Proof.Machine.execBltu ring seq idx s
  | .bgeu ring seq idx => Sys2Proof.Machine.execBgeu ring seq idx s
  | .jal ring seq idx => Sys2Proof.Machine.execJal ring seq idx s
  | .jr ring seq idx => Sys2Proof.Machine.execJr ring seq idx s
  | .csrRead ring seq idx => Sys2Proof.Machine.execCsrRead ring seq idx s
  | .csrWrite ring seq idx => Sys2Proof.Machine.execCsrWrite ring seq idx s
  | .tile ring seq idx => Sys2Proof.Machine.execTile ring seq idx s
  | .exit ring seq idx => Sys2Proof.Machine.execExit ring seq idx s
  | .abort ring seq idx => Sys2Proof.Machine.execAbort ring seq idx s
  | .unit ring seq idx => Sys2Proof.Machine.execUnit ring seq idx s
  | .cmt ring seq idx => Sys2Proof.Machine.execCmt ring seq idx s
  | .sysFence ring seq idx => Sys2Proof.Machine.execSysFence ring seq idx s
  | .syncRead ring seq idx => Sys2Proof.Machine.execSyncRead ring seq idx s
  | .syncAdd ring seq idx => Sys2Proof.Machine.execSyncAdd ring seq idx s
  | .syncSwap ring seq idx => Sys2Proof.Machine.execSyncSwap ring seq idx s
  | .syncCas ring seq idx => Sys2Proof.Machine.execSyncCas ring seq idx s
  | .syncSignal ring seq idx => Sys2Proof.Machine.execSyncSignal ring seq idx s
  | .swait ring seq idx => Sys2Proof.Machine.execSwait ring seq idx s
  | .pfset ring seq idx => Sys2Proof.Machine.execPfset ring seq idx s
  | .vld ring seq idx => Sys2Proof.Machine.execVld ring seq idx s
  | .vlds ring seq idx => Sys2Proof.Machine.execVlds ring seq idx s
  | .vsts ring seq idx => Sys2Proof.Machine.execVsts ring seq idx s
  | .vstElements ring seq idx => Sys2Proof.Machine.execVstElements ring seq idx s
  | .vstScales ring seq idx => Sys2Proof.Machine.execVstScales ring seq idx s
  | .vaddf ring seq idx => Sys2Proof.Machine.execVaddf ring seq idx s
  | .vsubf ring seq idx => Sys2Proof.Machine.execVsubf ring seq idx s
  | .vmulf ring seq idx => Sys2Proof.Machine.execVmulf ring seq idx s
  | .vmaxf ring seq idx => Sys2Proof.Machine.execVmaxf ring seq idx s
  | .vminf ring seq idx => Sys2Proof.Machine.execVminf ring seq idx s
  | .vaddi ring seq idx => Sys2Proof.Machine.execVaddi ring seq idx s
  | .vsubi ring seq idx => Sys2Proof.Machine.execVsubi ring seq idx s
  | .vand ring seq idx => Sys2Proof.Machine.execVand ring seq idx s
  | .vor ring seq idx => Sys2Proof.Machine.execVor ring seq idx s
  | .vxor ring seq idx => Sys2Proof.Machine.execVxor ring seq idx s
  | .vshl ring seq idx => Sys2Proof.Machine.execVshl ring seq idx s
  | .vshr ring seq idx => Sys2Proof.Machine.execVshr ring seq idx s
  | .vfunExp2 ring seq idx => Sys2Proof.Machine.execVfunExp2 ring seq idx s
  | .vfunLog2 ring seq idx => Sys2Proof.Machine.execVfunLog2 ring seq idx s
  | .vfunRcp ring seq idx => Sys2Proof.Machine.execVfunRcp ring seq idx s
  | .vfunRsqrt ring seq idx => Sys2Proof.Machine.execVfunRsqrt ring seq idx s
  | .vfunTanh ring seq idx => Sys2Proof.Machine.execVfunTanh ring seq idx s
  | .splat ring seq idx => Sys2Proof.Machine.execSplat ring seq idx s
  | .vcvt ring seq idx => Sys2Proof.Machine.execVcvt ring seq idx s
  | .adot ring seq idx => Sys2Proof.Machine.execAdot ring seq idx s
  | .aadd ring seq idx => Sys2Proof.Machine.execAadd ring seq idx s
  | .aopClear ring seq idx => Sys2Proof.Machine.execAopClear ring seq idx s
  | .aopMerge ring seq idx => Sys2Proof.Machine.execAopMerge ring seq idx s
  | .aopSave ring seq idx => Sys2Proof.Machine.execAopSave ring seq idx s
  | .aopLoad ring seq idx => Sys2Proof.Machine.execAopLoad ring seq idx s
  | .aopRound ring seq idx => Sys2Proof.Machine.execAopRound ring seq idx s
  | .aopDiv ring seq idx => Sys2Proof.Machine.execAopDiv ring seq idx s
  | .aopAdds ring seq idx => Sys2Proof.Machine.execAopAdds ring seq idx s
  | .arndmx ring seq idx => Sys2Proof.Machine.execArndmx ring seq idx s
  | .programTrap ring seq idx => Sys2Proof.Machine.execProgramTrap ring seq idx s
  | .linkSlot link => Sys2Proof.Machine.execLinkSlot link s
  | .codewordReceive link lanes => Sys2Proof.Machine.execCodewordReceive link lanes s
  | .nakRepeat link => Sys2Proof.Machine.execNakRepeat link s
  | .replayTimerExpiry link => Sys2Proof.Machine.execReplayTimerExpiry link s
  | .trainingFrameReceive link lane word => Sys2Proof.Machine.execTrainingFrameReceive link lane word s
  | .trainDetect link => Sys2Proof.Machine.execTrainDetect link s
  | .trainCdrLock link => Sys2Proof.Machine.execTrainCdrLock link s
  | .trainFfeDone link => Sys2Proof.Machine.execTrainFfeDone link s
  | .trainAdaptDone link failed eyes => Sys2Proof.Machine.execTrainAdaptDone link failed eyes s
  | .trainAlignDone link => Sys2Proof.Machine.execTrainAlignDone link s
  | .trainCodewordCheckDone link => Sys2Proof.Machine.execTrainCodewordCheckDone link s
  | .trainStepTimeout link => Sys2Proof.Machine.execTrainStepTimeout link s
  | .sessionExchangeDone link rtt => Sys2Proof.Machine.execSessionExchangeDone link rtt s
  | .sessionTimeout link => Sys2Proof.Machine.execSessionTimeout link s
  | .retrainDone link failed eyes => Sys2Proof.Machine.execRetrainDone link failed eyes s
  | .retrainTimeout link => Sys2Proof.Machine.execRetrainTimeout link s
  | .laneDegraded link lane symbols => Sys2Proof.Machine.execLaneDegraded link lane symbols s
  | .offStuck link cls sent => Sys2Proof.Machine.execOffStuck link cls sent s
  | .partnerLossSignal link => Sys2Proof.Machine.execPartnerLossSignal link s
  | .partnerLossDecode link => Sys2Proof.Machine.execPartnerLossDecode link s
  | .downRetryExpiry link => Sys2Proof.Machine.execDownRetryExpiry link s
  | .pflFenceWrite by_ link mask => Sys2Proof.Machine.execPflFenceWrite by_ link mask s
  | .pflRetrain by_ link => Sys2Proof.Machine.execPflRetrain by_ link s
  | .pflDown by_ link => Sys2Proof.Machine.execPflDown by_ link s
  | .pflUp by_ link => Sys2Proof.Machine.execPflUp by_ link s
  | .linkEnable by_ link => Sys2Proof.Machine.execLinkEnable by_ link s
  | .linkDisable by_ link => Sys2Proof.Machine.execLinkDisable by_ link s
  | .cellForward port cls => Sys2Proof.Machine.execCellForward port cls s
  | .parkedRelease port => Sys2Proof.Machine.execParkedRelease port s
  | .cellRead port => Sys2Proof.Machine.execCellRead port s
  | .cellWrite port => Sys2Proof.Machine.execCellWrite port s
  | .cellWdata port => Sys2Proof.Machine.execCellWdata port s
  | .writeReassemblyTimeout src tag => Sys2Proof.Machine.execWriteReassemblyTimeout src tag s
  | .writeShort port => Sys2Proof.Machine.execWriteShort port s
  | .atomicRead port => Sys2Proof.Machine.execAtomicRead port s
  | .atomicAdd port => Sys2Proof.Machine.execAtomicAdd port s
  | .atomicSwap port => Sys2Proof.Machine.execAtomicSwap port s
  | .atomicCas port => Sys2Proof.Machine.execAtomicCas port s
  | .atomicSignal port => Sys2Proof.Machine.execAtomicSignal port s
  | .launch port => Sys2Proof.Machine.execLaunch port s
  | .burst port => Sys2Proof.Machine.execBurst port s
  | .notify port full => Sys2Proof.Machine.execNotify port full s
  | .mgmtRegRead port => Sys2Proof.Machine.execMgmtRegRead port s
  | .mgmtRegWrite port => Sys2Proof.Machine.execMgmtRegWrite port s
  | .fabricReset port => Sys2Proof.Machine.execFabricReset port s
  | .fabricState port => Sys2Proof.Machine.execFabricState port s
  | .time port ok => Sys2Proof.Machine.execTime port ok s
  | .rdata port => Sys2Proof.Machine.execRdata port s
  | .rsp port => Sys2Proof.Machine.execRsp port s
  | .requestTimeout dst tag => Sys2Proof.Machine.execRequestTimeout dst tag s
  | .quarantineExpiry dst tag => Sys2Proof.Machine.execQuarantineExpiry dst tag s
  | .busyLedgerSend die => Sys2Proof.Machine.execBusyLedgerSend die s
  | .owedRspSend die => Sys2Proof.Machine.execOwedRspSend die s
  | .routeTableWrite by_ off value => Sys2Proof.Machine.execRouteTableWrite by_ off value s
  | .bufferUncorrectable port cls n => Sys2Proof.Machine.execBufferUncorrectable port cls n s
  | .timeSyncTimer => Sys2Proof.Machine.execTimeSyncTimer s
  | .holdoverExpiry => Sys2Proof.Machine.execHoldoverExpiry s
  | .ppsInEdge => Sys2Proof.Machine.execPpsInEdge s
  | .ppsOutPulse => Sys2Proof.Machine.execPpsOutPulse s
  | .arm by_ port => Sys2Proof.Machine.execArm by_ port s
  | .disarm by_ port => Sys2Proof.Machine.execDisarm by_ port s
  | .stop by_ port => Sys2Proof.Machine.execStop by_ port s
  | .chartSwitch port => Sys2Proof.Machine.execChartSwitch port s
  | .tokenTick => Sys2Proof.Machine.execTokenTick s
  | .subscriberRelease service => Sys2Proof.Machine.execSubscriberRelease service s
  | .hostSlot port => Sys2Proof.Machine.execHostSlot port s
  | .shaperConfigWrite by_ off lo hi => Sys2Proof.Machine.execShaperConfigWrite by_ off lo hi s
  | .meterColour fn => Sys2Proof.Machine.execMeterColour fn s
  | .define by_ target => Sys2Proof.Machine.execDefine by_ target s
  | .activate by_ target => Sys2Proof.Machine.execActivate by_ target s
  | .teardown by_ target => Sys2Proof.Machine.execTeardown by_ target s
  | .teardownSettled ptn => Sys2Proof.Machine.execTeardownSettled ptn s
  | .washStep ptn => Sys2Proof.Machine.execWashStep ptn s
  | .washDone ptn => Sys2Proof.Machine.execWashDone ptn s
  | .ownerByteWrite by_ off value => Sys2Proof.Machine.execOwnerByteWrite by_ off value s
  | .commonsEnWrite by_ en => Sys2Proof.Machine.execCommonsEnWrite by_ en s
  | .rindSecurityReset => Sys2Proof.Machine.execRindSecurityReset s
  | .debugUnlock key valid => Sys2Proof.Machine.execDebugUnlock key valid s
  | .svnCommit by_ => Sys2Proof.Machine.execSvnCommit by_ s
  | .getVersion path => Sys2Proof.Machine.execGetVersion path s
  | .getCapabilities path => Sys2Proof.Machine.execGetCapabilities path s
  | .negotiateAlgorithms path => Sys2Proof.Machine.execNegotiateAlgorithms path s
  | .getDigests path => Sys2Proof.Machine.execGetDigests path s
  | .getCertificate path slot => Sys2Proof.Machine.execGetCertificate path slot s
  | .challenge path slot => Sys2Proof.Machine.execChallenge path slot s
  | .getMeasurements path index => Sys2Proof.Machine.execGetMeasurements path index s
  | .keyExchange path => Sys2Proof.Machine.execKeyExchange path s
  | .finish path session ok => Sys2Proof.Machine.execFinish path session ok s
  | .heartbeat path session => Sys2Proof.Machine.execHeartbeat path session s
  | .keyUpdate path session => Sys2Proof.Machine.execKeyUpdate path session s
  | .endSession path session => Sys2Proof.Machine.execEndSession path session s
  | .respondIfReady path => Sys2Proof.Machine.execRespondIfReady path s
  | .vendorDefinedRequest path session key => Sys2Proof.Machine.execVendorDefinedRequest path session key s
  | .unsupportedSpdmRequest path => Sys2Proof.Machine.execUnsupportedSpdmRequest path s
  | .tspLock fn session => Sys2Proof.Machine.execTspLock fn session s
  | .ptnAdminState ring seq => Sys2Proof.Machine.execPtnAdminState ring seq s
  | .setEnrol ring seq => Sys2Proof.Machine.execSetEnrol ring seq s
  | .raiseEpoch ring seq => Sys2Proof.Machine.execRaiseEpoch ring seq s
  | .setRevoke ring seq => Sys2Proof.Machine.execSetRevoke ring seq s
  | .bindLoad ring seq => Sys2Proof.Machine.execBindLoad ring seq s
  | .quiesce by_ die => Sys2Proof.Machine.execQuiesce by_ die s
  | .quiesceComplete die bad forced => Sys2Proof.Machine.execQuiesceComplete die bad s forced
  | .rasReturn by_ die => Sys2Proof.Machine.execRasReturn by_ die s
  | .returnComplete die ok => Sys2Proof.Machine.execReturnComplete die ok s
  | .dieLoss die => Sys2Proof.Machine.execDieLoss die s
  | .helmCoreLoss die => Sys2Proof.Machine.execHelmCoreLoss die s
  | .pldmFwUpdateTransfer image slot => Sys2Proof.Machine.execPldmFwUpdateTransfer image slot s
  | .verifyComplete => Sys2Proof.Machine.execVerifyComplete s
  | .activateFirmware => Sys2Proof.Machine.execActivateFirmware s
  | .activationHelmHandover => Sys2Proof.Machine.execActivationHelmHandover s
  | .activationBinnacleSwitch => Sys2Proof.Machine.execActivationBinnacleSwitch s
  | .activationMicrocodeLoad => Sys2Proof.Machine.execActivationMicrocodeLoad s
  | .activationPhyStage => Sys2Proof.Machine.execActivationPhyStage s
  | .activationExtend => Sys2Proof.Machine.execActivationExtend s
  | .activationAbandon => Sys2Proof.Machine.execActivationAbandon s
  | .phyImageApply unit ok => Sys2Proof.Machine.execPhyImageApply unit ok s
  | .recoveryPhaseStart => Sys2Proof.Machine.execRecoveryPhaseStart s
  | .recoveryPhaseEnd background => Sys2Proof.Machine.execRecoveryPhaseEnd background s
  | .twinPlacementCheck => Sys2Proof.Machine.execTwinPlacementCheck s
  | .healthUpdate => Sys2Proof.Machine.execHealthUpdate s
  | .dieOutHour die => Sys2Proof.Machine.execDieOutHour die s
  | .counterConfigure by_ n value => Sys2Proof.Machine.execCounterConfigure by_ n value s
  | .counterClear by_ n => Sys2Proof.Machine.execCounterClear by_ n s
  | .counterFreeze by_ freeze => Sys2Proof.Machine.execCounterFreeze by_ freeze s
  | .traceEnable by_ value => Sys2Proof.Machine.execTraceEnable by_ value s
  | .traceRecordWrite pos die => Sys2Proof.Machine.execTraceRecordWrite pos die s
  | .traceMark by_ value => Sys2Proof.Machine.execTraceMark by_ value s
  | .stepPause ring => Sys2Proof.Machine.execStepPause ring s
  | .stepCmdStep by_ slot => Sys2Proof.Machine.execStepCmdStep by_ slot s
  | .stepCmdRun by_ slot => Sys2Proof.Machine.execStepCmdRun by_ slot s
  | .capture by_ => Sys2Proof.Machine.execCapture by_ s
  | .plotHangTrigger cause => Sys2Proof.Machine.execPlotHangTrigger cause s
  | .plotSampleDone => Sys2Proof.Machine.execPlotSampleDone s
  | .plotWritten => Sys2Proof.Machine.execPlotWritten s
  | .mctpRegRead path session addr count => Sys2Proof.Machine.execMctpRegRead path session addr count s
  | .mctpRegWrite path session addr values => Sys2Proof.Machine.execMctpRegWrite path session addr values s
  | .regionRead path session region off n => Sys2Proof.Machine.execRegionRead path session region off n s
  | .mctpPlotCapture path session => Sys2Proof.Machine.execMctpPlotCapture path session s
  | .jtagIdcode => Sys2Proof.Machine.execJtagIdcode s
  | .jtagBypass => Sys2Proof.Machine.execJtagBypass s
  | .samplePreload lands load => Sys2Proof.Machine.execSamplePreload lands load s
  | .extest rstLow => Sys2Proof.Machine.execExtest rstLow s
  | .vbkRetentionLoss => Sys2Proof.Machine.execVbkRetentionLoss s
  | .pfRefclkLoss chiplet => Sys2Proof.Machine.execPfRefclkLoss chiplet s
  | .pfRefclkReturn chiplet => Sys2Proof.Machine.execPfRefclkReturn chiplet s
  | .hpRefclkLoss port lost => Sys2Proof.Machine.execHpRefclkLoss port s lost
  | .hpPerstRelease port => Sys2Proof.Machine.execHpPerstRelease port s
  | .caveWriteBackDone frame page => Sys2Proof.Machine.execCaveWriteBackDone frame page s
  | .burstRecordExpiry source tag => Sys2Proof.Machine.execBurstRecordExpiry source tag s

end Sys2Proof.Machine
end

