-- ==== Sys2Proof/Machine/Step.lean ====
section
/-! DEFINITION.  One step of the block: the command at the front of the queue, or the idle tick. -/

namespace Sys2Proof.Machine

/-- The idle tick on an empty queue: one microsecond passes (DESIGN CHOICE, logs 1 and 143). -/
def idle (s : State) : State := { s with blk := s.blk.tick }

/-- One step: the command at the front of the queue, executed with the queue's rest. -/
def step (s : State) : Host.Outcome State Fault Refusal :=
  match s.pending with
  | [] => .next (idle s)
  | c :: rest => exec c { s with pending := rest }

/-- The state with the command that a table word spells put at the front of the queue; the table gives no
row any bits, so no word spells a command. -/
def State.withFetchWord (s : State) (nbits w : Nat) : State :=
  match decodeTableWord nbits w with
  | some c => { s with pending := c :: s.pending }
  | none => s

end Sys2Proof.Machine
end

