-- ==== Sys2Proof/WellFormed.lean ====
section
/-! DEFINITION.  Which commands are well formed: the operands that are lists have the length of what they stand for. -/

namespace Sys2Proof

/-- A command whose operands the interface can carry. -/
def Instr.wellFormed : Instr → Bool
  | .registerWrite _ _ _ => true
  | .loHalfRead _ _ => true
  | .badRegisterAccess _ _ _ => true
  | .setupLockSet _ => true
  | .powerOn => true
  | .mainStagesStart => true
  | .undervoltageShutdown => true
  | .overvoltageShutdown => true
  | .inputLow _ => true
  | .inputHigh _ => true
  | .peakPowerLimit => true
  | .powerExcursionTimeout _ => true
  | .setPowerLimit _ => true
  | .powerStageFail _ _ => true
  | .pwrFailAssert => true
  | .flushComplete => true
  | .pwrFailRelease => true
  | .pwrFailResume => true
  | .pwrFailStuck => true
  | .vcoreDroop _ => true
  | .thermalSample _ _ => true
  | .throttleStep _ => true
  | .vcoreRaiseStep _ _ _ => true
  | .bnXinLoss => true
  | .crossingInbound _ _ => true
  | .crossingOutbound _ _ => true
  | .beatRateUpdate _ => true
  | .pldmSensorRead => true
  | .rstNAssert => true
  | .resetCmdCold _ _ => true
  | .coldArmExpiry => true
  | .resetCmdWarm _ _ => true
  | .resetCmdDie _ _ => true
  | .resetCmdCluster _ _ _ => true
  | .resetCmdPort _ _ => true
  | .resetCmdLink _ _ => true
  | .binnacleWatchdog => true
  | .helmWatchdog _ => true
  | .trialBootExpiry => true
  | .hpPerstAssert _ => true
  | .cxlHotReset _ => true
  | .resetEntryDone _ => true
  | .railOffEnd => true
  | .binnacleRelease => true
  | .backupDomainCheck _ => true
  | .configSelect _ _ _ _ => true
  | .firmwareVerify => true
  | .helmRelease _ _ => true
  | .dramTrain _ _ _ _ => true
  | .dramRetrain _ _ => true
  | .poolDieRelease _ _ _ _ _ _ _ => true
  | .logbookReplay _ _ _ => true
  | .portsRelease => true
  | .thermalHoldClear => true
  | .firmwareUpdateHeld _ _ => true
  | .trialConfirm => true
  | .rwpWrite _ _ => true
  | .rwpPersist => true
  | .almCommitGo _ => true
  | .almCommitDone _ => true
  | .almRecheck _ _ => true
  | .almScrub _ _ => true
  | .watchHit _ => true
  | .ringService _ => true
  | .descriptorReread _ => true
  | .seqStuckTimeout _ => true
  | .checkRetryTimeout _ => true
  | .logbookWaitResume => true
  | .acceptDescriptor _ => true
  | .descriptorDone _ _ => true
  | .completionWrite _ => true
  | .runLimitExpiry _ _ => true
  | .commitUnitBegin _ _ => true
  | .commitUnitEnd _ _ => true
  | .resumeRing _ _ => true
  | .restartRing _ _ => true
  | .disableFn _ _ => true
  | .enableFn _ _ => true
  | .fnDisableDone _ => true
  | .cxlFlr _ => true
  | .ringEnable _ _ => true
  | .ringDisable _ _ => true
  | .logbookLimitUpdate => true
  | .mbxAllocRead _ => true
  | .mbxOpen _ _ => true
  | .mbxClose _ _ => true
  | .mbxForceClose _ _ => true
  | .mbxSend _ _ => true
  | .mbxTake _ => true
  | .mbxCancel _ _ => true
  | .mbxReply _ _ _ => true
  | .mbxReplyClear _ _ => true
  | .mbxEvent _ _ _ => true
  | .echo _ => true
  | .ringQuery _ => true
  | .fnDisable _ => true
  | .fnEnable _ => true
  | .dramRequestEnqueue _ _ _ _ _ mask bytes _ => mask.length == 64 && bytes.length == 64
  | .schedSlot _ _ _ => true
  | .errorRecordWindowClose _ _ => true
  | .refreshTick _ _ => true
  | .selfRefreshEnter _ => true
  | .selfRefreshExit _ _ => true
  | .panicRaise _ => true
  | .panicClear _ => true
  | .panicWindowRoll _ _ => true
  | .recalTrigger _ _ _ => true
  | .recalSliceStart _ _ _ _ => true
  | .recalSliceEnd _ _ _ => true
  | .interfaceParityError _ _ => true
  | .pprSoft _ _ _ _ _ => true
  | .pprDone _ => true
  | .hardenAll _ _ => true
  | .moveToAlt _ _ => true
  | .moveToPri _ _ => true
  | .homeMoveComplete _ _ => true
  | .baseDieSelfRefresh _ => true
  | .spareFillDone _ => true
  | .replace _ _ => true
  | .spareSwitchDone _ _ => true
  | .copyInStep _ _ => true
  | .demandFill _ _ => true
  | .copyInDone _ => true
  | .sramSingleError _ => true
  | .sramDoubleError _ => true
  | .wayRetire _ _ _ => true
  | .turnerRowRead _ _ _ => true
  | .turnerLag _ _ => true
  | .ceLogClear _ _ => true
  | .injectArm _ _ _ _ _ => true
  | .twinWrite _ _ bytes _ => bytes.length == 64
  | .twinEnable _ _ => true
  | .twinDisable _ _ => true
  | .twinWalkStep _ => true
  | .twinWalkDone _ => true
  | .twinCopyUnreadable _ _ => true
  | .twinStackReturn _ _ => true
  | .twinPatrolRead _ => true
  | .twinPatrolPassEnd _ => true
  | .cacheLookup _ _ _ mask bytes _ => mask.length == 64 && bytes.length == 64
  | .flushPtn _ _ => true
  | .flushAll _ => true
  | .prefetchIssue _ _ => true
  | .prefetchLineArrive _ _ => true
  | .prefetchDepthDouble _ _ => true
  | .prefetchDepthHalve _ _ => true
  | .blockSet _ _ _ => true
  | .extentEnable _ _ => true
  | .extentPinDone _ => true
  | .extentDisable _ _ => true
  | .caveAccess _ _ _ _ mask bytes _ => mask.length == 64 && bytes.length == 64
  | .cavePageStaged _ _ => true
  | .frameWaitResume => true
  | .caveClean _ _ => true
  | .syncPtn _ _ => true
  | .frameEvict _ => true
  | .caveWearLimit _ => true
  | .flashTimeout _ _ _ => true
  | .flashReadUncorrectable _ _ => true
  | .flashProgramFail _ => true
  | .flashEraseFail _ => true
  | .channelFail _ => true
  | .channelRebuildDone _ => true
  | .flushRegionErase => true
  | .translationWalk _ _ _ _ => true
  | .translationFault _ _ _ _ _ => true
  | .faultRecordWaitResume => true
  | .faultQueueWrite _ => true
  | .faultQueueSpace _ => true
  | .faultLimitExpiry _ => true
  | .xltCtxEnable _ _ => true
  | .xltCtxDisable _ _ => true
  | .xltFqEnable _ _ => true
  | .xltFqDisable _ _ => true
  | .xltInvalNone _ _ => true
  | .xltInvalPages _ _ => true
  | .xltInvalSegment _ _ => true
  | .xltInvalContext _ _ => true
  | .xltInvalDrained _ => true
  | .drainWarn _ => true
  | .cxlMemRequest _ _ _ _ _ => true
  | .cxlMemComplete _ _ => true
  | .gateEnable _ _ => true
  | .gateDisable _ _ => true
  | .initiateDynamicCapacityAdd _ _ _ _ _ _ _ _ => true
  | .addDynamicCapacityResponse _ _ => true
  | .extentOfferExpiry _ => true
  | .releaseDynamicCapacity _ _ => true
  | .initiateDynamicCapacityRelease _ _ => true
  | .extentClosed _ => true
  | .extentScrubDone _ => true
  | .identifyMemoryDevice _ => true
  | .getEventRecords _ => true
  | .clearEventRecords _ _ => true
  | .getDynamicCapacityConfiguration _ => true
  | .getDynamicCapacityExtentList _ => true
  | .getLdInfo _ => true
  | .getLdAllocations _ => true
  | .setLdAllocations _ _ => true
  | .unsupportedCxlCommand _ => true
  | .ideKmKeyProg _ _ _ => true
  | .hostLinkTrain _ _ _ _ _ => true
  | .bisnpSend _ _ _ => true
  | .birsp _ _ _ _ => true
  | .bisnpTimeout _ _ => true
  | .hostLost _ _ => true
  | .roseRequest _ _ _ _ => true
  | .roseRetry _ _ => true
  | .roseSnoop _ _ => true
  | .roseSnoopDone _ => true
  | .roseWriteback _ _ _ => true
  | .slotRehome _ _ _ => true
  | .commonsEnable _ _ => true
  | .publish _ _ => true
  | .publishCopyDone _ => true
  | .publishDrainDone _ => true
  | .bar2Read _ _ _ _ => true
  | .bar2Write _ _ => true
  | .bar2Fetchadd _ _ _ _ _ => true
  | .bar2Swap _ _ _ _ _ => true
  | .bar2Cas _ _ _ _ _ _ => true
  | .taskDispatch _ _ _ _ => true
  | .arbGrant _ => true
  | .tileBoundary _ => true
  | .backoffExpiry _ _ => true
  | .quotaWindowRoll => true
  | .holdMaxCutoff _ => true
  | .coreFail _ => true
  | .streamEnable _ _ => true
  | .streamDisable _ _ => true
  | .nop _ _ => true
  | .gatherReduce _ _ => true
  | .attnDecode _ _ => true
  | .attnMaxCombined _ _ _ => true
  | .logitSlotFree _ _ => true
  | .kvAppend _ _ => true
  | .burstIdleTimeout _ _ => true
  | .press _ _ => true
  | .unpress _ _ => true
  | .topk _ _ => true
  | .reduce _ _ => true
  | .broadcast _ _ => true
  | .copy _ _ => true
  | .fillPattern _ _ => true
  | .fillPoison _ _ => true
  | .bexaRun _ _ _ => true
  | .syncOpInit _ _ => true
  | .syncOpRead _ _ => true
  | .syncOpAdd _ _ => true
  | .syncOpSwap _ _ => true
  | .syncOpCas _ _ => true
  | .syncOpSignal _ _ => true
  | .syncOpAcquire _ _ => true
  | .acquireWake _ _ => true
  | .waitMet => true
  | .syncBlockDisable _ _ => true
  | .aluAdd _ _ _ => true
  | .aluSub _ _ _ => true
  | .aluAnd _ _ _ => true
  | .aluOr _ _ _ => true
  | .aluXor _ _ _ => true
  | .aluSll _ _ _ => true
  | .aluSrl _ _ _ => true
  | .aluSra _ _ _ => true
  | .aluSlt _ _ _ => true
  | .aluSltu _ _ _ => true
  | .aluMul _ _ _ => true
  | .aluMulhu _ _ _ => true
  | .aluDivu _ _ _ => true
  | .aluRemu _ _ _ => true
  | .aluMin _ _ _ => true
  | .aluMax _ _ _ => true
  | .addi _ _ _ => true
  | .andi _ _ _ => true
  | .ori _ _ _ => true
  | .xori _ _ _ => true
  | .shiSll _ _ _ => true
  | .shiSrl _ _ _ => true
  | .shiSra _ _ _ => true
  | .lui _ _ _ => true
  | .ldb _ _ _ => true
  | .ldh _ _ _ => true
  | .ldw _ _ _ => true
  | .ldd _ _ _ => true
  | .stb _ _ _ => true
  | .sth _ _ _ => true
  | .stw _ _ _ => true
  | .std _ _ _ => true
  | .lds _ _ _ => true
  | .sts _ _ _ => true
  | .beq _ _ _ => true
  | .bne _ _ _ => true
  | .blt _ _ _ => true
  | .bge _ _ _ => true
  | .bltu _ _ _ => true
  | .bgeu _ _ _ => true
  | .jal _ _ _ => true
  | .jr _ _ _ => true
  | .csrRead _ _ _ => true
  | .csrWrite _ _ _ => true
  | .tile _ _ _ => true
  | .exit _ _ _ => true
  | .abort _ _ _ => true
  | .unit _ _ _ => true
  | .cmt _ _ _ => true
  | .sysFence _ _ _ => true
  | .syncRead _ _ _ => true
  | .syncAdd _ _ _ => true
  | .syncSwap _ _ _ => true
  | .syncCas _ _ _ => true
  | .syncSignal _ _ _ => true
  | .swait _ _ _ => true
  | .pfset _ _ _ => true
  | .vld _ _ _ => true
  | .vlds _ _ _ => true
  | .vsts _ _ _ => true
  | .vstElements _ _ _ => true
  | .vstScales _ _ _ => true
  | .vaddf _ _ _ => true
  | .vsubf _ _ _ => true
  | .vmulf _ _ _ => true
  | .vmaxf _ _ _ => true
  | .vminf _ _ _ => true
  | .vaddi _ _ _ => true
  | .vsubi _ _ _ => true
  | .vand _ _ _ => true
  | .vor _ _ _ => true
  | .vxor _ _ _ => true
  | .vshl _ _ _ => true
  | .vshr _ _ _ => true
  | .vfunExp2 _ _ _ => true
  | .vfunLog2 _ _ _ => true
  | .vfunRcp _ _ _ => true
  | .vfunRsqrt _ _ _ => true
  | .vfunTanh _ _ _ => true
  | .splat _ _ _ => true
  | .vcvt _ _ _ => true
  | .adot _ _ _ => true
  | .aadd _ _ _ => true
  | .aopClear _ _ _ => true
  | .aopMerge _ _ _ => true
  | .aopSave _ _ _ => true
  | .aopLoad _ _ _ => true
  | .aopRound _ _ _ => true
  | .aopDiv _ _ _ => true
  | .aopAdds _ _ _ => true
  | .arndmx _ _ _ => true
  | .programTrap _ _ _ => true
  | .linkSlot _ => true
  | .codewordReceive _ _ => true
  | .nakRepeat _ => true
  | .replayTimerExpiry _ => true
  | .trainingFrameReceive _ _ _ => true
  | .trainDetect _ => true
  | .trainCdrLock _ => true
  | .trainFfeDone _ => true
  | .trainAdaptDone _ _ _ => true
  | .trainAlignDone _ => true
  | .trainCodewordCheckDone _ => true
  | .trainStepTimeout _ => true
  | .sessionExchangeDone _ _ => true
  | .sessionTimeout _ => true
  | .retrainDone _ _ _ => true
  | .retrainTimeout _ => true
  | .laneDegraded _ _ _ => true
  | .offStuck _ _ _ => true
  | .partnerLossSignal _ => true
  | .partnerLossDecode _ => true
  | .downRetryExpiry _ => true
  | .pflFenceWrite _ _ _ => true
  | .pflRetrain _ _ => true
  | .pflDown _ _ => true
  | .pflUp _ _ => true
  | .linkEnable _ _ => true
  | .linkDisable _ _ => true
  | .cellForward _ _ => true
  | .parkedRelease _ => true
  | .cellRead _ => true
  | .cellWrite _ => true
  | .cellWdata _ => true
  | .writeReassemblyTimeout _ _ => true
  | .writeShort _ => true
  | .atomicRead _ => true
  | .atomicAdd _ => true
  | .atomicSwap _ => true
  | .atomicCas _ => true
  | .atomicSignal _ => true
  | .launch _ => true
  | .burst _ => true
  | .notify _ _ => true
  | .mgmtRegRead _ => true
  | .mgmtRegWrite _ => true
  | .fabricReset _ => true
  | .fabricState _ => true
  | .time _ _ => true
  | .rdata _ => true
  | .rsp _ => true
  | .requestTimeout _ _ => true
  | .quarantineExpiry _ _ => true
  | .busyLedgerSend _ => true
  | .owedRspSend _ => true
  | .routeTableWrite _ _ _ => true
  | .bufferUncorrectable _ _ _ => true
  | .timeSyncTimer => true
  | .holdoverExpiry => true
  | .ppsInEdge => true
  | .ppsOutPulse => true
  | .arm _ _ => true
  | .disarm _ _ => true
  | .stop _ _ => true
  | .chartSwitch _ => true
  | .tokenTick => true
  | .subscriberRelease _ => true
  | .hostSlot _ => true
  | .shaperConfigWrite _ _ _ _ => true
  | .meterColour _ => true
  | .define _ _ => true
  | .activate _ _ => true
  | .teardown _ _ => true
  | .teardownSettled _ => true
  | .washStep _ => true
  | .washDone _ => true
  | .ownerByteWrite _ _ _ => true
  | .commonsEnWrite _ _ => true
  | .rindSecurityReset => true
  | .debugUnlock _ _ => true
  | .svnCommit _ => true
  | .getVersion _ => true
  | .getCapabilities _ => true
  | .negotiateAlgorithms _ => true
  | .getDigests _ => true
  | .getCertificate _ _ => true
  | .challenge _ _ => true
  | .getMeasurements _ _ => true
  | .keyExchange _ => true
  | .finish _ _ _ => true
  | .heartbeat _ _ => true
  | .keyUpdate _ _ => true
  | .endSession _ _ => true
  | .respondIfReady _ => true
  | .vendorDefinedRequest _ _ _ => true
  | .unsupportedSpdmRequest _ => true
  | .tspLock _ _ => true
  | .ptnAdminState _ _ => true
  | .setEnrol _ _ => true
  | .raiseEpoch _ _ => true
  | .setRevoke _ _ => true
  | .bindLoad _ _ => true
  | .quiesce _ _ => true
  | .quiesceComplete _ _ _ => true
  | .rasReturn _ _ => true
  | .returnComplete _ _ => true
  | .dieLoss _ => true
  | .helmCoreLoss _ => true
  | .pldmFwUpdateTransfer _ _ => true
  | .verifyComplete => true
  | .activateFirmware => true
  | .activationHelmHandover => true
  | .activationBinnacleSwitch => true
  | .activationMicrocodeLoad => true
  | .activationPhyStage => true
  | .activationExtend => true
  | .activationAbandon => true
  | .phyImageApply _ _ => true
  | .recoveryPhaseStart => true
  | .recoveryPhaseEnd _ => true
  | .twinPlacementCheck => true
  | .healthUpdate => true
  | .dieOutHour _ => true
  | .counterConfigure _ _ _ => true
  | .counterClear _ _ => true
  | .counterFreeze _ _ => true
  | .traceEnable _ _ => true
  | .traceRecordWrite _ _ => true
  | .traceMark _ _ => true
  | .stepPause _ => true
  | .stepCmdStep _ _ => true
  | .stepCmdRun _ _ => true
  | .capture _ => true
  | .plotHangTrigger _ => true
  | .plotSampleDone => true
  | .plotWritten => true
  | .mctpRegRead _ _ _ _ => true
  | .mctpRegWrite _ _ _ _ => true
  | .regionRead _ _ _ _ _ => true
  | .mctpPlotCapture _ _ => true
  | .jtagIdcode => true
  | .jtagBypass => true
  | .samplePreload _ _ => true
  | .extest _ => true
  | .vbkRetentionLoss => true
  | .pfRefclkLoss _ => true
  | .pfRefclkReturn _ => true
  | .hpRefclkLoss _ _ => true
  | .hpPerstRelease _ => true
  | .caveWriteBackDone _ _ => true
  | .burstRecordExpiry _ _ => true

end Sys2Proof
end

