-- ==== Sys2Proof/Safety.lean ====
section
/-! DEFINITION.  What a well-kept state and a safe run are: DRAM and the register file in canonical form, and
every step answering a next state. -/

namespace Sys2Proof.Machine

/-- DRAM and the register file are in canonical form: equal contents are equal data. -/
def State.canonical (s : State) : Prop := s.blk.mem.wf = true ∧ s.blk.regs.wf = true

/-- A run of `n` steps from `s` that neither faults nor is refused. -/
def State.safeFor : Nat → State → Prop
  | 0, _ => True
  | n + 1, s => ∃ t, step s = .next t ∧ State.safeFor n t

/-- A command completes in a state: it changes the block as `f` says, and neither the JTAG port nor the queue. -/
def State.does (s : State) (c : Instr) (f : Block → Block) : Prop := exec c s = .next { s with blk := f s.blk }

/-! ## Notions the statements speak of -/

/-- The rows of the JTAG port (R523). -/
def isJtag : Instr → Bool
  | .jtagIdcode => true
  | .jtagBypass => true
  | .samplePreload _ _ => true
  | .extest _ => true
  | _ => false

/-- The JTAG port drives the boundary lands only under EXTEST, and every command that waits is well formed. -/
def State.kept (s : State) : Prop :=
  (s.tap.driven = true → s.tap.ir = .extest) ∧ ∀ c ∈ s.pending, c.wellFormed = true

/-- Whether a field lies in a register's 32 bits. -/
def FieldDef.fits (f : FieldDef) : Bool := decide (f.lo ≤ f.hi) && decide (f.hi < 32)

/-- Whether two fields share no bit. -/
def FieldDef.apart (f g : FieldDef) : Bool := decide (f.hi < g.lo) || decide (g.hi < f.lo)

/-- Whether the fields of a list lie in 32 bits and share none. -/
def tidyFields : List FieldDef → Bool
  | [] => true
  | f :: fs => f.fits && fs.all f.apart && tidyFields fs

/-- Whether bit `i` of a register lies in none of its fields: a reserved bit. -/
def RegDef.reservedBit (r : RegDef) (i : Nat) : Bool := r.fields.all fun f => decide (i < f.lo) || decide (f.hi < i)

/-- The value that a written value `new` gives a field that held `was`, by Table 0-3, the scope rule of R33 and the lock rule
of R525. -/
def FieldDef.written (f : FieldDef) (full lock : Bool) (was new : Nat) : Nat :=
  match f.acc with
  | .ro => was
  | .wo => was
  | .rw1c => was - (was &&& new)
  | .w1s => was ||| new
  | .rw => if f.full && !full then was else new
  | .rwp => if f.full && !full then was else new
  | .rwl => if (f.full && !full) || lock then was else new

/-- Whether a field is one that configuration writes set (RW, RWL or RWP). -/
def FieldDef.settable (f : FieldDef) : Bool := decide (f.acc = .rw) || decide (f.acc = .rwl) || decide (f.acc = .rwp)

/-- A history of one meter: at `true` a tick accrues, at `false` a cell of function `f` is metered.  The green cells, the
green and yellow ones, and the block after it. -/
def Block.metered (f : Nat) : List Bool → Block → Nat × Nat × Block
  | [], s => (0, 0, s)
  | true :: evs, s => s.accrue.metered f evs
  | false :: evs, s =>
    let (c, t) := s.meter f
    let (g, p, u) := t.metered f evs
    (g + (if c = 0 then 1 else 0), p + (if c ≤ 1 then 1 else 0), u)

/-- The ticks of such a history. -/
def ticksIn (evs : List Bool) : Nat := evs.count true

/-- The block while it works for a descriptor, and when it has worked. -/
def Block.atWork (s : Block) (e : LogEntry) : Block := s.setDbg { s.dbg with work := some (e.ring, e.seq) }
def Block.offWork (s : Block) : Block := s.setDbg { s.dbg with work := none }

/-- What an instruction of a task's program runs on. -/
def State.bexaRun (s : State) (e : LogEntry) (t : Task) (p : Prog) : BxRun :=
  { s := s.blk.atWork e, e := e, t := t, p := p }

/-- A program's command completes: its instruction has left `r`, and ends as `how` says. -/
def State.ends (s : State) (c : Instr) (r : BxRun) (how : BxEnd) : Prop :=
  exec c s = .next { s with blk := (Block.bexaEnd r how).offWork }

/-- A run whose program has other core state. -/
def BxRun.withCore (r : BxRun) (c : ProgCore) : BxRun := { r with p := { r.p with core := c } }

/-- A program changed by `f` for each engine that ESEL names, in ascending order (R369). -/
def Prog.onEngines (p : Prog) (f : Prog → Nat → Prog) : Prog := p.core.engines.foldl f p

/-- A load of `n` bytes completes (R367): its address register is not poisoned and the CA is aligned; what the task reads
there goes to d, or, where it is poisoned or unreachable, a free value marked poison. -/
def State.loads (s : State) (c : Instr) (e : LogEntry) (t : Task) (p : Prog) (w : Insn) (n : Nat) : Prop :=
  let r := s.bexaRun e t p
  let ca := ((p.core.reg w.a).1 + w.simm) % 2 ^ 64
  (p.core.reg w.a).2 = false → ca % n = 0 → ∀ (b : Bytes) (r1 : BxRun), Bx.readMem ca n r = .ok (b, r1) →
    (b.poison = false → b.addrErr = false → s.ends c (r1.withCore (r1.p.core.setReg w.d (ofLeBytes b.bytes) false)) .next) ∧
    (b.poison = true ∨ b.addrErr = true →
      let k := { r1.p.core with
        seenPoison := r1.p.core.seenPoison || b.poison, seenAddr := r1.p.core.seenAddr || b.addrErr }
      s.ends c ({ r1 with s := r1.s.fresh.2 }.withCore (k.setReg w.d r1.s.fresh.1.toNat true)) .next)

/-- A store of `n` bytes completes (R367, R375): its address register is not poisoned, the CA is aligned, and the low bytes of
d are stored there. -/
def State.stores (s : State) (c : Instr) (e : LogEntry) (t : Task) (p : Prog) (w : Insn) (n : Nat) : Prop :=
  let ca := ((p.core.reg w.a).1 + w.simm) % 2 ^ 64
  (p.core.reg w.a).2 = false → ca % n = 0 → ∀ r1 : BxRun,
    Bx.store ca (leBytes n (p.core.reg w.d).1) (p.core.reg w.d).2 (s.bexaRun e t p) = .ok ((), r1) → s.ends c r1 .next

/-- A lane-by-lane instruction completes: on every engine that ESEL names vd holds `f` of each lane, poisoned where `bad` says
(R370). -/
def State.lanes (s : State) (c : Instr) (e : LogEntry) (t : Task) (p : Prog) (w : Insn) (f : Vec → Vec → Nat → Nat)
    (bad : Vec → Vec → Nat → Bool) : Prop :=
  let lane (q : Prog) (k : Nat) : Prog :=
    q.setVec k w.vd ((q.vec k w.vd).ofLanes (f (q.vec k w.va) (q.vec k w.vb))
      ((List.range 64).filter (bad (q.vec k w.va) (q.vec k w.vb))))
  s.ends c { s.bexaRun e t p with p := p.onEngines lane } .next

/-- An accumulator instruction completes: on every engine that ESEL names the accumulator it names becomes `f` of itself
(R371, R372). -/
def State.sums (s : State) (c : Instr) (r : BxRun) (w : Insn) (f : Prog → Nat → Acc → Acc) : Prop :=
  let one (q : Prog) (k : Nat) : Prog := q.setAcc k w.ak (f q k (q.acc k w.ak))
  s.ends c { r with p := r.p.onEngines one } .next

/-- Bytes as the symbols of a line. -/
def LineVal.wellSized : LineVal → Bool
  | .data b => decide (b.length = 64)
  | .poison => true

end Sys2Proof.Machine
end

