-- ==== Sys2Proof/Certificates/Slice0/Obligations.lean ====
section
/-! DEFINITION.  The statements for the provers: first the rules of the machine as a whole and of its kinds of state, then,
family by family, what each command does. -/

open Sys2Proof Sys2Proof.Machine

/-! ## The machine as a whole -/

/-- A step takes the command at the front of the queue: it is `exec` of that command on the state with the queue's rest. -/
def Obligations.StepTakesFront : Prop :=
  ∀ (c : Instr) (rest : List Instr) (s : State), s.pending = c :: rest → step s = exec c { s with pending := rest }

/-- On an empty queue a step is the idle tick: one microsecond passes, and the cluster resets that began 2 ms ago release their
clusters; with no cluster reset in its sequence nothing else changes.  The model's own choice (log entries 1 and 143). -/
def Obligations.IdleTick : Prop :=
  ∀ s : State, s.pending = [] → step s = .next { s with blk := s.blk.tick } ∧
    (s.blk.boot.clusterResets = [] → s.blk.tick = { s.blk with now := s.blk.now + 1 })

/-- Every run answers a next state: no command stops the machine, and after `n` steps the queue has lost its first `n`
commands, taken in order. -/
def Obligations.EveryRunCompletes : Prop :=
  ∀ (n : Nat) (s : State), ∃ t : State, Host.Core.run Sys2Proof.core n s = .next t ∧ t.pending = s.pending.drop n

/-- The JTAG port stands apart (R523): no other command changes it; its own rows change nothing of the block but the bits
they send out; no command changes the queue. -/
def Obligations.JtagPortApart : Prop :=
  ∀ (c : Instr) (s t : State), exec c s = .next t →
    t.pending = s.pending ∧ (isJtag c = false → t.tap = s.tap) ∧
      (isJtag c = true → ∃ o : List Output, t.blk = { s.blk with out := s.blk.out ++ o })

/-- Every step keeps this: the JTAG port drives the boundary lands only while it holds EXTEST, and the commands that wait
are well formed. -/
def Obligations.EveryStepKeeps : Prop :=
  ∀ s t : State, s.kept → step s = .next t → t.kept

/-- The state after reset meets the invariant. -/
def Obligations.ResetIsKept : Prop := State.reset.kept

/-- After reset every assigned register holds its reset value, DRAM and the register file list nothing and are in canonical
form, no command waits, nothing has been sent; GID_IDENT and GID_DRAM_GIB read as Table 1-7 gives them.  What a DRAM line
that nothing has written reads as rests on log entry 2. -/
def Obligations.ResetState : Prop :=
  (∀ (a : Nat) (r : RegDef) (ix : List Nat), regAt a = some (r, ix) → State.reset.blk.reg a = r.resetVal ix) ∧
  State.reset.canonical ∧ State.reset.blk.regs = [] ∧ State.reset.blk.mem = {} ∧ State.reset.pending = [] ∧
  State.reset.blk.out = [] ∧ State.reset.blk.reg R.GID_IDENT = 0x64807A1B ∧ State.reset.blk.fld F.GID_DRAM_GIB_GIB = 0x800

/-! ## Setup registers -/

/-- R31: the blocks of Table 1-6 with their first and last bytes; nothing is assigned from 0x68_0000 on, past the DRC array
or past the PFL array.  Every register lies in its block, aligned to 4 bytes, its fields inside 32 bits and sharing no bit. -/
def Obligations.RegisterMap : Prop :=
  (regBlocks.map fun b => (b.1, b.2.1 - 1)) =
    [(0x000000, 0x00FFFF), (0x010000, 0x01FFFF), (0x020000, 0x03FFFF), (0x040000, 0x07FFFF), (0x080000, 0x0BFFFF),
     (0x0C0000, 0x0FFFFF), (0x100000, 0x17FFFF), (0x180000, 0x1BFFFF), (0x1C0000, 0x1FFFFF), (0x200000, 0x27FFFF),
     (0x280000, 0x2FFFFF), (0x300000, 0x37FFFF), (0x380000, 0x3FFFFF), (0x400000, 0x47FFFF), (0x480000, 0x4FFFFF),
     (0x500000, 0x57FFFF), (0x580000, 0x5FFFFF), (0x600000, 0x67FFFF)] ∧
  (regBlocks.map fun b => b.2.2) =
    [regsGid, regsRbt, regsAlm, regsMbx, regsRng, regsPtn, regsDrc, regsInt, regsTir, regsXlt, regsHpt, regsEng, regsPfl,
     regsPfr, regsShp, regsSec, regsRas, regsDbg] ∧
  (∀ a, 0x680000 ≤ a → regAt a = none) ∧ (∀ a, 0x148000 ≤ a → a < 0x180000 → regAt a = none) ∧
  (∀ a, 0x3E0000 ≤ a → a < 0x400000 → regAt a = none) ∧
  ∀ b ∈ regBlocks, ∀ r ∈ b.2.2, r.base % 4 = 0 ∧ b.1 ≤ r.base ∧ r.base < b.2.1 ∧ (∀ d ∈ r.dims, d.1 % 4 = 0) ∧
    tidyFields r.fields = true

/-- A register that is set reads as set, and every other one as before; a field that is set reads as the low bits of what
was set, and every field that shares no bit with it as before. -/
def Obligations.RegisterReadsBack : Prop :=
  (∀ (s : Block) (a : Nat) (v : Word), (s.setReg a v).reg a = v) ∧
  (∀ (s : Block) (a b : Nat) (v : Word), b ≠ a → (s.setReg a v).reg b = s.reg b) ∧
  (∀ (s : Block) (f : Fld) (v : Nat), f.lo ≤ f.hi → f.hi < 32 → (s.setFld f v).fld f = v % 2 ^ (f.hi + 1 - f.lo)) ∧
  (∀ (s : Block) (f g : Fld) (v : Nat), f.lo ≤ f.hi → f.hi < 32 → g.lo ≤ g.hi →
    g.addr ≠ f.addr ∨ f.hi < g.lo ∨ g.hi < f.lo → (s.setFld f v).fld g = s.fld g)

/-- A write merged into a register gives each field what its access type, the scope rule and the lock rule give it, leaves
the reserved bits (R14), and notes exactly whether a field for full functions only (R33), or one behind SETUP_LOCK (R525),
would have changed. -/
def Obligations.WriteMergesFields : Prop :=
  ∀ (s : Block) (f : Fn) (r : RegDef) (a v : Nat), tidyFields r.fields = true →
    let old := (s.reg a).toNat
    let m := s.merged f r a v
    let lock := s.isSet F.GID_SETUP_LOCK_SETUP_LOCK
    (∀ fd ∈ r.fields,
      getBits m.value fd.hi fd.lo = fd.written (s.isFull f) lock (getBits old fd.hi fd.lo) (getBits v fd.hi fd.lo)) ∧
    (∀ i, r.reservedBit i = true → getBits m.value i i = getBits old i i) ∧
    (m.viol = true ↔ ∃ fd ∈ r.fields, fd.settable = true ∧ fd.full = true ∧ s.isFull f = false ∧
      getBits v fd.hi fd.lo ≠ getBits old fd.hi fd.lo) ∧
    (m.locked = true ↔ ∃ fd ∈ r.fields, fd.acc = .rwl ∧ (fd.full = false ∨ s.isFull f = true) ∧ lock = true ∧
      getBits v fd.hi fd.lo ≠ getBits old fd.hi fd.lo)

/-- A register reset restores the fields of its class and leaves every other field, every register without such a field, and
every register out of its reach (R16). -/
def Obligations.ResetClassRestores : Prop :=
  ∀ (rf : RegFile) (c : ResetClass) (p : Nat → Bool) (a : Nat) (r : RegDef) (ix : List Nat),
    regAt a = some (r, ix) → tidyFields r.fields = true →
    (p a = false → (rf.reset c p).read a = rf.read a) ∧
    (p a = true → ∀ fd ∈ r.fields, getBits ((rf.reset c p).read a).toNat fd.hi fd.lo =
      if fd.cls.contains c then getBits (r.resetVal ix).toNat fd.hi fd.lo else getBits (rf.read a).toNat fd.hi fd.lo) ∧
    ((∀ fd ∈ r.fields, c ∉ fd.cls) → (rf.reset c p).read a = rf.read a)

/-- R32 on BAR0: an access of another width or alignment is an Unsupported Request and is counted; an aligned read of an
offset that no chapter assigns completes with 0, and an aligned write is ignored and completes; both are counted. -/
def Obligations.UnassignedAccess : Prop :=
  ∀ (f : Fn) (s : State), s.blk.barUp f = true →
    let counted := s.blk.bump F.GID_BAD_ACCESS_COUNT_COUNT
    (∀ (off : BitVec 24) (width : BitVec 4), width ≠ 4 ∨ off.toNat % 4 ≠ 0 →
      exec (.badRegisterAccess f off width) s = .next { s with blk := counted.emit (.unsupportedRequest (.fn f)) }) ∧
    (∀ (a : BitVec 24) (v : BitVec 32), a.toNat % 4 ≠ 0 →
      exec (.registerWrite f a v) s = .next { s with blk := counted.emit (.unsupportedRequest (.fn f)) } ∧
      exec (.loHalfRead f a) s = .next { s with blk := counted.emit (.unsupportedRequest (.fn f)) }) ∧
    (∀ (a : BitVec 24) (v : BitVec 32), a.toNat % 4 = 0 → regAt a.toNat = none →
      exec (.loHalfRead f a) s = .next { s with blk := counted.emit (.regRead (.fn f) a.toNat 0) } ∧
      exec (.registerWrite f a v) s = .next { s with blk := counted })

/-- A counter field that is bumped rises by one until it is full and then stays (the counts of Table 1-7 saturate). -/
def Obligations.CountersSaturate : Prop :=
  ∀ (s : Block) (f : Fld) (n : Nat), f.lo ≤ f.hi → f.hi < 32 →
    (s.bump f n).fld f = min (s.fld f + n) (2 ^ (f.hi + 1 - f.lo) - 1) ∧
    ∀ b, b ≠ f.addr → (s.bump f n).reg b = s.reg b

/-- What an ungranted function reaches (R33): no write at all, and reads of the GID block alone; what it may not do is
dropped, reads 0 and is counted. -/
def Obligations.UngrantedReachesNothing : Prop :=
  ∀ (f : Fn) (a : BitVec 24) (v : BitVec 32) (s : State), s.blk.barUp f = true → s.blk.fnKind f = .ungranted →
    a.toNat % 4 = 0 → (regAt a.toNat).isSome = true →
    exec (.registerWrite f a v) s = .next { s with blk := s.blk.scopeViol } ∧
    (0x010000 ≤ a.toNat →
      exec (.loHalfRead f a) s = .next { s with blk := s.blk.scopeViol.emit (.regRead (.fn f) a.toNat 0) })

/-- What a partition-scoped function may not do in the GID, RBT and ALM blocks (R33): every write, and every read of the ALM
window, is outside its reach. -/
def Obligations.ScopedWritesNoGlobals : Prop :=
  ∀ (f : Fn) (p : Nat) (a : BitVec 24) (v : BitVec 32) (s : State), s.blk.barUp f = true → s.blk.fnKind f = .scoped p →
    a.toNat % 4 = 0 → (regAt a.toNat).isSome = true → a.toNat < 0x040000 →
    exec (.registerWrite f a v) s = .next { s with blk := s.blk.scopeViol } ∧
    (0x030000 ≤ a.toNat →
      exec (.loHalfRead f a) s = .next { s with blk := s.blk.scopeViol.emit (.regRead (.fn f) a.toNat 0) })

/-- A read of a register outside the mailboxes changes no register but the counters of R32 and R33, and nothing of the block
but what the reader's latches hold, the free values used and what is sent. -/
def Obligations.RegisterReadFrame : Prop :=
  ∀ (f : Fn) (a : BitVec 24) (s t : State), inMbx a.toNat = false → exec (.loHalfRead f a) s = .next t →
    (∀ b, b ≠ R.GID_BAD_ACCESS_COUNT → b ≠ R.GID_SCOPE_VIOL_COUNT → t.blk.reg b = s.blk.reg b) ∧
    (∀ st ln, t.blk.mem.line st ln = s.blk.mem.line st ln) ∧
    t.blk.pool = s.blk.pool ∧ t.blk.ctl = s.blk.ctl ∧ t.blk.eng = s.blk.eng ∧ t.blk.xlt = s.blk.xlt ∧
    t.blk.host = s.blk.host ∧ t.blk.net = s.blk.net ∧ t.blk.sec = s.blk.sec ∧ t.blk.pwr = s.blk.pwr ∧
    t.blk.boot = s.blk.boot ∧ t.blk.ras = s.blk.ras ∧ t.blk.dbg = s.blk.dbg ∧ t.blk.now = s.blk.now

/-- R13: a read of a _LO half makes the _HI half that its function reads next show what it held at that moment, whatever
happens to the register in between; one that has read no _LO half reads 0. -/
def Obligations.HighHalfIsLatched : Prop :=
  ∀ (s u : Block) (f : Fn) (key a : Nat) (r hi : RegDef) (i j : Nat) (ix : List Nat),
    isLoHalf r.base = true → isHiHalf r.base = false → isHiHalf hi.base = true → regAt (a + 4) = some (hi, ix) →
    (u.bus.latches = (s.readReg f key r i a).2.bus.latches →
      (u.readReg f key hi j (a + 4)).1 =
        ((s.shown f r i a).2.shown f hi i (a + 4)).1 % 2 ^ 32) ∧
    ((u.latch key).read = [] → (u.readReg f key hi j (a + 4)).1 = 0)

/-- Entries 0 to 15 of the twin table, which are firmware's own, drop every write (R200). -/
def Obligations.FirmwareTwinsDropWrites : Prop :=
  ∀ (s : Block) (f : Fn) (key i a v : Nat) (r : RegDef), i < 16 → R.INT_TWIN_BASE_LO 0 ≤ a → a < R.INT_TWIN_PATROL →
    s.writeReg f key r i a v = s

/-- SETUP_LOCK (Table 1-7): a full function sets it, and changes nothing else; another's write is dropped and counted. -/
def Obligations.SetupLockByFullFunctions : Prop :=
  ∀ (by_ : Actor) (s : State),
    (s.blk.actsFull by_ = true → ∃ t, exec (.setupLockSet by_) s = .next t ∧
      t.blk.isSet F.GID_SETUP_LOCK_SETUP_LOCK = true ∧ (∀ b, b ≠ R.GID_SETUP_LOCK → t.blk.reg b = s.blk.reg b) ∧
      t = { s with blk := { s.blk with regs := t.blk.regs } }) ∧
    (s.blk.actsFull by_ = false → exec (.setupLockSet by_) s = .next { s with blk := s.blk.scopeViol })

/-! ## Mailboxes -/

/-- A SEND while BUSY is dropped with LAST_ERR 0x01; one while not BUSY sets bit 0 of the doorbell's REQ (R143). -/
def Obligations.MailboxSend : Prop :=
  ∀ (who : Sender) (ch : Fin 1024) (s : State), s.blk.mbxReach who = true → s.blk.ownsCh who ch.val = true →
    ∃ t, exec (.mbxSend who ch) s = .next t ∧
      (s.blk.isSet (F.MBX_CH_STATUS_BUSY ch.val) = true →
        t.blk.fld (F.MBX_CH_STATUS_LAST_ERR ch.val) = 0x01 ∧ t.blk.reg (R.MBX_CH_DB ch.val) = s.blk.reg (R.MBX_CH_DB ch.val)) ∧
      (s.blk.isSet (F.MBX_CH_STATUS_BUSY ch.val) = false →
        getBits (t.blk.fld (F.MBX_CH_DB_REQ ch.val)) 0 0 = 1 ∧
        t.blk.reg (R.MBX_CH_STATUS ch.val) = s.blk.reg (R.MBX_CH_STATUS ch.val)) ∧
      (∀ b, b ≠ R.MBX_CH_STATUS ch.val → b ≠ R.MBX_CH_DB ch.val → t.blk.reg b = s.blk.reg b) ∧
      t = { s with blk := { s.blk with regs := t.blk.regs } }

/-- A channel is its owner's alone (R139): a node or a full function that does not own it changes nothing of it by CLOSE,
SEND, CANCEL or clearing REPLY; the attempt is counted. -/
def Obligations.MailboxOwnerOnly : Prop :=
  ∀ (who : Sender) (ch : Fin 1024) (s : State), s.blk.mbxReach who = true → s.blk.ownsCh who ch.val = false →
    let denied : State := { s with blk := s.blk.bump F.MBX_DENIED_COUNT_COUNT }
    exec (.mbxClose who ch) s = .next denied ∧ exec (.mbxSend who ch) s = .next denied ∧
    exec (.mbxCancel who ch) s = .next denied ∧ exec (.mbxReplyClear who ch) s = .next denied

/-! ## Stored lines -/

/-- 64 data bytes with their check bytes are CLEAN, poisoned data is POISON and neither is taken for the other; the
all-zero line with V is VACANT (R179 to R182). -/
def Obligations.LineCodeTellsClasses : Prop :=
  (∀ d : List Nat, d.length = 64 → classify (rsEncode d) = .clean d) ∧
  (∀ d : List Nat, d.length = 64 → classify (poisonOver d) = .poison false) ∧
  classify (zeroLine maskK) = .poison false ∧ classify (zeroLine maskV) = .vacant false

/-- A line stored, while no injection is armed at it, is classed and supplies as it was stored; every other line of every
stack keeps its symbols, and nothing but DRAM changes. -/
def Obligations.StoredLineReadsBack : Prop :=
  ∀ (s : Block) (stk dpa : Nat) (v : LineVal), s.injectionAt dpa = false → v.wellSized = true →
    ((s.store stk dpa v.symbols).classOn stk dpa).supplies = some v ∧
    (∀ st ln, st * linesPerStack + ln ≠ stk * linesPerStack + lineIndex dpa →
      (s.store stk dpa v.symbols).mem.line st ln = s.mem.line st ln) ∧
    (∃ m, s.store stk dpa v.symbols = { s with mem := m })

/-- DRAM keeps its canonical form under every operation on it. -/
def Obligations.MemoryKeepsForm : Prop :=
  ∀ m : Memory, m.wf = true →
    (∀ k v, (m.setSym k v).wf = true) ∧ (∀ st ln syms, (m.setLine st ln syms).wf = true) ∧
    (∀ st v, (m.blankStack st v).wf = true) ∧ (∀ st lo n, (m.poisonRange st lo n).wf = true)

/-! ## Shaping -/

/-- R450: at a tick every bucket adds its RATE and is capped at BURST × 2^20; it holds a token when T is at least 2^20; a
charge subtracts 2^20 and touches no other bucket; a shaper of RATE 0 always holds a token and charges nothing. -/
def Obligations.BucketRules : Prop :=
  (∀ (s : Block) (k : Nat), s.accrue.bucketT k = min (s.bucketT k + s.tokenRate k) (s.burstSize k * 2 ^ 20)) ∧
  (∀ (s : Block) (k : Nat), s.holdsToken k = true ↔ 2 ^ 20 ≤ s.bucketT k) ∧
  (∀ (s : Block) (k : Nat), s.holdsToken k = true → (s.charge k).bucketT k = s.bucketT k - 2 ^ 20 ∧
    ∀ j, j ≠ k → (s.charge k).bucketT j = s.bucketT j) ∧
  (∀ (s : Block) (k : Nat), s.tokenRate k = 0 → s.shaperReady k = true ∧ s.takeToken k = s) ∧
  (∀ (s : Block) (k : Nat), s.tokenRate k ≠ 0 → s.shaperReady k = true → (s.takeToken k).bucketT k = s.bucketT k - 2 ^ 20)

/-- R456: an enabled meter colours a cell red, yellow or green by its buckets tp and tc, and takes from them as the colour
says. -/
def Obligations.MeterColours : Prop :=
  ∀ (s : Block) (f : Fin 512), s.isSet (F.SHP_FN_RATE_LO_EN f.val) = true →
    let tc := bkTc f.val
    let tp := bkTp f.val
    let c := (s.meter f.val).1
    let t := (s.meter f.val).2
    (s.bucketT tp < 2 ^ 20 → c = 2 ∧ t.bucketT tp = s.bucketT tp ∧ t.bucketT tc = s.bucketT tc) ∧
    (2 ^ 20 ≤ s.bucketT tp → s.bucketT tc < 2 ^ 20 →
      c = 1 ∧ t.bucketT tp = s.bucketT tp - 2 ^ 20 ∧ t.bucketT tc = s.bucketT tc) ∧
    (2 ^ 20 ≤ s.bucketT tp → 2 ^ 20 ≤ s.bucketT tc →
      c = 0 ∧ t.bucketT tp = s.bucketT tp - 2 ^ 20 ∧ t.bucketT tc = s.bucketT tc - 2 ^ 20)

/-- Over every history of ticks and cells, an enabled meter lets no more pass than its buckets hold and its rates earn: the
green cells stay within tc and CIR, the green and yellow ones within tp and PIR. -/
def Obligations.MeterConforms : Prop :=
  ∀ (s : Block) (f : Fin 512) (evs : List Bool), s.isSet (F.SHP_FN_RATE_LO_EN f.val) = true →
    (s.metered f.val evs).1 * 2 ^ 20 ≤ s.bucketT (bkTc f.val) + ticksIn evs * s.fld (F.SHP_FN_RATE_LO_CIR f.val) ∧
    (s.metered f.val evs).2.1 * 2 ^ 20 ≤ s.bucketT (bkTp f.val) + ticksIn evs * s.fld (F.SHP_FN_RATE_HI_PIR f.val)

/-! ## Objects, programs, partitions, counters -/

/-- An object's VALUE stays in the range of its kind (R347) under every operation of Table 11-16; READ changes nothing, and
an object of kind NONE refuses each. -/
def Obligations.ObjectsStayInRange : Prop :=
  (∀ (o o1 : SyncObj) (op x c : Nat), o.kind = objSemaphore → o.value < 2 ^ 63 → o.apply op x c = some o1 →
    o1.kind = objSemaphore ∧ o1.value < 2 ^ 63) ∧
  (∀ (o o1 : SyncObj) (op x c : Nat), x < 2 ^ 64 → o.value < 2 ^ 64 → o.kind ≠ objNone → o.apply op x c = some o1 →
    o1.kind = o.kind ∧ o1.value < 2 ^ 64 ∧ o1.parties = o.parties) ∧
  (∀ (o : SyncObj) (x c : Nat), o.kind ≠ objNone → o.apply opRead x c = some o) ∧
  (∀ (o : SyncObj) (op x c : Nat), o.kind = objNone → o.apply op x c = none)

/-- Scalar registers (R361): s0 reads 0, unpoisoned, and ignores writes; another reads as it was last written, modulo 2^64,
with its poison bit, and a write leaves the others. -/
def Obligations.ScalarRegisters : Prop :=
  ∀ (c : ProgCore) (n m v : Nat) (p : Bool),
    c.reg 0 = (0, false) ∧ c.setReg 0 v p = c ∧
    (n ≠ 0 → (c.setReg n v p).reg n = (v % 2 ^ 64, p)) ∧ (m ≠ n → (c.setReg n v p).reg m = c.reg m)

/-- What the instructions that compute in the scalar registers do (R362, R364 to R366), for a task that may execute one: the
result modulo 2^64 in d with the poison bit of any source, DIVU and REMU by zero, shift amounts modulo 64, the immediates, LUI;
a branch or a jump whose registers are not poisoned goes to its target or on, JAL and JR link; a CSR is read, and ESEL and RMODE
written with a value they may hold.  Else the program goes on at the next word, and nothing else of the block changes. -/
def Obligations.AluResults : Prop :=
  ∀ (ring : Fin 4096) (seq : BitVec 64) (idx : BitVec 16) (s : State) (e : LogEntry) (t : Task) (p : Prog) (w : Insn),
    s.blk.bexaAt ring.val seq.toNat idx.toNat = some (e, t, p, w) →
    let r := s.bexaRun e t p
    let core := p.core
    let a := (core.reg w.a).1
    let b := (core.reg w.b).1
    let bad := (core.reg w.a).2 || (core.reg w.b).2
    let gives (c : Instr) (v : Nat) (poison : Bool) : Prop := s.ends c (r.withCore (core.setReg w.d v poison)) .next
    let x := (core.reg (getBits w 25 21)).1
    let y := (core.reg (getBits w 20 16)).1
    let clean := (core.reg (getBits w 25 21)).2 = false ∧ (core.reg (getBits w 20 16)).2 = false
    let there : BxEnd := .jump (4 * w.target (core.pc / 4)).toNat
    (w.op = 0x01 →
      (w.func = 0x00 → gives (.aluAdd ring seq idx) ((a + b) % 2 ^ 64) bad) ∧
      (w.func = 0x01 → gives (.aluSub ring seq idx) ((a + 2 ^ 64 - b) % 2 ^ 64) bad) ∧
      (w.func = 0x02 → gives (.aluAnd ring seq idx) (a &&& b) bad) ∧
      (w.func = 0x03 → gives (.aluOr ring seq idx) (a ||| b) bad) ∧
      (w.func = 0x04 → gives (.aluXor ring seq idx) (a ^^^ b) bad) ∧
      (w.func = 0x05 → gives (.aluSll ring seq idx) (a * 2 ^ (b % 64) % 2 ^ 64) bad) ∧
      (w.func = 0x06 → gives (.aluSrl ring seq idx) (a / 2 ^ (b % 64)) bad) ∧
      (w.func = 0x07 → gives (.aluSra ring seq idx) ((signed64 a / 2 ^ (b % 64) % 2 ^ 64).toNat) bad) ∧
      (w.func = 0x08 → gives (.aluSlt ring seq idx) (if signed64 a < signed64 b then 1 else 0) bad) ∧
      (w.func = 0x09 → gives (.aluSltu ring seq idx) (if a < b then 1 else 0) bad) ∧
      (w.func = 0x0A → gives (.aluMul ring seq idx) (a * b % 2 ^ 64) bad) ∧
      (w.func = 0x0B → gives (.aluMulhu ring seq idx) (a * b / 2 ^ 64) bad) ∧
      (w.func = 0x0C → gives (.aluDivu ring seq idx) (if b = 0 then 0xFFFFFFFFFFFFFFFF else a / b) bad) ∧
      (w.func = 0x0D → gives (.aluRemu ring seq idx) (if b = 0 then a else a % b) bad) ∧
      (w.func = 0x0E → gives (.aluMin ring seq idx) (if signed64 b < signed64 a then b else a) bad) ∧
      (w.func = 0x0F → gives (.aluMax ring seq idx) (if signed64 a < signed64 b then b else a) bad)) ∧
    (w.op = 0x02 → gives (.addi ring seq idx) ((a + w.simm) % 2 ^ 64) (core.reg w.a).2) ∧
    (w.op = 0x03 → gives (.andi ring seq idx) (a &&& w.imm) (core.reg w.a).2) ∧
    (w.op = 0x04 → gives (.ori ring seq idx) (a ||| w.imm) (core.reg w.a).2) ∧
    (w.op = 0x05 → gives (.xori ring seq idx) (a ^^^ w.imm) (core.reg w.a).2) ∧
    (w.op = 0x06 →
      let n := getBits w 5 0
      (getBits w 7 6 = 0 → gives (.shiSll ring seq idx) (a * 2 ^ n % 2 ^ 64) (core.reg w.a).2) ∧
      (getBits w 7 6 = 1 → gives (.shiSrl ring seq idx) (a / 2 ^ n) (core.reg w.a).2) ∧
      (getBits w 7 6 = 2 → gives (.shiSra ring seq idx) ((signed64 a / 2 ^ n % 2 ^ 64).toNat) (core.reg w.a).2)) ∧
    (w.op = 0x07 → gives (.lui ring seq idx) (w.simm * 2 ^ 16 % 2 ^ 64) false) ∧
    (clean →
      (w.op = 0x12 → s.ends (.beq ring seq idx) r (if x = y then there else .next)) ∧
      (w.op = 0x13 → s.ends (.bne ring seq idx) r (if x = y then .next else there)) ∧
      (w.op = 0x14 → s.ends (.blt ring seq idx) r (if signed64 x < signed64 y then there else .next)) ∧
      (w.op = 0x15 → s.ends (.bge ring seq idx) r (if signed64 x < signed64 y then .next else there)) ∧
      (w.op = 0x16 → s.ends (.bltu ring seq idx) r (if x < y then there else .next)) ∧
      (w.op = 0x17 → s.ends (.bgeu ring seq idx) r (if x < y then .next else there))) ∧
    (w.op = 0x18 → s.ends (.jal ring seq idx) (r.withCore (core.setReg 31 (core.pc + 4) false)) there) ∧
    (w.op = 0x19 → (core.reg w.a).2 = false → a % 4 = 0 → a < 4 * p.text.length →
      s.ends (.jr ring seq idx) (r.withCore (core.setReg w.d (core.pc + 4) false)) (.jump a)) ∧
    (w.op = 0x1A → getBits w 15 15 = 0 → ∀ old, r.csr (getBits w 11 0) = some old → gives (.csrRead ring seq idx) old false) ∧
    (w.op = 0x1A → getBits w 15 15 = 1 → (core.reg w.a).2 = false →
      (getBits w 11 0 = 0x008 → 1 ≤ a → a < 16 → s.ends (.csrWrite ring seq idx)
        (r.withCore (({ core with esel := a } : ProgCore).setReg w.d core.esel false)) .next) ∧
      (getBits w 11 0 = 0x009 → a < 16 → a % 8 < 5 → s.ends (.csrWrite ring seq idx)
        (r.withCore (({ core with rmode := a } : ProgCore).setReg w.d core.rmode false)) .next)) ∧
    (w.op = 0x1B → w.func = 6 → s.ends (.sysFence ring seq idx) r .next)

/-- DEFINE of a FREE partition, while no command is busy and none of its logical devices is TSP locked: the partition is
DEFINED, CODE 0 with DONE, no other partition's state changes (R460, R461). -/
def Obligations.DefineFreePartition : Prop :=
  ∀ (by_ : Actor) (p : Fin 32) (s : State), s.blk.actsFull by_ = true → s.blk.isSet F.PTN_CMD_STATUS_BUSY = false →
    s.blk.ptnState p.val = ptnFree → (s.blk.ldsOf p.val).any s.blk.tspIsLocked = false →
    ∃ t, exec (.define by_ p) s = .next t ∧ t.blk.ptnState p.val = ptnDefined ∧
      (∀ q : Fin 32, q ≠ p → t.blk.ptnState q.val = s.blk.ptnState q.val) ∧
      t.blk.fld F.PTN_CMD_STATUS_CODE = 0 ∧ t.blk.isSet F.PTN_CMD_STATUS_DONE = true ∧
      t = { s with blk := { s.blk with regs := t.blk.regs } }

/-- A counter that is raised wraps from 2^48 − 1 to 0 and then has OVF set; no other counter changes (R507). -/
def Obligations.CountersWrap : Prop :=
  ∀ (d : DbgSt) (n k : Nat),
    Assoc.get 0 n (d.count n k).counts = (Assoc.get 0 n d.counts + k) % 2 ^ 48 ∧
    (2 ^ 48 ≤ Assoc.get 0 n d.counts + k → n ∈ (d.count n k).ovf) ∧
    (∀ m, m ≠ n → Assoc.get 0 m (d.count n k).counts = Assoc.get 0 m d.counts ∧ (m ∈ (d.count n k).ovf ↔ m ∈ d.ovf))

/-- What the counter commands leave (R507 to R510): every register but CTL of the counter, FREEZE, the command's status and
the count of R33; DRAM; and everything of the block but the debug unit. -/
def Obligations.CounterCommandsFrame : Prop :=
  ∀ (by_ : Actor) (n : BitVec 8) (v : BitVec 32) (b : Bool) (s t : State),
    exec (.counterConfigure by_ n v) s = .next t ∨ exec (.counterClear by_ n) s = .next t ∨
      exec (.counterFreeze by_ b) s = .next t →
    (∀ a, a ≠ R.DBG_CNT_CTL n.toNat → a ≠ R.DBG_CNT_GLOBAL → a ≠ R.DBG_CMD_STATUS → a ≠ R.GID_SCOPE_VIOL_COUNT →
      t.blk.reg a = s.blk.reg a) ∧
    (∀ st ln, t.blk.mem.line st ln = s.blk.mem.line st ln) ∧
    t.blk = { s.blk with regs := t.blk.regs, dbg := t.blk.dbg } ∧ t.tap = s.tap

/-! ## What each command does, family by family -/


/-- What each register access command does: each completes in every state, changes nothing but the block (its JTAG port and queue stay, but for the JTAG
rows), and does what its clause says in the model's named operations. -/
def Obligations.RegisterCommands : Prop :=
  (∀ (f : Fn) (addr : BitVec 24) (value : BitVec 32) (s : State), s.does (.registerWrite f addr value) fun s => (
        if !s.barUp f then s
        else if addr.toNat % 4 ≠ 0 then s.badAccess.emit (.unsupportedRequest (.fn f))
        else s.fnWrite f addr.toNat value.toNat)) ∧
  (∀ (f : Fn) (addr : BitVec 24) (s : State), s.does (.loHalfRead f addr) fun s => (
        if !s.barUp f then s
        else if addr.toNat % 4 ≠ 0 then s.badAccess.emit (.unsupportedRequest (.fn f))
        else
          let (v, t) := s.fnRead f addr.toNat
          t.emit (.regRead (.fn f) addr.toNat v))) ∧
  (∀ (f : Fn) (off : BitVec 24) (width : BitVec 4) (s : State), s.does (.badRegisterAccess f off width) fun s => (
        if s.barUp f && (decide (width ≠ 4) || decide (off.toNat % 4 ≠ 0)) then s.badAccess.emit (.unsupportedRequest (.fn f))
        else s)) ∧
  (∀ (by_ : Actor) (s : State), s.does (.setupLockSet by_) fun s => (s.byFull by_ fun t => t.setFld F.GID_SETUP_LOCK_SETUP_LOCK 1)) ∧
  (∀ (port : Fin 96) (s : State), s.does (.mgmtRegRead port) fun s => (
        match s.mgmtCell port.val 0x01 fun _ => true with
        | none => s
        | some e =>
          let (v, t) := s.nodeRead (BitVec.ofNat 20 e.cell.src) e.cell.mbxOffset
          (t.finishCell e rsOk 0 v).getD s)) ∧
  (∀ (port : Fin 96) (s : State), s.does (.mgmtRegWrite port) fun s => (
        match s.mgmtCell port.val 0x02 fun _ => true with
        | none => s
        | some e =>
          ((s.nodeWrite (BitVec.ofNat 20 e.cell.src) e.cell.mbxOffset (e.cell.f 8 31 0)).finishCell e rsOk 0 0).getD s)) ∧
  (∀ (path : MctpPath) (session : Option (Fin 16)) (addr : BitVec 32) (count : BitVec 8) (s : State), s.does (.mctpRegRead path session addr count) fun s => (s.tabragar path session (lowWords addr.toNat count.toNat false) (lowWords addr.toNat count.toNat true) fun t =>
        match wordsAt addr.toNat count.toNat with
        | none => ({ code := tabBadAccess }, t.badAccess)
        | some offs =>
          let (vs, u) := offs.foldl (fun (acc : List Word × Block) a =>
            let (v, x) := acc.2.fnRead (.mctp path) a
            (acc.1 ++ [BitVec.ofNat 32 v], x)) ([], t)
          ({ code := tabOk, words := vs }, u))) ∧
  (∀ (path : MctpPath) (session : Option (Fin 16)) (addr : BitVec 32) (values : List Word) (s : State), s.does (.mctpRegWrite path session addr values) fun s => (s.tabragar path session false false fun t =>
        match wordsAt addr.toNat values.length with
        | none => ({ code := tabBadAccess }, t.badAccess)
        | some offs => ({ code := tabOk }, forEach (offs.zip values) (fun e u => u.fnWrite (.mctp path) e.1 e.2.toNat) t)))

/-- What each power, clock and thermal command does: each completes in every state, changes nothing but the block (its JTAG port and queue stay, but for the JTAG
rows), and does what its clause says in the model's named operations. -/
def Obligations.PowerCommands : Prop :=
  (∀ (s : State), s.does .powerOn fun s => (
        if s.boot.phase = .unpowered then
          ((s.setBoot { s.boot with cold := true, cause := 0x00 }).emit (.reset 0x00 0)).beginCold
        else s)) ∧
  (∀ (s : State), s.does .undervoltageShutdown fun s => (
        match s.boot.phase with
        | .unpowered => s
        | .latched => s.goTo .unpowered
        | _ => s.shutDown .unpowered)) ∧
  (∀ (s : State), s.does .overvoltageShutdown fun s => (if s.powered then s.shutDown .latched else s)) ∧
  (∀ (on : Bool) (s : State), s.does (.inputLow on) fun s => (
        if !s.powered then s
        else
          let t := s.setPwr { s.pwr with low := on }
          if on ∧ !s.pwr.low then t.emit (.pldm .inputLow) else t)) ∧
  (∀ (on : Bool) (s : State), s.does (.inputHigh on) fun s => (
        if !s.powered then s
        else
          let t := s.setPwr { s.pwr with high := on }
          if on ∧ !s.pwr.high then t.emit (.pldm .inputHigh) else t)) ∧
  (∀ (s : State), s.does .peakPowerLimit fun s => (if s.railsUp then s.lowerVcore else s)) ∧
  (∀ (unmet : Bool) (s : State), s.does (.powerExcursionTimeout unmet) fun s => (
        if !s.railsUp then s
        else if unmet then
          let s1 := s.setPwr { s.pwr with unmet := true, alert := true }
          (forEach (List.range 4) (fun d t => t.setVcore d 650) s1).emit (.pldm .limitUnmet)
        else (s.setPwr { s.pwr with unmet := false }).lowerVcore)) ∧
  (∀ (watts : BitVec 16) (s : State), s.does (.setPowerLimit watts) fun s => (
        let w := watts.toNat
        if !s.islandUp then s
        else if s.switching then s.emit (.pldmReply .notReady)
        else if 1000 ≤ w ∧ w ≤ 1800 ∧ w % 10 = 0 then (s.setPwr { s.pwr with limit := w }).emit (.pldmReply .ok)
        else s.emit (.pldmReply .invalidData))) ∧
  (∀ (die : Fin 4) (stage : Fin 2) (s : State), s.does (.powerStageFail die stage) fun s => (
        let d := die.val
        let f := F.RAS_STAGE_STATE_FAILED d
        if !s.powered || decide (getBits (s.fld f) stage.val stage.val = 1) then s
        else
          let s1 := s.setFld f (setBits (s.fld f) stage.val stage.val 1)
          if s1.fld f = 3 then s1.loseDie d
          else ((s1.setVcore d (s1.vcoreOf d)).bump F.RAS_SINGLE_COUNT_COUNT).emit (.pldm (.stageFailed d stage.val)))) ∧
  (∀ (s : State), s.does .pwrFailAssert fun s => (
        let s1 := s.setPwr { s.pwr with failPin := true }
        if !s.powered || s.pwr.ignored || s.pwr.held then s1 else s1.failHold)) ∧
  (∀ (s : State), s.does .flushComplete fun s => (
        if !s.pwr.flushing then s
        else
          let t := s.flushWritten
          if t.pwr.held then (if t.pwr.ignored then t.endHold else t)
          else if t.boot.phase = .entry then t.cutRails else t)) ∧
  (∀ (s : State), s.does .pwrFailRelease fun s => (s.setPwr { s.pwr with failPin := false })) ∧
  (∀ (s : State), s.does .pwrFailResume fun s => (
        if s.pwr.failPin then s
        else
          let t := s.setPwr { s.pwr with ignored := false }
          if t.pwr.held ∧ !t.pwr.flushing ∧ !t.pwr.low then t.endHold else t)) ∧
  (∀ (s : State), s.does .pwrFailStuck fun s => (
        if !s.powered || s.pwr.ignored || !s.pwr.failPin || s.pwr.low then s
        else
          let t := (s.setPwr { s.pwr with ignored := true, alert := true }).emit (.pldm .failStuck)
          if t.pwr.held ∧ !t.pwr.flushing then t.endHold else t)) ∧
  (∀ (die : Fin 4) (s : State), s.does (.vcoreDroop die) fun s => (if s.railsUp then s.loseDie die.val else s)) ∧
  (∀ (tj : BitVec 32) (tcase : BitVec 144) (s : State), s.does (.thermalSample tj tcase) fun s => (
        if !s.railsUp then s
        else
          let a := sampleBytes 4 tj.toNat
          let b := sampleBytes 18 tcase.toNat
          let s1 := s.setPwr { s.pwr with
            tj := a, tcase := b, throttled := s.throttledBy a
            clamped := (List.range 4).filter fun d => decide (105 ≤ a.getD d 0) }
          let s2 := forEach (List.range 4) (fun d t => t.setVcore d (t.vcoreOf d)) s1
          let s3 := forEach (List.range 18) (fun k t => t.stackTemp k (b.getD k 0)) s2
          let tripping := decide (s.boot.phase = .entry) && decide (s.boot.cause = 0x02)
          if !tripping && ((a.any fun x => decide (115 ≤ x)) || b.any fun x => decide (100 ≤ x)) then s3.thermalTrip else s3)) ∧
  (∀ (die : Fin 4) (s : State), s.does (.throttleStep die) fun s => (
        if s.pwr.throttled.contains die.val ∧ s.railsUp then s.setVcore die.val (s.vcoreOf die.val - 10) else s)) ∧
  (∀ (die : Fin 4) (setPoint : Option (BitVec 10)) (within : Bool) (s : State), s.does (.vcoreRaiseStep die setPoint within) fun s => (
        let d := die.val
        if !s.railsUp then s
        else
          let s1 := if within then s.setPwr { s.pwr with unmet := false } else s
          let t := match setPoint with
            | some mv => s1.setPointOf d mv.toNat
            | none => s1
          let goal := t.pwr.setPoint.getD d 800
          if t.pwr.throttled.contains d ∨ goal ≤ t.vcoreOf d then t
          else t.setVcore d (min goal (t.vcoreOf d + 10)))) ∧
  (∀ (s : State), s.does .bnXinLoss fun s => (
        if s.pwr.bnLost ∨ !s.powered then s
        else
          let s1 := (s.setPwr { s.pwr with bnLost := true }).abandonCommit.dropSessions
          forEach (List.range 4) (fun d t => (t.dropLinks d).dropPorts d) s1)) ∧
  (∀ (unit : CrossUnit) (cross : CrossStep) (s : State), s.does (.crossingInbound unit cross) fun s => (if s.crosses unit then (s.cross true unit cross).crossOff unit else s)) ∧
  (∀ (unit : CrossUnit) (cross : CrossStep) (s : State), s.does (.crossingOutbound unit cross) fun s => (if s.crosses unit then s.cross false unit cross else s)) ∧
  (∀ (rates : BitVec 64) (s : State), s.does (.beatRateUpdate rates) fun s => (
        let read (d : Nat) : Nat := getBits rates.toNat (16 * d + 15) (16 * d)
        match (List.range 4).filter fun d => !s.dieOut d with
        | [] => s
        | d :: ds => s.setFld F.GID_BEAT_RATE_MBEATS (ds.foldl (fun m e => min m (read e)) (read d)))) ∧
  (∀ (s : State), s.does .pldmSensorRead fun s => (
        if !s.islandUp then s
        else if s.switching then s.emit (.pldmReply .notReady)
        else
          let (rails, t) := s.senseRails
          t.emit (.pldmReply (.sensors (t.fld F.RAS_HEALTH_LEVEL) rails t.pwr.tj t.pwr.tcase (t.fld F.GID_BEAT_RATE_MBEATS)
            t.limitNow (t.fld F.RBT_STATUS_STAGE) t.pwr.low t.pwr.high t.pwr.unmet (t.isSet F.ALM_STATUS_ADRIFT))))) ∧
  (∀ (s : State), s.does .vbkRetentionLoss fun s => (if s.boot.phase = .unpowered then s.setBoot { s.boot with vbkOk := false, flush := .unknown } else s))

/-- What each command of the Cold and Warm resets and of the almanac does: each completes in every state, changes nothing but the block (its JTAG port and queue stay, but for the JTAG
rows), and does what its clause says in the model's named operations. -/
def Obligations.ResetCommands : Prop :=
  (∀ (s : State), s.does .rstNAssert fun s => (
        match s.boot.phase with
        | .thermalHold _ => if s.holdMayClear then s.clearHold else s
        | _ => if s.pwr.flushing then s else s.raiseModule false 0x04)) ∧
  (∀ (by_ : Actor) (target : BitVec 7) (s : State), s.does (.resetCmdCold by_ target) fun s => (s.byFull by_ fun t =>
        if target ≠ 0 then t.cmdErr
        else if t.isSet F.RBT_CMD_STATUS_ARMED then
          (t.setFld F.RBT_CMD_STATUS_ARMED 0).raiseModule true 0x01
        else t.setFld F.RBT_CMD_STATUS_ARMED 1)) ∧
  (∀ (s : State), s.does .coldArmExpiry fun s => (s.setFld F.RBT_CMD_STATUS_ARMED 0)) ∧
  (∀ (by_ : Actor) (target : BitVec 7) (s : State), s.does (.resetCmdWarm by_ target) fun s => (s.byFull by_ fun t =>
        if target ≠ 0 then t.cmdErr else t.raiseModule false 0x05)) ∧
  (∀ (s : State), s.does .binnacleWatchdog fun s => (if s.ras.activation.isSome then s else s.raiseModule false 0x06)) ∧
  (∀ (s : State), s.does .trialBootExpiry fun s => (
        if s.boot.trial then ((s.setFld F.RAS_UPDATE_STATUS_RESULT 0x4)).raiseModule false 0x08 else s)) ∧
  (∀ (forced : BitVec 4) (s : State), s.does (.resetEntryDone forced) fun s => (
        if s.boot.phase = .entry ∧ !s.pwr.held ∧ !s.pwr.flushing ∧ s.boot.rwp = [] then
          (forEach ((List.range 4).filter fun d => forced.getLsbD d) (fun d t => t.emit (.resetForced s.boot.cause d)) s).endEntry
        else s)) ∧
  (∀ (s : State), s.does .railOffEnd fun s => (if s.boot.phase = .railsOff ∧ !s.pwr.held then s.beginCold else s)) ∧
  (∀ (silent : List (Fin 32)) (pieces : List (Fin 32 × Bool × BitVec 16 × List (BitVec 8) × List (BitVec 8))) (headers : List (Fin 4096 × BitVec 64 × List (BitVec 8) × List (BitVec 8))) (s : State), s.does (.logbookReplay silent pieces headers) fun s => (s.atStep 9 fun t =>
        let t1 := (t.reviveUnits).reTear
        let w : FlushFaults := { silent := silent.map (·.val), read := pieces.map fun x =>
          ((x.1.val, x.2.1, x.2.2.1.toNat), (x.2.2.2.1, x.2.2.2.2)) }
        let t2 := if t.boot.cold then t1.restoreLog w else t1
        let lost := t2.corruptEntries (headers.map fun x => ((x.1.val, x.2.1.toNat), (x.2.2.1, x.2.2.2)))
        ((t2.loseEntries lost).replay).goTo (.release 10))) ∧
  (∀ (s : State), s.does .portsRelease fun s => (s.atStep 10 fun t =>
        let t1 := forEach ((List.range 96).filter fun l => !t.dieOut (l / 24)) (fun l u => u.releaseLink l) t
        (t1.setFld F.RBT_BOOT_TIME_MS ((t.now - t.boot.t0) / 1000)).goTo .running)) ∧
  (∀ (s : State), s.does .thermalHoldClear fun s => (
        match s.boot.phase with
        | .thermalHold _ =>
          if s.holdMayClear then s.clearHold.emit (.pldmReply .ok) else s.emit (.pldmReply .notReady)
        | _ => if s.islandUp then s.emit (.pldmReply .ok) else s)) ∧
  (∀ (by_ : Actor) (slot : Bool) (s : State), s.does (.rwpWrite by_ slot) fun s => (s.byFull by_ fun t => t.writePref slot)) ∧
  (∀ (s : State), s.does .rwpPersist fun s => s.persistNext) ∧
  (∀ (by_ : Actor) (s : State), s.does (.almCommitGo by_) fun s => (s.byFull by_ fun t => t.commitGo.showCfgBytes)) ∧
  (∀ (ok : Bool) (s : State), s.does (.almCommitDone ok) fun s => (
        match s.boot.commit with
        | none => s
        | some c =>
          if ok then
            let s1 := (s.putCopy c.copyB (newCopy c.seq c.body)).bump (commitsOf c.copyB)
            if c.thenB then s1.setBoot { s1.boot with commit := some { c with copyB := true, thenB := false } }
            else (((s1.endCommit 0x00).showCopies).extend 7 [c.seq]).endAdrift
          else s.cutCommit c 0x03)) ∧
  (∀ (aOk : Bool) (bOk : Bool) (s : State), s.does (.almRecheck aOk bOk) fun s => (
        let s1 := if aOk then s else s.spoilCopy false
        (if bOk then s1 else s1.spoilCopy true).afterCheck)) ∧
  (∀ (region : AlmRegion) (lost : Bool) (s : State), s.does (.almScrub region lost) fun s => (if lost then (s.bump F.INT_ALM_UE_COUNT_COUNT).almLost region else s.bump F.INT_ALM_CE_COUNT_COUNT)) ∧
  (∀ (s : State), s.does .rindSecurityReset fun s => (s.raiseModule true 0x03))

/-- What each command of the boot does: each completes in every state, changes nothing but the block (its JTAG port and queue stay, but for the JTAG
rows), and does what its clause says in the model's named operations. -/
def Obligations.BootCommands : Prop :=
  (∀ (s : State), s.does .mainStagesStart fun s => (s.atStep 4 fun t =>
        (forEach (List.range 4) (fun d u => u.setVcore d 800)
          (t.setPwr { t.pwr with setPoint := List.replicate 4 800 })).goTo (.release 5))) ∧
  (∀ (s : State), s.does .binnacleRelease fun s => (
        let s1 := s.setPwr { s.pwr with bnLost := false }
        let s2 := if s.pwr.bnLost ∧ s.boot.phase = .running then
            forEach ((List.range 96).filter fun l => !s.dieOut (l / 24)) (fun l t => t.releaseLink l) s1
          else s1
        s2.atStep 1 fun t => t.goTo (.release 2))) ∧
  (∀ (samples : BitVec 128) (s : State), s.does (.backupDomainCheck samples) fun s => (s.atStep 2 fun t =>
        let t1 := t.countReset
        let t2 := if t.boot.cold then
            (t1.sampleRsel samples).setBit F.RBT_LAST_CAUSE_NO_FLUSH (decide (t1.boot.flush = .noFlush))
          else t1
        t2.goTo (.release 3))) ∧
  (∀ (bchA : Bool) (bchB : Bool) (aOk : Bool) (bOk : Bool) (s : State), s.does (.configSelect bchA bchB aOk bOk) fun s => (s.atStep 3 fun t =>
        if !bchA && !bchB then (t.setFld F.INT_SELFTEST_RESULT 0x3).goTo .held
        else
          let t1 := t.setBit F.INT_SELFTEST_BCH_ONE (!(bchA && bchB))
          let t2 := if aOk then t1 else t1.spoilCopy false
          let t3 := ((if bOk then t2 else t2.spoilCopy true).showCopies).loadConfig
          let t4 := if t3.boot.cold then t3.rewash else t3.settleBlocks
          (((t4.setBit F.ALM_STATUS_WORN_ANY (decide (rwpWorn ≤ t.rwpNow.count))).setBit F.ALM_STATUS_NEAR_WORN_ANY
            (decide (rwpNear < t.rwpNow.count))).showCfgBytes).goTo (.release 4))) ∧
  (∀ (s : State), s.does .firmwareVerify fun s => (s.atStep 5 fun t =>
        if t.isSet F.RBT_STATUS_RECOVERY then t.bootRecovery
        else if t.boot.cold then t.verifyCold else t.verifyWarm)) ∧
  (∀ (failed : BitVec 4) (claims : List (BitVec 20)) (s : State), s.does (.helmRelease failed claims) fun s => (s.atStep 6 fun t =>
        if t.isSet F.RBT_STATUS_RECOVERY then t.goTo .recovery
        else
          let t1 := forEach ((List.range 4).filter fun d => failed.getLsbD d) (fun d u => u.loseDie d) t
          (if t.boot.cold then t1.claimBlocks claims else t1).goTo (.release 7))) ∧
  (∀ (lanes : List (Fin 18 × Fin 64 × Fin 39)) (banks : List (Fin 18 × Fin 64)) (whole : BitVec 18) (repairs : List (Fin 18 × Fin 64 × Fin 64 × BitVec 15)) (s : State), s.does (.dramTrain lanes banks whole repairs) fun s => (s.atStep 7 fun t =>
        if !t.boot.cold then t
        else
          let t1 := ((t.trainRoles).loadMasks)
          let t2 := forEach (List.range 18) (fun k u => (u.harden k).rebuildMap k repairs) t1
          let t3 := forEach lanes (fun x u => u.trainLanes x.1.val x.2.1.val x.2.2.val) t2
          let t4 := forEach banks (fun x u => u.failPc x.1.val x.2.val) t3
          let t5 := forEach (List.range 18) (fun k u =>
            u.setStk k { u.stk k with failedWhole := (u.stk k).failedWhole || whole.getLsbD k }) t4
          let bad (k : Nat) : Bool := t5.hasFailed k || (t5.stk k).failedWhole
          let t6 := forEach (List.range 18) (fun k u => u.trained k
            (if bad k then 3 else if lanes.any fun x => decide (x.1.val = k) then 2 else 1)) t5
          let t7 := forEach ((List.range 18).filter bad) (fun k u => u.trainedOut bad k) t6
          let t8 : Block := { t7 with mem := { cells := [], vacant := [] } }
          ((t8.placeSpares).countDram).goTo (.release 8))) ∧
  (∀ (failed : List (Fin 18 × Fin 64)) (repairs : List (Fin 18 × Fin 64 × Fin 64 × BitVec 15)) (s : State), s.does (.dramRetrain failed repairs) fun s => (s.atStep 7 fun t =>
        if t.boot.cold then t
        else
          let live (k : Nat) : Bool := decide (t.role k ≠ roleRetired) && (t.reachable k || decide (16 ≤ k))
          let t1 := forEach ((List.range 18).filter live) (fun k u =>
            let v := ((u.wakeStack k).trained k (if (u.stk k).retrain then 1 else 4)).rebuildMap k repairs
            if u.role k = roleArmed then v.sleepStack k else v) t
          let t2 := forEach failed (fun x u => u.failPc x.1.val x.2.val) t1
          let hit := (List.range 16).filter fun k => failed.any fun x => decide (x.1.val = k)
          let t3 := forEach hit (fun k u =>
            if u.role k = roleServing then
              if u.role (spareOf k) = roleArmed ∧ (u.stk (spareOf k)).replaces.isNone then u.replaceStack k else u.wantSpare k
            else u) t2
          let t4 := forEach ([16, 17].filter fun k => failed.any fun x => decide (x.1.val = k)) (fun k u =>
            if u.role k = roleServing then u.leaveFailed k
            else if u.role k = roleCopyIn then u.spareFails k else u.setFld (F.DRC_STACK_ID_ROLE k) roleRetired) t3
          t4.goTo (.release 8))) ∧
  (∀ (dies : BitVec 4) (found : List (Fin 4 × Fin 4)) (clusters : BitVec 36) (cores : List (Fin 324)) (ways : List (Fin 36 × BitVec 8 × Fin 16)) (channels : List (Fin 32 × BitVec 8)) (rawGib : BitVec 32) (s : State), s.does (.poolDieRelease dies found clusters cores ways channels rawGib) fun s => (s.atStep 8 fun t =>
        let t1 := forEach ((List.range 4).filter t.releases) (fun d u => if dies.getLsbD d then u.loseDie d else u.releaseDie d) t
        let t2 := if t.boot.cold then t1.discover channels rawGib else t1
        let ports := failedPorts found
        let t3 := forEach ports (fun x u => u.failStackPort x.1 x.2) t2
        let bad := (List.range 36).filter fun c => clusters.getLsbD c
        let t4 := forEach bad (fun c u => u.failCluster c) t3
        let t5 := forEach cores (fun k u => if u.fld (F.ENG_CORE_STATE_STATE k.val) = csIn then u.failCore k.val else u) t4
        let t6 := forEach ways (fun w u => u.retireWay w.1.val w.2.1.toNat w.2.2.val) t5
        let sram := bad.length + cores.length + ways.length
        let some_ := decide (dies ≠ 0) || decide (ports ≠ []) || decide (sram ≠ 0)
        let t7 := ((t6.setFld F.INT_SELFTEST_RS_FAILED (min ports.length 255)).setFld F.INT_SELFTEST_SRAM_FAILED
          (min sram 255)).setFld F.INT_SELFTEST_RESULT (if some_ then 2 else 1)
        let held := match t7.selectedCopy with
          | some c => c.body.regs.map (·.1)
          | none => []
        ((t7.followChannels.defaultQuotas held).countCaps).goTo (.release 9))) ∧
  (∀ (slot : Bool) (image : FwImage) (s : State), s.does (.firmwareUpdateHeld slot image) fun s => (
        if s.boot.phase ≠ .held then s
        else
          let s1 := s.setBoot (if slot then { s.boot with fwB := some image } else { s.boot with fwA := some image })
          let (ok, s2) := s1.verify slot
          if ok ∧ s.fld F.INT_SELFTEST_RESULT ≠ 0x3 then
            ((((((s2.runSlot slot image).revokeKey image.key image.revoke).measureRind).measureImage image 2).measureRest).goTo (.release 6)).emit
              (.pldmReply .ok)
          else s2.emit (.pldmReply (if ok then .ok else .verifyFailed)))) ∧
  (∀ (s : State), s.does .trialConfirm fun s => (
        if s.boot.trial ∧ s.boot.phase = .running then
          ((((s.setBoot { s.boot with trial := false }).setFld F.RBT_FW_STATUS_TRIAL 0).setFld F.RAS_UPDATE_STATUS_RESULT 0x2).writePref
            s.boot.slotB).setBit F.RBT_FW_STATUS_FALLBACK false
        else s))

/-- What each Die, cluster, Port and Link reset command does: each completes in every state, changes nothing but the block (its JTAG port and queue stay, but for the JTAG
rows), and does what its clause says in the model's named operations. -/
def Obligations.LocalResetCommands : Prop :=
  (∀ (by_ : Actor) (target : BitVec 7) (s : State), s.does (.resetCmdDie by_ target) fun s => (s.byFull by_ fun t => if 3 < target.toNat then t.cmdErr else t.raiseDie target.toNat 0x0A)) ∧
  (∀ (by_ : Actor) (target : BitVec 7) (forced : Bool) (s : State), s.does (.resetCmdCluster by_ target forced) fun s => (s.byFull by_ fun t => if 35 < target.toNat then t.cmdErr else t.resetCluster target.toNat forced)) ∧
  (∀ (by_ : Actor) (target : BitVec 7) (s : State), s.does (.resetCmdPort by_ target) fun s => (s.byFull by_ fun t => if t.hostPorts ≤ target.toNat then t.cmdErr else t.resetPort target.toNat 0x0E)) ∧
  (∀ (by_ : Actor) (target : BitVec 7) (s : State), s.does (.resetCmdLink by_ target) fun s => (s.byFull by_ fun t => if 95 < target.toNat then t.cmdErr else t.raiseLink target.toNat 0x0F)) ∧
  (∀ (die : Fin 4) (s : State), s.does (.helmWatchdog die) fun s => (if s.ras.activation.isSome || !s.powered then s else s.raiseDie die.val 0x09)) ∧
  (∀ (port : Fin 16) (s : State), s.does (.hpPerstAssert port) fun s => (
        let p := port.val
        if s.boot.perst.contains p then s
        else
          let t := s.setBoot { s.boot with perst := p :: s.boot.perst }
          if t.powered && decide (p < t.hostPorts) then t.resetPort p 0x0C else t)) ∧
  (∀ (port : Fin 16) (s : State), s.does (.cxlHotReset port) fun s => (if !s.powered || decide (s.hostPorts ≤ port.val) then s else s.resetPort port.val 0x0D)) ∧
  (∀ (port : Fin 16) (speed : Fin 6) (width : Fin 5) (flit : Fin 3) (mem : Bool) (s : State), s.does (.hostLinkTrain port speed width flit mem) fun s => (
        let p := port.val
        if !s.portTrains p || (decide (flit.val = 0) && !(decide (2 ≤ speed.val) && decide (speed.val ≤ 4))) then s
        else
          ((((s.setBit (F.HPT_PORT_STATUS_UP p) (mem && decide (s.boot.phase = .running))).setFld (F.HPT_PORT_STATUS_SPEED p)
            speed.val).setFld (F.HPT_PORT_STATUS_WIDTH p) (s.portLanes width.val)).setFld (F.HPT_PORT_STATUS_FLIT p)
            flit.val).setFld (F.HPT_PORT_STATUS_LDS p) (Assoc.get 0 p s.host.lds))) ∧
  (∀ (port : Fin 8) (lost : Bool) (s : State), s.does (.hpRefclkLoss port lost) fun s => (
        let k := port.val
        if !lost then s.setPwr { s.pwr with hpLost := s.pwr.hpLost.filter (· ≠ k) }
        else if s.pwr.hpLost.contains k then s
        else
          let s1 := s.setPwr { s.pwr with hpLost := k :: s.pwr.hpLost }
          forEach ((List.range s.hostPorts).filter fun p => decide (s.clockOf p = k))
            (fun p t => if t.portUp p then t.downPort p else t) s1)) ∧
  (∀ (port : Fin 16) (s : State), s.does (.hpPerstRelease port) fun s => (s.setBoot { s.boot with perst := s.boot.perst.filter (· ≠ port.val) }))

/-- What each ring command does: each completes in every state, changes nothing but the block (its JTAG port and queue stay, but for the JTAG
rows), and does what its clause says in the model's named operations. -/
def Obligations.RingCommands : Prop :=
  (∀ (dpa : BitVec 52) (s : State), s.does (.watchHit dpa) fun s => (s.watchHit dpa.toNat)) ∧
  (∀ (ring : Fin 4096) (s : State), s.does (.ringService ring) fun s => (if (s.ring ring.val).pending ∧ (s.ring ring.val).armed then s.service ring.val else s)) ∧
  (∀ (ring : Fin 4096) (s : State), s.does (.descriptorReread ring) fun s => (
        let g := s.ring ring.val
        if g.seqWait || g.checkWait then s.accept ring.val else s)) ∧
  (∀ (ring : Fin 4096) (s : State), s.does (.seqStuckTimeout ring) fun s => (if (s.ring ring.val).seqWait then s.ringError ring.val 0x03 else s)) ∧
  (∀ (ring : Fin 4096) (s : State), s.does (.checkRetryTimeout ring) fun s => (
        let r := ring.val
        if (s.ring r).checkWait && s.mayAccept r then
          match s.look r with
          | (.badCheck d, s1) =>
            match s1.offerEntry r d true with
            | (true, s2) => s2.accept r
            | (false, s2) => s2
          | (_, s1) => s1.accept r
        else s)) ∧
  (∀ (s : State), s.does .logbookWaitResume fun s => (
        match s.ctl.waiting.find? fun r => s.mayAccept r && s.entryFree (s.ringPtn r) with
        | some r => s.accept r
        | none => s)) ∧
  (∀ (ring : Fin 4096) (s : State), s.does (.acceptDescriptor ring) fun s => ((s.acceptOne ring.val).2)) ∧
  (∀ (ring : Fin 4096) (seq : BitVec 64) (s : State), s.does (.descriptorDone ring seq) fun s => (
        match s.entry ring.val seq.toNat with
        | some e =>
          match e.fin with
          | some f => if e.settled || e.held then s else s.finishEntry e f
          | none => s
        | none => s)) ∧
  (∀ (ring : Fin 4096) (s : State), s.does (.completionWrite ring) fun s => (s.completeNext ring.val)) ∧
  (∀ (by_ : Actor) (ring : Fin 4096) (s : State), s.does (.resumeRing by_ ring) fun s => (s.rngCmd by_ ring.val fun t =>
        if t.ringMode ring.val = mdColdHold then ((t.leaveHold ring.val).service ring.val).rngDone
        else t.rngRefused)) ∧
  (∀ (by_ : Actor) (ring : Fin 4096) (s : State), s.does (.restartRing by_ ring) fun s => (s.rngCmd by_ ring.val fun t =>
        let r := ring.val
        let t1 := t.setFld (F.RNG_STATE_ERR r) 0
        let t2 := if t.ringMode r = mdError then
            t1.setMode r (if t.isSet (F.RNG_CFG_ENABLE r) then mdRunning else mdDraining)
          else if t.ringMode r = mdOff then t1 else t1.putStatus r
        ((t2.service r).drained r).rngDone)) ∧
  (∀ (by_ : Actor) (fn : BitVec 12) (s : State), s.does (.disableFn by_ fn) fun s => (s.byFull by_ fun t =>
        if t.isSet F.RNG_CMD_STATUS_BUSY || decide (511 < fn.toNat) then t.rngRefused
        else ((t.setFld F.RNG_CMD_STATUS_DONE 0).setFld F.RNG_CMD_STATUS_BUSY 1).disableFn
          { fn := fn.toNat, byCommand := true })) ∧
  (∀ (by_ : Actor) (fn : BitVec 12) (s : State), s.does (.enableFn by_ fn) fun s => (s.byFull by_ fun t =>
        if t.isSet F.RNG_CMD_STATUS_BUSY || decide (511 < fn.toNat) then t.rngRefused
        else (t.enableFn fn.toNat).rngDone)) ∧
  (∀ (by_ : Actor) (ring : Fin 4096) (s : State), s.does (.ringEnable by_ ring) fun s => (s.byOwner by_ (s.ringPtn ring.val) fun t => t.ringEnable ring.val)) ∧
  (∀ (by_ : Actor) (ring : Fin 4096) (s : State), s.does (.ringDisable by_ ring) fun s => (s.byOwner by_ (s.ringPtn ring.val) fun t => t.ringDisable ring.val)) ∧
  (∀ (s : State), s.does .logbookLimitUpdate fun s => s.followChannels)

/-- What each engine, task and object command does: each completes in every state, changes nothing but the block (its JTAG port and queue stay, but for the JTAG
rows), and does what its clause says in the model's named operations. -/
def Obligations.EngineCommands : Prop :=
  (∀ (ring : Fin 4096) (seq : BitVec 64) (s : State), s.does (.runLimitExpiry ring seq) fun s => (
        match s.entry ring.val seq.toNat with
        | some e => if e.begun && !e.settled && e.fin.isNone && !s.limitStands e then s.tryCutOff e else s
        | none => s)) ∧
  (∀ (ring : Fin 4096) (seq : BitVec 64) (s : State), s.does (.commitUnitBegin ring seq) fun s => (
        match s.working ring.val seq.toNat fun _ => true with
        | none => s
        | some e =>
          match s.byUnits e with
          | .error (why, s1) => s.runStopped e why s1
          | .ok (false, _) => s
          | .ok (true, s1) =>
            s1.forWork e.ring e.seq fun t =>
              let s2 := t.startUnits (t.now_ e)
              s2.beginUnit (s2.now_ e))) ∧
  (∀ (ring : Fin 4096) (seq : BitVec 64) (s : State), s.does (.commitUnitEnd ring seq) fun s => (
        match s.entry ring.val seq.toNat with
        | some e => if s.ctl.stopped then s else s.forWork e.ring e.seq fun t => t.endUnit e
        | none => s)) ∧
  (∀ (ring : Fin 4096) (seq : BitVec 64) (idx : BitVec 16) (cluster : Fin 36) (s : State), s.does (.taskDispatch ring seq idx cluster) fun s => (
        match s.entry ring.val seq.toNat with
        | some e => if s.mayStart e && s.mayPlace e idx.toNat cluster.val then s.dispatch e idx.toNat cluster.val else s
        | none => s)) ∧
  (∀ (core : Fin 324) (s : State), s.does (.arbGrant core) fun s => (s.grant core.val)) ∧
  (∀ (core : Fin 324) (s : State), s.does (.tileBoundary core) fun s => (
        match s.holder core.val with
        | some h => if h.prog.isSome then s else s.tileBoundary core.val
        | none => s)) ∧
  (∀ (core : Fin 324) (slot : Fin 16) (s : State), s.does (.backoffExpiry core slot) fun s => (s.mapTasks fun t =>
        if t.core = some core.val ∧ t.slot = slot.val ∧ t.state = .backoff then { t with state := .ready } else t)) ∧
  (∀ (s : State), s.does .quotaWindowRoll fun s => ({ (forEach (s.eng.grants.map (·.1)) (fun st t => t.setFld (F.ENG_ST_STATUS_MASKED st) 0) s) with
        eng := { s.eng with grants := [] } })) ∧
  (∀ (core : Fin 324) (s : State), s.does (.holdMaxCutoff core) fun s => (
        match (s.holder core.val).bind fun h => if h.prog.isSome then s.entry h.ring h.seq else none with
        | some e => if e.settled || e.fin.isSome then s else s.tryCutOff e
        | none => s)) ∧
  (∀ (by_ : Actor) (stream : BitVec 14) (s : State), s.does (.streamEnable by_ stream) fun s => (s.byOwner by_ (s.fld (F.ENG_ST_CFG_PARTITION stream.toNat)) fun t => t.streamEnable stream.toNat)) ∧
  (∀ (by_ : Actor) (stream : BitVec 14) (s : State), s.does (.streamDisable by_ stream) fun s => (s.byOwner by_ (s.fld (F.ENG_ST_CFG_PARTITION stream.toNat)) fun t => t.streamDisable stream.toNat)) ∧
  (∀ (ring : Fin 4096) (seq : BitVec 64) (s : State), s.does (.nop ring seq) fun s => (
        match s.runnable ring.val seq.toNat (isOpc opcNop) with
        | some e => s.rerun e false (pure 0)
        | none => s)) ∧
  (∀ (ring : Fin 4096) (seq : BitVec 64) (s : State), s.does (.gatherReduce ring seq) fun s => (s.operate ring seq (isOpc opcGather) false opGather)) ∧
  (∀ (ring : Fin 4096) (seq : BitVec 64) (s : State), s.does (.attnDecode ring seq) fun s => (
        match s.working ring.val seq.toNat (isOpc opcAttn) with
        | some e => if s.attnReady e then s.rerun e false (opAttn e.bytes) else s
        | none => s)) ∧
  (∀ (ring : Fin 4096) (seq : BitVec 64) (head : BitVec 8) (s : State), s.does (.attnMaxCombined ring seq head) fun s => (
        match s.entry ring.val seq.toNat with
        | none => s
        | some e =>
          let n := Desc.attnChunks e.bytes
          let mine (t : Task) : Bool := t.of ring.val seq.toNat && decide (t.idx / n = head.toNat)
          let ts := s.eng.tasks.filter mine
          if isOpc opcAttn e.bytes ∧ ts.length = n ∧ ts.all fun t => decide (t.state = .waiting .maxima) then
            s.mapTasks fun t => if mine t then { t with state := .ready, combined := true } else t
          else s)) ∧
  (∀ (core : Fin 324) (slot : Fin 16) (s : State), s.does (.logitSlotFree core slot) fun s => (
        match (s.tasksOn core.val).find? fun t => decide (t.slot = slot.val) && decide (t.state = .running) && (t.logit || t.combined) with
        | none => s
        | some t =>
          let chunked := match s.entry t.ring t.seq with
            | some e => decide (1 < Desc.attnChunks e.bytes)
            | none => false
          if chunked && !t.combined then
            ((s.mapTask t.ring t.seq t.idx fun x => { x with state := .waiting .maxima, logit := false }).dropPrefetchers core.val).giveSlot
              core.val
          else s.endTask t)) ∧
  (∀ (ring : Fin 4096) (seq : BitVec 64) (s : State), s.does (.kvAppend ring seq) fun s => (
        match s.working ring.val seq.toNat (isOpc opcKvAppend) with
        | some e => s.runInPlace e
        | none => s)) ∧
  (∀ (source : BitVec 20) (tag : BitVec 16) (s : State), s.does (.burstIdleTimeout source tag) fun s => (
        match s.burst source.toNat tag.toNat with
        | some b => if (s.entry b.ring b.seq).any (fun e => decide (s.burstIdle e.bytes = 0xFFFFFFFF)) then s else s.closeBurst b false
        | none => s)) ∧
  (∀ (ring : Fin 4096) (seq : BitVec 64) (s : State), s.does (.press ring seq) fun s => (s.press ring seq 1)) ∧
  (∀ (ring : Fin 4096) (seq : BitVec 64) (s : State), s.does (.unpress ring seq) fun s => (s.press ring seq 2)) ∧
  (∀ (ring : Fin 4096) (seq : BitVec 64) (s : State), s.does (.topk ring seq) fun s => (s.operate ring seq (isOpc opcTopk) false opTopk)) ∧
  (∀ (ring : Fin 4096) (seq : BitVec 64) (s : State), s.does (.reduce ring seq) fun s => (
        match s.working ring.val seq.toNat (isOpc opcReduce) with
        | some e => if Desc.inPlaceKind e.bytes then s.runInPlace e else s.rerun e true (opReduce e.bytes)
        | none => s)) ∧
  (∀ (ring : Fin 4096) (seq : BitVec 64) (s : State), s.does (.broadcast ring seq) fun s => (
        match s.working ring.val seq.toNat (isOpc opcBroadcast) with
        | none => s
        | some e => s.forWork e.ring e.seq fun s =>
          match if (s.bcast e.ring e.seq).isSome then .ok s else s.startBcast e with
          | .error (why, t) => s.runStopped e why t
          | .ok t =>
            let t1 := Block.sendBcast e 256 t
            match t1.working ring.val seq.toNat (isOpc opcBroadcast) with
            | some e1 => t1.endBcast e1
            | none => t1)) ∧
  (∀ (ring : Fin 4096) (seq : BitVec 64) (s : State), s.does (.copy ring seq) fun s => (
        match s.working ring.val seq.toNat (isOpc opcCopy) with
        | none => s
        | some e =>
          match s.copyInPlace e with
          | .error (why, s1) => s.runStopped e why s1
          | .ok (true, s1) => s1.runInPlace (s1.now_ e)
          | .ok (false, s1) => s1.rerun e false (opCopy e.bytes))) ∧
  (∀ (ring : Fin 4096) (seq : BitVec 64) (s : State), s.does (.fillPattern ring seq) fun s => (s.operate ring seq (fun d => isOpc opcFill d && decide (d.f 0x58 63 62 = 0)) false opFillPattern)) ∧
  (∀ (ring : Fin 4096) (seq : BitVec 64) (s : State), s.does (.fillPoison ring seq) fun s => (s.operate ring seq (fun d => isOpc opcFill d && decide (d.f 0x58 63 62 = 1)) false opFillPoison)) ∧
  (∀ (ring : Fin 4096) (seq : BitVec 64) (cluster : Fin 36) (s : State), s.does (.bexaRun ring seq cluster) fun s => (
        match s.runnable ring.val seq.toNat (isOpc opcBexaRun) with
        | none => s
        | some e => s.forWork e.ring e.seq fun s =>
          if s.tasksOf e.ring e.seq ≠ [] ∨ e.state = .committing
              ∨ s.clusterOwner cluster.val ≠ some (s.ringPtn e.ring) ∨ !s.clusterUp cluster.val then s
          else
            match Op.verify e.bytes cluster.val (s.begin_ e.ring e.seq e.ctx false) with
            | .error (why, s1) => s.runStopped e why s1
            | .ok (.bad code word, r) =>
              (r.s.putReport e 0x01 code 0 word 0).setFin e.ring e.seq { status := stBadField, detail := 0x40 }
            | .ok (.good g text init dpa, r) =>
              let v := r.s.eng.verified.filter fun v =>
                !(decide (v.cluster = cluster.val) && decide (v.dpa = dpa) && decide (v.crc = g.crc))
              let s1 : Block := { r.s with eng := { r.s.eng with
                verified := v ++ [{ cluster := cluster.val, dpa := dpa, crc := g.crc, text := text }] } }
              s1.launch e cluster.val (progOf e.bytes g text init))) ∧
  (∀ (ring : Fin 4096) (seq : BitVec 64) (s : State), s.does (.syncOpInit ring seq) fun s => (s.syncOp ring seq opInit)) ∧
  (∀ (ring : Fin 4096) (seq : BitVec 64) (s : State), s.does (.syncOpRead ring seq) fun s => (s.syncOp ring seq opRead)) ∧
  (∀ (ring : Fin 4096) (seq : BitVec 64) (s : State), s.does (.syncOpAdd ring seq) fun s => (s.syncOp ring seq opAdd)) ∧
  (∀ (ring : Fin 4096) (seq : BitVec 64) (s : State), s.does (.syncOpSwap ring seq) fun s => (s.syncOp ring seq opSwap)) ∧
  (∀ (ring : Fin 4096) (seq : BitVec 64) (s : State), s.does (.syncOpCas ring seq) fun s => (s.syncOp ring seq opCas)) ∧
  (∀ (ring : Fin 4096) (seq : BitVec 64) (s : State), s.does (.syncOpSignal ring seq) fun s => (s.syncOp ring seq opSignal)) ∧
  (∀ (ring : Fin 4096) (seq : BitVec 64) (s : State), s.does (.syncOpAcquire ring seq) fun s => (s.syncOp ring seq opAcquire)) ∧
  (∀ (ring : Fin 4096) (seq : BitVec 64) (s : State), s.does (.acquireWake ring seq) fun s => (
        match s.runnable ring.val seq.toNat fun d => isOpc opcSyncOp d && decide (d.f 0x40 63 60 = opAcquire) with
        | some e => if e.begun then s.runInPlace e else s
        | none => s)) ∧
  (∀ (s : State), s.does .waitMet fun s => s.evalWaits) ∧
  (∀ (by_ : Actor) (block : Fin 256) (s : State), s.does (.syncBlockDisable by_ block) fun s => (s.byFull by_ fun t => t.disableBlock block.val)) ∧
  (∀ (source : BitVec 20) (tag : BitVec 16) (s : State), s.does (.burstRecordExpiry source tag) fun s => { s with eng := { s.eng with
        closed := s.eng.closed.filter fun x => !(decide (x.1 = source.toNat) && decide (x.2.1 = tag.toNat)) } })

/-- What each mailbox command does: each completes in every state, changes nothing but the block (its JTAG port and queue stay, but for the JTAG
rows), and does what its clause says in the model's named operations. -/
def Obligations.MailboxCommands : Prop :=
  (∀ (who : Sender) (s : State), s.does (.mbxAllocRead who) fun s => (
        let (v, t) := s.mbxAlloc who
        t.emit (.regRead who R.MBX_ALLOC v))) ∧
  (∀ (who : Sender) (ch : Fin 1024) (s : State), s.does (.mbxOpen who ch) fun s => (if !s.mbxReach who then s.scopeViol else if s.chOpen ch.val then s.mbxDenied else s.openCh who ch.val)) ∧
  (∀ (who : Sender) (ch : Fin 1024) (s : State), s.does (.mbxClose who ch) fun s => (s.asOwner who ch.val fun t => t.closeCh ch.val)) ∧
  (∀ (by_ : Actor) (ch : Fin 1024) (s : State), s.does (.mbxForceClose by_ ch) fun s => (s.byFull by_ fun t => if t.chOpen ch.val then (t.mbxRaise ch.val 18).closeCh ch.val else t)) ∧
  (∀ (who : Sender) (ch : Fin 1024) (s : State), s.does (.mbxSend who ch) fun s => (s.asOwner who ch.val fun t =>
        if t.isSet (F.MBX_CH_STATUS_BUSY ch.val) then t.setFld (F.MBX_CH_STATUS_LAST_ERR ch.val) 0x01
        else t.setFld (F.MBX_CH_DB_REQ ch.val) (setBits (t.fld (F.MBX_CH_DB_REQ ch.val)) 0 0 1))) ∧
  (∀ (ch : Fin 1024) (s : State), s.does (.mbxTake ch) fun s => (s.mbxTake ch.val)) ∧
  (∀ (who : Sender) (ch : Fin 1024) (s : State), s.does (.mbxCancel who ch) fun s => (s.asOwner who ch.val fun t =>
        let t1 := t.mbxTake ch.val
        if (t1.mbxCh ch.val).acted then t1 else t1.mbxReply ch.val rpCancelled [])) ∧
  (∀ (ch : Fin 1024) (status : BitVec 4) (payload : List Word) (s : State), s.does (.mbxReply ch status payload) fun s => (
        match (s.mbxCh ch.val).request with
        | none => s
        | some req =>
          match forcedStatus req with
          | some st => s.mbxReply ch.val st []
          | none => if reqType req ≤ 4 then s else s.mbxReply ch.val status.toNat (payload.map (·.toNat)))) ∧
  (∀ (who : Sender) (ch : Fin 1024) (s : State), s.does (.mbxReplyClear who ch) fun s => (s.asOwner who ch.val fun t => t.replyCleared ch.val)) ∧
  (∀ (ch : Fin 1024) (tag : BitVec 16) (payload : List Word) (s : State), s.does (.mbxEvent ch tag payload) fun s => (
        let p := (payload.take 11).map (·.toNat)
        if s.chOpen ch.val && decide (getBits (s.fld (F.MBX_CH_DB_RSP ch.val)) 0 0 = 0) then
          (s.putRsp ch.val ((tag.toNat * 2 ^ 16 + 0xFF * 2 ^ 8 + p.length) :: p)).mbxRaise ch.val 17
        else s)) ∧
  (∀ (ch : Fin 1024) (s : State), s.does (.echo ch) fun s => (
        match s.request ch.val 1 with
        | some req => s.mbxReply ch.val rpOk ((req.drop 1).take (reqLen req))
        | none => s)) ∧
  (∀ (ch : Fin 1024) (s : State), s.does (.ringQuery ch) fun s => (
        match s.request ch.val 2 with
        | none => s
        | some req =>
          let r := req.getD 1 0
          if reqLen req = 0 then s.mbxReply ch.val rpBadLength []
          else if 4096 ≤ r ∨ some (s.fld (F.RNG_CFG_FUNCTION r)) ≠ s.chFn ch.val then s.mbxReply ch.val rpRefused []
          else
            let g := s.ring r
            s.mbxReply ch.val rpOk
              [(s.reg (R.RNG_STATE r)).toNat, g.accept % 2 ^ 32, g.nextSeq % 2 ^ 32, g.completed % 2 ^ 32])) ∧
  (∀ (ch : Fin 1024) (s : State), s.does (.fnDisable ch) fun s => (
        match s.request ch.val 3 with
        | none => s
        | some req =>
          if (s.mbxCh ch.val).acted then s
          else
            match s.chFn ch.val with
            | some fn =>
              if 511 < fn then s.mbxReply ch.val rpRefused []
              else (s.setMbx ch.val { s.mbxCh ch.val with acted := true }).disableFn
                { fn := fn, reply := some (ch.val, reqTag req) }
            | none => s.mbxReply ch.val rpRefused [])) ∧
  (∀ (ch : Fin 1024) (s : State), s.does (.fnEnable ch) fun s => (
        match s.request ch.val 4 with
        | none => s
        | some _ =>
          match s.chFn ch.val with
          | some fn => if 511 < fn then s.mbxReply ch.val rpRefused [] else (s.enableFn fn).mbxReply ch.val rpOk []
          | none => s.mbxReply ch.val rpRefused []))

/-- What each DRAM command does: each completes in every state, changes nothing but the block (its JTAG port and queue stay, but for the JTAG
rows), and does what its clause says in the model's named operations. -/
def Obligations.DramCommands : Prop :=
  (∀ (id : Nat) (q : Requester) (dpa : BitVec 52) (write : Bool) (stream : Option (BitVec 14)) (mask : List Bool) (bytes : List Byte) (poison : Bool) (s : State), s.does (.dramRequestEnqueue id q dpa write stream mask bytes poison) fun s => (
        let l := lineOf dpa.toNat
        match s.servingStack (lstackOf l) with
        | some stk =>
          if dramBytes ≤ dpa.toNat then s.addressError q dpa.toNat
          else
            let k := pcKey stk (s.locOf stk l).pc
            let p := s.pc k
            let r : DramReq :=
              { id := id, seq := p.nextSeq, dpa := l, write := write, stream := stream.map BitVec.toNat, mask := mask
                bytes := bytes, poison := poison, from_ := q
                rt := match stream with
                  | some st => s.isRealtime st.toNat
                  | none => false }
            let s1 := s.setPc k { p with nextSeq := p.nextSeq + 1 }
            if s.reachable stk || (s.stk stk).moveTo.isSome then s1.offerReq stk k r else s1.perform k r
        | none => s.addressError q dpa.toNat)) ∧
  (∀ (stack : Fin 18) (pc : Fin 64) (t : SlotTiming) (s : State), s.does (.schedSlot stack pc t) fun s => (
        let stk := stack.val
        let k := pcKey stk pc.val
        if (s.pc k).slice.isSome || s.asleep stk then s
        else
          let d := s.fld (F.DRC_PC_STATE_DEBT stk pc.val)
          let late := decide (0 < d ∧ s.fld (F.DRC_REF_CFG_POSTPONE_MAX stk) ≤ d)
          let s1 := s.setPc k { (s.pc k).shutRows t.shut with refreshed := false, makeup := (s.pc k).makeup || late }
          let p := s1.pc k
          let ready := s1.readyReqs stk pc.val t
          let urgent := if s1.panicOn stk k then ready.find? (·.rt) else none
          if p.makeup && s1.refreshFits stk pc.val t then s1.refreshBank stk pc.val k
          else
            match urgent with
            | some r =>
              if p.budgetNs + t.ns ≤ s1.fld (F.DRC_RT_CFG_PANIC_MAX_NS stk) then
                ((s1.chargePanic k t.ns).event 5 3 (s1.accessAttr r.from_ r.dpa)).issueReq stk k r
              else (s1.overrunPanic stk k).slotByAge stk pc.val t ready
            | none => s1.slotByAge stk pc.val t ready)) ∧
  (∀ (key : RecKey) (recipient : Recipient) (s : State), s.does (.errorRecordWindowClose key recipient) fun s => (s.closeWindow key recipient)) ∧
  (∀ (stack : Fin 18) (pc : Fin 64) (s : State), s.does (.refreshTick stack pc) fun s => (
        let stk := stack.val
        let k := pcKey stk pc.val
        if s.asleep stk then s
        else
          let m := s.fld (F.DRC_REF_CFG_POSTPONE_MAX stk)
          let cap := if (s.pc k).slice.isSome then m + 2 else max m 1
          let d := s.fld (F.DRC_PC_STATE_DEBT stk pc.val)
          let s1 := s.setFld (F.DRC_PC_STATE_DEBT stk pc.val) (max d (min (d + 1) cap))
          if (s.pc k).slice.isSome then s1 else s1.checkMakeup stk pc.val k)) ∧
  (∀ (stack : Fin 18) (s : State), s.does (.selfRefreshEnter stack) fun s => (s.sleepStack stack.val)) ∧
  (∀ (stack : Fin 18) (bank : List (BitVec 14)) (s : State), s.does (.selfRefreshExit stack bank) fun s => (
        let s1 := s.wakeStack stack.val
        if s.pwr.held then s
        else if (s.stk stack.val).selfRefresh then
          s1.setStk stack.val { s1.stk stack.val with reported := (bank.take 64).map (·.toNat) }
        else s1)) ∧
  (∀ (stream : BitVec 14) (s : State), s.does (.panicRaise stream) fun s => (
        let st := stream.toNat
        if s.starved st then
          forEach (s.pcsOfStream st)
            (fun k t => if (t.pc k).panic.contains st then t
              else t.setPc k { t.pc k with panic := st :: (t.pc k).panic })
            (if (s.pcsOfStream st).all fun k => (s.pc k).panic.contains st then s else s.event 3 2 (s.streamAttr st))
        else s)) ∧
  (∀ (stream : BitVec 14) (s : State), s.does (.panicClear stream) fun s => (
        let st := stream.toNat
        forEach (s.pool.pcs.map (·.1))
          (fun k t =>
            if !s.starved st || !(s.pcsOfStream st).contains k then
              t.setPc k { t.pc k with panic := (t.pc k).panic.filter (· ≠ st) }
            else t) s)) ∧
  (∀ (stack : Fin 18) (pc : Fin 64) (s : State), s.does (.panicWindowRoll stack pc) fun s => (
        let k := pcKey stack.val pc.val
        s.setPc k { s.pc k with budgetNs := 0, panicIgnored := false })) ∧
  (∀ (stack : Fin 18) (pc : Fin 64) (period : Bool) (s : State), s.does (.recalTrigger stack pc period) fun s => (
        let stk := stack.val
        let k := pcKey stk pc.val
        let c := s.fld (F.DRC_TEMP_CASE_C stk)
        let b := (s.pc k).recalTemp
        let moved := decide (s.fld (F.DRC_RECAL_CFG_TEMP_DELTA stk) ≤ max c b - min c b)
        if period || moved then s.wantRecal k else s)) ∧
  (∀ (stack : Fin 18) (pc : Fin 64) (deferred : Bool) (afterRefresh : Bool) (s : State), s.does (.recalSliceStart stack pc deferred afterRefresh) fun s => (
        let stk := stack.val
        let k := pcKey stk pc.val
        let p := s.pc k
        let m := s.fld (F.DRC_REF_CFG_POSTPONE_MAX stk)
        let spaced := match p.lastSlice with
          | none => true
          | some t => decide (t + 1000 ≤ s.now)
        let debtOk := (if m = 0 then afterRefresh else decide (s.fld (F.DRC_PC_STATE_DEBT stk pc.val) < m))
          && (!afterRefresh || p.refreshed)
        if s.isSet (F.DRC_RECAL_CFG_EN stk) && decide (0 < p.slicesDue) && p.slice.isNone && !s.asleep stk
            && decide (s.slicesRunning stk < s.fld (F.DRC_RECAL_CFG_MAX_CONC stk)) && debtOk && spaced
            && (decide (p.panic = []) || deferred) then
          s.setPc k { p with slice := some (6 - p.slicesDue), lastSlice := some s.now }
        else s)) ∧
  (∀ (stack : Fin 18) (pc : Fin 64) (badLanes : Fin 39) (s : State), s.does (.recalSliceEnd stack pc badLanes) fun s => (
        let stk := stack.val
        let k := pcKey stk pc.val
        let p := s.pc k
        match p.slice with
        | none => s
        | some _ =>
          let due := p.slicesDue - 1
          let done := decide (due = 0)
          let s1 := (s.setPc k { p with
            slice := none, slicesDue := due
            recalTemp := if done then s.fld (F.DRC_TEMP_CASE_C stk) else p.recalTemp }).bump
            (F.DRC_PC_STATE_RECAL_SLICES stk pc.val)
          let s2 := s1.spareLanes stk pc.val badLanes.val
          let s3 : Block :=
            if done then
              let sus (x : Nat × Nat × Nat) := decide (x.1 = stk ∧ x.2.1 = pc.val)
              { s2 with pool := { s2.pool with
                  suspectPins := s2.pool.suspectPins.filter fun x => !sus x
                  pinRows := s2.pool.pinRows.filter fun r => !decide (r.stack = stk ∧ r.pc = pc.val)
                  hardLines := (s2.pool.hardLines.map fun h =>
                    if h.stack = stk ∧ h.pc = pc.val then
                      { h with pins := h.pins.filter fun q => !s2.pool.suspectPins.contains (h.stack, h.pc, q) }
                    else h).filter fun h => decide (h.pins ≠ []) } }
            else s2
          s3.checkMakeup stk pc.val k)) ∧
  (∀ (stack : Fin 18) (second : Bool) (s : State), s.does (.interfaceParityError stack second) fun s => (
        let stk := stack.val
        let st := s.stk stk
        let iface := s.activeIface stk
        let errors := (st.parityErrors.filter fun e => decide (s.now < e.2 + 1000)) ++ [(iface, s.now)]
        let s1 := s.setStk stk { st with parityErrors := errors }
        if second || decide (16 ≤ (errors.filter fun e => decide (e.1 = iface)).length) then s1.failIface stk iface else s1)) ∧
  (∀ (by_ : Actor) (stack : Fin 18) (pc : Fin 64) (bank : Fin 64) (row : BitVec 15) (s : State), s.does (.pprSoft by_ stack pc bank row) fun s => (s.byFull by_ fun t => t.pprSoft stack.val pc.val bank.val row.toNat)) ∧
  (∀ (stack : Fin 18) (s : State), s.does (.pprDone stack) fun s => (
        let stk := stack.val
        let st := s.stk stk
        match st.repairing with
        | none => s
        | some r =>
          let s1 := s.setStk stk { st with repairing := none, repairs := st.repairs ++ [r] }
          ((((s1.setFld (F.DRC_PPR_STATUS_BUSY stk) 0).setFld (F.DRC_PPR_STATUS_DONE stk) 1).bump
            (F.DRC_PPR_STATUS_SOFT_COUNT stk)).drop (F.DRC_PC_STATE_SPARE_ROWS_LEFT stk r.1)))) ∧
  (∀ (by_ : Actor) (stack : Fin 18) (s : State), s.does (.hardenAll by_ stack) fun s => (s.byFull by_ fun t =>
        if t.isSet (F.DRC_PPR_STATUS_BUSY stack.val) then t.pprRefuse stack.val 0x03
        else (t.setFld (F.DRC_PPR_STATUS_ERR stack.val) 0).setFld (F.DRC_PPR_STATUS_HARDEN_PENDING stack.val) 1)) ∧
  (∀ (by_ : Actor) (stack : Fin 18) (s : State), s.does (.moveToAlt by_ stack) fun s => (s.byFull by_ fun t => t.homeCmd stack.val true)) ∧
  (∀ (by_ : Actor) (stack : Fin 18) (s : State), s.does (.moveToPri by_ stack) fun s => (s.byFull by_ fun t => t.homeCmd stack.val false)) ∧
  (∀ (stack : Fin 18) (ok : Bool) (s : State), s.does (.homeMoveComplete stack ok) fun s => (
        let stk := stack.val
        match (s.stk stk).moveTo with
        | none => s
        | some alt =>
          if !s.roseQuiet stk then s
          else
          let s1 := (s.setStk stk { s.stk stk with moveTo := none }).setFld (F.DRC_HOME_STATUS_BUSY stk) 0
            |>.setFld (F.DRC_HOME_STATUS_DONE stk) 1
          if ok && s.homeUsable stk alt then s1.settleHome stk alt else s1.failHome stk (!alt))) ∧
  (∀ (stack : Fin 18) (s : State), s.does (.baseDieSelfRefresh stack) fun s => (
        let stk := stack.val
        let other := !s.isSet (F.DRC_HOME_ON_ALT stk)
        if s.homeUsable stk other && (s.stk stk).moveTo.isNone && decide (s.role stk ∈ rolesInUse) then
          (s.holdQueued stk).sleepToMove stk other
        else ((s.holdQueued stk).sleepStack stk))) ∧
  (∀ (spare : Fin 2) (s : State), s.does (.spareFillDone spare) fun s => (
        let sp := 16 + spare.val
        if s.role sp = roleFilling then
          let s0 : Block := { s with mem := s.mem.blankStack sp true }
          let s1 := ((s0.setFld (F.DRC_STACK_ID_ROLE sp) roleArmed).setStk sp { s0.stk sp with filled := true }).sleepStack sp
          match (List.range 8).find? fun i => (s1.stk (8 * spare.val + i)).replaceWaiting with
          | some i => s1.beginSwitch (8 * spare.val + i)
          | none => s1
        else s)) ∧
  (∀ (by_ : Actor) (stack : Fin 16) (s : State), s.does (.replace by_ stack) fun s => (s.byFull by_ fun t => t.replaceStack stack.val)) ∧
  (∀ (spare : Fin 2) (ok : Bool) (s : State), s.does (.spareSwitchDone spare ok) fun s => (
        let sp := 16 + spare.val
        match (s.stk sp).switching with
        | none => s
        | some stk =>
          if ok then
            let s0 := (s.drainStack stk).flushStackLines stk
            let s1 := (((s0.setStk stk { s0.stk stk with replacedBy := some sp }).copyMasks sp stk).spareHomes sp stk).bump
              (F.DRC_HOME_STATUS_MOVES sp)
            let s2 := (s1.setFld (F.DRC_STACK_ID_LOGICAL sp) (s1.fld (F.DRC_STACK_ID_LOGICAL stk))).setFld
              (F.DRC_STACK_ID_ROLE sp) roleCopyIn |>.setFld (F.DRC_STACK_ID_ROLE stk) roleCopyOut
            let s3 := s2.setFld (F.DRC_COPY_PROGRESS_UNITS sp) 0
            let s4 := s3.setRas { s3.ras with checkTwins := true }
            let s5 := (s4.setStk sp { s4.stk sp with switching := none, replaces := some stk, walkLine := 0 }).wakeUnlessHeld sp
            (s5.passHeld stk sp).twinsReplaced (s1.fld (F.DRC_STACK_ID_LOGICAL stk))
          else
            let s1 := ((s.setFld (F.DRC_SPARE_STATUS_ERR stk) 0x04).setFld (F.DRC_SPARE_STATUS_BUSY stk) 0).setFld
              (F.DRC_SPARE_STATUS_DONE stk) 1
            s1.setStk sp { s1.stk sp with switching := none })) ∧
  (∀ (spare : Fin 2) (t : SlotTiming) (s : State), s.does (.copyInStep spare t) fun s => (s.copyInStep spare t)) ∧
  (∀ (q : Requester) (dpa : BitVec 52) (s : State), s.does (.demandFill q dpa) fun s => (
        match s.vacantInCopy (lineOf dpa.toNat) with
        | some stk => s.fillVacant .demand (some q) stk (lineOf dpa.toNat)
        | none => s)) ∧
  (∀ (spare : Fin 2) (s : State), s.does (.copyInDone spare) fun s => (
        let sp := 16 + spare.val
        if s.role sp = roleCopyIn ∧ linesPerStack ≤ (s.stk sp).walkLine then
          let s1 := s.setFld (F.DRC_STACK_ID_ROLE sp) roleServing
          match s.oldStackOf sp with
          | some o =>
            (((s1.setFld (F.DRC_STACK_ID_ROLE o) roleRetired).setFld (F.DRC_SPARE_STATUS_BUSY o) 0).setFld
              (F.DRC_SPARE_STATUS_DONE o) 1).sleepStack o
          | none => s1
        else s))

/-- What each service command does: each completes in every state, changes nothing but the block (its JTAG port and queue stay, but for the JTAG
rows), and does what its clause says in the model's named operations. -/
def Obligations.ServiceCommands : Prop :=
  (∀ (place : SramWord) (s : State), s.does (.sramSingleError place) fun s => (
        let t := s.bump F.INT_SRAM_CE_COUNT_COUNT
        match place with
        | .way sl g w => t.wayError (sl.val, g.toNat, w.val)
        | .slot n => t.slotError n.toNat
        | .other => t)) ∧
  (∀ (array : SramArray) (s : State), s.does (.sramDoubleError array) fun s => ((s.bump F.INT_SRAM_UE_COUNT_COUNT).sramDouble array)) ∧
  (∀ (core : Fin 324) (s : State), s.does (.coreFail core) fun s => (
        let st := s.fld (F.ENG_CORE_STATE_STATE core.val)
        if st = csIn then s.failCore core.val
        else if st = csSpare then (s.fault rcCore core.val).setCore core.val csRetired
        else s)) ∧
  (∀ (by_ : Actor) (die : Fin 4) (s : State), s.does (.quiesce by_ die) fun s => (s.byFull by_ fun t =>
        if t.isSet F.RAS_CMD_STATUS_BUSY || t.ras.critical.isSome || (List.range 4).any t.dieOut then t.rasRefuse 0x02
        else ((t.setFld F.RAS_CMD_STATUS_CODE 0).setFld F.RAS_CMD_STATUS_BUSY 1).beginQuiesce die.val)) ∧
  (∀ (die : Fin 4) (bad : BitVec 18) (forced : Bool) (s : State), s.does (.quiesceComplete die bad forced) fun s => (
        let d := die.val
        if s.fld (F.RAS_DIE_STATE_STATE d) ≠ dsQuiescing then s
        else
          let s1 := s.quiesced d fun k => bad.getLsbD k
          match s.boot.dieReset with
          | some (k, cause) =>
            if k = d then
              let s2 := ((s1.dropFaults d).resetDieUnits d).setDie d dsReturning
              if forced then s2.emit (.resetForced cause d) else s2
            else (s1.setFld F.RAS_CMD_STATUS_BUSY 0).setFld F.RAS_CMD_STATUS_DONE 1
          | none => (s1.setFld F.RAS_CMD_STATUS_BUSY 0).setFld F.RAS_CMD_STATUS_DONE 1)) ∧
  (∀ (by_ : Actor) (die : Fin 4) (s : State), s.does (.rasReturn by_ die) fun s => (s.byFull by_ fun t =>
        let st := t.fld (F.RAS_DIE_STATE_STATE die.val)
        if t.isSet F.RAS_CMD_STATUS_BUSY then t.rasRefuse 0x02
        else if st ≠ dsQuiesced ∧ st ≠ dsLost then t.rasRefuse 0x04
        else ((t.setFld F.RAS_CMD_STATUS_CODE 0).setDie die.val dsReturning).setFld F.RAS_CMD_STATUS_BUSY 1)) ∧
  (∀ (die : Fin 4) (ok : Bool) (s : State), s.does (.returnComplete die ok) fun s => (
        let d := die.val
        if s.fld (F.RAS_DIE_STATE_STATE d) ≠ dsReturning then s
        else
          let s1 := (s.returned d ok).setFld F.RAS_CMD_STATUS_BUSY 0
          if (s.boot.dieReset.map (·.1)) = some d then s1.nextDieReset
          else s1.setFld F.RAS_CMD_STATUS_DONE 1)) ∧
  (∀ (die : Fin 4) (s : State), s.does (.dieLoss die) fun s => (s.loseDie die.val)) ∧
  (∀ (die : Fin 4) (s : State), s.does (.helmCoreLoss die) fun s => (if s.fld (F.RAS_DIE_STATE_HELM_ACTIVE die.val) = 0 then s else s.loseHelm die.val)) ∧
  (∀ (s : State), s.does .recoveryPhaseStart fun s => s.startRecovery) ∧
  (∀ (background : Option (Fin 7 × BitVec 8)) (s : State), s.does (.recoveryPhaseEnd background) fun s => (
        match background with
        | none => s.endCritical
        | some x => s.endBackground { kind := x.1.val, unit := x.2.toNat })) ∧
  (∀ (s : State), s.does .twinPlacementCheck fun s => (s.setRas { s.ras with checkTwins := false })) ∧
  (∀ (s : State), s.does .healthUpdate fun s => s.updateHealth) ∧
  (∀ (die : Fin 4) (s : State), s.does (.dieOutHour die) fun s => (
        if s.dieOut die.val ∧ !s.ras.outHour.contains die.val then
          (s.setRas { s.ras with outHour := die.val :: s.ras.outHour }).updateHealth
        else s))

/-- What each cache, tier and cave command does: each completes in every state, changes nothing but the block (its JTAG port and queue stay, but for the JTAG
rows), and does what its clause says in the model's named operations. -/
def Obligations.TierCommands : Prop :=
  (∀ (slice : Fin 36) (group : BitVec 8) (way : Fin 16) (s : State), s.does (.wayRetire slice group way) fun s => (s.retireWay slice.val group.toNat way.val)) ∧
  (∀ (q : Requester) (dpa : BitVec 52) (write : Bool) (mask : List Bool) (bytes : List Byte) (poison : Bool) (s : State), s.does (.cacheLookup q dpa write mask bytes poison) fun s => (
        let l := lineOf dpa.toNat
        if dramBytes ≤ l ∨ ¬ s.directBlock l then s.addressError q dpa.toNat
        else if (s.twinOf l).any (·.2) then
          if write then s.writeLine q l .poison else (s.readLine q l).2.emit (.read q l .poison)
        else if write then
          let (stays, s1) := s.writeMaskedAt q l mask bytes poison
          s1.emit (.written q l stays)
        else
          let (v, s1) := s.readAt q l
          s1.emit (.read q l v))) ∧
  (∀ (by_ : Actor) (ptn : Fin 32) (s : State), s.does (.flushPtn by_ ptn) fun s => (s.byOwner by_ ptn.val fun t =>
        if t.isSet F.TIR_CACHE_CMD_STATUS_BUSY then t.setFld F.TIR_CACHE_CMD_STATUS_ERR 1
        else (t.flushCache (fun c => decide (c.ptn = ptn.val)) true).cacheCmdDone)) ∧
  (∀ (by_ : Actor) (s : State), s.does (.flushAll by_) fun s => (s.byFull by_ fun t =>
        if t.isSet F.TIR_CACHE_CMD_STATUS_BUSY then t.setFld F.TIR_CACHE_CMD_STATUS_ERR 1
        else (t.flushCache (fun _ => true) true).cacheCmdDone)) ∧
  (∀ (by_ : Actor) (cls : BitVec 4) (mode : BitVec 2) (s : State), s.does (.blockSet by_ cls mode) fun s => (
        match s.blockRefusal by_ cls.toNat mode.toNat with
        | some c => s.setFld F.TIR_BLOCK_STATUS_ERR c
        | none =>
          let first := s.fld F.TIR_BLOCK_FIRST_BLOCK
          ((forEach (List.range (s.fld F.TIR_BLOCK_COUNT_COUNT))
            (fun i t => t.setBlock cls.toNat mode.toNat (first + i)) s).setFld F.TIR_BLOCK_STATUS_ERR 0).showBlockCmd)) ∧
  (∀ (by_ : Actor) (x : Fin 1024) (s : State), s.does (.extentEnable by_ x) fun s => (s.extentAccess by_ x.val fun t => t.extentEnable x.val)) ∧
  (∀ (x : Fin 1024) (s : State), s.does (.extentPinDone x) fun s => (
        if s.fld (F.TIR_CX_STATE_STATE x.val) = 1 then
          (forEach (s.extentFrames x.val)
            (fun e t => forEach e.2.staging (fun i u =>
              (u.stageNow e.1 i).releasePage e.1 ((e.2.block.getD 0) * 512 + i)) t) s).setFld (F.TIR_CX_STATE_STATE x.val) 2
        else s)) ∧
  (∀ (by_ : Actor) (x : Fin 1024) (s : State), s.does (.extentDisable by_ x) fun s => (s.extentAccess by_ x.val fun t => t.extentRelease x.val true)) ∧
  (∀ (q : Requester) (ptn : Fin 32) (dpa : BitVec 52) (write : Bool) (mask : List Bool) (bytes : List Byte) (poison : Bool) (s : State), s.does (.caveAccess q ptn dpa write mask bytes poison) fun s => (s.caveAccess
        { q := q, dpa := dpa.toNat, ptn := ptn.val, write := write, mask := mask, bytes := bytes, poison := poison,
          forFrame := false })) ∧
  (∀ (page : BitVec 36) (how : FlashRead) (s : State), s.does (.cavePageStaged page how) fun s => (
        match s.frameOf (page.toNat / 512) with
        | some b =>
          if (s.frame b).staging.contains (page.toNat % 512) then
            (s.stagePage b (page.toNat % 512) how).releasePage b page.toNat
          else s
        | none => s)) ∧
  (∀ (s : State), s.does .frameWaitResume fun s => (
        match s.pool.caveWaits.find? fun w => w.forFrame && match s.extentFor w.ptn (cavePageOf w.dpa / 512) with
            | some _ => (s.takeFrame w.ptn (cavePageOf w.dpa / 512) false).isSome
                || (s.frameOf (cavePageOf w.dpa / 512)).isSome
            | none => true with
        | none => s
        | some w => ({ s with pool := { s.pool with caveWaits := s.pool.caveWaits.erase w } } : Block).caveAccess w)) ∧
  (∀ (frame : BitVec 20) (page : Fin 512) (s : State), s.does (.caveClean frame page) fun s => (
        let b := frame.toNat
        let f := s.frame b
        if !s.isSet F.TIR_CAVE_STATUS_READ_ONLY && f.block.isSome && f.dirty.contains page.val && s.cleanDue b page.val
            && !f.writing.any fun w => decide (w.page = page.val) then
          s.afterRecall .firmware false (s.windowLines b page.val) fun s =>
          let (lines, t) := s.pageLines b page.val
          t.setFrame b { t.frame b with writing := (t.frame b).writing ++ [{ page := page.val, lines := lines }] }
        else s)) ∧
  (∀ (by_ : Actor) (ptn : Fin 32) (s : State), s.does (.syncPtn by_ ptn) fun s => (s.byOwner by_ ptn.val fun t =>
        if t.isSet F.TIR_CAVE_STATUS_READ_ONLY || t.isSet F.TIR_CAVE_CMD_STATUS_BUSY then
          t.setFld F.TIR_CAVE_CMD_STATUS_ERR 1
        else
          (forEach ((t.framesOf ptn.val).map (·.1)) (fun b u => u.cleanFrame b) t).setFld
            F.TIR_CAVE_CMD_STATUS_DONE 1)) ∧
  (∀ (ptn : Fin 32) (s : State), s.does (.frameEvict ptn) fun s => (
        let fs := (s.framesOf ptn.val).filter fun e =>
          e.2.block.isSome && !e.2.pinned && decide (e.2.staging = [])
        match clockPick (Assoc.get 0 ptn.val s.pool.hands) fs with
        | some e => (s.advanceHand ptn.val e.1).evictFrame e.1 true
        | none => s)) ∧
  (∀ (pct : BitVec 8) (s : State), s.does (.caveWearLimit pct) fun s => (
        let s1 := ({ s with pool := { s.pool with caveWear := pct.toNat } } : Block).setFld F.TIR_CAVE_WEAR_LIFE_PCT pct.toNat
        if 100 ≤ pct.toNat then (s1.setFld F.TIR_CAVE_STATUS_READ_ONLY 1).health .caveReadOnly
        else if 90 ≤ pct.toNat then s1.health .caveWear
        else s1)) ∧
  (∀ (ch : Fin 32) (target : Fin 8) (second : Bool) (s : State), s.does (.flashTimeout ch target second) fun s => (
        let c := ch.val
        let s1 := s.bump (F.TIR_CH_TIMEOUT_COUNT c)
        if second then
          let s2 := s1.setFld (F.TIR_CH_STATUS_TGT_FAILED c)
            (s1.fld (F.TIR_CH_STATUS_TGT_FAILED c) ||| 2 ^ target.val)
          let left := (List.range 8).any fun t =>
            decide (getBits (s2.fld (F.TIR_CH_STATUS_TGT_FITTED c)) t t = 1)
              && decide (getBits (s2.fld (F.TIR_CH_STATUS_TGT_FAILED c)) t t = 0)
          if left then s2 else s2.failChannel c
        else s1)) ∧
  (∀ (page : BitVec 36) (rebuilt : Bool) (s : State), s.does (.flashReadUncorrectable page rebuilt) fun s => (
        match s.cavePage page.toNat with
        | none => s
        | some p =>
          if rebuilt && p.stripe.tail.all s.targetServes then (s.bump F.TIR_CAVE_REBUILT_COUNT).relocate page.toNat
          else s.loseCavePage page.toNat p true)) ∧
  (∀ (ch : Fin 32) (s : State), s.does (.flashProgramFail ch) fun s => ((s.bump (F.TIR_CH_PFAIL_COUNT ch.val)).bump (F.TIR_CH_BAD_BLOCKS_COUNT ch.val))) ∧
  (∀ (ch : Fin 32) (s : State), s.does (.flashEraseFail ch) fun s => ((s.bump (F.TIR_CH_EFAIL_COUNT ch.val)).bump (F.TIR_CH_BAD_BLOCKS_COUNT ch.val))) ∧
  (∀ (ch : Fin 32) (s : State), s.does (.channelFail ch) fun s => (s.failChannel ch.val)) ∧
  (∀ (ch : Fin 32) (s : State), s.does (.channelRebuildDone ch) fun s => (
        if s.fld (F.TIR_CH_STATUS_STATE ch.val) = 4 then
          (forEach ((s.pool.cave.filter fun e => e.2.stripe.any fun m => decide (m.1 = ch.val)).map (·.1))
            (fun n t => match t.cavePage n with
              | some p => t.when (t.pageReadable p) fun u => u.relocate n
              | none => t) s).setFld (F.TIR_CH_STATUS_STATE ch.val) 3
        else s)) ∧
  (∀ (s : State), s.does .flushRegionErase fun s => { s with ctl := { s.ctl with flush := { s.ctl.flush with eraseHalf := none } } }) ∧
  (∀ (frame : BitVec 20) (page : Fin 512) (s : State), s.does (.caveWriteBackDone frame page) fun s => (s.writeBackDone frame page).endBlockWaits)

/-- What each integrity and twin command does: each completes in every state, changes nothing but the block (its JTAG port and queue stay, but for the JTAG
rows), and does what its clause says in the model's named operations. -/
def Obligations.IntegrityCommands : Prop :=
  (∀ (stack : Fin 18) (pc : Fin 64) (early : Bool) (s : State), s.does (.turnerRowRead stack pc early) fun s => (
        let stk := stack.val
        let k := pcKey stk pc.val
        let p := s.pc k
        if !early && s.isSet F.INT_TURNER_CFG_EN && s.turnedStacks.contains stk
            && !s.isSet (F.DRC_PC_STATE_FAILED stk pc.val) then
          let lines := s.rowLines stk pc.val p.turnerBank p.turnerRow
          let skipped := decide ((s.stk stk).repairing = some (pc.val, p.turnerBank, p.turnerRow))
            || s.ownerWashing (lines.headD 0)
          let s1 := if skipped then s
            else forEach lines (fun d t => t.askTurner stk k d) s
          let lastBank := decide (p.turnerBank = 63)
          let lastRow := decide (p.turnerRow = 32767)
          (s1.setPc k { s1.pc k with
            turnerBank := (p.turnerBank + 1) % 64
            turnerRow := if lastBank then (p.turnerRow + 1) % 32768 else p.turnerRow
            passes := if lastBank && lastRow then (s1.pc k).passes + 1 else (s1.pc k).passes }).turnerProgress stk
        else s)) ∧
  (∀ (stack : Fin 18) (pc : Fin 64) (s : State), s.does (.turnerLag stack pc) fun s => (
        if s.turnedStacks.contains stack.val && !s.isSet (F.DRC_PC_STATE_FAILED stack.val pc.val) then
          (s.setFld F.INT_TURNER_STATUS_LAG 1).health (.turnerLag stack.val)
        else s)) ∧
  (∀ (by_ : Actor) (stack : Fin 18) (s : State), s.does (.ceLogClear by_ stack) fun s => (s.byFull by_ fun t =>
        let stk := stack.val
        let lo := R.INT_S_LOG_DPA_LO stk 0
        let s1 := forEach (Assoc.keysIn lo (lo + 0x800) t.regs) (fun a u => u.setReg a (regDefault a))
          (t.forgetHard fun h => decide (h.stack = stk))
        (s1.setFld (F.INT_S_LOG_STATUS_USED stk) 0).setFld (F.INT_S_LOG_STATUS_HEAD stk) 0)) ∧
  (∀ (by_ : Actor) (mode : BitVec 2) (pos : BitVec 7) (count : BitVec 3) (value : BitVec 8) (s : State), s.does (.injectArm by_ mode pos count value) fun s => (s.byFull by_ fun t =>
        let v := BitVec.ofNat 32 ((if t.mayArm mode.toNat count.toNat value.toNat then 2 ^ 31 else 0)
          + mode.toNat * 2 ^ 29 + pos.toNat * 2 ^ 11 + count.toNat * 2 ^ 8 + value.toNat)
        if t.isSet F.GID_SETUP_LOCK_SETUP_LOCK then
          if v = t.reg R.INT_INJECT_CTRL then t else t.bump F.GID_LOCK_VIOL_COUNT_COUNT
        else t.setReg R.INT_INJECT_CTRL v)) ∧
  (∀ (q : Requester) (dpa : BitVec 52) (bytes : List Byte) (poison : Bool) (s : State), s.does (.twinWrite q dpa bytes poison) fun s => (
        if (s.twinOf (lineOf dpa.toNat)).isSome then
          (s.settleLine (lineOf dpa.toNat)).writeLine q dpa.toNat (if poison then .poison else .data (fitTo 0 64 bytes))
        else s)) ∧
  (∀ (by_ : Actor) (t : Fin 256) (s : State), s.does (.twinEnable by_ t) fun s => (s.twinAccess by_ t.val fun u => u.twinEnable t.val)) ∧
  (∀ (by_ : Actor) (t : Fin 256) (s : State), s.does (.twinDisable by_ t) fun s => (s.twinAccess by_ t.val fun u => u.twinOff t.val)) ∧
  (∀ (t : Fin 256) (s : State), s.does (.twinWalkStep t) fun s => (
        let e := t.val
        let st := s.fld (F.INT_TWIN_STATE_STATE e)
        let w := (s.twin e).walked
        if (st = twSyncing ∨ st = twResync) ∧ w < s.twinLines e then
          let p := s.twinPrimary e
          let a := s.twinStart e p + 64 * w
          let b := s.twinStart e (!p) + 64 * w
          let paused := decide (st = twResync) && [a, b].any fun x =>
            match s.servingStack (lstackOf x) with
            | some k => !s.backgroundRuns k
            | none => false
          if paused then s else
          let s1 :=
            if s.copiedIn e b then s
            else match s.copyVal a with
              | some v => (s.noteRead .resync none a none).storeCopy b v
              | none =>
                (((s.countUncorrectable a).storeCopy a .poison).storeCopy b .poison).twinLost e (s.twinStart e false + 64 * w) 1
          (s1.setTwin e { s1.twin e with walked := w + 1 }).setFld (F.INT_TWIN_PROGRESS_UNITS e) ((w + 1) / 64)
        else s)) ∧
  (∀ (t : Fin 256) (s : State), s.does (.twinWalkDone t) fun s => (
        let e := t.val
        let st := s.fld (F.INT_TWIN_STATE_STATE e)
        if (st = twSyncing ∨ st = twResync) ∧ s.twinLines e ≤ (s.twin e).walked then
          s.twinEnter e twSynced (s.isSet (F.INT_TWIN_STATE_SERVING e))
        else s)) ∧
  (∀ (t : Fin 256) (copyB : Bool) (s : State), s.does (.twinCopyUnreadable t copyB) fun s => (if s.copyUnreadable t.val copyB then s.copyGone t.val copyB else s)) ∧
  (∀ (t : Fin 256) (copyB : Bool) (s : State), s.does (.twinStackReturn t copyB) fun s => (if s.copyUnreadable t.val copyB then s else s.copyBack t.val copyB false)) ∧
  (∀ (t : Fin 256) (s : State), s.does (.twinPatrolRead t) fun s => (
        let e := t.val
        let i := (s.twin e).patrolled
        if s.fld (F.INT_TWIN_STATE_STATE e) = twSynced ∧ i < s.twinLines e then
          let p := s.twinPrimary e
          let a := s.twinStart e p + 64 * i
          let b := s.twinStart e (!p) + 64 * i
          let ca := (s.rawRead a).map (·.2)
          let cb := (s.rawRead b).map (·.2)
          let ue := decide (cb = some .uncorrectable)
          let clean (c : Option LineClass) : Option (List Nat) := match c with
            | some (.clean d) => some d
            | _ => none
          let s1 := s.noteRead .patrol none a (s.altFor a)
          let good := match s.copyVal a with
            | some v => some v
            | none => s.altFor a
          let bump (u : Block) (f : TwinSt → TwinSt) := u.setTwin e (f (u.twin e))
          let rewrite (u : Block) : Block := match good, s.reachedStack b with
            | some v, some k => u.queueBack k b .patrol (match cb with
              | some (.corrected _ _) => .writeBack v.symbols
              | some .uncorrectable => .source v.symbols
              | _ => .clean v.symbols)
            | _, _ => u
          let s3 := match clean cb, clean ca with
            | none, _ =>
              bump ((rewrite (s1.countRead .patrol b good.isNone)).bump (F.INT_TWIN_STANDBY_CE_COUNT e)) fun w =>
                { w with passRewrites := w.passRewrites + 1, passBad := w.passBad || ue }
            | some x, some y =>
              if x = y then s1
              else bump (((rewrite s1).bump (F.INT_TWIN_MISMATCH_COUNT e)).setFld
                (F.INT_TWIN_STATE_HEALTH e) 2) fun w => { w with passBad := true }
            | some _, none => s1
          bump s3 fun w => { w with patrolled := i + 1 }
        else s)) ∧
  (∀ (t : Fin 256) (s : State), s.does (.twinPatrolPassEnd t) fun s => (
        let e := t.val
        if s.fld (F.INT_TWIN_STATE_STATE e) = twSynced then
          let w := s.twin e
          (s.setFld (F.INT_TWIN_STATE_HEALTH e) (if w.passBad then 2 else if 16 ≤ w.passRewrites then 1 else 0)).setTwin
            e { w with patrolled := 0, passRewrites := 0, passBad := false, failPasses := if w.passBad then w.failPasses + 1 else 0 }
        else s))

/-- What each prefetch command does: each completes in every state, changes nothing but the block (its JTAG port and queue stay, but for the JTAG
rows), and does what its clause says in the model's named operations. -/
def Obligations.PrefetchCommands : Prop :=
  (∀ (core : Fin 324) (p : Fin 8) (s : State), s.does (.prefetchIssue core p) fun s => (
        match s.prefetcher core.val p.val with
        | none => s
        | some f =>
          if !s.mayPrefetch core.val f then s
          else
            s.forWork f.ring f.seq fun t =>
              match Op.pfStep f.pattern f.next (t.pfRun f f.next) with
              | .ok (.ask page dpa, r) =>
                r.s.setPrefetcher core.val p.val { f with
                  next := f.next + 1
                  flying := f.flying ++ [{ idx := f.next, page := page, dpa := dpa, epoch := r.s.fld (F.XLT_CTX_STATUS_EPOCH f.ctx) }] }
              | .ok (.stage l, r) =>
                r.s.setPrefetcher core.val p.val { f with next := f.next + 1, staged := f.staged ++ [l] }
              | .error (.wait, s1) => t.keepWaits s1
              | .error (_, s1) => s1.setPrefetcher core.val p.val { f with stopped := true })) ∧
  (∀ (core : Fin 324) (p : Fin 8) (s : State), s.does (.prefetchLineArrive core p) fun s => (
        match s.prefetcher core.val p.val with
        | none => s
        | some f =>
          match f.flying with
          | [] => s
          | fl :: rest =>
            if fl.stale then s.setPrefetcher core.val p.val { f with flying := rest }
            else
              s.forWork f.ring f.seq fun t =>
                match Op.pfArrive f.pattern fl (t.pfRun f fl.idx) with
                | .ok (l, r) =>
                  (r.s.event 3 0 (r.s.workAttr (r.s.ringPtn f.ring))).setPrefetcher core.val p.val
                    { f with flying := rest, staged := f.staged ++ [l] }
                | .error (.wait, s1) => t.keepWaits s1
                | .error (_, s1) =>
                  s1.setPrefetcher core.val p.val { f with flying := rest, next := min f.next fl.idx, stopped := true })) ∧
  (∀ (core : Fin 324) (p : Fin 8) (s : State), s.does (.prefetchDepthDouble core p) fun s => (
        match s.prefetcher core.val p.val with
        | some f =>
          if s.isSet F.TIR_PF_CFG_ADAPT then
            s.setPrefetcher core.val p.val { f with depth := max (min (2 * s.depthOf f) (s.fld F.TIR_PF_CFG_DEPTH_MAX)) (s.depthFloor f.stream) }
          else s
        | none => s)) ∧
  (∀ (core : Fin 324) (p : Fin 8) (s : State), s.does (.prefetchDepthHalve core p) fun s => (
        match s.prefetcher core.val p.val with
        | some f =>
          if s.isSet F.TIR_PF_CFG_ADAPT then
            s.setPrefetcher core.val p.val { f with depth := max (s.depthOf f / 2) (s.depthFloor f.stream) }
          else s
        | none => s))

/-- What each translation command does: each completes in every state, changes nothing but the block (its JTAG port and queue stay, but for the JTAG
rows), and does what its clause says in the model's named operations. -/
def Obligations.TranslationCommands : Prop :=
  (∀ (ctx : Fin 4096) (ca : BitVec 48) (acc : BitVec 3) (priv : Bool) (s : State), s.does (.translationWalk ctx ca acc priv) fun s => (
        match s.translate ctx.val ca.toNat acc.toNat priv with
        | (.ok dpa, s1) => s1.emit (.translated ctx.val ca.toNat dpa)
        | (.wait, s1) => s1
        | (.deny code, s1) => s1.emit (.denied ctx.val ca.toNat code)
        | (.fault reason _, s1) => s1.emit (.pageFault ctx.val ca.toNat reason))) ∧
  (∀ (ring : Fin 4096) (seq : BitVec 64) (idx : BitVec 16) (ca : BitVec 48) (acc : BitVec 3) (s : State), s.does (.translationFault ring seq idx ca acc) fun s => (
        match s.entry ring.val seq.toNat with
        | none => s
        | some e =>
          if !s.mayStart e || s.faulting ring.val seq.toNat idx.toNat then s
          else
            match s.translate e.ctx ca.toNat acc.toNat false with
            | (.fault reason line, s1) => (s1.begin e).faultOf e idx.toNat ca.toNat acc.toNat reason line
            | _ => s)) ∧
  (∀ (s : State), s.does .faultRecordWaitResume fun s => (
        match s.xlt.waiting with
        | [] => s
        | p :: rest =>
          if s.xlt.faults.length < 4096 then ({ s with xlt := { s.xlt with waiting := rest } } : Block).takeFault p else s)) ∧
  (∀ (ptn : Fin 32) (s : State), s.does (.faultQueueWrite ptn) fun s => (if s.isSet (F.XLT_FQ_CFG_ENABLE ptn.val) then (s.writeRec ptn.val).2 else s)) ∧
  (∀ (ptn : Fin 32) (s : State), s.does (.faultQueueSpace ptn) fun s => (
        let p := ptn.val
        if !s.isSet (F.XLT_FQ_CFG_ENABLE p) then s
        else s.afterRecall (.engine p) false [s.fqBase p] fun s =>
          match s.readAt (.engine p) (s.fqBase p) with
          | (.poison, s1) => s1
          | (.data b, s1) =>
            let consume := ofLeBytes ((b.drop 8).take 8)
            let f := s1.fq p
            if f.produce < consume then s1.setFld (F.XLT_FQ_CFG_ERR p) 0x2
            else Block.writeRecs p f.waiting.length (s1.setFq p { f with consume := consume }))) ∧
  (∀ (id : Fin 4096) (s : State), s.does (.faultLimitExpiry id) fun s => (
        match s.xlt.faults.find? fun f => decide (f.id = id.val) with
        | some f => s.resolveFault f (some denTimeout)
        | none => s)) ∧
  (∀ (by_ : Actor) (ctx : Fin 4096) (s : State), s.does (.xltCtxEnable by_ ctx) fun s => (s.byOwner by_ (s.ctxPtn ctx.val) fun t => t.ctxEnable ctx.val)) ∧
  (∀ (by_ : Actor) (ctx : Fin 4096) (s : State), s.does (.xltCtxDisable by_ ctx) fun s => (s.byOwner by_ (s.ctxPtn ctx.val) fun t => t.ctxDisable ctx.val)) ∧
  (∀ (by_ : Actor) (ptn : Fin 32) (s : State), s.does (.xltFqEnable by_ ptn) fun s => (s.byOwner by_ ptn.val fun t => t.fqEnable ptn.val)) ∧
  (∀ (by_ : Actor) (ptn : Fin 32) (s : State), s.does (.xltFqDisable by_ ptn) fun s => (s.byOwner by_ ptn.val fun t => t.fqDisable ptn.val)) ∧
  (∀ (ring : Fin 4096) (seq : BitVec 64) (s : State), s.does (.xltInvalNone ring seq) fun s => (s.inval ring.val seq.toNat 0 fun _ t => t)) ∧
  (∀ (ring : Fin 4096) (seq : BitVec 64) (s : State), s.does (.xltInvalPages ring seq) fun s => (s.inval ring.val seq.toNat 1 fun d t =>
        let first := d.f 0x48 47 12
        t.dropPages d.ctx fun p => decide (first ≤ p ∧ p < first + d.f 0x50 35 0))) ∧
  (∀ (ring : Fin 4096) (seq : BitVec 64) (s : State), s.does (.xltInvalSegment ring seq) fun s => (s.inval ring.val seq.toNat 2 fun d t =>
        let c := d.ctx
        let i := d.f 0x40 59 56
        let old := (t.ctx c).segs.getD i {}
        let t1 := if t.isSet (F.XLT_CTX_CFG_ENABLE c) then (t.reloadErr c).loadSegment c i else t
        let new := (t1.ctx c).segs.getD i {}
        t1.dropPages c fun p => old.covers (p * 4096) || new.covers (p * 4096))) ∧
  (∀ (ring : Fin 4096) (seq : BitVec 64) (s : State), s.does (.xltInvalContext ring seq) fun s => (s.inval ring.val seq.toNat 3 fun d t =>
        let c := d.ctx
        (if t.isSet (F.XLT_CTX_CFG_ENABLE c) then (t.reloadErr c).loadSegments c else t).dropPages c fun _ => true)) ∧
  (∀ (ctx : Fin 4096) (s : State), s.does (.xltInvalDrained ctx) fun s => (
        match s.xlt.invals.find? fun i => decide (i.ctx = ctx.val) with
        | none => s
        | some i =>
          if (match i.epoch with
              | some e => s.inFlight i.ctx e
              | none => false) then s
          else
            let r := i.resolve.bind fun x =>
              (s.xlt.faults.find? fun f => decide (f.id = x.1) && decide (f.ctx = i.ctx)).map fun f => (f, x.2)
            ({ s with xlt := { s.xlt with invals := s.xlt.invals.erase i } } : Block).invalEnd i.ring i.seq r)) ∧
  (∀ (ctx : Fin 4096) (s : State), s.does (.drainWarn ctx) fun s => (
        match s.xlt.invals.find? fun i => decide (i.ctx = ctx.val) && !i.warned with
        | some i =>
          (({ s with xlt := { s.xlt with invals := s.xlt.invals.map fun x => if x = i then { x with warned := true } else x } } :
            Block).bump F.XLT_DRAIN_WARN_COUNT_COUNT).health (.drainWarn ctx.val)
        | none => s))

/-- What each host port and BAR2 command does: each completes in every state, changes nothing but the block (its JTAG port and queue stay, but for the JTAG
rows), and does what its clause says in the model's named operations. -/
def Obligations.HostPortCommands : Prop :=
  (∀ (fn : Fin 512) (s : State), s.does (.fnDisableDone fn) fun s => (
        match s.ctl.disables.find? fun d => decide (d.fn = fn.val) with
        | none => s
        | some fd =>
          if !s.fnSettled fn.val then s
          else
            let s1 : Block := { s with ctl := { s.ctl with disables := s.ctl.disables.erase fd } }
            let s2 := if fd.byCommand then s1.rngDone else s1
            let s3 := s2.replyDisable fd
            if fd.flr then
              let s4 := ((s3.closeChsOf fn.val).loseFn fn.val).settleHosts
              ({ s4 with
                ctl := { s4.ctl with msix := Assoc.drop fn.val s4.ctl.msix }
                bus := { s4.bus with latches := Assoc.drop fn.val s4.bus.latches } } : Block).emit (.flrDone fn.val)
            else s3)) ∧
  (∀ (fn : Fin 256) (s : State), s.does (.cxlFlr fn) fun s => ((s.loseFn fn.val).settleHosts.disableFn { fn := fn.val, flr := true })) ∧
  (∀ (fn : Fin 256) (spid : Option (BitVec 12)) (tag : BitVec 16) (dpa : BitVec 52) (op : HostOp) (s : State), s.does (.cxlMemRequest fn spid tag dpa op) fun s => (
        if !s.portUp (fn.val / 16) ∨ !s.presents fn.val ∨ 1024 ≤ s.portLoad (fn.val / 16)
            ∨ s.crossFull true (.port (Fin.ofNat 16 (fn.val / 16)))
            ∨ s.boot.portResets.any (fun x => decide (x.1 = fn.val / 16)) then s
        else s.takeHost (hostReq fn.val (spid.map (·.toNat)) tag.toNat dpa.toNat op))) ∧
  (∀ (fn : Fin 256) (tag : BitVec 16) (s : State), s.does (.cxlMemComplete fn tag) fun s => (
        match s.host.reqs.find? fun r => decide (r.fn = fn.val) && decide (r.tag = tag.toNat) with
        | none => s
        | some r =>
          if (s.host.reqs.find? fun x => decide (x.fn = r.fn) && decide (lineOf x.dpa = lineOf r.dpa)) ≠ some r then s
          else
            match s.orderHost r with
            | none => s.noteFrameWait (.host r.fn) (s.fld (F.HPT_GATE_CFG_PARTITION r.gate)) (lineOf r.dpa)
            | some (ans, s1) =>
              match s1.respond r.fn r.tag ans r.load with
              | none => s
              | some s2 =>
                (({ s2 with host := { s2.host with reqs := s2.host.reqs.erase r } } : Block).drop
                  (F.HPT_GATE_STATE_INFLIGHT r.gate)).settleGate r.gate |>.settlePorts)) ∧
  (∀ (dpa : BitVec 52) (fn : Fin 256) (invalidate : Bool) (s : State), s.does (.bisnpSend dpa fn invalidate) fun s => (
        let line := lineOf dpa.toNat
        let p := fn.val / 16
        if (s.trackedAt line).holders.contains fn.val && s.recallDue line fn.val && s.portUp p && (s.bisnpAt line fn.val).isNone
            && decide (s.fld (F.HPT_PORT_STATUS_BI_OUT p) < s.fld F.HPT_BI_CFG_MAX_OUT) then
          ((({ s with host := { s.host with
              bisnps := s.host.bisnps ++ [{ dpa := line, fn := fn.val, invalidate := invalidate }] } } : Block).countBi p).emit
            (.bisnp fn.val line invalidate)).event 7 3 (s.lineAttr line)
        else s)) ∧
  (∀ (dpa : BitVec 52) (fn : Fin 256) (data : Option (BitVec 512 × Bool)) (keepShared : Bool) (s : State), s.does (.birsp dpa fn data keepShared) fun s => (
        let line := lineOf dpa.toNat
        match s.bisnpAt line fn.val with
        | none => s
        | some b =>
          let s1 := s.dropBi b
          let s2 := match data with
            | some (d, poison) =>
              if (s.trackedAt line).excl.contains fn.val then
                s1.putTracked (.host fn.val) line (if poison then .poison else .data (leBytes 64 d.toNat)) |>.watchHit line
              else s1
            | none => s1
          (if keepShared && !b.invalidate then s2.trackShared line fn.val else s2.untrack line fn.val).settleHosts)) ∧
  (∀ (dpa : BitVec 52) (fn : Fin 256) (s : State), s.does (.bisnpTimeout dpa fn) fun s => (
        let line := lineOf dpa.toNat
        match s.bisnpAt line fn.val with
        | none => s
        | some b =>
          if !b.resent then
            (({ s with host := { s.host with
                bisnps := s.host.bisnps.map fun x => if x = b then { x with resent := true } else x } } : Block).emit
              (.bisnp fn.val line b.invalidate)).event 7 3 (s.lineAttr line)
          else
            let mine := (s.trackedAt line).excl.contains fn.val
            let s1 := (s.dropBi b).untrack line fn.val
            let s2 := if mine then (s1.putTracked .firmware line .poison).giveUp line fn.val else s1
            (s2.gateRecord grBiTimeout fn.val none ((s.lineOwner line).getD 0) line [.fm, .ld fn.val]).bump
              F.HPT_BI_TIMEOUT_COUNT_COUNT |>.settleHosts)) ∧
  (∀ (port : Fin 16) (ld : Option (Fin 16)) (s : State), s.does (.hostLost port ld) fun s => (
        match ld with
        | some l => (s.loseFn (16 * port.val + l.val)).settleHosts
        | none => if s.portUp port.val then (s.losePort port.val).settleHosts else s)) ∧
  (∀ (fn : Fin 256) (obj : BitVec 16) (half : Option Bool) (other : Bool) (s : State), s.does (.bar2Read fn obj half other) fun s => (
        let o := obj.toNat
        if other || !s.bar2Reaches fn.val o then s.bar2 fn.val none
        else if (s.obj o).reserved.isSome then s
        else
          let v := (s.obj o).value
          (s.event 11 0 (s.objAttr o)).bar2 fn.val (some (match half with
            | none => v
            | some false => v % 2 ^ 32
            | some true => v / 2 ^ 32)))) ∧
  (∀ (fn : Fin 256) (obj : BitVec 16) (s : State), s.does (.bar2Write fn obj) fun s => s.bump F.ENG_SYNC_DENIED_COUNT) ∧
  (∀ (fn : Fin 256) (obj : BitVec 16) (wide : Bool) (operand : BitVec 64) (other : Bool) (s : State), s.does (.bar2Fetchadd fn obj wide operand other) fun s => (s.bar2Atomic fn.val obj.toNat wide other fun o =>
        if wide then (if o.kind = objBarrier then o.signal else o.add operand.toNat) else o.add32 operand.toNat)) ∧
  (∀ (fn : Fin 256) (obj : BitVec 16) (wide : Bool) (operand : BitVec 64) (other : Bool) (s : State), s.does (.bar2Swap fn obj wide operand other) fun s => (s.bar2Atomic fn.val obj.toNat wide other fun o =>
        if wide then o.apply opSwap operand.toNat 0
        else if o.takesValue 0 then some (o.withLow operand.toNat) else none)) ∧
  (∀ (fn : Fin 256) (obj : BitVec 16) (wide : Bool) (operand : BitVec 64) (compare : BitVec 64) (other : Bool) (s : State), s.does (.bar2Cas fn obj wide operand compare other) fun s => (s.bar2Atomic fn.val obj.toNat wide other fun o =>
        if wide then o.apply opCas operand.toNat compare.toNat
        else if o.takesValue 0 then
          some (if o.value % 2 ^ 32 = compare.toNat % 2 ^ 32 then o.withLow operand.toNat else o)
        else none))

/-- What each gate and extent command does: each completes in every state, changes nothing but the block (its JTAG port and queue stay, but for the JTAG
rows), and does what its clause says in the model's named operations. -/
def Obligations.GateCommands : Prop :=
  (∀ (by_ : Actor) (gate : Fin 4096) (s : State), s.does (.gateEnable by_ gate) fun s => (s.gateWrite by_ gate.val fun t => t.gateEnable gate.val)) ∧
  (∀ (by_ : Actor) (gate : Fin 4096) (s : State), s.does (.gateDisable by_ gate) fun s => (s.gateWrite by_ gate.val fun t => t.gateDisable gate.val)) ∧
  (∀ (fn : Fin 256) (ptn : Fin 32) (base : BitVec 52) (blocks : BitVec 28) (tag : BitVec 128) (read : Bool) (write : Bool) (coherent : Bool) (s : State), s.does (.initiateDynamicCapacityAdd fn ptn base blocks tag read write coherent) fun s => (s.capacityAdd fn ptn base blocks tag read write coherent)) ∧
  (∀ (fn : Fin 256) (gate : Fin 4096) (s : State), s.does (.addDynamicCapacityResponse fn gate) fun s => s.atMailbox fn.val fun s => (
        if s.extentIn fn.val gate.val gtOffered then
          ((s.setFld (F.HPT_GATE_CFG_ENABLE gate.val) 1).setGate gate.val gtActive).cxl (some fn.val) .success
        else s.cxl (some fn.val) .invalidInput)) ∧
  (∀ (gate : Fin 4096) (s : State), s.does (.extentOfferExpiry gate) fun s => (
        if s.isExtent gate.val ∧ s.fld (F.HPT_GATE_STATE_STATE gate.val) = gtOffered then s.freeExtent gate.val else s)) ∧
  (∀ (fn : Fin 256) (gate : Fin 4096) (s : State), s.does (.releaseDynamicCapacity fn gate) fun s => s.atMailbox fn.val fun s => (
        if s.extentIn fn.val gate.val gtActive then (s.closeExtent gate.val).cxl (some fn.val) .success
        else s.cxl (some fn.val) .invalidInput)) ∧
  (∀ (gate : Fin 4096) (forced : Bool) (s : State), s.does (.initiateDynamicCapacityRelease gate forced) fun s => (
        let g := gate.val
        if s.isExtent g ∧ s.fld (F.HPT_GATE_STATE_STATE g) = gtActive then
          let s1 := s.cxl none .success
          if forced then (s1.closeExtent g).emit (.dcEvent (some (s.gateFn g)) g .removed)
          else s1.emit (.dcEvent (some (s.gateFn g)) g .releaseAsked)
        else s.cxl none .invalidInput)) ∧
  (∀ (gate : Fin 4096) (s : State), s.does (.extentClosed gate) fun s => (
        let g := gate.val
        if s.isExtent g ∧ s.fld (F.HPT_GATE_STATE_STATE g) = gtClosing ∧ s.fld (F.HPT_GATE_STATE_INFLIGHT g) = 0
            ∧ !(s.isSet (F.HPT_GATE_CFG_COHERENT g) && s.gateTracked g) then s.setGate g gtScrub
        else s)) ∧
  (∀ (gate : Fin 4096) (s : State), s.does (.extentScrubDone gate) fun s => (
        let g := gate.val
        if s.isExtent g ∧ s.fld (F.HPT_GATE_STATE_STATE g) = gtScrub then
          let p := s.fld (F.HPT_GATE_CFG_PARTITION g)
          let mine := ((List.range (s.fld (F.HPT_GATE_BLOCKS_BLOCKS g))).map (s.gateBase g + · * 2 ^ 21)).filter
            fun b => !s.sharedBlock g b
          let s1 := (forEach mine (fun b t => t.poisonBlock p b) s).freeExtent g
          (s1.emit (.dcEvent none g .released)).emit (.dcEvent (some (s.gateFn g)) g .released)
        else s)) ∧
  (∀ (fn : Fin 256) (s : State), s.does (.identifyMemoryDevice fn) fun s => s.atMailbox fn.val fun s => (
        if s.showsMemory then
          let (v, s1) := s.fresh
          s1.cxl (some fn.val) (.identity v.toNat 2)
        else s.cxl (some fn.val) (.identity 0 0))) ∧
  (∀ (fn : Fin 256) (s : State), s.does (.getEventRecords fn) fun s => s.atMailbox fn.val fun s => (s.cxl (some fn.val)
        (.events (Assoc.get [] fn.val s.host.eventLogs) (s.host.overflowed.contains fn.val)))) ∧
  (∀ (fn : Fin 256) (count : BitVec 16) (s : State), s.does (.clearEventRecords fn count) fun s => s.atMailbox fn.val fun s => (
        let log : List Rec := Assoc.get [] fn.val s.host.eventLogs
        if log.length < count.toNat then s.cxl (some fn.val) .invalidInput
        else
          ({ s with host := { s.host with
              eventLogs := Assoc.put [] fn.val (log.drop count.toNat) s.host.eventLogs
              overflowed := if count.toNat = 0 then s.host.overflowed else s.host.overflowed.filter (· ≠ fn.val) } } :
            Block).cxl (some fn.val) .success)) ∧
  (∀ (fn : Fin 256) (s : State), s.does (.getDynamicCapacityConfiguration fn) fun s => s.atMailbox fn.val fun s => (s.cxl (some fn.val)
        (.dcConfig (if s.showsMemory then [(0, dramBytes, 2 ^ 21), (caveBase, caveEnd - caveBase, 2 ^ 21)] else [])))) ∧
  (∀ (fn : Fin 256) (s : State), s.does (.getDynamicCapacityExtentList fn) fun s => s.atMailbox fn.val fun s => (s.cxl (some fn.val) (.extents
        (((s.extentsOf fn.val).filter fun g => decide (s.fld (F.HPT_GATE_STATE_STATE g) = gtActive)).map fun g =>
          (s.gateBase g, s.gateBytes g, (Assoc.get {} g s.host.extents : Extent).tag))))) ∧
  (∀ (port : Fin 16) (s : State), s.does (.getLdInfo port) fun s => (
        let (v, s1) := s.fresh
        s1.cxl none (.ldInfo (if s.showsMemory then v.toNat else 0) (Assoc.get 0 port.val s.host.lds)))) ∧
  (∀ (port : Fin 16) (s : State), s.does (.getLdAllocations port) fun s => (s.cxl none (.allocations (Assoc.get 0 port.val s.host.lds)))) ∧
  (∀ (port : Fin 16) (count : Fin 17) (s : State), s.does (.setLdAllocations port count) fun s => (
        if s.hostPorts ≤ port.val then s.cxl none .invalidInput
        else
          (({ s with host := { s.host with lds := Assoc.put 0 port.val count.val s.host.lds } } : Block).setFld
            (F.HPT_PORT_STATUS_LDS port.val) count.val).cxl none .success)) ∧
  (∀ (fn : Option (Fin 256)) (s : State), s.does (.unsupportedCxlCommand fn) fun s => (
        match fn with
        | some f => s.atMailbox f.val fun t => t.cxl (some f.val) .unsupported
        | none => s.cxl none .unsupported)) ∧
  (∀ (port : Fin 16) (key : BitVec 256) (skid : Bool) (s : State), s.does (.ideKmKeyProg port key skid) fun s => (
        if skid then s.emit (.ideRefused port.val)
        else
          ({ s with host := { s.host with
              ideKeys := Assoc.put [] port.val (Assoc.get [] port.val s.host.ideKeys ++ [key.toNat]) s.host.ideKeys } } :
            Block).setFld (F.HPT_PORT_STATUS_IDE port.val) 1 |>.emit (.ideInstalled port.val)))

/-- What each rose ring and commons command does: each completes in every state, changes nothing but the block (its JTAG port and queue stay, but for the JTAG
rows), and does what its clause says in the model's named operations. -/
def Obligations.CoherenceCommands : Prop :=
  (∀ (dpa : BitVec 52) (stop : Fin 40) (op : RoseOp) (beat : List (BitVec 52 × Fin 40 × Option RoseOp)) (s : State), s.does (.roseRequest dpa stop op beat) fun s => (
        let home := s.homeStop (lineOf dpa.toNat)
        let here := ((dpa, stop, some op) :: beat).filter fun m => decide (s.homeStop (lineOf m.1.toNat) = home)
        let wbs := here.filter fun m => m.2.2.isNone
        let reqs := here.filterMap fun m => m.2.2.map fun o => ({ line := lineOf m.1.toNat, stop := m.2.1.val, op := o } : RoseReq)
        let s1 := forEach wbs (fun m t => t.writebackArrives (lineOf m.1.toNat) m.2.1.val) s
        forEach (sortBy s1.beatPlace reqs) (fun r t => t.roseArrive r) s1)) ∧
  (∀ (dpa : BitVec 52) (stop : Fin 40) (s : State), s.does (.roseRetry dpa stop) fun s => (
        match s.host.rose.waiting.find? fun r => decide (r.line = lineOf dpa.toNat) && decide (r.stop = stop.val) with
        | none => s
        | some r => (s.setRose { s.host.rose with waiting := s.host.rose.waiting.erase r }).roseArrive r)) ∧
  (∀ (dpa : BitVec 52) (stop : Fin 40) (s : State), s.does (.roseSnoop dpa stop) fun s => (
        let line := lineOf dpa.toNat
        let k := stop.val
        match s.roseTxn line with
        | none => s
        | some t =>
          if !t.due.contains k then s
          else
            let l := s.roseLine line
            let sent := s.host.rose.writebacks.contains (line, k) && !s.host.rose.arrived.contains (line, k)
            let mine := decide (l.owner = some k)
            let s1 := s.mapTxn line fun t => { t with
              due := t.due.filter (· ≠ k)
              data := t.data || mine
              pendingWb := t.pendingWb || sent }
            if t.req.op = .current then s1
            else
              let keep := if mine && !takes t.req.op then l.sharers ++ [k] else l.sharers
              s1.setRoseLine line { l with
                owner := if mine then none else l.owner
                sharers := if takes t.req.op then keep.filter (· ≠ k) else keep })) ∧
  (∀ (dpa : BitVec 52) (s : State), s.does (.roseSnoopDone dpa) fun s => (
        let line := lineOf dpa.toNat
        match s.roseTxn line with
        | none => s
        | some t =>
          if t.due ≠ [] ∨ t.pendingWb then s
          else
            let l := s.roseLine line
            let heir := if l.heir = some t.req.stop then none else l.heir
            ((s.setRose { s.host.rose with txns := s.host.rose.txns.erase t }).setRoseLine line
              (match t.req.op with
               | .own | .upgrade => { sharers := [], owner := some t.req.stop, heir := heir }
               | .write | .sync => { sharers := [], owner := none, heir := heir }
               | .current => { l with heir := heir }
               | .shared => { l with
                 sharers := if l.sharers.contains t.req.stop then l.sharers else l.sharers ++ [t.req.stop]
                 heir := heir })).settleSlots)) ∧
  (∀ (dpa : BitVec 52) (stop : Fin 40) (at_ : RoseStep) (s : State), s.does (.roseWriteback dpa stop at_) fun s => (
        let line := lineOf dpa.toNat
        let k := stop.val
        let r := s.host.rose
        match at_ with
        | .arrives => s.writebackArrives line k
        | .acknowledged =>
          if r.arrived.contains (line, k) then
            (s.setRose { r with writebacks := r.writebacks.erase (line, k), arrived := r.arrived.erase (line, k) }).settleSlots
          else s
        | .sent =>
          let l := s.roseLine line
          if l.owner = some k ∧ !(r.writebacks.any fun w => decide (w.2 = k) && decide (s.homeStop w.1 = s.homeStop line)) then
            (s.setRose { r with writebacks := r.writebacks ++ [(line, k)] }).setRoseLine line { l with owner := none }
          else s)) ∧
  (∀ (die : Fin 4) (slot : Fin 64) (cluster : Fin 9) (s : State), s.does (.slotRehome die slot cluster) fun s => (
        let home := s.homeCluster die.val slot.val
        if s.clusterUp (9 * die.val + cluster.val)
            && (decide (cluster.val = slot.val % 8) || !s.clusterUp (9 * die.val + home)) then
          s.rehome { die := die.val, slot := slot.val, cluster := cluster.val }
        else s)) ∧
  (∀ (by_ : Actor) (region : Fin 64) (s : State), s.does (.commonsEnable by_ region) fun s => (s.byFull by_ fun t => t.commonsEnable region.val)) ∧
  (∀ (ring : Fin 4096) (seq : BitVec 64) (s : State), s.does (.publish ring seq) fun s => (
        match s.runnable ring.val seq.toNat Desc.isPublish with
        | some e => s.doPublish e
        | none => s)) ∧
  (∀ (region : Fin 64) (s : State), s.does (.publishCopyDone region) fun s => (
        match s.host.publishes.find? fun p => decide (p.region = region.val) && p.claimed with
        | none => s
        | some p =>
          match s.entry p.ring p.seq with
          | none => s
          | some e =>
            if !s.mayStart e ∨ s.faulting p.ring p.seq 0 then s
            else if p.flipped then s.publishDone p e
            else s.copyDone p e)) ∧
  (∀ (region : Fin 64) (s : State), s.does (.publishDrainDone region) fun s => (
        let r := region.val
        let old := 1 - s.fld (F.HPT_CMN_STATE_CURRENT r)
        if s.fld (F.HPT_CMN_STATE_STATE r) = cmDraining
            && !(s.host.samples.any fun x => decide (x.region = r) && decide (x.bank = old))
            && !(s.host.reqs.any fun x => decide (x.bank = some (r, old))) then
          s.setFld (F.HPT_CMN_STATE_STATE r) cmReady
        else s))

/-- What each scalar, control and synchronisation instruction row does: each completes in every state, changes nothing but the block (its JTAG port and queue stay, but for the JTAG
rows), and does what its clause says in the model's named operations.  The last clause gives the own effect of
each instruction that AluResults does not, for a task that may execute it and operands that neither trap nor fault. -/
def Obligations.ScalarCommands : Prop :=
  (∀ (ring : Fin 4096) (seq : BitVec 64) (idx : BitVec 16) (s : State), s.does (.aluAdd ring seq idx) fun s => (s.bexa ring seq idx insnAluAdd)) ∧
  (∀ (ring : Fin 4096) (seq : BitVec 64) (idx : BitVec 16) (s : State), s.does (.aluSub ring seq idx) fun s => (s.bexa ring seq idx insnAluSub)) ∧
  (∀ (ring : Fin 4096) (seq : BitVec 64) (idx : BitVec 16) (s : State), s.does (.aluAnd ring seq idx) fun s => (s.bexa ring seq idx insnAluAnd)) ∧
  (∀ (ring : Fin 4096) (seq : BitVec 64) (idx : BitVec 16) (s : State), s.does (.aluOr ring seq idx) fun s => (s.bexa ring seq idx insnAluOr)) ∧
  (∀ (ring : Fin 4096) (seq : BitVec 64) (idx : BitVec 16) (s : State), s.does (.aluXor ring seq idx) fun s => (s.bexa ring seq idx insnAluXor)) ∧
  (∀ (ring : Fin 4096) (seq : BitVec 64) (idx : BitVec 16) (s : State), s.does (.aluSll ring seq idx) fun s => (s.bexa ring seq idx insnAluSll)) ∧
  (∀ (ring : Fin 4096) (seq : BitVec 64) (idx : BitVec 16) (s : State), s.does (.aluSrl ring seq idx) fun s => (s.bexa ring seq idx insnAluSrl)) ∧
  (∀ (ring : Fin 4096) (seq : BitVec 64) (idx : BitVec 16) (s : State), s.does (.aluSra ring seq idx) fun s => (s.bexa ring seq idx insnAluSra)) ∧
  (∀ (ring : Fin 4096) (seq : BitVec 64) (idx : BitVec 16) (s : State), s.does (.aluSlt ring seq idx) fun s => (s.bexa ring seq idx insnAluSlt)) ∧
  (∀ (ring : Fin 4096) (seq : BitVec 64) (idx : BitVec 16) (s : State), s.does (.aluSltu ring seq idx) fun s => (s.bexa ring seq idx insnAluSltu)) ∧
  (∀ (ring : Fin 4096) (seq : BitVec 64) (idx : BitVec 16) (s : State), s.does (.aluMul ring seq idx) fun s => (s.bexa ring seq idx insnAluMul)) ∧
  (∀ (ring : Fin 4096) (seq : BitVec 64) (idx : BitVec 16) (s : State), s.does (.aluMulhu ring seq idx) fun s => (s.bexa ring seq idx insnAluMulhu)) ∧
  (∀ (ring : Fin 4096) (seq : BitVec 64) (idx : BitVec 16) (s : State), s.does (.aluDivu ring seq idx) fun s => (s.bexa ring seq idx insnAluDivu)) ∧
  (∀ (ring : Fin 4096) (seq : BitVec 64) (idx : BitVec 16) (s : State), s.does (.aluRemu ring seq idx) fun s => (s.bexa ring seq idx insnAluRemu)) ∧
  (∀ (ring : Fin 4096) (seq : BitVec 64) (idx : BitVec 16) (s : State), s.does (.aluMin ring seq idx) fun s => (s.bexa ring seq idx insnAluMin)) ∧
  (∀ (ring : Fin 4096) (seq : BitVec 64) (idx : BitVec 16) (s : State), s.does (.aluMax ring seq idx) fun s => (s.bexa ring seq idx insnAluMax)) ∧
  (∀ (ring : Fin 4096) (seq : BitVec 64) (idx : BitVec 16) (s : State), s.does (.addi ring seq idx) fun s => (s.bexa ring seq idx insnAddi)) ∧
  (∀ (ring : Fin 4096) (seq : BitVec 64) (idx : BitVec 16) (s : State), s.does (.andi ring seq idx) fun s => (s.bexa ring seq idx insnAndi)) ∧
  (∀ (ring : Fin 4096) (seq : BitVec 64) (idx : BitVec 16) (s : State), s.does (.ori ring seq idx) fun s => (s.bexa ring seq idx insnOri)) ∧
  (∀ (ring : Fin 4096) (seq : BitVec 64) (idx : BitVec 16) (s : State), s.does (.xori ring seq idx) fun s => (s.bexa ring seq idx insnXori)) ∧
  (∀ (ring : Fin 4096) (seq : BitVec 64) (idx : BitVec 16) (s : State), s.does (.shiSll ring seq idx) fun s => (s.bexa ring seq idx insnShiSll)) ∧
  (∀ (ring : Fin 4096) (seq : BitVec 64) (idx : BitVec 16) (s : State), s.does (.shiSrl ring seq idx) fun s => (s.bexa ring seq idx insnShiSrl)) ∧
  (∀ (ring : Fin 4096) (seq : BitVec 64) (idx : BitVec 16) (s : State), s.does (.shiSra ring seq idx) fun s => (s.bexa ring seq idx insnShiSra)) ∧
  (∀ (ring : Fin 4096) (seq : BitVec 64) (idx : BitVec 16) (s : State), s.does (.lui ring seq idx) fun s => (s.bexa ring seq idx insnLui)) ∧
  (∀ (ring : Fin 4096) (seq : BitVec 64) (idx : BitVec 16) (s : State), s.does (.ldb ring seq idx) fun s => (s.bexa ring seq idx insnLdb)) ∧
  (∀ (ring : Fin 4096) (seq : BitVec 64) (idx : BitVec 16) (s : State), s.does (.ldh ring seq idx) fun s => (s.bexa ring seq idx insnLdh)) ∧
  (∀ (ring : Fin 4096) (seq : BitVec 64) (idx : BitVec 16) (s : State), s.does (.ldw ring seq idx) fun s => (s.bexa ring seq idx insnLdw)) ∧
  (∀ (ring : Fin 4096) (seq : BitVec 64) (idx : BitVec 16) (s : State), s.does (.ldd ring seq idx) fun s => (s.bexa ring seq idx insnLdd)) ∧
  (∀ (ring : Fin 4096) (seq : BitVec 64) (idx : BitVec 16) (s : State), s.does (.stb ring seq idx) fun s => (s.bexa ring seq idx insnStb)) ∧
  (∀ (ring : Fin 4096) (seq : BitVec 64) (idx : BitVec 16) (s : State), s.does (.sth ring seq idx) fun s => (s.bexa ring seq idx insnSth)) ∧
  (∀ (ring : Fin 4096) (seq : BitVec 64) (idx : BitVec 16) (s : State), s.does (.stw ring seq idx) fun s => (s.bexa ring seq idx insnStw)) ∧
  (∀ (ring : Fin 4096) (seq : BitVec 64) (idx : BitVec 16) (s : State), s.does (.std ring seq idx) fun s => (s.bexa ring seq idx insnStd)) ∧
  (∀ (ring : Fin 4096) (seq : BitVec 64) (idx : BitVec 16) (s : State), s.does (.lds ring seq idx) fun s => (s.bexa ring seq idx insnLds)) ∧
  (∀ (ring : Fin 4096) (seq : BitVec 64) (idx : BitVec 16) (s : State), s.does (.sts ring seq idx) fun s => (s.bexa ring seq idx insnSts)) ∧
  (∀ (ring : Fin 4096) (seq : BitVec 64) (idx : BitVec 16) (s : State), s.does (.beq ring seq idx) fun s => (s.bexa ring seq idx insnBeq)) ∧
  (∀ (ring : Fin 4096) (seq : BitVec 64) (idx : BitVec 16) (s : State), s.does (.bne ring seq idx) fun s => (s.bexa ring seq idx insnBne)) ∧
  (∀ (ring : Fin 4096) (seq : BitVec 64) (idx : BitVec 16) (s : State), s.does (.blt ring seq idx) fun s => (s.bexa ring seq idx insnBlt)) ∧
  (∀ (ring : Fin 4096) (seq : BitVec 64) (idx : BitVec 16) (s : State), s.does (.bge ring seq idx) fun s => (s.bexa ring seq idx insnBge)) ∧
  (∀ (ring : Fin 4096) (seq : BitVec 64) (idx : BitVec 16) (s : State), s.does (.bltu ring seq idx) fun s => (s.bexa ring seq idx insnBltu)) ∧
  (∀ (ring : Fin 4096) (seq : BitVec 64) (idx : BitVec 16) (s : State), s.does (.bgeu ring seq idx) fun s => (s.bexa ring seq idx insnBgeu)) ∧
  (∀ (ring : Fin 4096) (seq : BitVec 64) (idx : BitVec 16) (s : State), s.does (.jal ring seq idx) fun s => (s.bexa ring seq idx insnJal)) ∧
  (∀ (ring : Fin 4096) (seq : BitVec 64) (idx : BitVec 16) (s : State), s.does (.jr ring seq idx) fun s => (s.bexa ring seq idx insnJr)) ∧
  (∀ (ring : Fin 4096) (seq : BitVec 64) (idx : BitVec 16) (s : State), s.does (.csrRead ring seq idx) fun s => (s.bexa ring seq idx insnCsrRead)) ∧
  (∀ (ring : Fin 4096) (seq : BitVec 64) (idx : BitVec 16) (s : State), s.does (.csrWrite ring seq idx) fun s => (s.bexa ring seq idx insnCsrWrite)) ∧
  (∀ (ring : Fin 4096) (seq : BitVec 64) (idx : BitVec 16) (s : State), s.does (.tile ring seq idx) fun s => (s.bexa ring seq idx insnTile)) ∧
  (∀ (ring : Fin 4096) (seq : BitVec 64) (idx : BitVec 16) (s : State), s.does (.exit ring seq idx) fun s => (s.bexa ring seq idx insnExit)) ∧
  (∀ (ring : Fin 4096) (seq : BitVec 64) (idx : BitVec 16) (s : State), s.does (.abort ring seq idx) fun s => (s.bexa ring seq idx insnAbort)) ∧
  (∀ (ring : Fin 4096) (seq : BitVec 64) (idx : BitVec 16) (s : State), s.does (.unit ring seq idx) fun s => (s.bexa ring seq idx insnUnit)) ∧
  (∀ (ring : Fin 4096) (seq : BitVec 64) (idx : BitVec 16) (s : State), s.does (.cmt ring seq idx) fun s => (s.bexa ring seq idx insnCmt)) ∧
  (∀ (ring : Fin 4096) (seq : BitVec 64) (idx : BitVec 16) (s : State), s.does (.sysFence ring seq idx) fun s => (s.bexa ring seq idx insnSysFence)) ∧
  (∀ (ring : Fin 4096) (seq : BitVec 64) (idx : BitVec 16) (s : State), s.does (.syncRead ring seq idx) fun s => (s.bexa ring seq idx insnSyncRead)) ∧
  (∀ (ring : Fin 4096) (seq : BitVec 64) (idx : BitVec 16) (s : State), s.does (.syncAdd ring seq idx) fun s => (s.bexa ring seq idx insnSyncAdd)) ∧
  (∀ (ring : Fin 4096) (seq : BitVec 64) (idx : BitVec 16) (s : State), s.does (.syncSwap ring seq idx) fun s => (s.bexa ring seq idx insnSyncSwap)) ∧
  (∀ (ring : Fin 4096) (seq : BitVec 64) (idx : BitVec 16) (s : State), s.does (.syncCas ring seq idx) fun s => (s.bexa ring seq idx insnSyncCas)) ∧
  (∀ (ring : Fin 4096) (seq : BitVec 64) (idx : BitVec 16) (s : State), s.does (.syncSignal ring seq idx) fun s => (s.bexa ring seq idx insnSyncSignal)) ∧
  (∀ (ring : Fin 4096) (seq : BitVec 64) (idx : BitVec 16) (s : State), s.does (.swait ring seq idx) fun s => (s.bexa ring seq idx insnSwait)) ∧
  (∀ (ring : Fin 4096) (seq : BitVec 64) (idx : BitVec 16) (s : State) (e : LogEntry) (t : Task) (p : Prog) (w : Insn),
    s.blk.bexaAt ring.val seq.toNat idx.toNat = some (e, t, p, w) →
    let r := s.bexaRun e t p
    let core := p.core
    let off := ((core.reg w.a).1 + w.simm) % 2 ^ 64
    let o := (core.reg w.a).1
    let x := (core.reg w.b).1
    let th := (core.reg w.d).1
    let mine := (core.reg w.a).2 = false ∧ o < 65536 ∧ s.blk.objOwner o = some (s.blk.ringPtn e.ring)
    let v := s.blk.obj o
    let change (c : Instr) (op : Nat) (x cmp : Nat) : Prop :=
      mine → p.unit = none → v.reserved = none → p.inplace = true → s.blk.stagingUsed < s.blk.stagingSize →
        ∀ v1, v.apply op x cmp = some v1 →
          s.ends c (r.withCore (core.setReg w.d v.value false)) (.sync o { v1 with reserved := none })
    (w.op = 0x08 → s.loads (.ldb ring seq idx) e t p w 1) ∧
    (w.op = 0x09 → s.loads (.ldh ring seq idx) e t p w 2) ∧
    (w.op = 0x0A → s.loads (.ldw ring seq idx) e t p w 4) ∧
    (w.op = 0x0B → s.loads (.ldd ring seq idx) e t p w 8) ∧
    (w.op = 0x0C → s.stores (.stb ring seq idx) e t p w 1) ∧
    (w.op = 0x0D → s.stores (.sth ring seq idx) e t p w 2) ∧
    (w.op = 0x0E → s.stores (.stw ring seq idx) e t p w 4) ∧
    (w.op = 0x0F → s.stores (.std ring seq idx) e t p w 8) ∧
    (w.op = 0x10 → (core.reg w.a).2 = false → off % 8 = 0 → off + 8 ≤ p.window.length → off / 64 ∉ p.wpoison →
      s.ends (.lds ring seq idx) (r.withCore (core.setReg w.d (ofLeBytes ((p.window.drop off).take 8)) false)) .next) ∧
    (w.op = 0x11 → (core.reg w.a).2 = false → off % 8 = 0 → off + 8 ≤ p.window.length →
      s.ends (.sts ring seq idx) { r with p := p.winPut off (leBytes 8 (core.reg w.d).1) (core.reg w.d).2 } .next) ∧
    (w.op = 0x1B →
      (w.func = 1 → p.unit = none → s.ends (.tile ring seq idx) r .tile) ∧
      (w.func = 2 → p.unit = none → s.ends (.exit ring seq idx) r .exit) ∧
      (w.func = 3 → exec (.abort ring seq idx) s =
        .next { s with blk := (r.s.bexaStop e t p (.trap trAbort 0) r.s).offWork }) ∧
      (w.func = 4 → p.unit = none → p.inplace = true →
        s.ends (.unit ring seq idx) { r with p := { p with unit := some [] } } .next) ∧
      (w.func = 5 → ∀ ls, p.unit = some ls → s.blk.stagingUsed < s.blk.stagingSize →
        ∀ stage r1, bxTranslate ls r = .ok (stage, r1) → s.ends (.cmt ring seq idx) r1 (.commit stage))) ∧
    (w.op = 0x1C →
      (w.func = opRead → mine → p.unit = none → v.reserved = none → v.kind ≠ objNone →
        s.ends (.syncRead ring seq idx) (r.withCore (core.setReg w.d v.value false)) .next) ∧
      (w.func = opAdd → (core.reg w.b).2 = false → change (.syncAdd ring seq idx) opAdd x 0) ∧
      (w.func = opSwap → (core.reg w.b).2 = false → change (.syncSwap ring seq idx) opSwap x 0) ∧
      (w.func = opCas → (core.reg w.b).2 = false → (core.reg w.d).2 = false → change (.syncCas ring seq idx) opCas x th) ∧
      (w.func = opSignal → change (.syncSignal ring seq idx) opSignal 0 0)) ∧
    (w.op = 0x1D → mine → (core.reg w.b).2 = false → v.kind ≠ objNone →
      s.ends (.swait ring seq idx) r (if v.reached x then .next else .wait o x)))

/-- What each vector instruction row does: each completes in every state, changes nothing but the block (its JTAG port and queue stay, but for the JTAG
rows), and does what its clause says in the model's named operations.  The last clause gives the own effect of
each instruction that AluResults does not, for a task that may execute it and operands that neither trap nor fault. -/
def Obligations.VectorCommands : Prop :=
  (∀ (ring : Fin 4096) (seq : BitVec 64) (idx : BitVec 16) (s : State), s.does (.pfset ring seq idx) fun s => (s.bexa ring seq idx insnPfset)) ∧
  (∀ (ring : Fin 4096) (seq : BitVec 64) (idx : BitVec 16) (s : State), s.does (.vld ring seq idx) fun s => (s.bexa ring seq idx insnVld)) ∧
  (∀ (ring : Fin 4096) (seq : BitVec 64) (idx : BitVec 16) (s : State), s.does (.vlds ring seq idx) fun s => (s.bexa ring seq idx insnVlds)) ∧
  (∀ (ring : Fin 4096) (seq : BitVec 64) (idx : BitVec 16) (s : State), s.does (.vsts ring seq idx) fun s => (s.bexa ring seq idx insnVsts)) ∧
  (∀ (ring : Fin 4096) (seq : BitVec 64) (idx : BitVec 16) (s : State), s.does (.vstElements ring seq idx) fun s => (s.bexa ring seq idx insnVstElements)) ∧
  (∀ (ring : Fin 4096) (seq : BitVec 64) (idx : BitVec 16) (s : State), s.does (.vstScales ring seq idx) fun s => (s.bexa ring seq idx insnVstScales)) ∧
  (∀ (ring : Fin 4096) (seq : BitVec 64) (idx : BitVec 16) (s : State), s.does (.vaddf ring seq idx) fun s => (s.bexa ring seq idx insnVaddf)) ∧
  (∀ (ring : Fin 4096) (seq : BitVec 64) (idx : BitVec 16) (s : State), s.does (.vsubf ring seq idx) fun s => (s.bexa ring seq idx insnVsubf)) ∧
  (∀ (ring : Fin 4096) (seq : BitVec 64) (idx : BitVec 16) (s : State), s.does (.vmulf ring seq idx) fun s => (s.bexa ring seq idx insnVmulf)) ∧
  (∀ (ring : Fin 4096) (seq : BitVec 64) (idx : BitVec 16) (s : State), s.does (.vmaxf ring seq idx) fun s => (s.bexa ring seq idx insnVmaxf)) ∧
  (∀ (ring : Fin 4096) (seq : BitVec 64) (idx : BitVec 16) (s : State), s.does (.vminf ring seq idx) fun s => (s.bexa ring seq idx insnVminf)) ∧
  (∀ (ring : Fin 4096) (seq : BitVec 64) (idx : BitVec 16) (s : State), s.does (.vaddi ring seq idx) fun s => (s.bexa ring seq idx insnVaddi)) ∧
  (∀ (ring : Fin 4096) (seq : BitVec 64) (idx : BitVec 16) (s : State), s.does (.vsubi ring seq idx) fun s => (s.bexa ring seq idx insnVsubi)) ∧
  (∀ (ring : Fin 4096) (seq : BitVec 64) (idx : BitVec 16) (s : State), s.does (.vand ring seq idx) fun s => (s.bexa ring seq idx insnVand)) ∧
  (∀ (ring : Fin 4096) (seq : BitVec 64) (idx : BitVec 16) (s : State), s.does (.vor ring seq idx) fun s => (s.bexa ring seq idx insnVor)) ∧
  (∀ (ring : Fin 4096) (seq : BitVec 64) (idx : BitVec 16) (s : State), s.does (.vxor ring seq idx) fun s => (s.bexa ring seq idx insnVxor)) ∧
  (∀ (ring : Fin 4096) (seq : BitVec 64) (idx : BitVec 16) (s : State), s.does (.vshl ring seq idx) fun s => (s.bexa ring seq idx insnVshl)) ∧
  (∀ (ring : Fin 4096) (seq : BitVec 64) (idx : BitVec 16) (s : State), s.does (.vshr ring seq idx) fun s => (s.bexa ring seq idx insnVshr)) ∧
  (∀ (ring : Fin 4096) (seq : BitVec 64) (idx : BitVec 16) (s : State), s.does (.vfunExp2 ring seq idx) fun s => (s.bexa ring seq idx insnVfunExp2)) ∧
  (∀ (ring : Fin 4096) (seq : BitVec 64) (idx : BitVec 16) (s : State), s.does (.vfunLog2 ring seq idx) fun s => (s.bexa ring seq idx insnVfunLog2)) ∧
  (∀ (ring : Fin 4096) (seq : BitVec 64) (idx : BitVec 16) (s : State), s.does (.vfunRcp ring seq idx) fun s => (s.bexa ring seq idx insnVfunRcp)) ∧
  (∀ (ring : Fin 4096) (seq : BitVec 64) (idx : BitVec 16) (s : State), s.does (.vfunRsqrt ring seq idx) fun s => (s.bexa ring seq idx insnVfunRsqrt)) ∧
  (∀ (ring : Fin 4096) (seq : BitVec 64) (idx : BitVec 16) (s : State), s.does (.vfunTanh ring seq idx) fun s => (s.bexa ring seq idx insnVfunTanh)) ∧
  (∀ (ring : Fin 4096) (seq : BitVec 64) (idx : BitVec 16) (s : State), s.does (.splat ring seq idx) fun s => (s.bexa ring seq idx insnSplat)) ∧
  (∀ (ring : Fin 4096) (seq : BitVec 64) (idx : BitVec 16) (s : State), s.does (.vcvt ring seq idx) fun s => (s.bexa ring seq idx insnVcvt)) ∧
  (∀ (ring : Fin 4096) (seq : BitVec 64) (idx : BitVec 16) (s : State), s.does (.adot ring seq idx) fun s => (s.bexa ring seq idx insnAdot)) ∧
  (∀ (ring : Fin 4096) (seq : BitVec 64) (idx : BitVec 16) (s : State), s.does (.aadd ring seq idx) fun s => (s.bexa ring seq idx insnAadd)) ∧
  (∀ (ring : Fin 4096) (seq : BitVec 64) (idx : BitVec 16) (s : State), s.does (.aopClear ring seq idx) fun s => (s.bexa ring seq idx insnAopClear)) ∧
  (∀ (ring : Fin 4096) (seq : BitVec 64) (idx : BitVec 16) (s : State), s.does (.aopMerge ring seq idx) fun s => (s.bexa ring seq idx insnAopMerge)) ∧
  (∀ (ring : Fin 4096) (seq : BitVec 64) (idx : BitVec 16) (s : State), s.does (.aopSave ring seq idx) fun s => (s.bexa ring seq idx insnAopSave)) ∧
  (∀ (ring : Fin 4096) (seq : BitVec 64) (idx : BitVec 16) (s : State), s.does (.aopLoad ring seq idx) fun s => (s.bexa ring seq idx insnAopLoad)) ∧
  (∀ (ring : Fin 4096) (seq : BitVec 64) (idx : BitVec 16) (s : State), s.does (.aopRound ring seq idx) fun s => (s.bexa ring seq idx insnAopRound)) ∧
  (∀ (ring : Fin 4096) (seq : BitVec 64) (idx : BitVec 16) (s : State), s.does (.aopDiv ring seq idx) fun s => (s.bexa ring seq idx insnAopDiv)) ∧
  (∀ (ring : Fin 4096) (seq : BitVec 64) (idx : BitVec 16) (s : State), s.does (.aopAdds ring seq idx) fun s => (s.bexa ring seq idx insnAopAdds)) ∧
  (∀ (ring : Fin 4096) (seq : BitVec 64) (idx : BitVec 16) (s : State), s.does (.arndmx ring seq idx) fun s => (s.bexa ring seq idx insnArndmx)) ∧
  (∀ (ring : Fin 4096) (seq : BitVec 64) (idx : BitVec 16) (s : State), s.does (.programTrap ring seq idx) fun s => (
        match s.bexaAt ring.val seq.toNat idx.toNat with
        | none => s
        | some (e, t, p, w) =>
          match bexaTable.find? fun i => i.is w with
          | none => s
          | some i =>
            match i.act w { s := s, e := e, t := t, p := p } with
            | .error (.trap code ca, s1) => s.bexaStop e t p (.trap code ca) s1
            | .error (.refused detail, s1) => s.bexaStop e t p (.refused detail) s1
            | .error (.deny code ca, s1) => s.bexaStop e t p (.deny code ca) s1
            | _ => s)) ∧
  (∀ (ring : Fin 4096) (seq : BitVec 64) (idx : BitVec 16) (s : State) (e : LogEntry) (t : Task) (p : Prog) (w : Insn),
    s.blk.bexaAt ring.val seq.toNat idx.toNat = some (e, t, p, w) →
    let r := s.bexaRun e t p
    let core := p.core
    let off := (core.reg w.s).1
    let either (a b : Vec) (i : Nat) : Bool := a.poison.contains i || b.poison.contains i
    let first (a _b : Vec) (i : Nat) : Bool := a.poison.contains i
    let two (c : Instr) (f : Nat → Nat → Nat) : Prop := s.lanes c e t p w (fun a b i => f (a.lane i) (b.lane i)) either
    let one (c : Instr) (f : Nat → Nat → Nat) : Prop := s.lanes c e t p w (fun a _ i => f core.round (a.lane i)) first
    let shift (c : Instr) (f : Nat → Nat → Nat) : Prop :=
      s.lanes c e t p w (fun a _ i => f (a.lane i) (off % 32)) fun a _ i => a.poison.contains i || (core.reg w.s).2
    let clean (n : Nat) : Prop := ∀ j, j < n → (off + j) / 64 ∉ p.wpoison
    let image := Acc.ofImage ((p.window.drop off).take 96)
    let inWindow (n : Nat) : Prop := (core.reg w.s).2 = false ∧ off + n ≤ p.window.length
    (w.op = 0x1E → (core.reg w.a).2 = false → (core.reg w.a).1 + 64 ≤ p.window.length →
      (∀ j, j < 64 → ((core.reg w.a).1 + j) / 64 ∉ p.wpoison) → ∀ k, t.core = some k → ∀ fmt pat scale,
      parsePattern ((p.window.drop (core.reg w.a).1).take 64) = some (fmt, pat, scale) → pat.misaligned = none →
      let bind : PfBind := { fmt := fmt, pattern := pat, scaleBase := scale }
      s.ends (.pfset ring seq idx) ({ r with s := r.s.bindPrefetcher e k (getBits w 2 0) bind }.withCore
        { core with binds := Assoc.ins (getBits w 2 0) bind core.binds }) .next) ∧
    (w.op = 0x20 → ∀ b k f, core.binds.find? (fun z => decide (z.1 = getBits w 2 0)) = some (getBits w 2 0, b) →
      t.core = some k → b.taken < 64 * b.pattern.lines → s.blk.prefetcher k (getBits w 2 0) = some f →
      ∀ r1, Bx.eachEngine (fun n => bxTake f (getBits w 2 0) w.vd n) r = .ok ((), r1) →
        ∃ r2 : BxRun, r2.p = r1.p ∧ s.ends (.vld ring seq idx) r2 .next) ∧
    (w.op = 0x21 →
      (w.func = 0 → inWindow (if isMx w.fmt then 272 else 256) → clean (if isMx w.fmt then 272 else 256) →
        let b := (p.window.drop off).take (if isMx w.fmt then 272 else 256)
        let put (q : Prog) (k : Nat) : Prog := q.setVec k w.vd { q.vec k w.vd with
          bytes := b.take 256, scales := if isMx w.fmt then b.drop 256 else (q.vec k w.vd).scales, fmt := w.fmt, poison := [] }
        s.ends (.vlds ring seq idx) { r with p := p.onEngines put } .next) ∧
      (w.func = 1 → (core.reg w.s).2 = false → ∀ r1, Bx.eachEngine (fun k => do
          let q ← Bx.prog
          Bx.winWrite off ((q.vec k w.vd).bytes ++ if isMx (q.vec k w.vd).fmt then (q.vec k w.vd).scales else [])
            fun j => if j < 256 then (q.vec k w.vd).poison.contains (j / 4) else !(q.vec k w.vd).poison.isEmpty) r = .ok ((), r1) →
        s.ends (.vsts ring seq idx) r1 .next)) ∧
    (w.op = 0x22 → (core.reg w.s).2 = false →
      (w.func = 0 → off % 64 = 0 → ∀ r1, Bx.eachEngine (fun k => do
          let q ← Bx.prog
          Bx.storeLines off ((q.vec k w.vd).bytes.take (vecBytes (q.vec k w.vd).fmt)) fun j =>
            (q.vec k w.vd).poison.contains (j / 4)) r = .ok ((), r1) →
        s.ends (.vstElements ring seq idx) r1 .next) ∧
      (w.func = 1 → (∀ k ∈ core.engines, vecBlocks (p.vec k w.vd).fmt = 0) → s.ends (.vstScales ring seq idx) r .next) ∧
      (w.func = 1 → ∀ k, core.engines = [k] → off % vecBlocks (p.vec k w.vd).fmt = 0 → ∀ r1,
        Bx.storeLines off ((p.vec k w.vd).scales.take (vecBlocks (p.vec k w.vd).fmt))
          (fun _ => !(p.vec k w.vd).poison.isEmpty) r = .ok ((), r1) → s.ends (.vstScales ring seq idx) r1 .next)) ∧
    (w.op = 0x23 →
      (w.func = 0x00 → two (.vaddf ring seq idx) add32) ∧
      (w.func = 0x01 → two (.vsubf ring seq idx) sub32) ∧
      (w.func = 0x02 → two (.vmulf ring seq idx) mul32) ∧
      (w.func = 0x03 → two (.vmaxf ring seq idx) fun a b => if (num32 a).below (num32 b) then b else a) ∧
      (w.func = 0x04 → two (.vminf ring seq idx) fun a b => if (num32 b).below (num32 a) then b else a) ∧
      (w.func = 0x05 → two (.vaddi ring seq idx) fun a b => a + b) ∧
      (w.func = 0x06 → two (.vsubi ring seq idx) fun a b => a + 2 ^ 32 - b) ∧
      (w.func = 0x07 → two (.vand ring seq idx) fun a b => a &&& b) ∧
      (w.func = 0x08 → two (.vor ring seq idx) fun a b => a ||| b) ∧
      (w.func = 0x09 → two (.vxor ring seq idx) fun a b => a ^^^ b) ∧
      (w.func = 0x0A → shift (.vshl ring seq idx) fun a n => a * 2 ^ n) ∧
      (w.func = 0x0B → shift (.vshr ring seq idx) fun a n => a / 2 ^ n)) ∧
    (w.op = 0x24 →
      (w.func = 0 → one (.vfunExp2 ring seq idx) exp2Of) ∧
      (w.func = 1 → one (.vfunLog2 ring seq idx) log2Of) ∧
      (w.func = 2 → one (.vfunRcp ring seq idx) rcpOf) ∧
      (w.func = 3 → one (.vfunRsqrt ring seq idx) rsqrtOf) ∧
      (w.func = 4 → one (.vfunTanh ring seq idx) tanhOf)) ∧
    (w.op = 0x25 → w.func = 0 → s.lanes (.splat ring seq idx) e t p w (fun _ _ _ => off) fun _ _ _ => (core.reg w.s).2) ∧
    (w.op = 0x26 →
      let put (q : Prog) (k : Nat) : Prog :=
        let a := q.vec k w.va
        let n := min (vecCount a.fmt) (vecCount w.fmt)
        let old : Vec := { q.vec k w.vd with fmt := w.fmt }
        q.setVec k w.vd (if vecCount w.fmt ≤ w.vb * n then old
          else old.putElems w.fmt core.round core.sat (w.vb * n) ((List.range n).map fun i => (a.elem i).out))
      s.ends (.vcvt ring seq idx) { r with p := p.onEngines put } .next) ∧
    (w.op = 0x27 → ∃ r1 : BxRun, r1.p = r.p ∧ s.sums (.adot ring seq idx) r1 w fun q k c =>
      let a := q.vec k w.va
      let b := q.vec k w.vb
      let na := vecCount a.fmt
      let nb := vecCount b.fmt
      let from_ := getBits w 2 0 * min na nb
      (List.range (min na nb)).foldl (fun c i =>
        if na ≤ nb then (if from_ + i < nb then c.addProd (a.elem i) (b.elem (from_ + i)) else c)
        else if from_ + i < na then c.addProd (a.elem (from_ + i)) (b.elem i) else c) c) ∧
    (w.op = 0x28 → s.sums (.aadd ring seq idx) r w fun q k c =>
      (List.range (vecCount (q.vec k w.va).fmt)).foldl (fun c i => c.addVal ((q.vec k w.va).elem i)) c) ∧
    (w.op = 0x29 →
      (w.func = 0 → s.sums (.aopClear ring seq idx) r w fun _ _ _ => {}) ∧
      (w.func = 1 → inWindow 96 → off % 32 = 0 → clean 96 → s.sums (.aopMerge ring seq idx) r w fun _ _ c => c.merge image) ∧
      (w.func = 2 → off % 32 = 0 → (core.reg w.s).2 = false → ∀ r1, Bx.eachEngine (fun k => do
          let q ← Bx.prog
          Bx.winWrite off (q.acc k w.ak).image fun _ => false) r = .ok ((), r1) → s.ends (.aopSave ring seq idx) r1 .next) ∧
      (w.func = 3 → inWindow 96 → off % 32 = 0 → clean 96 → s.sums (.aopLoad ring seq idx) r w fun _ _ _ => image) ∧
      (w.func = 4 → ∀ k x, core.engines = [k] → (p.acc k w.ak).out.round w.fmt core.round core.sat = some x →
        s.ends (.aopRound ring seq idx) (r.withCore (core.setReg w.s x false)) .next) ∧
      (w.func = 5 → ∀ k x, core.engines = [k] →
        ((p.acc k w.ak).div (p.acc k (w.vb % 4))).round w.fmt core.round core.sat = some x →
        s.ends (.aopDiv ring seq idx) (r.withCore (core.setReg w.s x false)) .next) ∧
      (w.func = 6 → s.sums (.aopAdds ring seq idx) r w fun _ _ c =>
        c.addVal (if (core.reg w.s).2 then .poison else num32 (off % 2 ^ 32)))) ∧
    (w.op = 0x2A → inWindow 3072 → off % 32 = 0 → w.va < vecBlocks w.fmt → clean 3072 →
      let sums := (List.range 32).map fun i => (Acc.ofImage ((p.window.drop (off + 96 * i)).take 96)).out
      let put (q : Prog) (k : Nat) : Prog :=
        q.setVec k w.vd ({ q.vec k w.vd with fmt := w.fmt }.putElems w.fmt core.round core.sat (32 * w.va) sums)
      s.ends (.arndmx ring seq idx) { r with p := p.onEngines put } .next))

/-- What each link command does: each completes in every state, changes nothing but the block (its JTAG port and queue stay, but for the JTAG
rows), and does what its clause says in the model's named operations. -/
def Obligations.LinkCommands : Prop :=
  (∀ (link : Fin 96) (s : State), s.does (.linkSlot link) fun s => (
        let l := link.val
        if !s.sends l || s.pwr.held then s
        else
          let (bytes, t) := (s.updateOff l).slotCell l
          if t.linkState l = lkDown then t
          else
            match (t.link l).half with
            | none => (t.setLink l { t.link l with half := some bytes }).passSlot l
            | some first => (t.sendCodeword l (decide ((t.link l).slot = 1)) (first ++ bytes)).passSlot l)) ∧
  (∀ (link : Fin 96) (lanes : List (List (BitVec 2))) (s : State), s.does (.codewordReceive link lanes) fun s => (
        let l := link.val
        if !s.aligned l then s
        else
          let k := s.link l
          let marker := decide (k.rxPos = 0)
          let raw := (List.range 4).map fun n => levelsLane ((lanes.getD n []).map (·.toNat))
          let seeds := if marker then (List.range 4).map scrambleSeed else k.rxScramble
          let plain := (List.range 4).map fun n => scrambleSymbols (raw.getD n []) (seeds.getD n 0)
          let s1 := s.setLink l { k with rxPos := (k.rxPos + 1) % 4096, rxScramble := plain.map (·.2) }
          match lcDecode (fromLanes (plain.map (·.1))) with
          | some (c, bad) => s1.takeCodeword l marker c bad
          | none => s1.loseCodeword l marker)) ∧
  (∀ (link : Fin 96) (s : State), s.does (.nakRepeat link) fun s => (
        let l := link.val
        if s.linkState l = lkUp then (s.setLink l { s.link l with named := [] }).wantNak l else s)) ∧
  (∀ (link : Fin 96) (s : State), s.does (.replayTimerExpiry link) fun s => (
        let l := link.val
        if s.linkState l = lkUp then s.markDue l fun c => decide (c.seq = s.oldestSeq l) else s)) ∧
  (∀ (link : Fin 96) (lane : Fin 5) (word : BitVec 32) (s : State), s.does (.trainingFrameReceive link lane word) fun s => (
        let l := link.val
        let q := lane.val
        let w := word.toNat
        let st := s.linkState l
        if wordReserved w then s
        else if st = lkUp then (if s.fld (F.PFL_LANE_STATUS_RX_ROLE l q) < 4 then s.linkRetrain l 0xE else s)
        else if st = lkRetrain then s.takeReport l w
        else if st = lkTrain ∧ (s.link l).step < 5 then
          let s1 := s.takeReport l w
          let req := getBits w 28 27
          if req = 0 then s1
          else
            let (resp, s2) := s1.tapRequest l q (getBits w 31 29) req
            (s2.setLink l { s2.link l with tapResp := Assoc.put 0 q resp (s2.link l).tapResp }).emit (.training l q resp)
        else s)) ∧
  (∀ (link : Fin 96) (s : State), s.does (.trainDetect link) fun s => (
        let l := link.val
        let k := s.link l
        if s.linkState l = lkDetect ∨ (s.linkState l = lkTrain ∧ k.step = 0) then
          (s.setLinkState l lkTrain).setLink l { k with step := 1, rxFailed := [], tapResp := [], peerReady := false }
        else s)) ∧
  (∀ (link : Fin 96) (s : State), s.does (.trainCdrLock link) fun s => (s.trainStep link.val 1 id)) ∧
  (∀ (link : Fin 96) (s : State), s.does (.trainFfeDone link) fun s => (s.trainStep link.val 2 id)) ∧
  (∀ (link : Fin 96) (failed : BitVec 5) (eyes : List (BitVec 8)) (s : State), s.does (.trainAdaptDone link failed eyes) fun s => (s.trainStep link.val 3 fun t => ((t.showEyes link.val eyes).mapRx link.val (failedLanes failed) id).startSlots link.val)) ∧
  (∀ (link : Fin 96) (s : State), s.does (.trainAlignDone link) fun s => (s.trainStep link.val 4 fun t => t.alignRx link.val)) ∧
  (∀ (link : Fin 96) (s : State), s.does (.trainCodewordCheckDone link) fun s => (s.trainStep link.val 5 fun t => t.enterSession link.val)) ∧
  (∀ (link : Fin 96) (s : State), s.does (.trainStepTimeout link) fun s => (if s.linkState link.val = lkTrain then s.linkDown link.val 0x8 else s)) ∧
  (∀ (link : Fin 96) (rtt : BitVec 16) (s : State), s.does (.sessionExchangeDone link rtt) fun s => (
        let l := link.val
        match (s.link l).session with
        | some p => if s.linkState l = lkSession ∧ (s.link l).echoed then s.endSession l p rtt.toNat else s
        | none => s)) ∧
  (∀ (link : Fin 96) (s : State), s.does (.sessionTimeout link) fun s => (if s.linkState link.val = lkSession then s.linkDown link.val 0x8 else s)) ∧
  (∀ (link : Fin 96) (failed : BitVec 5) (eyes : List (BitVec 8)) (s : State), s.does (.retrainDone link failed eyes) fun s => (
        let l := link.val
        if s.linkState l ≠ lkRetrain then s
        else
          let bad := (List.range 5).filter fun q => (s.link l).rxFailed.contains q || (failedLanes failed).contains q
          (s.showEyes l eyes).mapRx l bad fun t => ((t.startSlots l).alignRx l).enterSession l)) ∧
  (∀ (link : Fin 96) (s : State), s.does (.retrainTimeout link) fun s => (
        let l := link.val
        if s.linkState l = lkRetrain then
          (s.setLinkState l lkTrain).setLink l { s.link l with step := 0, half := none, retrainCells := 0 }
        else s)) ∧
  (∀ (link : Fin 96) (lane : Fin 5) (symbols : Bool) (s : State), s.does (.laneDegraded link lane symbols) fun s => (
        let l := link.val
        if s.linkState l = lkUp ∧ s.fld (F.PFL_LANE_STATUS_RX_ROLE l lane.val) < 4 then
          (s.failLane l lane.val).when symbols fun t => t.retrainIf l 0xC
        else s)) ∧
  (∀ (link : Fin 96) (cls : Fin 4) (sent : Bool) (s : State), s.does (.offStuck link cls sent) fun s => (
        let l := link.val
        let bits := s.fld (if sent then F.PFL_CLASS_OFF_SENT l else F.PFL_CLASS_OFF_RECEIVED l)
        if getBits bits cls.val cls.val = 1 then (s.bump (F.PFL_OFF_STUCK_COUNT l)).health (.offStuck l cls.val) else s)) ∧
  (∀ (link : Fin 96) (s : State), s.does (.partnerLossSignal link) fun s => (
        let st := s.linkState link.val
        if st = lkSession ∨ st = lkUp ∨ st = lkRetrain then s.linkDown link.val 0xA else s)) ∧
  (∀ (link : Fin 96) (s : State), s.does (.partnerLossDecode link) fun s => (
        let st := s.linkState link.val
        if st = lkSession ∨ st = lkUp then s.linkDown link.val 0xA else s)) ∧
  (∀ (link : Fin 96) (s : State), s.does (.downRetryExpiry link) fun s => (
        let l := link.val
        if s.linkState l = lkDown ∧ s.isSet (F.PFL_CTRL_AUTO l) then s.linkDetect l else s)) ∧
  (∀ (by_ : Actor) (link : Fin 96) (mask : BitVec 32) (s : State), s.does (.pflFenceWrite by_ link mask) fun s => (s.byFull by_ fun s =>
        let l := link.val
        let st := s.linkState l
        if st = lkDown ∨ st = lkDetect ∨ st = lkTrain then s.discard l 1 2 (fun p => mask.getLsbD p) true else s.linkRefuse l)) ∧
  (∀ (by_ : Actor) (link : Fin 96) (s : State), s.does (.pflRetrain by_ link) fun s => (s.byFull by_ fun s => if s.linkState link.val = lkUp then s.linkRetrain link.val 0x5 else s.linkRefuse link.val)) ∧
  (∀ (by_ : Actor) (link : Fin 96) (s : State), s.does (.pflDown by_ link) fun s => (s.byFull by_ fun s =>
        let st := s.linkState link.val
        if st = lkOff then s.linkRefuse link.val else if st = lkDown then s else s.linkDown link.val 0x5)) ∧
  (∀ (by_ : Actor) (link : Fin 96) (s : State), s.does (.pflUp by_ link) fun s => (s.byFull by_ fun s =>
        let l := link.val
        if s.linkState l = lkDown ∧ ((s.link l).downAt.getD 0) + 1000 * s.fld (F.PFL_CTRL_RETRY_MS l) ≤ s.now then s.linkDetect l
        else s.linkRefuse l)) ∧
  (∀ (by_ : Actor) (link : Fin 96) (s : State), s.does (.linkEnable by_ link) fun s => (s.byFull by_ fun s => (s.setFld (F.PFL_CTRL_EN link.val) 1).linkWake link.val)) ∧
  (∀ (by_ : Actor) (link : Fin 96) (s : State), s.does (.linkDisable by_ link) fun s => (s.byFull by_ fun s => (s.setFld (F.PFL_CTRL_EN link.val) 0).linkOff link.val)) ∧
  (∀ (chiplet : Fin 12) (s : State), s.does (.pfRefclkLoss chiplet) fun s => (forEach ((List.range 8).map (8 * chiplet.val + ·)) (fun l t =>
        ((t.linkOff l).setFld (F.PFL_STATUS_REASON l) 0xD).setLink l { (t.linkOff l).link l with refLost := true }) s)) ∧
  (∀ (chiplet : Fin 12) (s : State), s.does (.pfRefclkReturn chiplet) fun s => (forEach ((List.range 8).map (8 * chiplet.val + ·)) (fun l t =>
        (t.setLink l { t.link l with refLost := false }).linkWake l) s))

/-- What each router and fabric manager command does: each completes in every state, changes nothing but the block (its JTAG port and queue stay, but for the JTAG
rows), and does what its clause says in the model's named operations. -/
def Obligations.RouterCommands : Prop :=
  (∀ (port : Fin 96) (cls : Fin 4) (s : State), s.does (.cellForward port cls) fun s => (
        match s.headIn port.val cls.val with
        | none => s
        | some e =>
          (if !s.isSet F.PFR_NODE_VALID ∨ e.cell.dst = s.node then s.deliverLocal e else s.passOn e).getD (s.updateOff e.port))) ∧
  (∀ (port : Fin 96) (s : State), s.does (.parkedRelease port) fun s => (
        let p := port.val
        if !s.portAvail p then s
        else
          forEach (s.net.router.parked.filter fun e => (s.setPorts e.1).contains p) (fun e t =>
            match (t.setRouter { t.net.router with parked := t.net.router.parked.erase e }).releaseParked p e.2 with
            | some t1 => if e.2.port < 96 then t1.updateOff e.2.port else t1
            | none => t) s)) ∧
  (∀ (port : Fin 96) (s : State), s.does (.cellRead port) fun s => (
        match s.localCell port.val kRead with
        | some e => Block.answerLines e (e.cell.lines - e.done) e.done s
        | none => s)) ∧
  (∀ (port : Fin 96) (s : State), s.does (.cellWrite port) fun s => s.actOn port.val kWrite Block.joinWrite) ∧
  (∀ (port : Fin 96) (s : State), s.does (.cellWdata port) fun s => s.actOn port.val kWdata Block.joinWrite) ∧
  (∀ (src : BitVec 20) (tag : BitVec 12) (s : State), s.does (.writeReassemblyTimeout src tag) fun s => (
        match s.net.router.reasm.find? fun r => decide (r.src = src.toNat) && decide (r.tag = tag.toNat) with
        | none => s
        | some r =>
          let t := s.setRouter { s.net.router with reasm := s.net.router.reasm.erase r }
          if r.busy then t
          else (t.rsp (mkCell t.node r.src clsReq kWrite (r.tag * 16) false []) r.port rsIncomplete 0 0).getD s)) ∧
  (∀ (port : Fin 96) (s : State), s.does (.writeShort port) fun s => s.actOn port.val kWriteShort Block.writeShort) ∧
  (∀ (port : Fin 96) (s : State), s.does (.atomicRead port) fun s => (s.atomicCell port.val opRead)) ∧
  (∀ (port : Fin 96) (s : State), s.does (.atomicAdd port) fun s => (s.atomicCell port.val opAdd)) ∧
  (∀ (port : Fin 96) (s : State), s.does (.atomicSwap port) fun s => (s.atomicCell port.val opSwap)) ∧
  (∀ (port : Fin 96) (s : State), s.does (.atomicCas port) fun s => (s.atomicCell port.val opCas)) ∧
  (∀ (port : Fin 96) (s : State), s.does (.atomicSignal port) fun s => (s.atomicCell port.val opSignal)) ∧
  (∀ (port : Fin 96) (s : State), s.does (.launch port) fun s => (((s.localCell port.val kLaunch).bind s.launchCell).getD s)) ∧
  (∀ (port : Fin 96) (s : State), s.does (.burst port) fun s => s.actOn port.val kBurst Block.burstCell) ∧
  (∀ (port : Fin 96) (full : Bool) (s : State), s.does (.notify port full) fun s => (
        match s.localCell port.val kNotify with
        | none => s
        | some e =>
          let t := s.dropLocal e
          if full then t.bump F.PFR_NOTIFY_DROPPED_COUNT
          else t.setRouter { t.net.router with notices := t.net.router.notices ++ [e.cell] })) ∧
  (∀ (port : Fin 96) (s : State), s.does (.fabricReset port) fun s => (
        match s.mgmtCell port.val 0x10 fun f => decide (f = 1) with
        | none => s
        | some e =>
          match e.cell.fabricReset with
          | some raise => ((s.fabricCell e fun t => (true, t)).map fun t => if s.fabricAuth e.cell then raise t else t).getD s
          | none => (s.fabricCell e fun t => (false, t.emit (.fabricRefused (e.cell.f 0 31 28)))).getD s)) ∧
  (∀ (port : Fin 96) (s : State), s.does (.fabricState port) fun s => (
        match s.mgmtCell port.val 0x10 fun f => decide (f = 2) with
        | none => s
        | some e =>
          (s.fabricCell e fun t =>
            match t.ptnCommand (e.cell.f 0 31 28) (e.cell.f 0 4 0) none with
            | (none, u) => (true, u)
            | (some _, u) => (false, u)).getD s)) ∧
  (∀ (port : Fin 96) (s : State), s.does (.rdata port) fun s => (
        match s.localCell port.val kRdata with
        | some e => (s.dropLocal e).bump F.PFR_LATE_RSP_COUNT
        | none => s)) ∧
  (∀ (port : Fin 96) (s : State), s.does (.rsp port) fun s => (
        match s.localCell port.val kRsp with
        | none => s
        | some e =>
          let t := s.dropLocal e
          match t.openReq e.cell.src e.cell.tag with
          | some r => t.closeReq r (decide (e.cell.f 0 63 56 = rsOk))
          | none => t.bump F.PFR_LATE_RSP_COUNT)) ∧
  (∀ (dst : BitVec 20) (tag : BitVec 12) (s : State), s.does (.requestTimeout dst tag) fun s => (
        match s.openReq dst.toNat tag.toNat with
        | some r =>
          let t := s.closeReq r false
          t.setRouter { t.net.router with quarantine := t.net.router.quarantine ++ [(dst.toNat, tag.toNat, s.now)] }
        | none => s)) ∧
  (∀ (dst : BitVec 20) (tag : BitVec 12) (s : State), s.does (.quarantineExpiry dst tag) fun s => (s.setRouter { s.net.router with
        quarantine := s.net.router.quarantine.filter fun q => !(decide (q.1 = dst.toNat) && decide (q.2.1 = tag.toNat)) })) ∧
  (∀ (die : Fin 4) (s : State), s.does (.busyLedgerSend die) fun s => (
        match s.ledgerOf die.val with
        | [] => s
        | x :: _ =>
          ((s.setRouter { s.net.router with ledger := s.net.router.ledger.erase x }).rsp x.2.1 x.2.2 rsBusy 0 0).getD s)) ∧
  (∀ (die : Fin 4) (s : State), s.does (.owedRspSend die) fun s => (
        match s.net.router.owed.find? fun x => decide (x.1 = die.val) with
        | none => s
        | some x => ((s.setRouter { s.net.router with owed := s.net.router.owed.erase x }).sendBack x.2.1 false x.2.2).getD s)) ∧
  (∀ (by_ : Actor) (off : BitVec 16) (value : BitVec 32) (s : State), s.does (.routeTableWrite by_ off value) fun s => (s.byFull by_ fun s =>
        let a := off.toNat
        let v := value.toNat
        if 0x4000 ≤ a ∧ a < 0x5000 then
          if a % 16 < 12 ∧ a % 4 = 0 then s.writeSet ((a - 0x4000) / 16) (a % 16 / 4) v else s
        else if 0x8000 ≤ a ∧ a < 0xA000 ∧ a % 4 = 0 then
          s.writeEntry (if a < 0x9000 then R.PFR_GROUP ((a - 0x8000) / 4) else R.PFR_MEMBER ((a - 0x9000) / 4)) v
        else s)) ∧
  (∀ (port : Fin 96) (cls : Fin 4) (n : BitVec 17) (s : State), s.does (.bufferUncorrectable port cls n) fun s => (
        let r := s.net.router
        let mine (e : InCell) : Bool := decide (e.port = port.val) && decide (e.cls = cls.val)
        let a := r.inbox.filter mine
        let b := r.local_.filter mine
        let away := r.parked.filter fun e => mine e.2
        let lost : Option Block :=
          match a[n.toNat]? with
          | some e => some (s.dropIn e)
          | none =>
            match b[n.toNat - a.length]? with
            | some e => some (s.dropLocal e)
            | none =>
              (away[n.toNat - a.length - b.length]?).map fun e =>
                (s.setRouter { r with parked := r.parked.erase e }).updateOff port.val
        match lost with
        | some t => (t.bump F.PFR_BUF_UE_COUNT).bump F.INT_SRAM_UE_COUNT_COUNT
        | none => s))

/-- What each chronometer and chart command does: each completes in every state, changes nothing but the block (its JTAG port and queue stay, but for the JTAG
rows), and does what its clause says in the model's named operations. -/
def Obligations.ChartCommands : Prop :=
  (∀ (port : Fin 96) (ok : Bool) (s : State), s.does (.time port ok) fun s => (
        let p := port.val
        match s.localCell p kTime with
        | none => s
        | some e =>
          let t := s.dropLocal e
          if t.isChild ∧ t.fld F.PFR_CHR_CFG_PARENT_PORT = p then t.timeAnswer p e.stamp (e.cell.w 0) (e.cell.w 8) ok
          else t.timeAsked p e.stamp e.cell.src)) ∧
  (∀ (s : State), s.does .timeSyncTimer fun s => (
        let p := s.fld F.PFR_CHR_CFG_PARENT_PORT
        if !s.isChild ∨ !s.linkUp p then s
        else if s.fld F.PFR_CHR_STATUS_STATE = chFree then s.acquire
        else
          let s1 := if s.net.router.chrono.sent.isSome then s.missExchange else s
          let ch := s1.net.router.chrono
          let (a, b) := match ch.last with
            | some (t1, t4, _) => (t1, t4)
            | none => (0, 0)
          (s1.setChrono { ch with sent := none }).enqueue p clsRsp .firmware
            (.cell (timeCell (s1.fld (F.PFL_PARTNER_NODE_NODE p)) s1.node a b) none))) ∧
  (∀ (s : State), s.does .holdoverExpiry fun s => (
        if s.fld F.PFR_CHR_STATUS_STATE = chHoldover then
          (s.setChrono { s.net.router.chrono with holdAt := none }).setFld F.PFR_CHR_STATUS_STATE chFree
        else s)) ∧
  (∀ (s : State), s.does .ppsInEdge fun s => (
        if s.isSet F.PFR_CHR_CFG_MASTER ∧ s.isSet F.PFR_CHR_CFG_PPS_IN then
          let ch := s.net.router.chrono
          let over_ := ch.time % (16 * secondTicks)
          let slew : Int := if 2 * over_ < 16 * secondTicks then -(over_ : Int) else 16 * secondTicks - over_
          s.setChrono { ch with slew := slew }
        else s)) ∧
  (∀ (s : State), s.does .ppsOutPulse fun s => (
        if s.inStep ∧ s.isSet F.PFR_CHR_CFG_PPS_OUT ∧ s.ticks % secondTicks < 125000 then
          s.emit (.ppsOut (s.ticks / secondTicks * secondTicks))
        else s)) ∧
  (∀ (by_ : Actor) (port : Fin 96) (s : State), s.does (.arm by_ port) fun s => (s.byFull by_ fun s => s.armChart port.val)) ∧
  (∀ (by_ : Actor) (port : Fin 96) (s : State), s.does (.disarm by_ port) fun s => (s.byFull by_ fun s =>
        let c := s.portChart port.val
        s.setPortChart port.val
          (match c.armed with
          | some (true, _) => { c with b := none, armed := none }
          | some (false, _) => { c with a := none, armed := none }
          | none => c))) ∧
  (∀ (by_ : Actor) (port : Fin 96) (s : State), s.does (.stop by_ port) fun s => (s.byFull by_ fun s =>
        let c := s.portChart port.val
        match c.current with
        | some x => s.setPortChart port.val { c with stopAt := some ((s.ticks / x.cycle + 1) * x.cycle) }
        | none => s)) ∧
  (∀ (port : Fin 96) (s : State), s.does (.chartSwitch port) fun s => (
        let c := s.portChart port.val
        match c.armed with
        | some (bank, at_) =>
          if at_ ≤ s.ticks then s.setPortChart port.val { c.ended with running := some bank, armed := none } else s
        | none => s))

/-- What each shaping command does: each completes in every state, changes nothing but the block (its JTAG port and queue stay, but for the JTAG
rows), and does what its clause says in the model's named operations. -/
def Obligations.ShapingCommands : Prop :=
  (∀ (s : State), s.does .tokenTick fun s => (((s.accrue.advanceTime).event 12 0 .none_).remeter).stopCharts) ∧
  (∀ (service : BitVec 8) (s : State), s.does (.subscriberRelease service) fun s => (
        let v := service.toNat
        let ready := (s.net.shape.subs.map (·.1)).filter fun st => decide (s.svcOf st = v) && s.subReady st
        match wrr (fun st => s.fld (F.SHP_SUB_CFG_HI_WEIGHT st)) (Assoc.get (0, 0) (subRobin v) s.net.shape.robins) ready with
        | none => s
        | some (st, last) =>
          (s.setShape { s.net.shape with robins := Assoc.put (0, 0) (subRobin v) last s.net.shape.robins }).releaseSub st)) ∧
  (∀ (port : Fin 16) (s : State), s.does (.hostSlot port) fun s => (
        let p := 96 + port.val
        if !s.isSet (F.HPT_PORT_STATUS_UP port.val) then s
        else
          match s.takeClass p Span.gap false clsRsp with
          | some (.s2m fn tag r load, t) => t.emit (.s2m fn tag r load)
          | some (.cell .., t) => t
          | none => s)) ∧
  (∀ (by_ : Actor) (off : BitVec 20) (lo : BitVec 32) (hi : BitVec 32) (s : State), s.does (.shaperConfigWrite by_ off lo hi) fun s => (s.shaperPair by_ off.toNat lo.toNat hi.toNat)) ∧
  (∀ (fn : Fin 512) (s : State), s.does (.meterColour fn) fun s => (
        if fn.val < 256 then Block.drainHeld fn.val 1 s
        else
          match s.net.router.inbox.find? fun e => e.colour.isNone && decide (s.groupOf e.cell.src = some (fn.val - 256)) with
          | some e => s.colourCell fn.val e
          | none => s))

/-- What each partition command does: each completes in every state, changes nothing but the block (its JTAG port and queue stay, but for the JTAG
rows), and does what its clause says in the model's named operations. -/
def Obligations.PartitionCommands : Prop :=
  (∀ (by_ : Actor) (target : Fin 32) (s : State), s.does (.define by_ target) fun s => (s.byFull by_ fun t => (t.ptnCommand opDefine target.val none).2)) ∧
  (∀ (by_ : Actor) (target : Fin 32) (s : State), s.does (.activate by_ target) fun s => (s.byFull by_ fun t => (t.ptnCommand opActivate target.val none).2)) ∧
  (∀ (by_ : Actor) (target : Fin 32) (s : State), s.does (.teardown by_ target) fun s => (s.byFull by_ fun t => (t.ptnCommand opTeardown target.val none).2)) ∧
  (∀ (ptn : Fin 32) (s : State), s.does (.teardownSettled ptn) fun s => (
        let p := ptn.val
        if s.ptnState p ≠ ptnDraining ∨ !s.ptnSettled p then s
        else
          let s1 := s.closeHosts p
          if s1.gatesOf p = [] then (s1.settleFour p).beginWash p else s1)) ∧
  (∀ (ptn : Fin 32) (s : State), s.does (.washStep ptn) fun s => (
        if s.ptnState ptn.val = ptnWashing ∧ s.washDone ptn.val < washSteps ∧ s.washRuns ptn.val then s.washStep ptn.val
        else s)) ∧
  (∀ (ptn : Fin 32) (s : State), s.does (.washDone ptn) fun s => (if s.ptnState ptn.val = ptnWashing ∧ (washSteps ≤ s.washDone ptn.val ∨ s.blocksOfPtn ptn.val = []) then s.freePtn ptn.val else s)) ∧
  (∀ (by_ : Actor) (off : BitVec 18) (value : BitVec 32) (s : State), s.does (.ownerByteWrite by_ off value) fun s => (s.byFull by_ fun t => t.writeOwner off.toNat value.toNat)) ∧
  (∀ (by_ : Actor) (en : Bool) (s : State), s.does (.commonsEnWrite by_ en) fun s => (s.byFull by_ fun t =>
        if en && decide (t.ptnState 0 ≠ ptnActive) then t.ptnRefuse 0x02
        else if !en && t.isSet F.PTN_COMMONS_EN && decide (t.commonsOn ≠ []) then t.ptnRefuse 0x02
        else t.setBit F.PTN_COMMONS_EN en)) ∧
  (∀ (ring : Fin 4096) (seq : BitVec 64) (s : State), s.does (.ptnAdminState ring seq) fun s => (
        match s.runnable ring.val seq.toNat (Desc.isAdmin 0x01) with
        | none => s
        | some e =>
          let d := e.bytes
          match s.ptnCommand (Desc.f d 0x40 55 52) (Desc.f d 0x40 51 47) (some (s.ringPtn e.ring)) with
          | (some code, t) => t.oneUnit e { status := stNotPermitted, detail := code }
          | (none, t) => t.oneUnit e { status := stOk }))

/-- What each rind and device-set command does: each completes in every state, changes nothing but the block (its JTAG port and queue stay, but for the JTAG
rows), and does what its clause says in the model's named operations. -/
def Obligations.TrustCommands : Prop :=
  (∀ (key : Fin 4) (valid : Bool) (s : State), s.does (.debugUnlock key valid) fun s => (
        if valid && !s.keyRevoked key.val && !s.isSet F.SEC_STATUS_DEBUG_UNLOCKED then
          (s.setFld F.SEC_STATUS_DEBUG_UNLOCKED 1).extend 8 [1]
        else s)) ∧
  (∀ (by_ : Actor) (s : State), s.does (.svnCommit by_) fun s => (s.byFull by_ fun t =>
        if t.isSet F.RBT_FW_STATUS_TRIAL then t.setFld F.SEC_SVN_COMMIT_ERR 1
        else t.setFld F.SEC_SVN_MIN (max (t.fld F.SEC_SVN_MIN) (t.fld F.SEC_SVN_RUNNING)))) ∧
  (∀ (path : SpdmPath) (s : State), s.does (.getVersion path) fun s => (s.spdmAsk path fun t => t.spdm path (.version [0x12, 0x13]))) ∧
  (∀ (path : SpdmPath) (s : State), s.does (.getCapabilities path) fun s => (s.spdmAsk path fun t => t.spdm path .capabilities)) ∧
  (∀ (path : SpdmPath) (s : State), s.does (.negotiateAlgorithms path) fun s => (s.spdmAsk path fun t => t.spdm path .algorithms)) ∧
  (∀ (path : SpdmPath) (s : State), s.does (.getDigests path) fun s => (s.spdmAsk path fun t =>
        t.spdm path (.digests [Config.sha384 Config.identityChain, Config.sha384 (Config.aliasChain t.aliasBase)]))) ∧
  (∀ (path : SpdmPath) (slot : BitVec 8) (s : State), s.does (.getCertificate path slot) fun s => (
        if slot = 0 then s.spdmAsk path fun t => t.spdm path (.certificate 0 Config.identityChain)
        else if slot = 1 then s.askOrDefer path .certificate
        else s.spdmAsk path fun t => t.spdm path (.error .invalidRequest))) ∧
  (∀ (path : SpdmPath) (slot : BitVec 8) (s : State), s.does (.challenge path slot) fun s => (
        if slot.toNat ≤ 1 then s.askOrDefer path (.challenge slot.toNat)
        else s.spdmAsk path fun t => t.spdm path (.error .invalidRequest))) ∧
  (∀ (path : SpdmPath) (index : BitVec 8) (s : State), s.does (.getMeasurements path index) fun s => (s.askOrDefer path (.measurements index.toNat))) ∧
  (∀ (path : SpdmPath) (s : State), s.does (.keyExchange path) fun s => (s.askOrDefer path .keyExchange)) ∧
  (∀ (path : SpdmPath) (session : Fin 16) (ok : Bool) (s : State), s.does (.finish path session ok) fun s => (s.inSession path session.val fun v t =>
        if v.live then t.spdm path (.error .unexpectedRequest)
        else if ok then (t.putSession session.val { v with live := true }).spdm path .finish
        else (t.endSpdm session.val).spdm path (.error .decryptError))) ∧
  (∀ (path : SpdmPath) (session : Fin 16) (s : State), s.does (.heartbeat path session) fun s => (s.inSession path session.val fun v t =>
        t.spdm path (if v.live then .heartbeatAck else .error .unexpectedRequest))) ∧
  (∀ (path : SpdmPath) (session : Fin 16) (s : State), s.does (.keyUpdate path session) fun s => (s.inSession path session.val fun v t =>
        if v.live then (t.putSession session.val { v with gen := v.gen + 1 }).spdm path .keyUpdateAck
        else t.spdm path (.error .unexpectedRequest))) ∧
  (∀ (path : SpdmPath) (session : Fin 16) (s : State), s.does (.endSession path session) fun s => (s.inSession path session.val fun v t =>
        if v.live then (t.endSpdm session.val).spdm path .endSessionAck
        else t.spdm path (.error .unexpectedRequest))) ∧
  (∀ (path : SpdmPath) (s : State), s.does (.respondIfReady path) fun s => (s.spdmAsk path fun t =>
        match t.sec.deferred.find? fun x => decide (x.1 = path) with
        | none => t.spdm path (.error .unexpectedRequest)
        | some x =>
          if t.isSet F.SEC_STATUS_ACTIVATING then t.spdm path (.error (.notReady 19 2))
          else (t.setSec { t.sec with deferred := t.sec.deferred.erase x }).answerAsk path x.2)) ∧
  (∀ (path : SpdmPath) (session : Option (Fin 16)) (key : BitVec 256) (s : State), s.does (.vendorDefinedRequest path session key) fun s => (s.spdmAsk path fun t =>
        match session with
        | some n =>
          if t.liveSession path n.val then
            ((t.setSec { t.sec with fabricKey := some key }).setFld F.SEC_STATUS_FABRIC_KEY 1).spdm path .vendorDefined
          else t.spdm path (.error .sessionRequired)
        | none => t.spdm path (.error .sessionRequired))) ∧
  (∀ (path : SpdmPath) (s : State), s.does (.unsupportedSpdmRequest path) fun s => (s.spdmAsk path fun t => t.spdm path (.error .unsupportedRequest))) ∧
  (∀ (fn : Fin 256) (session : Fin 16) (s : State), s.does (.tspLock fn session) fun s => (s.spdmAsk (.doe fn) fun t =>
        let ptn := (t.grantedTo fn.val).filter fun p => decide (t.ptnState p = ptnActive)
        if t.liveSession (.doe fn) session.val && t.isSet (F.HPT_PORT_STATUS_IDE (fn.val / 16)) && ptn.isSome
            && decide (t.fld (F.SEC_TSP_STATE_STATE fn.val) = tspUnlocked) then
          (t.setFld (F.SEC_TSP_STATE_STATE fn.val) tspLocked).emit (.tsp fn.val (ptn.map t.tspReport))
        else t.emit (.tsp fn.val none))) ∧
  (∀ (ring : Fin 4096) (seq : BitVec 64) (s : State), s.does (.setEnrol ring seq) fun s => (s.setAdmin ring.val seq.toNat 0x20 [bkEnrol, bkRaise] (some false))) ∧
  (∀ (ring : Fin 4096) (seq : BitVec 64) (s : State), s.does (.raiseEpoch ring seq) fun s => (s.setAdmin ring.val seq.toNat 0x20 [bkEnrol, bkRaise] (some true))) ∧
  (∀ (ring : Fin 4096) (seq : BitVec 64) (s : State), s.does (.setRevoke ring seq) fun s => (s.setAdmin ring.val seq.toNat 0x21 [bkRevoke] none)) ∧
  (∀ (ring : Fin 4096) (seq : BitVec 64) (s : State), s.does (.bindLoad ring seq) fun s => (
        match s.runnable ring.val seq.toNat (Desc.isAdmin 0x22) with
        | some e => s.bindLoad e
        | none => s))

/-- What each firmware update and activation command does: each completes in every state, changes nothing but the block (its JTAG port and queue stay, but for the JTAG
rows), and does what its clause says in the model's named operations. -/
def Obligations.ActivationCommands : Prop :=
  (∀ (image : FwImage) (slot : Bool) (s : State), s.does (.pldmFwUpdateTransfer image slot) fun s => (s.pldmUpdate fun t =>
        if t.ras.activation.isSome then t.emit (.pldmReply .retryRequest)
        else
          let b := t.updateSlot slot
          let t1 := t.setBoot (if b then { t.boot with fwB := some image } else { t.boot with fwA := some image })
          let t2 := if b then t1.setBit F.RBT_FW_STATUS_B_VALID false else t1.setBit F.RBT_FW_STATUS_A_VALID false
          (t2.setRas { t2.ras with written := some b, verified := false }).emit (.pldmReply .ok))) ∧
  (∀ (s : State), s.does .verifyComplete fun s => (s.pldmUpdate fun t =>
        match t.ras.written with
        | none => t.emit (.pldmReply .invalidData)
        | some b =>
          let (ok, t1) := t.verify b
          (t1.setRas { t1.ras with verified := ok }).emit (.pldmReply (if ok then .ok else .verifyFailed)))) ∧
  (∀ (s : State), s.does .activateFirmware fun s => (s.pldmUpdate fun t =>
        if t.activationBarred then t.emit (.pldmReply .retryRequest)
        else
          match t.ras.verified, t.slotImage (!t.boot.slotB) with
          | true, some img =>
            if t.boot.phase = .running then
              (((t.setFld F.SEC_STATUS_ACTIVATING 1).handoverFrom 0 img)).emit (.pldmReply .ok)
            else t.emit (.pldmReply .invalidData)
          | _, _ => t.emit (.pldmReply .invalidData))) ∧
  (∀ (s : State), s.does .activationHelmHandover fun s => (s.atActivation 2 fun a t => t.handoverFrom (a.die + 1) a.image)) ∧
  (∀ (s : State), s.does .activationBinnacleSwitch fun s => (s.atActivation 3 fun _ t => t.activationAt 4)) ∧
  (∀ (s : State), s.does .activationMicrocodeLoad fun s => (s.atActivation 4 fun _ t => t.activationAt 5)) ∧
  (∀ (s : State), s.does .activationPhyStage fun s => (s.atActivation 5 fun _ t =>
        ((t.setRas { t.ras with phy := some [] }).activationAt 6).showPhy)) ∧
  (∀ (s : State), s.does .activationExtend fun s => (s.atActivation 6 fun a t =>
        let b := !t.boot.slotB
        let t1 := t.setBoot { t.boot with trial := true, before := t.boot.slotB }
        let t2 := (((t1.runSlot b a.image).revokeKey a.image.key a.image.revoke).measureImage a.image 2)
        ((t2.setRas { t2.ras with activation := none, written := none, verified := false }).setFld F.SEC_STATUS_ACTIVATING 0).setFld
          F.RAS_UPDATE_STATUS_RESULT 0x1)) ∧
  (∀ (s : State), s.does .activationAbandon fun s => (
        match s.ras.activation with
        | some a =>
          if a.step ≤ 5 then
            (((s.setRas { s.ras with activation := none, phy := none }).setFld F.SEC_STATUS_ACTIVATING 0).setFld
              F.RAS_UPDATE_STATUS_RESULT 0x3).showPhy
          else s
        | none => s)) ∧
  (∀ (unit : CrossUnit) (ok : Bool) (s : State), s.does (.phyImageApply unit ok) fun s => (
        match s.ras.phy, s.ras.activation with
        | some done, none =>
          if done.contains unit ∨ !s.phyUnit unit then s
          else
            let took (t : Block) : Block :=
              let t1 := (t.setRas { t.ras with phy := some (done ++ [unit]) }).showPhy
              if ok then t1
              else t1.setFld F.RAS_UPDATE_STATUS_REVERTED_UNITS (min (t1.fld F.RAS_UPDATE_STATUS_REVERTED_UNITS + 1) 255)
            match unit with
            | .link l => if s.chipletBusy l.val then s else took (s.retrainIf l.val 0x5)
            | _ => took s
        | _, _ => s))

/-- What each counter, trace, step and plot command does: each completes in every state, changes nothing but the block (its JTAG port and queue stay, but for the JTAG
rows), and does what its clause says in the model's named operations. -/
def Obligations.DebugCommands : Prop :=
  (∀ (by_ : Actor) (n : BitVec 8) (value : BitVec 32) (s : State), s.does (.counterConfigure by_ n value) fun s => (s.writeCtl by_ n.toNat value.toNat)) ∧
  (∀ (by_ : Actor) (n : BitVec 8) (s : State), s.does (.counterClear by_ n) fun s => (s.writeCtl by_ n.toNat (setBits (s.reg (R.DBG_CNT_CTL n.toNat)).toNat 30 30 1))) ∧
  (∀ (by_ : Actor) (freeze : Bool) (s : State), s.does (.counterFreeze by_ freeze) fun s => (s.byFull by_ fun t => t.setBit F.DBG_CNT_GLOBAL_FREEZE freeze)) ∧
  (∀ (by_ : Actor) (value : BitVec 32) (s : State), s.does (.traceEnable by_ value) fun s => (s.byFull by_ fun t => t.writeTraceCfg value.toNat)) ∧
  (∀ (pos : BitVec 16) (die : Fin 4) (s : State), s.does (.traceRecordWrite pos die) fun s => (
        match s.dbg.records[pos.toNat]? with
        | none => s
        | some r =>
          let n := s.dbg.produce
          let lines := [s.traceBase, lineOf (s.traceAt n), lineOf (s.traceAt (n + 1))]
          if s.blocked .firmware true lines then s.noteWants .firmware true lines
          else (s.setDbg { s.dbg with records := s.dbg.records.eraseIdx pos.toNat }).takeTrace r die.val)) ∧
  (∀ (by_ : Actor) (value : BitVec 32) (s : State), s.does (.traceMark by_ value) fun s => (s.byFull by_ fun t =>
        let (w, u) := t.markWriter by_
        u.trace ttMark .none_ value.toNat w)) ∧
  (∀ (ring : Fin 4096) (s : State), s.does (.stepPause ring) fun s => (
        if s.ringMode ring.val ≠ mdRunning then s
        else
          match (s.entriesOf ring.val).find? s.pauseDue with
          | some e => s.pauseAt e
          | none => s)) ∧
  (∀ (by_ : Actor) (slot : Fin 16) (s : State), s.does (.stepCmdStep by_ slot) fun s => (s.stepCmd by_ slot.val false)) ∧
  (∀ (by_ : Actor) (slot : Fin 16) (s : State), s.does (.stepCmdRun by_ slot) fun s => (s.stepCmd by_ slot.val true)) ∧
  (∀ (by_ : Actor) (s : State), s.does (.capture by_) fun s => (s.byFull by_ fun t =>
        match t.askCapture 0x01 with
        | (some code, u) => u.dbgRefuse code
        | (none, u) => u)) ∧
  (∀ (cause : HangCause) (s : State), s.does (.plotHangTrigger cause) fun s => (
        if !s.isSet F.DBG_PLOT_CFG_AUTO || !s.hangs cause then s
        else
          let soon := s.dbg.lastAuto.any fun x => decide (s.now < x + s.fld F.DBG_PLOT_CFG_MIN_S * 1000000)
          if s.isSet F.DBG_PLOT_STATUS_BUSY || soon || !s.isSet F.DBG_PLOT_CFG_EN then s.bump F.DBG_PLOT_SUPPRESSED_COUNT
          else
            let (trigger, root) := s.hangNode cause
            let t := s.beginCapture trigger root
            t.setDbg { t.dbg with lastAuto := some s.now })) ∧
  (∀ (s : State), s.does .plotSampleDone fun s => (
        match s.dbg.capture with
        | none => s
        | some c =>
          let c' := if !c.sampled then s.sampled c else if !c.confirmed then s.confirmed c else c
          s.setDbg { s.dbg with capture := some c' })) ∧
  (∀ (s : State), s.does .plotWritten fun s => (
        match s.dbg.capture with
        | none => s
        | some c =>
          if !c.sampled || !c.confirmed then s
          else if s.blocked .firmware true (c.lines s.plotSlot (s.fld F.DBG_PLOT_SEQ_COUNT)) then
            s.noteWants .firmware true (c.lines s.plotSlot (s.fld F.DBG_PLOT_SEQ_COUNT))
          else s.writePlot c)) ∧
  (∀ (path : MctpPath) (session : Option (Fin 16)) (region : BitVec 8) (off : BitVec 64) (n : BitVec 16) (s : State), s.does (.regionRead path session region off n) fun s => (s.tabragar path session false false fun t =>
        match t.tabRegion region.toNat with
        | some (base, size) =>
          if n.toNat = 0 ∨ 1024 < n.toNat ∨ size < off.toNat + n.toNat ∨ dramBytes < base + size then ({ code := tabBadAccess }, t)
          else
            let ((bytes, _), u) := t.moduleBytes (base + off.toNat) n.toNat
            ({ code := tabOk, bytes := bytes }, u)
        | none => ({ code := tabBadAccess }, t))) ∧
  (∀ (path : MctpPath) (session : Option (Fin 16)) (s : State), s.does (.mctpPlotCapture path session) fun s => (s.tabragar path session false false fun t =>
        match t.askCapture 0x02 with
        | (none, u) => ({ code := tabOk }, u)
        | (some code, u) => ({ code := if code = 0x03 then tabBusy else tabBadAccess }, u))) ∧
  (∀ (s : State), exec .jtagIdcode s = .next (if s.blk.boot.phase = .unpowered then s else { s with tap := { s.tap with ir := .idcode, driven := false }, blk := s.blk.emit (.jtag idcodeBits) })) ∧
  (∀ (s : State), exec .jtagBypass s = .next (if s.blk.boot.phase = .unpowered then s else { s with tap := { s.tap with ir := .bypass, driven := false }, blk := s.blk.emit (.jtag [false]) })) ∧
  (∀ (lands : List Bool) (load : List Bool) (s : State), exec (.samplePreload lands load) s = .next (if s.blk.boot.phase = .unpowered then s else { s with tap := { s.tap with ir := .sample, driven := false, captured := lands, boundary := load }, blk := s.blk.emit (.jtag lands) })) ∧
  (∀ (rstLow : Bool) (s : State), exec (.extest rstLow) s = .next (if s.blk.boot.phase = .unpowered then s else 
      if (rstLow && s.blk.warmEntered) = true then
        { s with tap := { s.tap with ir := .extest, driven := true }, blk := s.blk.emit (.jtag s.tap.boundary) }
      else { s with tap := { s.tap with ir := .bypass, driven := false }, blk := s.blk.emit (.jtag [false]) }))
end

