-- ==== Sys2Proof/Laws/Assoc.lean ====
section
/-! SUPPORT.  Laws of sparse tables: reading after a write, and that writes keep the canonical form. -/

namespace Sys2Proof.Machine

variable {α : Type}

/-- A table whose keys lie above a bound keeps that under a lower one. -/
theorem Assoc.above_mono {lo k : Nat} {t : Assoc α} (h : Assoc.above k t = true) (hk : lo ≤ k) : Assoc.above lo t = true := by
  cases t with
  | nil => rfl
  | cons e t =>
    simp only [Assoc.above, Bool.and_eq_true, decide_eq_true_eq] at h ⊢
    exact ⟨by omega, h.2⟩

/-- Reading the key just listed. -/
theorem Assoc.get_ins_same (d : α) (k : Nat) (v : α) (t : Assoc α) : Assoc.get d k (Assoc.ins k v t) = v := by
  induction t with
  | nil => simp [Assoc.ins, Assoc.get]
  | cons e t ih =>
    simp only [Assoc.ins]
    split
    · simp only [Assoc.get]; rw [if_neg (by omega)]; exact ih
    · split <;> simp [Assoc.get]

/-- Reading another key than the one listed. -/
theorem Assoc.get_ins_ne {d : α} {k j : Nat} {v : α} (t : Assoc α) (h : j ≠ k) :
    Assoc.get d j (Assoc.ins k v t) = Assoc.get d j t := by
  induction t with
  | nil => simp [Assoc.ins, Assoc.get, Ne.symm h]
  | cons e t ih =>
    simp only [Assoc.ins]
    split
    · simp only [Assoc.get, ih]
    · split
      · rename_i _ h2
        simp only [Assoc.get]
        rw [if_neg (by omega), if_neg (by omega)]
      · simp only [Assoc.get]
        rw [if_neg (by omega)]

/-- Reading another key than the one removed. -/
theorem Assoc.get_drop_ne {d : α} {k j : Nat} (t : Assoc α) (h : j ≠ k) :
    Assoc.get d j (Assoc.drop k t) = Assoc.get d j t := by
  induction t with
  | nil => rfl
  | cons e t ih =>
    simp only [Assoc.drop] at ih ⊢
    rw [List.filter_cons]
    split
    · simp only [Assoc.get, ih]
    · rename_i hk
      simp only [decide_eq_true_eq, not_not] at hk
      simp only [Assoc.get, ih]
      rw [if_neg (by omega)]

/-- Reading the key removed. -/
theorem Assoc.get_drop_same (d : α) (k : Nat) (t : Assoc α) : Assoc.get d k (Assoc.drop k t) = d := by
  induction t with
  | nil => rfl
  | cons e t ih =>
    simp only [Assoc.drop] at ih ⊢
    rw [List.filter_cons]
    split
    · rename_i hk
      simp only [decide_eq_true_eq] at hk
      simp only [Assoc.get]
      rw [if_neg hk]
      exact ih
    · exact ih

/-- A value put at a key is read there. -/
theorem Assoc.get_put_same [DecidableEq α] (d : α) (k : Nat) (v : α) (t : Assoc α) :
    Assoc.get d k (Assoc.put d k v t) = v := by
  unfold Assoc.put
  split
  · rename_i hv; rw [Assoc.get_drop_same, hv]
  · exact Assoc.get_ins_same d k v t

/-- Other keys keep their values. -/
theorem Assoc.get_put_ne [DecidableEq α] {d e : α} {k j : Nat} {v : α} (t : Assoc α) (h : j ≠ k) :
    Assoc.get d j (Assoc.put e k v t) = Assoc.get d j t := by
  unfold Assoc.put
  split
  · exact Assoc.get_drop_ne t h
  · exact Assoc.get_ins_ne t h

/-- A key at or below the bound of a table is not listed. -/
theorem Assoc.get_above {d : α} {k lo : Nat} {t : Assoc α} (h : Assoc.above lo t = true) (hk : k ≤ lo) :
    Assoc.get d k t = d := by
  induction t generalizing lo with
  | nil => rfl
  | cons e t ih =>
    simp only [Assoc.above, Bool.and_eq_true, decide_eq_true_eq] at h
    simp only [Assoc.get]
    rw [if_neg (by omega)]
    exact ih h.2 (by omega)

/-- Listing a key keeps a bound below it. -/
theorem Assoc.above_ins {lo k : Nat} {v : α} {t : Assoc α} (h : Assoc.above lo t = true) (hk : lo < k) :
    Assoc.above lo (Assoc.ins k v t) = true := by
  induction t generalizing lo with
  | nil => simp [Assoc.ins, Assoc.above, hk]
  | cons e t ih =>
    simp only [Assoc.above, Bool.and_eq_true, decide_eq_true_eq] at h
    simp only [Assoc.ins]
    split
    · simp only [Assoc.above, Bool.and_eq_true, decide_eq_true_eq]
      exact ⟨h.1, ih h.2 (by omega)⟩
    · split
      · rename_i h2
        simp only [Assoc.above, Bool.and_eq_true, decide_eq_true_eq]
        exact ⟨hk, h2 ▸ h.2⟩
      · simp only [Assoc.above, Bool.and_eq_true, decide_eq_true_eq]
        exact ⟨hk, by omega, h.2⟩

/-- Listing a key keeps the keys rising. -/
theorem Assoc.sorted_ins {k : Nat} {v : α} {t : Assoc α} (h : Assoc.sorted t = true) :
    Assoc.sorted (Assoc.ins k v t) = true := by
  cases t with
  | nil => rfl
  | cons e t =>
    simp only [Assoc.sorted] at h
    simp only [Assoc.ins]
    split
    · exact Assoc.above_ins h (by omega)
    · split
      · rename_i h2; exact h2 ▸ h
      · simp only [Assoc.sorted, Assoc.above, Bool.and_eq_true, decide_eq_true_eq]; exact ⟨by omega, h⟩

/-- What is listed after a key was listed. -/
theorem Assoc.mem_ins {k : Nat} {v : α} {t : Assoc α} {e : Nat × α} (h : e ∈ Assoc.ins k v t) : e = (k, v) ∨ e ∈ t := by
  induction t with
  | nil => simp [Assoc.ins] at h; exact .inl h
  | cons a t ih =>
    simp only [Assoc.ins] at h
    split at h
    · rcases List.mem_cons.mp h with h | h
      · exact .inr (h ▸ List.mem_cons_self)
      · exact (ih h).imp id (List.mem_cons_of_mem _)
    · split at h
      · rcases List.mem_cons.mp h with h | h
        · exact .inl h
        · exact .inr (List.mem_cons_of_mem _ h)
      · exact List.mem_cons.mp h

/-- A filtered table with rising keys keeps a bound. -/
theorem Assoc.above_filter {p : Nat × α → Bool} {lo : Nat} {t : Assoc α} (h : Assoc.above lo t = true) :
    Assoc.above lo (t.filter p) = true := by
  induction t generalizing lo with
  | nil => rfl
  | cons e t ih =>
    simp only [Assoc.above, Bool.and_eq_true, decide_eq_true_eq] at h
    rw [List.filter_cons]
    split
    · simp only [Assoc.above, Bool.and_eq_true, decide_eq_true_eq]; exact ⟨h.1, ih h.2⟩
    · exact ih (Assoc.above_mono h.2 (by omega))

/-- A filtered table keeps its keys rising. -/
theorem Assoc.sorted_filter {p : Nat × α → Bool} {t : Assoc α} (h : Assoc.sorted t = true) :
    Assoc.sorted (t.filter p) = true := by
  induction t with
  | nil => rfl
  | cons e t ih =>
    simp only [Assoc.sorted] at h
    rw [List.filter_cons]
    split
    · exact Assoc.above_filter h
    · cases t with
      | nil => rfl
      | cons e2 t2 =>
        simp only [Assoc.above, Bool.and_eq_true] at h
        exact ih h.2

/-- A write keeps the canonical form. -/
theorem Assoc.wf_put [DecidableEq α] {d : Nat → α} {k : Nat} {v : α} {t : Assoc α} (h : Assoc.wf d t = true) :
    Assoc.wf d (Assoc.put (d k) k v t) = true := by
  simp only [Assoc.wf, Bool.and_eq_true, Assoc.sparse, List.all_eq_true, decide_eq_true_eq] at h ⊢
  unfold Assoc.put
  split
  · exact ⟨Assoc.sorted_filter h.1, fun e he => h.2 e (List.mem_of_mem_filter he)⟩
  · rename_i hv
    refine ⟨Assoc.sorted_ins h.1, fun e he => ?_⟩
    rcases Assoc.mem_ins he with rfl | he
    · exact hv
    · exact h.2 e he

/-- Entries removed keep the canonical form. -/
theorem Assoc.wf_clear [DecidableEq α] {d : Nat → α} {p : Nat → Bool} {t : Assoc α} (h : Assoc.wf d t = true) :
    Assoc.wf d (Assoc.clear p t) = true := by
  simp only [Assoc.wf, Bool.and_eq_true, Assoc.sparse, List.all_eq_true, decide_eq_true_eq, Assoc.clear] at h ⊢
  exact ⟨Assoc.sorted_filter h.1, fun e he => h.2 e (List.mem_of_mem_filter he)⟩

/-- A table in canonical form has rising keys. -/
theorem Assoc.sorted_of_wf [DecidableEq α] {d : Nat → α} {t : Assoc α} (h : Assoc.wf d t = true) : Assoc.sorted t = true := by
  simp only [Assoc.wf, Bool.and_eq_true] at h
  exact h.1

end Sys2Proof.Machine
end

