-- ==== Sys2Proof/Laws/Exec.lean ====
section
/-! SUPPORT.  Laws of the outcomes: a command's effect on the block, and a command given by a register write. -/

namespace Sys2Proof.Machine

/-- A command that acts on the block answers a next state that differs in the block alone. -/
theorem State.act_eq (s : State) (f : Block → Block) : s.act f = .next { s with blk := f s.blk } := rfl

/-- A command that acts on the block completes. -/
theorem State.act_next {s t : State} {f : Block → Block} : s.act f = .next t ↔ t = { s with blk := f s.blk } := by
  unfold State.act
  constructor
  · intro h; cases h; rfl
  · intro h; rw [h]

/-- A register write that gives its command to that command's meaning has its effect. -/
@[simp] theorem after_act (s : Block) (f : Block → Block) : after s (fun t => t.act f) = f s := rfl

/-- The idle tick leaves the JTAG port and the queue. -/
@[simp] theorem idle_pending (s : State) : (idle s).pending = s.pending := rfl
@[simp] theorem idle_tap (s : State) : (idle s).tap = s.tap := rfl

/-- With no cluster reset in its sequence the idle tick changes the time alone. -/
theorem idle_of_noReset {s : State} (h : s.blk.boot.clusterResets = []) :
    idle s = { s with blk := { s.blk with now := s.blk.now + 1 } } := by
  have keep : s.blk.boot = { s.blk.boot with clusterResets := [] } := by rw [← h]
  simp only [idle, Block.tick, Block.releaseClusters, h, List.filter_nil, forEach, List.foldl_nil, Block.setBoot]
  rw [← keep]

end Sys2Proof.Machine
end

