-- ==== Sys2Proof/Laws/Word.lean ====
section
/-! SUPPORT.  Laws of bit fields and saturating counters. -/

namespace Sys2Proof

/-- A field read is below its width. -/
theorem getBits_lt (x hi lo : Nat) : getBits x hi lo < 2 ^ (hi + 1 - lo) :=
  Nat.mod_lt _ (Nat.two_pow_pos _)

/-- A field that is set reads as the low bits of what was set. -/
theorem getBits_setBits_same {x hi lo v : Nat} (h : lo ≤ hi + 1) :
    getBits (setBits x hi lo v) hi lo = v % 2 ^ (hi + 1 - lo) := by
  unfold getBits setBits
  have hs : 2 ^ (hi + 1) = 2 ^ (hi + 1 - lo) * 2 ^ lo := by rw [← Nat.pow_add]; congr 1; omega
  have hl : x % 2 ^ lo < 2 ^ lo := Nat.mod_lt _ (Nat.two_pow_pos _)
  have e : x / 2 ^ (hi + 1) * 2 ^ (hi + 1) + v % 2 ^ (hi + 1 - lo) * 2 ^ lo + x % 2 ^ lo =
      x % 2 ^ lo + 2 ^ lo * (v % 2 ^ (hi + 1 - lo) + 2 ^ (hi + 1 - lo) * (x / 2 ^ (hi + 1))) := by
    rw [hs]; ring
  rw [e, Nat.add_mul_div_left _ _ (Nat.two_pow_pos _), Nat.div_eq_of_lt hl, Nat.zero_add, Nat.add_mul_mod_self_left,
    Nat.mod_mod]

/-- A field above one that is set keeps its value. -/
theorem getBits_setBits_above {x hi lo v h l : Nat} (hlo : lo ≤ hi + 1) (hl : hi < l) :
    getBits (setBits x hi lo v) h l = getBits x h l := by
  unfold getBits
  congr 1
  have hs : 2 ^ (hi + 1) = 2 ^ (hi + 1 - lo) * 2 ^ lo := by rw [← Nat.pow_add]; congr 1; omega
  have hx : x % 2 ^ lo < 2 ^ lo := Nat.mod_lt _ (Nat.two_pow_pos _)
  have hv : v % 2 ^ (hi + 1 - lo) < 2 ^ (hi + 1 - lo) := Nat.mod_lt _ (Nat.two_pow_pos _)
  have hr : v % 2 ^ (hi + 1 - lo) * 2 ^ lo + x % 2 ^ lo < 2 ^ (hi + 1) := by
    rw [hs]
    calc v % 2 ^ (hi + 1 - lo) * 2 ^ lo + x % 2 ^ lo
        < v % 2 ^ (hi + 1 - lo) * 2 ^ lo + 2 ^ lo := by omega
      _ = (v % 2 ^ (hi + 1 - lo) + 1) * 2 ^ lo := by ring
      _ ≤ 2 ^ (hi + 1 - lo) * 2 ^ lo := Nat.mul_le_mul_right _ hv
  have e : setBits x hi lo v / 2 ^ (hi + 1) = x / 2 ^ (hi + 1) := by
    unfold setBits
    rw [Nat.add_assoc, Nat.mul_comm, Nat.mul_add_div (Nat.two_pow_pos _), Nat.div_eq_of_lt hr, Nat.add_zero]
  have hp : 2 ^ l = 2 ^ (hi + 1) * 2 ^ (l - (hi + 1)) := by rw [← Nat.pow_add]; congr 1; omega
  rw [hp, ← Nat.div_div_eq_div_mul, ← Nat.div_div_eq_div_mul, e]

/-- A field below one that is set keeps its value. -/
theorem getBits_setBits_below {x hi lo v h l : Nat} (hlo : lo ≤ hi + 1) (hh : h < lo) (hl : l ≤ h + 1) :
    getBits (setBits x hi lo v) h l = getBits x h l := by
  have key : ∀ y : Nat, getBits y h l = y % 2 ^ lo / 2 ^ l % 2 ^ (h + 1 - l) := by
    intro y
    unfold getBits
    have hm : 2 ^ (h + 1 - l) ∣ 2 ^ (lo - l) := Nat.pow_dvd_pow 2 (by omega)
    rw [show 2 ^ lo = 2 ^ l * 2 ^ (lo - l) by rw [← Nat.pow_add]; congr 1; omega, Nat.mod_mul_right_div_self,
      Nat.mod_mod_of_dvd _ hm]
  rw [key, key]
  congr 2
  unfold setBits
  have hs : 2 ^ (hi + 1) = 2 ^ lo * 2 ^ (hi + 1 - lo) := by rw [← Nat.pow_add]; congr 1; omega
  have e : x / 2 ^ (hi + 1) * 2 ^ (hi + 1) + v % 2 ^ (hi + 1 - lo) * 2 ^ lo + x % 2 ^ lo =
      x % 2 ^ lo + 2 ^ lo * (x / 2 ^ (hi + 1) * 2 ^ (hi + 1 - lo) + v % 2 ^ (hi + 1 - lo)) := by rw [hs]; ring
  rw [e, Nat.add_mul_mod_self_left, Nat.mod_mod]

/-- Setting a field of a word keeps it a word. -/
theorem setBits_lt {w x hi lo v : Nat} (hx : x < 2 ^ w) (hlo : lo ≤ hi + 1) (hw : hi < w) : setBits x hi lo v < 2 ^ w := by
  unfold setBits
  have hs : 2 ^ (hi + 1) = 2 ^ (hi + 1 - lo) * 2 ^ lo := by rw [← Nat.pow_add]; congr 1; omega
  have hxl : x % 2 ^ lo < 2 ^ lo := Nat.mod_lt _ (Nat.two_pow_pos _)
  have hv : v % 2 ^ (hi + 1 - lo) < 2 ^ (hi + 1 - lo) := Nat.mod_lt _ (Nat.two_pow_pos _)
  have hr : v % 2 ^ (hi + 1 - lo) * 2 ^ lo + x % 2 ^ lo < 2 ^ (hi + 1) := by
    rw [hs]
    calc v % 2 ^ (hi + 1 - lo) * 2 ^ lo + x % 2 ^ lo
        < v % 2 ^ (hi + 1 - lo) * 2 ^ lo + 2 ^ lo := by omega
      _ = (v % 2 ^ (hi + 1 - lo) + 1) * 2 ^ lo := by ring
      _ ≤ 2 ^ (hi + 1 - lo) * 2 ^ lo := Nat.mul_le_mul_right _ hv
  have hw2 : 2 ^ w = 2 ^ (w - (hi + 1)) * 2 ^ (hi + 1) := by rw [← Nat.pow_add]; congr 1; omega
  have hq : x / 2 ^ (hi + 1) < 2 ^ (w - (hi + 1)) := by
    rw [Nat.div_lt_iff_lt_mul (Nat.two_pow_pos _), ← hw2]; exact hx
  rw [hw2]
  calc x / 2 ^ (hi + 1) * 2 ^ (hi + 1) + v % 2 ^ (hi + 1 - lo) * 2 ^ lo + x % 2 ^ lo
      < x / 2 ^ (hi + 1) * 2 ^ (hi + 1) + 2 ^ (hi + 1) := by omega
    _ = (x / 2 ^ (hi + 1) + 1) * 2 ^ (hi + 1) := by ring
    _ ≤ 2 ^ (w - (hi + 1)) * 2 ^ (hi + 1) := Nat.mul_le_mul_right _ hq

/-- A saturating counter never falls, and never passes its largest value. -/
theorem le_satAdd {w x n : Nat} (h : x < 2 ^ w) : x ≤ satAdd w x n := by unfold satAdd; omega

/-- A saturating counter never passes its largest value. -/
theorem satAdd_lt (w x n : Nat) : satAdd w x n < 2 ^ w := by
  unfold satAdd
  have := Nat.two_pow_pos w
  omega

/-- A list cut or filled to a length has it. -/
@[simp] theorem length_fitTo {α : Type} (d : α) (n : Nat) (xs : List α) : (fitTo d n xs).length = n := by
  induction n generalizing xs with
  | zero => simp [fitTo]
  | succ n ih => cases xs <;> simp [fitTo, ih]

/-- A list cut or filled to its own length is itself. -/
theorem fitTo_self {α : Type} (d : α) (xs : List α) : fitTo d xs.length xs = xs := by
  induction xs with
  | nil => rfl
  | cons x xs ih => simp [fitTo, ih]

/-- The bytes of a value are as many as asked for. -/
@[simp] theorem length_leBytes (n v : Nat) : (leBytes n v).length = n := by
  induction n generalizing v with
  | zero => simp [leBytes]
  | succ n ih => simp [leBytes, ih]

/-- The little-endian bytes of a value that fits give it back. -/
theorem ofLeBytes_leBytes (n v : Nat) : ofLeBytes (leBytes n v) = v % 256 ^ n := by
  induction n generalizing v with
  | zero => simp [leBytes, ofLeBytes, Nat.mod_one]
  | succ n ih =>
    simp only [leBytes, ofLeBytes, ih, BitVec.toNat_ofNat]
    rw [Nat.pow_succ 256, Nat.mul_comm (256 ^ n) 256, Nat.mod_mul, show 2 ^ 8 = 256 from rfl]

end Sys2Proof
end

