-- ==== Sys2Proof/Laws/Memory.lean ====
section
/-! SUPPORT.  Laws of DRAM: reading after a write, and that every operation on it keeps the canonical form. -/

namespace Sys2Proof.Machine

/-- Writing cells changes no blank line. -/
@[simp] theorem Memory.blank_setSym (m : Memory) (k : Nat) (v : Byte) : (m.setSym k v).blank = m.blank := rfl

/-- A symbol written reads as written. -/
theorem Memory.sym_setSym_same (m : Memory) (k : Nat) (v : Byte) : (m.setSym k v).sym k = v :=
  Assoc.get_put_same (m.blank k) k v m.cells

/-- Every other symbol reads as before. -/
theorem Memory.sym_setSym_ne {k j : Nat} {v : Byte} (m : Memory) (h : j ≠ k) : (m.setSym k v).sym j = m.sym j :=
  Assoc.get_put_ne m.cells h

/-- Writing a symbol keeps the canonical form. -/
theorem Memory.wf_setSym {m : Memory} {k : Nat} {v : Byte} (h : m.wf = true) : (m.setSym k v).wf = true :=
  Assoc.wf_put h

/-- Writing successive symbols keeps the canonical form. -/
theorem Memory.wf_setFrom {m : Memory} {k : Nat} {vs : List Nat} (h : m.wf = true) : (m.setFrom k vs).wf = true := by
  induction vs generalizing m k with
  | nil => exact h
  | cons v vs ih => exact ih (Memory.wf_setSym h)

/-- Symbols below those written read as before. -/
theorem Memory.sym_setFrom_lt {k j : Nat} {vs : List Nat} (m : Memory) (h : j < k) : (m.setFrom k vs).sym j = m.sym j := by
  induction vs generalizing m k with
  | nil => rfl
  | cons v vs ih => rw [Memory.setFrom, ih _ (by omega), Memory.sym_setSym_ne m (by omega)]

/-- Symbols above those written read as before. -/
theorem Memory.sym_setFrom_ge {k j : Nat} {vs : List Nat} (m : Memory) (h : k + vs.length ≤ j) :
    (m.setFrom k vs).sym j = m.sym j := by
  induction vs generalizing m k with
  | nil => rfl
  | cons v vs ih =>
    simp only [List.length_cons] at h
    rw [Memory.setFrom, ih _ (by omega), Memory.sym_setSym_ne m (by omega)]

/-- Each symbol written reads as written. -/
theorem Memory.sym_setFrom {k i : Nat} {vs : List Nat} {m : Memory} (hi : i < vs.length) :
    (m.setFrom k vs).sym (k + i) = BitVec.ofNat 8 (vs.getD i 0) := by
  induction vs generalizing m k i with
  | nil => simp at hi
  | cons v vs ih =>
    rw [Memory.setFrom]
    cases i with
    | zero => rw [Memory.sym_setFrom_lt _ (by omega)]; simpa using Memory.sym_setSym_same _ _ _
    | succ i =>
      have := ih (m := m.setSym k (BitVec.ofNat 8 v)) (k := k + 1) (i := i) (by simpa using hi)
      rw [show k + (i + 1) = k + 1 + i by omega, this]
      simp

/-- Writing a line keeps the canonical form. -/
theorem Memory.wf_setLine {m : Memory} {stack line : Nat} {syms : List Nat} (h : m.wf = true) :
    (m.setLine stack line syms).wf = true := Memory.wf_setFrom h

/-- Symbols outside a line that is written read as before. -/
theorem Memory.sym_setLine_ne {m : Memory} {stack line : Nat} {syms : List Nat} {k : Nat}
    (h : k < symKey stack line 0 ∨ symKey stack line 0 + 72 ≤ k) : (m.setLine stack line syms).sym k = m.sym k := by
  unfold Memory.setLine
  rcases h with h | h
  · exact Memory.sym_setFrom_lt m h
  · exact Memory.sym_setFrom_ge m (by simpa using h)

/-- A line that is written leaves every other line as it was. -/
theorem Memory.line_setLine_ne {m : Memory} {st ln st2 ln2 : Nat} {syms : List Nat}
    (h : st * linesPerStack + ln ≠ st2 * linesPerStack + ln2) : (m.setLine st ln syms).line st2 ln2 = m.line st2 ln2 := by
  unfold Memory.line
  refine List.map_congr_left fun j hj => ?_
  have hj : j < 72 := List.mem_range.mp hj
  rw [Memory.sym_setLine_ne]
  unfold symKey
  rcases Nat.lt_or_gt_of_ne h with h | h
  · right; omega
  · left; omega

/-- A line that is written reads as it was written. -/
theorem Memory.line_setLine_same {m : Memory} {st ln : Nat} {syms : List Nat} (hl : syms.length = 72)
    (hb : ∀ x ∈ syms, x < 256) : (m.setLine st ln syms).line st ln = syms := by
  have hf : fitTo 0 72 syms = syms := by rw [← hl]; exact fitTo_self 0 syms
  unfold Memory.line Memory.setLine
  rw [hf]
  apply List.ext_getElem
  · simp [hl]
  · intro i h1 h2
    simp only [List.getElem_map, List.getElem_range]
    rw [show symKey st ln i = symKey st ln 0 + i by unfold symKey; omega, Memory.sym_setFrom h2, BitVec.toNat_ofNat]
    have h3 := hb (syms[i]) (List.getElem_mem h2)
    rw [List.getD_eq_getElem _ _ h2, Nat.mod_eq_of_lt h3]

/-- Blanking a stack keeps the canonical form: the cells of the others keep what they read as unlisted. -/
theorem Memory.wf_blankStack {m : Memory} {stack : Nat} {vacant : Bool} (h : m.wf = true) :
    (m.blankStack stack vacant).wf = true := by
  have hb : ∀ k, ¬ (symKey stack 0 0 ≤ k ∧ k < symKey (stack + 1) 0 0) → (m.blankStack stack vacant).blank k = m.blank k := by
    intro k hk
    have hne : k / (linesPerStack * 72) ≠ stack := by
      intro he
      apply hk
      have hd := Nat.div_add_mod k (linesPerStack * 72)
      have hm := Nat.mod_lt k (show 0 < linesPerStack * 72 by simp [linesPerStack])
      rw [he] at hd
      unfold symKey linesPerStack at *
      constructor <;> omega
    have hc : (m.blankStack stack vacant).vacant.contains (k / (linesPerStack * 72)) =
        m.vacant.contains (k / (linesPerStack * 72)) := by
      unfold Memory.blankStack
      simp only
      split
      · split
        · rfl
        · simp [hne]
      · rw [Bool.eq_iff_iff]
        simp [List.mem_filter, hne]
    unfold Memory.blank
    simp only [hc]
  have hw := Assoc.wf_clear (p := fun k => decide (symKey stack 0 0 ≤ k) && decide (k < symKey (stack + 1) 0 0)) h
  simp only [Assoc.wf, Bool.and_eq_true, Assoc.sparse, List.all_eq_true, decide_eq_true_eq] at hw
  simp only [Memory.wf, Assoc.wf, Bool.and_eq_true, Assoc.sparse, List.all_eq_true, decide_eq_true_eq]
  refine ⟨hw.1, fun e he => ?_⟩
  have hin : ¬ (symKey stack 0 0 ≤ e.1 ∧ e.1 < symKey (stack + 1) 0 0) := by
    have := List.of_mem_filter he
    simp at this
    omega
  rw [hb e.1 hin]
  exact hw.2 e he

/-- Writing clean poison keeps the canonical form. -/
theorem Memory.wf_poisonLines {m : Memory} {stack lo n : Nat} (h : m.wf = true) : (m.poisonLines stack lo n).wf = true := by
  induction n generalizing m lo with
  | zero => exact h
  | succ n ih => exact ih (Memory.wf_setLine h)

/-- Poisoning a range of lines keeps the canonical form. -/
theorem Memory.wf_poisonRange {m : Memory} {stack lo n : Nat} (h : m.wf = true) : (m.poisonRange stack lo n).wf = true := by
  unfold Memory.poisonRange
  split
  · exact Memory.wf_poisonLines h
  · have hw := Assoc.wf_clear
      (p := fun k => decide (symKey stack lo 0 ≤ k) && decide (k < symKey stack (lo + n) 0)) h
    exact hw

/-- Memory with nothing listed is in canonical form. -/
theorem Memory.wf_empty : ({} : Memory).wf = true := rfl

end Sys2Proof.Machine
end

