-- ==== Sys2Proof/Laws/RegFile.lean ====
section
/-! SUPPORT.  Laws of the register file: reading after a write, and that its operations keep the canonical form. -/

namespace Sys2Proof.Machine

/-- A register written reads as written. -/
theorem RegFile.read_write_same (rf : RegFile) (a : Nat) (v : Word) : (rf.write a v).read a = v :=
  Assoc.get_put_same (regDefault a) a v rf

/-- Other registers keep their values. -/
theorem RegFile.read_write_ne {a b : Nat} {v : Word} (rf : RegFile) (h : b ≠ a) : (rf.write a v).read b = rf.read b :=
  Assoc.get_put_ne rf h

/-- A register write keeps the canonical form. -/
theorem RegFile.wf_write {rf : RegFile} {a : Nat} {v : Word} (h : rf.wf = true) : (rf.write a v).wf = true :=
  Assoc.wf_put h

/-- A fold of steps that each keep the canonical form keeps it. -/
theorem RegFile.wf_foldl {β : Type} {f : RegFile → β → RegFile} (hf : ∀ rf b, RegFile.wf rf = true → (f rf b).wf = true)
    (bs : List β) {rf : RegFile} (h : rf.wf = true) : RegFile.wf (bs.foldl f rf) = true := by
  induction bs generalizing rf with
  | nil => exact h
  | cons b bs ih => exact ih (hf rf b h)

/-- A reset of a class keeps the canonical form. -/
theorem RegFile.wf_reset {c : ResetClass} {p : Nat → Bool} {rf : RegFile} (h : rf.wf = true) : (rf.reset c p).wf = true := by
  unfold RegFile.reset
  refine RegFile.wf_foldl (fun acc e ha => ?_) rf h
  split
  · split
    · exact RegFile.wf_write ha
    · exact ha
  · exact ha

/-- A restore of a configuration keeps the canonical form. -/
theorem RegFile.wf_restore {c : ResetClass} {cfg : List (Nat × Word)} {rf : RegFile} (h : rf.wf = true) :
    (rf.restore c cfg).wf = true := by
  unfold RegFile.restore
  refine RegFile.wf_foldl (fun acc e ha => ?_) cfg h
  split
  · exact RegFile.wf_write ha
  · exact ha

/-- Registers cleared: the canonical form is kept. -/
theorem RegFile.wf_clear {p : Nat → Bool} {rf : RegFile} (h : rf.wf = true) : RegFile.wf (Assoc.clear p rf) = true :=
  Assoc.wf_clear h

/-- The empty register file, in which every register has its reset value, is in canonical form. -/
theorem RegFile.wf_nil : RegFile.wf [] = true := rfl

end Sys2Proof.Machine
end

