-- ==== Sys2Proof/Laws/Ops.lean ====
section
/-! SUPPORT.  Laws of the named operations: reading a register or a field after a write, saturating counters, who may act. -/

namespace Sys2Proof.Machine

/-- A register written reads as written. -/
theorem Block.reg_setReg_same (s : Block) (a : Nat) (v : Word) : (s.setReg a v).reg a = v :=
  RegFile.read_write_same s.regs a v

/-- Every other register reads as before. -/
theorem Block.reg_setReg_ne {s : Block} {a b : Nat} {v : Word} (h : b ≠ a) : (s.setReg a v).reg b = s.reg b :=
  RegFile.read_write_ne s.regs h

/-- A register write keeps the register file's canonical form. -/
theorem Block.wf_setReg {s : Block} {a : Nat} {v : Word} (h : s.regs.wf = true) : (s.setReg a v).regs.wf = true :=
  RegFile.wf_write h

/-- Setting a field keeps the register file's canonical form. -/
theorem Block.wf_setFld {s : Block} {f : Fld} {v : Nat} (h : s.regs.wf = true) : (s.setFld f v).regs.wf = true :=
  RegFile.wf_write h

/-- A field within a word. -/
def Fld.fits (f : Fld) : Prop := f.lo ≤ f.hi + 1 ∧ f.hi < 32

/-- A field that is set reads as the low bits of what was set. -/
theorem Block.fld_setFld_same {s : Block} {f : Fld} {v : Nat} (hf : f.fits) :
    (s.setFld f v).fld f = v % 2 ^ (f.hi + 1 - f.lo) := by
  unfold Block.fld Block.setFld
  rw [Block.reg_setReg_same, BitVec.toNat_ofNat,
    Nat.mod_eq_of_lt (setBits_lt (s.reg f.addr).isLt hf.1 hf.2), getBits_setBits_same hf.1]

/-- Setting a field leaves the fields of other registers. -/
theorem Block.fld_setFld_addr {s : Block} {f g : Fld} {v : Nat} (h : g.addr ≠ f.addr) : (s.setFld f v).fld g = s.fld g := by
  unfold Block.fld Block.setFld
  rw [Block.reg_setReg_ne h]

/-- Setting a field leaves the other fields of its register. -/
theorem Block.fld_setFld_apart {s : Block} {f g : Fld} {v : Nat} (hf : f.fits) (hg : g.lo ≤ g.hi + 1)
    (ha : g.addr = f.addr) (hd : f.hi < g.lo ∨ g.hi < f.lo) : (s.setFld f v).fld g = s.fld g := by
  unfold Block.fld Block.setFld
  rw [ha, Block.reg_setReg_same, BitVec.toNat_ofNat, Nat.mod_eq_of_lt (setBits_lt (s.reg f.addr).isLt hf.1 hf.2)]
  rcases hd with hd | hd
  · exact getBits_setBits_above hf.1 hd
  · exact getBits_setBits_below hf.1 hd hg

/-- A field read is below its width. -/
theorem Block.fld_lt (s : Block) (f : Fld) : s.fld f < 2 ^ (f.hi + 1 - f.lo) := getBits_lt _ _ _

/-- A counter raised by `n`, held at its largest value. -/
theorem Block.fld_bump_same {s : Block} {f : Fld} {n : Nat} (hf : f.fits) :
    (s.bump f n).fld f = satAdd (f.hi + 1 - f.lo) (s.fld f) n := by
  unfold Block.bump
  rw [Block.fld_setFld_same hf, Nat.mod_eq_of_lt (satAdd_lt _ _ _)]

/-- What each of the operations keeps, repetition over a list keeps. -/
theorem forEach_keeps {α : Type} {P : Block → Prop} {f : α → Block → Block} (hf : ∀ x s, P s → P (f x s)) (xs : List α)
    {s : Block} (h : P s) : P (forEach xs f s) := by
  unfold forEach
  induction xs generalizing s with
  | nil => exact h
  | cons x xs ih => exact ih (hf x s h)

/-- What an operation keeps, it keeps when made on a condition. -/
theorem Block.when_keeps {P : Block → Prop} {f : Block → Block} (hf : ∀ s, P s → P (f s)) {s : Block} (c : Bool) (h : P s) :
    P (s.when c f) := by
  unfold Block.when
  split
  · exact hf s h
  · exact h

/-- A write for full functions, by firmware or by a full function, is made. -/
theorem Block.byFull_full {s : Block} {a : Actor} {act : Block → Block} (h : s.actsFull a = true) : s.byFull a act = act s := by
  cases a with
  | firmware => rfl
  | fn f => simp only [Block.actsFull] at h; simp [Block.byFull, h]

/-- A write for full functions, by another one, is dropped and counted. -/
theorem Block.byFull_other {s : Block} {a : Actor} {act : Block → Block} (h : s.actsFull a = false) :
    s.byFull a act = s.scopeViol := by
  cases a with
  | firmware => simp [Block.actsFull] at h
  | fn f => simp only [Block.actsFull] at h; simp [Block.byFull, h]

end Sys2Proof.Machine
end

