-- ==== Sys2Proof/Laws/State.lean ====
section
/-! SUPPORT.  What the updates of the block change and leave: one law per field and update. -/

namespace Sys2Proof.Machine

/-! `setReg` changes `regs` alone. -/

@[simp] theorem Block.setReg_regs (s : Block) (a : Nat) (v : Word) : (s.setReg a v).regs = s.regs.write a v := rfl
@[simp] theorem Block.setReg_mem (s : Block) (a : Nat) (v : Word) : (s.setReg a v).mem = s.mem := rfl
@[simp] theorem Block.setReg_pool (s : Block) (a : Nat) (v : Word) : (s.setReg a v).pool = s.pool := rfl
@[simp] theorem Block.setReg_ctl (s : Block) (a : Nat) (v : Word) : (s.setReg a v).ctl = s.ctl := rfl
@[simp] theorem Block.setReg_eng (s : Block) (a : Nat) (v : Word) : (s.setReg a v).eng = s.eng := rfl
@[simp] theorem Block.setReg_xlt (s : Block) (a : Nat) (v : Word) : (s.setReg a v).xlt = s.xlt := rfl
@[simp] theorem Block.setReg_host (s : Block) (a : Nat) (v : Word) : (s.setReg a v).host = s.host := rfl
@[simp] theorem Block.setReg_net (s : Block) (a : Nat) (v : Word) : (s.setReg a v).net = s.net := rfl
@[simp] theorem Block.setReg_sec (s : Block) (a : Nat) (v : Word) : (s.setReg a v).sec = s.sec := rfl
@[simp] theorem Block.setReg_pwr (s : Block) (a : Nat) (v : Word) : (s.setReg a v).pwr = s.pwr := rfl
@[simp] theorem Block.setReg_boot (s : Block) (a : Nat) (v : Word) : (s.setReg a v).boot = s.boot := rfl
@[simp] theorem Block.setReg_ras (s : Block) (a : Nat) (v : Word) : (s.setReg a v).ras = s.ras := rfl
@[simp] theorem Block.setReg_dbg (s : Block) (a : Nat) (v : Word) : (s.setReg a v).dbg = s.dbg := rfl
@[simp] theorem Block.setReg_bus (s : Block) (a : Nat) (v : Word) : (s.setReg a v).bus = s.bus := rfl
@[simp] theorem Block.setReg_out (s : Block) (a : Nat) (v : Word) : (s.setReg a v).out = s.out := rfl
@[simp] theorem Block.setReg_now (s : Block) (a : Nat) (v : Word) : (s.setReg a v).now = s.now := rfl
@[simp] theorem Block.setReg_free (s : Block) (a : Nat) (v : Word) : (s.setReg a v).free = s.free := rfl

/-! `setFld` changes `regs` alone. -/

@[simp] theorem Block.setFld_mem (s : Block) (f : Fld) (v : Nat) : (s.setFld f v).mem = s.mem := rfl
@[simp] theorem Block.setFld_pool (s : Block) (f : Fld) (v : Nat) : (s.setFld f v).pool = s.pool := rfl
@[simp] theorem Block.setFld_ctl (s : Block) (f : Fld) (v : Nat) : (s.setFld f v).ctl = s.ctl := rfl
@[simp] theorem Block.setFld_eng (s : Block) (f : Fld) (v : Nat) : (s.setFld f v).eng = s.eng := rfl
@[simp] theorem Block.setFld_xlt (s : Block) (f : Fld) (v : Nat) : (s.setFld f v).xlt = s.xlt := rfl
@[simp] theorem Block.setFld_host (s : Block) (f : Fld) (v : Nat) : (s.setFld f v).host = s.host := rfl
@[simp] theorem Block.setFld_net (s : Block) (f : Fld) (v : Nat) : (s.setFld f v).net = s.net := rfl
@[simp] theorem Block.setFld_sec (s : Block) (f : Fld) (v : Nat) : (s.setFld f v).sec = s.sec := rfl
@[simp] theorem Block.setFld_pwr (s : Block) (f : Fld) (v : Nat) : (s.setFld f v).pwr = s.pwr := rfl
@[simp] theorem Block.setFld_boot (s : Block) (f : Fld) (v : Nat) : (s.setFld f v).boot = s.boot := rfl
@[simp] theorem Block.setFld_ras (s : Block) (f : Fld) (v : Nat) : (s.setFld f v).ras = s.ras := rfl
@[simp] theorem Block.setFld_dbg (s : Block) (f : Fld) (v : Nat) : (s.setFld f v).dbg = s.dbg := rfl
@[simp] theorem Block.setFld_bus (s : Block) (f : Fld) (v : Nat) : (s.setFld f v).bus = s.bus := rfl
@[simp] theorem Block.setFld_out (s : Block) (f : Fld) (v : Nat) : (s.setFld f v).out = s.out := rfl
@[simp] theorem Block.setFld_now (s : Block) (f : Fld) (v : Nat) : (s.setFld f v).now = s.now := rfl
@[simp] theorem Block.setFld_free (s : Block) (f : Fld) (v : Nat) : (s.setFld f v).free = s.free := rfl

/-! `setBit` changes `regs` alone. -/

@[simp] theorem Block.setBit_mem (s : Block) (f : Fld) (b : Bool) : (s.setBit f b).mem = s.mem := rfl
@[simp] theorem Block.setBit_pool (s : Block) (f : Fld) (b : Bool) : (s.setBit f b).pool = s.pool := rfl
@[simp] theorem Block.setBit_ctl (s : Block) (f : Fld) (b : Bool) : (s.setBit f b).ctl = s.ctl := rfl
@[simp] theorem Block.setBit_eng (s : Block) (f : Fld) (b : Bool) : (s.setBit f b).eng = s.eng := rfl
@[simp] theorem Block.setBit_xlt (s : Block) (f : Fld) (b : Bool) : (s.setBit f b).xlt = s.xlt := rfl
@[simp] theorem Block.setBit_host (s : Block) (f : Fld) (b : Bool) : (s.setBit f b).host = s.host := rfl
@[simp] theorem Block.setBit_net (s : Block) (f : Fld) (b : Bool) : (s.setBit f b).net = s.net := rfl
@[simp] theorem Block.setBit_sec (s : Block) (f : Fld) (b : Bool) : (s.setBit f b).sec = s.sec := rfl
@[simp] theorem Block.setBit_pwr (s : Block) (f : Fld) (b : Bool) : (s.setBit f b).pwr = s.pwr := rfl
@[simp] theorem Block.setBit_boot (s : Block) (f : Fld) (b : Bool) : (s.setBit f b).boot = s.boot := rfl
@[simp] theorem Block.setBit_ras (s : Block) (f : Fld) (b : Bool) : (s.setBit f b).ras = s.ras := rfl
@[simp] theorem Block.setBit_dbg (s : Block) (f : Fld) (b : Bool) : (s.setBit f b).dbg = s.dbg := rfl
@[simp] theorem Block.setBit_bus (s : Block) (f : Fld) (b : Bool) : (s.setBit f b).bus = s.bus := rfl
@[simp] theorem Block.setBit_out (s : Block) (f : Fld) (b : Bool) : (s.setBit f b).out = s.out := rfl
@[simp] theorem Block.setBit_now (s : Block) (f : Fld) (b : Bool) : (s.setBit f b).now = s.now := rfl
@[simp] theorem Block.setBit_free (s : Block) (f : Fld) (b : Bool) : (s.setBit f b).free = s.free := rfl

/-! `bump` changes `regs` alone. -/

@[simp] theorem Block.bump_mem (s : Block) (f : Fld) (n : Nat) : (s.bump f n).mem = s.mem := rfl
@[simp] theorem Block.bump_pool (s : Block) (f : Fld) (n : Nat) : (s.bump f n).pool = s.pool := rfl
@[simp] theorem Block.bump_ctl (s : Block) (f : Fld) (n : Nat) : (s.bump f n).ctl = s.ctl := rfl
@[simp] theorem Block.bump_eng (s : Block) (f : Fld) (n : Nat) : (s.bump f n).eng = s.eng := rfl
@[simp] theorem Block.bump_xlt (s : Block) (f : Fld) (n : Nat) : (s.bump f n).xlt = s.xlt := rfl
@[simp] theorem Block.bump_host (s : Block) (f : Fld) (n : Nat) : (s.bump f n).host = s.host := rfl
@[simp] theorem Block.bump_net (s : Block) (f : Fld) (n : Nat) : (s.bump f n).net = s.net := rfl
@[simp] theorem Block.bump_sec (s : Block) (f : Fld) (n : Nat) : (s.bump f n).sec = s.sec := rfl
@[simp] theorem Block.bump_pwr (s : Block) (f : Fld) (n : Nat) : (s.bump f n).pwr = s.pwr := rfl
@[simp] theorem Block.bump_boot (s : Block) (f : Fld) (n : Nat) : (s.bump f n).boot = s.boot := rfl
@[simp] theorem Block.bump_ras (s : Block) (f : Fld) (n : Nat) : (s.bump f n).ras = s.ras := rfl
@[simp] theorem Block.bump_dbg (s : Block) (f : Fld) (n : Nat) : (s.bump f n).dbg = s.dbg := rfl
@[simp] theorem Block.bump_bus (s : Block) (f : Fld) (n : Nat) : (s.bump f n).bus = s.bus := rfl
@[simp] theorem Block.bump_out (s : Block) (f : Fld) (n : Nat) : (s.bump f n).out = s.out := rfl
@[simp] theorem Block.bump_now (s : Block) (f : Fld) (n : Nat) : (s.bump f n).now = s.now := rfl
@[simp] theorem Block.bump_free (s : Block) (f : Fld) (n : Nat) : (s.bump f n).free = s.free := rfl

/-! `drop` changes `regs` alone. -/

@[simp] theorem Block.drop_mem (s : Block) (f : Fld) (n : Nat) : (s.drop f n).mem = s.mem := rfl
@[simp] theorem Block.drop_pool (s : Block) (f : Fld) (n : Nat) : (s.drop f n).pool = s.pool := rfl
@[simp] theorem Block.drop_ctl (s : Block) (f : Fld) (n : Nat) : (s.drop f n).ctl = s.ctl := rfl
@[simp] theorem Block.drop_eng (s : Block) (f : Fld) (n : Nat) : (s.drop f n).eng = s.eng := rfl
@[simp] theorem Block.drop_xlt (s : Block) (f : Fld) (n : Nat) : (s.drop f n).xlt = s.xlt := rfl
@[simp] theorem Block.drop_host (s : Block) (f : Fld) (n : Nat) : (s.drop f n).host = s.host := rfl
@[simp] theorem Block.drop_net (s : Block) (f : Fld) (n : Nat) : (s.drop f n).net = s.net := rfl
@[simp] theorem Block.drop_sec (s : Block) (f : Fld) (n : Nat) : (s.drop f n).sec = s.sec := rfl
@[simp] theorem Block.drop_pwr (s : Block) (f : Fld) (n : Nat) : (s.drop f n).pwr = s.pwr := rfl
@[simp] theorem Block.drop_boot (s : Block) (f : Fld) (n : Nat) : (s.drop f n).boot = s.boot := rfl
@[simp] theorem Block.drop_ras (s : Block) (f : Fld) (n : Nat) : (s.drop f n).ras = s.ras := rfl
@[simp] theorem Block.drop_dbg (s : Block) (f : Fld) (n : Nat) : (s.drop f n).dbg = s.dbg := rfl
@[simp] theorem Block.drop_bus (s : Block) (f : Fld) (n : Nat) : (s.drop f n).bus = s.bus := rfl
@[simp] theorem Block.drop_out (s : Block) (f : Fld) (n : Nat) : (s.drop f n).out = s.out := rfl
@[simp] theorem Block.drop_now (s : Block) (f : Fld) (n : Nat) : (s.drop f n).now = s.now := rfl
@[simp] theorem Block.drop_free (s : Block) (f : Fld) (n : Nat) : (s.drop f n).free = s.free := rfl

/-! `setPair` changes `regs` alone. -/

@[simp] theorem Block.setPair_mem (s : Block) (lo hi v : Nat) : (s.setPair lo hi v).mem = s.mem := rfl
@[simp] theorem Block.setPair_pool (s : Block) (lo hi v : Nat) : (s.setPair lo hi v).pool = s.pool := rfl
@[simp] theorem Block.setPair_ctl (s : Block) (lo hi v : Nat) : (s.setPair lo hi v).ctl = s.ctl := rfl
@[simp] theorem Block.setPair_eng (s : Block) (lo hi v : Nat) : (s.setPair lo hi v).eng = s.eng := rfl
@[simp] theorem Block.setPair_xlt (s : Block) (lo hi v : Nat) : (s.setPair lo hi v).xlt = s.xlt := rfl
@[simp] theorem Block.setPair_host (s : Block) (lo hi v : Nat) : (s.setPair lo hi v).host = s.host := rfl
@[simp] theorem Block.setPair_net (s : Block) (lo hi v : Nat) : (s.setPair lo hi v).net = s.net := rfl
@[simp] theorem Block.setPair_sec (s : Block) (lo hi v : Nat) : (s.setPair lo hi v).sec = s.sec := rfl
@[simp] theorem Block.setPair_pwr (s : Block) (lo hi v : Nat) : (s.setPair lo hi v).pwr = s.pwr := rfl
@[simp] theorem Block.setPair_boot (s : Block) (lo hi v : Nat) : (s.setPair lo hi v).boot = s.boot := rfl
@[simp] theorem Block.setPair_ras (s : Block) (lo hi v : Nat) : (s.setPair lo hi v).ras = s.ras := rfl
@[simp] theorem Block.setPair_dbg (s : Block) (lo hi v : Nat) : (s.setPair lo hi v).dbg = s.dbg := rfl
@[simp] theorem Block.setPair_bus (s : Block) (lo hi v : Nat) : (s.setPair lo hi v).bus = s.bus := rfl
@[simp] theorem Block.setPair_out (s : Block) (lo hi v : Nat) : (s.setPair lo hi v).out = s.out := rfl
@[simp] theorem Block.setPair_now (s : Block) (lo hi v : Nat) : (s.setPair lo hi v).now = s.now := rfl
@[simp] theorem Block.setPair_free (s : Block) (lo hi v : Nat) : (s.setPair lo hi v).free = s.free := rfl

/-! `emit` changes `out` alone. -/

@[simp] theorem Block.emit_regs (s : Block) (o : Output) : (s.emit o).regs = s.regs := rfl
@[simp] theorem Block.emit_mem (s : Block) (o : Output) : (s.emit o).mem = s.mem := rfl
@[simp] theorem Block.emit_pool (s : Block) (o : Output) : (s.emit o).pool = s.pool := rfl
@[simp] theorem Block.emit_ctl (s : Block) (o : Output) : (s.emit o).ctl = s.ctl := rfl
@[simp] theorem Block.emit_eng (s : Block) (o : Output) : (s.emit o).eng = s.eng := rfl
@[simp] theorem Block.emit_xlt (s : Block) (o : Output) : (s.emit o).xlt = s.xlt := rfl
@[simp] theorem Block.emit_host (s : Block) (o : Output) : (s.emit o).host = s.host := rfl
@[simp] theorem Block.emit_net (s : Block) (o : Output) : (s.emit o).net = s.net := rfl
@[simp] theorem Block.emit_sec (s : Block) (o : Output) : (s.emit o).sec = s.sec := rfl
@[simp] theorem Block.emit_pwr (s : Block) (o : Output) : (s.emit o).pwr = s.pwr := rfl
@[simp] theorem Block.emit_boot (s : Block) (o : Output) : (s.emit o).boot = s.boot := rfl
@[simp] theorem Block.emit_ras (s : Block) (o : Output) : (s.emit o).ras = s.ras := rfl
@[simp] theorem Block.emit_dbg (s : Block) (o : Output) : (s.emit o).dbg = s.dbg := rfl
@[simp] theorem Block.emit_bus (s : Block) (o : Output) : (s.emit o).bus = s.bus := rfl
@[simp] theorem Block.emit_out (s : Block) (o : Output) : (s.emit o).out = s.out ++ [o] := rfl
@[simp] theorem Block.emit_now (s : Block) (o : Output) : (s.emit o).now = s.now := rfl
@[simp] theorem Block.emit_free (s : Block) (o : Output) : (s.emit o).free = s.free := rfl

/-! `health` changes `out` alone. -/

@[simp] theorem Block.health_regs (s : Block) (h : Health) : (s.health h).regs = s.regs := rfl
@[simp] theorem Block.health_mem (s : Block) (h : Health) : (s.health h).mem = s.mem := rfl
@[simp] theorem Block.health_pool (s : Block) (h : Health) : (s.health h).pool = s.pool := rfl
@[simp] theorem Block.health_ctl (s : Block) (h : Health) : (s.health h).ctl = s.ctl := rfl
@[simp] theorem Block.health_eng (s : Block) (h : Health) : (s.health h).eng = s.eng := rfl
@[simp] theorem Block.health_xlt (s : Block) (h : Health) : (s.health h).xlt = s.xlt := rfl
@[simp] theorem Block.health_host (s : Block) (h : Health) : (s.health h).host = s.host := rfl
@[simp] theorem Block.health_net (s : Block) (h : Health) : (s.health h).net = s.net := rfl
@[simp] theorem Block.health_sec (s : Block) (h : Health) : (s.health h).sec = s.sec := rfl
@[simp] theorem Block.health_pwr (s : Block) (h : Health) : (s.health h).pwr = s.pwr := rfl
@[simp] theorem Block.health_boot (s : Block) (h : Health) : (s.health h).boot = s.boot := rfl
@[simp] theorem Block.health_ras (s : Block) (h : Health) : (s.health h).ras = s.ras := rfl
@[simp] theorem Block.health_dbg (s : Block) (h : Health) : (s.health h).dbg = s.dbg := rfl
@[simp] theorem Block.health_bus (s : Block) (h : Health) : (s.health h).bus = s.bus := rfl
@[simp] theorem Block.health_out (s : Block) (h : Health) : (s.health h).out = s.out ++ [.health h] := rfl
@[simp] theorem Block.health_now (s : Block) (h : Health) : (s.health h).now = s.now := rfl
@[simp] theorem Block.health_free (s : Block) (h : Health) : (s.health h).free = s.free := rfl

/-! `setDbg` changes `dbg` alone. -/

@[simp] theorem Block.setDbg_regs (s : Block) (x : DbgSt) : (s.setDbg x).regs = s.regs := rfl
@[simp] theorem Block.setDbg_mem (s : Block) (x : DbgSt) : (s.setDbg x).mem = s.mem := rfl
@[simp] theorem Block.setDbg_pool (s : Block) (x : DbgSt) : (s.setDbg x).pool = s.pool := rfl
@[simp] theorem Block.setDbg_ctl (s : Block) (x : DbgSt) : (s.setDbg x).ctl = s.ctl := rfl
@[simp] theorem Block.setDbg_eng (s : Block) (x : DbgSt) : (s.setDbg x).eng = s.eng := rfl
@[simp] theorem Block.setDbg_xlt (s : Block) (x : DbgSt) : (s.setDbg x).xlt = s.xlt := rfl
@[simp] theorem Block.setDbg_host (s : Block) (x : DbgSt) : (s.setDbg x).host = s.host := rfl
@[simp] theorem Block.setDbg_net (s : Block) (x : DbgSt) : (s.setDbg x).net = s.net := rfl
@[simp] theorem Block.setDbg_sec (s : Block) (x : DbgSt) : (s.setDbg x).sec = s.sec := rfl
@[simp] theorem Block.setDbg_pwr (s : Block) (x : DbgSt) : (s.setDbg x).pwr = s.pwr := rfl
@[simp] theorem Block.setDbg_boot (s : Block) (x : DbgSt) : (s.setDbg x).boot = s.boot := rfl
@[simp] theorem Block.setDbg_ras (s : Block) (x : DbgSt) : (s.setDbg x).ras = s.ras := rfl
@[simp] theorem Block.setDbg_dbg (s : Block) (x : DbgSt) : (s.setDbg x).dbg = x := rfl
@[simp] theorem Block.setDbg_bus (s : Block) (x : DbgSt) : (s.setDbg x).bus = s.bus := rfl
@[simp] theorem Block.setDbg_out (s : Block) (x : DbgSt) : (s.setDbg x).out = s.out := rfl
@[simp] theorem Block.setDbg_now (s : Block) (x : DbgSt) : (s.setDbg x).now = s.now := rfl
@[simp] theorem Block.setDbg_free (s : Block) (x : DbgSt) : (s.setDbg x).free = s.free := rfl

/-! `setBoot` changes `boot` alone. -/

@[simp] theorem Block.setBoot_regs (s : Block) (x : BootSt) : (s.setBoot x).regs = s.regs := rfl
@[simp] theorem Block.setBoot_mem (s : Block) (x : BootSt) : (s.setBoot x).mem = s.mem := rfl
@[simp] theorem Block.setBoot_pool (s : Block) (x : BootSt) : (s.setBoot x).pool = s.pool := rfl
@[simp] theorem Block.setBoot_ctl (s : Block) (x : BootSt) : (s.setBoot x).ctl = s.ctl := rfl
@[simp] theorem Block.setBoot_eng (s : Block) (x : BootSt) : (s.setBoot x).eng = s.eng := rfl
@[simp] theorem Block.setBoot_xlt (s : Block) (x : BootSt) : (s.setBoot x).xlt = s.xlt := rfl
@[simp] theorem Block.setBoot_host (s : Block) (x : BootSt) : (s.setBoot x).host = s.host := rfl
@[simp] theorem Block.setBoot_net (s : Block) (x : BootSt) : (s.setBoot x).net = s.net := rfl
@[simp] theorem Block.setBoot_sec (s : Block) (x : BootSt) : (s.setBoot x).sec = s.sec := rfl
@[simp] theorem Block.setBoot_pwr (s : Block) (x : BootSt) : (s.setBoot x).pwr = s.pwr := rfl
@[simp] theorem Block.setBoot_boot (s : Block) (x : BootSt) : (s.setBoot x).boot = x := rfl
@[simp] theorem Block.setBoot_ras (s : Block) (x : BootSt) : (s.setBoot x).ras = s.ras := rfl
@[simp] theorem Block.setBoot_dbg (s : Block) (x : BootSt) : (s.setBoot x).dbg = s.dbg := rfl
@[simp] theorem Block.setBoot_bus (s : Block) (x : BootSt) : (s.setBoot x).bus = s.bus := rfl
@[simp] theorem Block.setBoot_out (s : Block) (x : BootSt) : (s.setBoot x).out = s.out := rfl
@[simp] theorem Block.setBoot_now (s : Block) (x : BootSt) : (s.setBoot x).now = s.now := rfl
@[simp] theorem Block.setBoot_free (s : Block) (x : BootSt) : (s.setBoot x).free = s.free := rfl

/-! `setPwr` changes `pwr` alone. -/

@[simp] theorem Block.setPwr_regs (s : Block) (x : PwrSt) : (s.setPwr x).regs = s.regs := rfl
@[simp] theorem Block.setPwr_mem (s : Block) (x : PwrSt) : (s.setPwr x).mem = s.mem := rfl
@[simp] theorem Block.setPwr_pool (s : Block) (x : PwrSt) : (s.setPwr x).pool = s.pool := rfl
@[simp] theorem Block.setPwr_ctl (s : Block) (x : PwrSt) : (s.setPwr x).ctl = s.ctl := rfl
@[simp] theorem Block.setPwr_eng (s : Block) (x : PwrSt) : (s.setPwr x).eng = s.eng := rfl
@[simp] theorem Block.setPwr_xlt (s : Block) (x : PwrSt) : (s.setPwr x).xlt = s.xlt := rfl
@[simp] theorem Block.setPwr_host (s : Block) (x : PwrSt) : (s.setPwr x).host = s.host := rfl
@[simp] theorem Block.setPwr_net (s : Block) (x : PwrSt) : (s.setPwr x).net = s.net := rfl
@[simp] theorem Block.setPwr_sec (s : Block) (x : PwrSt) : (s.setPwr x).sec = s.sec := rfl
@[simp] theorem Block.setPwr_pwr (s : Block) (x : PwrSt) : (s.setPwr x).pwr = x := rfl
@[simp] theorem Block.setPwr_boot (s : Block) (x : PwrSt) : (s.setPwr x).boot = s.boot := rfl
@[simp] theorem Block.setPwr_ras (s : Block) (x : PwrSt) : (s.setPwr x).ras = s.ras := rfl
@[simp] theorem Block.setPwr_dbg (s : Block) (x : PwrSt) : (s.setPwr x).dbg = s.dbg := rfl
@[simp] theorem Block.setPwr_bus (s : Block) (x : PwrSt) : (s.setPwr x).bus = s.bus := rfl
@[simp] theorem Block.setPwr_out (s : Block) (x : PwrSt) : (s.setPwr x).out = s.out := rfl
@[simp] theorem Block.setPwr_now (s : Block) (x : PwrSt) : (s.setPwr x).now = s.now := rfl
@[simp] theorem Block.setPwr_free (s : Block) (x : PwrSt) : (s.setPwr x).free = s.free := rfl

/-! `setRas` changes `ras` alone. -/

@[simp] theorem Block.setRas_regs (s : Block) (x : RasSt) : (s.setRas x).regs = s.regs := rfl
@[simp] theorem Block.setRas_mem (s : Block) (x : RasSt) : (s.setRas x).mem = s.mem := rfl
@[simp] theorem Block.setRas_pool (s : Block) (x : RasSt) : (s.setRas x).pool = s.pool := rfl
@[simp] theorem Block.setRas_ctl (s : Block) (x : RasSt) : (s.setRas x).ctl = s.ctl := rfl
@[simp] theorem Block.setRas_eng (s : Block) (x : RasSt) : (s.setRas x).eng = s.eng := rfl
@[simp] theorem Block.setRas_xlt (s : Block) (x : RasSt) : (s.setRas x).xlt = s.xlt := rfl
@[simp] theorem Block.setRas_host (s : Block) (x : RasSt) : (s.setRas x).host = s.host := rfl
@[simp] theorem Block.setRas_net (s : Block) (x : RasSt) : (s.setRas x).net = s.net := rfl
@[simp] theorem Block.setRas_sec (s : Block) (x : RasSt) : (s.setRas x).sec = s.sec := rfl
@[simp] theorem Block.setRas_pwr (s : Block) (x : RasSt) : (s.setRas x).pwr = s.pwr := rfl
@[simp] theorem Block.setRas_boot (s : Block) (x : RasSt) : (s.setRas x).boot = s.boot := rfl
@[simp] theorem Block.setRas_ras (s : Block) (x : RasSt) : (s.setRas x).ras = x := rfl
@[simp] theorem Block.setRas_dbg (s : Block) (x : RasSt) : (s.setRas x).dbg = s.dbg := rfl
@[simp] theorem Block.setRas_bus (s : Block) (x : RasSt) : (s.setRas x).bus = s.bus := rfl
@[simp] theorem Block.setRas_out (s : Block) (x : RasSt) : (s.setRas x).out = s.out := rfl
@[simp] theorem Block.setRas_now (s : Block) (x : RasSt) : (s.setRas x).now = s.now := rfl
@[simp] theorem Block.setRas_free (s : Block) (x : RasSt) : (s.setRas x).free = s.free := rfl

/-! `setSec` changes `sec` alone. -/

@[simp] theorem Block.setSec_regs (s : Block) (x : SecSt) : (s.setSec x).regs = s.regs := rfl
@[simp] theorem Block.setSec_mem (s : Block) (x : SecSt) : (s.setSec x).mem = s.mem := rfl
@[simp] theorem Block.setSec_pool (s : Block) (x : SecSt) : (s.setSec x).pool = s.pool := rfl
@[simp] theorem Block.setSec_ctl (s : Block) (x : SecSt) : (s.setSec x).ctl = s.ctl := rfl
@[simp] theorem Block.setSec_eng (s : Block) (x : SecSt) : (s.setSec x).eng = s.eng := rfl
@[simp] theorem Block.setSec_xlt (s : Block) (x : SecSt) : (s.setSec x).xlt = s.xlt := rfl
@[simp] theorem Block.setSec_host (s : Block) (x : SecSt) : (s.setSec x).host = s.host := rfl
@[simp] theorem Block.setSec_net (s : Block) (x : SecSt) : (s.setSec x).net = s.net := rfl
@[simp] theorem Block.setSec_sec (s : Block) (x : SecSt) : (s.setSec x).sec = x := rfl
@[simp] theorem Block.setSec_pwr (s : Block) (x : SecSt) : (s.setSec x).pwr = s.pwr := rfl
@[simp] theorem Block.setSec_boot (s : Block) (x : SecSt) : (s.setSec x).boot = s.boot := rfl
@[simp] theorem Block.setSec_ras (s : Block) (x : SecSt) : (s.setSec x).ras = s.ras := rfl
@[simp] theorem Block.setSec_dbg (s : Block) (x : SecSt) : (s.setSec x).dbg = s.dbg := rfl
@[simp] theorem Block.setSec_bus (s : Block) (x : SecSt) : (s.setSec x).bus = s.bus := rfl
@[simp] theorem Block.setSec_out (s : Block) (x : SecSt) : (s.setSec x).out = s.out := rfl
@[simp] theorem Block.setSec_now (s : Block) (x : SecSt) : (s.setSec x).now = s.now := rfl
@[simp] theorem Block.setSec_free (s : Block) (x : SecSt) : (s.setSec x).free = s.free := rfl

/-! `setRouter` changes `net` alone. -/

@[simp] theorem Block.setRouter_regs (s : Block) (r : RouterSt) : (s.setRouter r).regs = s.regs := rfl
@[simp] theorem Block.setRouter_mem (s : Block) (r : RouterSt) : (s.setRouter r).mem = s.mem := rfl
@[simp] theorem Block.setRouter_pool (s : Block) (r : RouterSt) : (s.setRouter r).pool = s.pool := rfl
@[simp] theorem Block.setRouter_ctl (s : Block) (r : RouterSt) : (s.setRouter r).ctl = s.ctl := rfl
@[simp] theorem Block.setRouter_eng (s : Block) (r : RouterSt) : (s.setRouter r).eng = s.eng := rfl
@[simp] theorem Block.setRouter_xlt (s : Block) (r : RouterSt) : (s.setRouter r).xlt = s.xlt := rfl
@[simp] theorem Block.setRouter_host (s : Block) (r : RouterSt) : (s.setRouter r).host = s.host := rfl
@[simp] theorem Block.setRouter_net (s : Block) (r : RouterSt) : (s.setRouter r).net = { s.net with router := r } := rfl
@[simp] theorem Block.setRouter_sec (s : Block) (r : RouterSt) : (s.setRouter r).sec = s.sec := rfl
@[simp] theorem Block.setRouter_pwr (s : Block) (r : RouterSt) : (s.setRouter r).pwr = s.pwr := rfl
@[simp] theorem Block.setRouter_boot (s : Block) (r : RouterSt) : (s.setRouter r).boot = s.boot := rfl
@[simp] theorem Block.setRouter_ras (s : Block) (r : RouterSt) : (s.setRouter r).ras = s.ras := rfl
@[simp] theorem Block.setRouter_dbg (s : Block) (r : RouterSt) : (s.setRouter r).dbg = s.dbg := rfl
@[simp] theorem Block.setRouter_bus (s : Block) (r : RouterSt) : (s.setRouter r).bus = s.bus := rfl
@[simp] theorem Block.setRouter_out (s : Block) (r : RouterSt) : (s.setRouter r).out = s.out := rfl
@[simp] theorem Block.setRouter_now (s : Block) (r : RouterSt) : (s.setRouter r).now = s.now := rfl
@[simp] theorem Block.setRouter_free (s : Block) (r : RouterSt) : (s.setRouter r).free = s.free := rfl

/-! `setShape` changes `net` alone. -/

@[simp] theorem Block.setShape_regs (s : Block) (q : ShapeSt) : (s.setShape q).regs = s.regs := rfl
@[simp] theorem Block.setShape_mem (s : Block) (q : ShapeSt) : (s.setShape q).mem = s.mem := rfl
@[simp] theorem Block.setShape_pool (s : Block) (q : ShapeSt) : (s.setShape q).pool = s.pool := rfl
@[simp] theorem Block.setShape_ctl (s : Block) (q : ShapeSt) : (s.setShape q).ctl = s.ctl := rfl
@[simp] theorem Block.setShape_eng (s : Block) (q : ShapeSt) : (s.setShape q).eng = s.eng := rfl
@[simp] theorem Block.setShape_xlt (s : Block) (q : ShapeSt) : (s.setShape q).xlt = s.xlt := rfl
@[simp] theorem Block.setShape_host (s : Block) (q : ShapeSt) : (s.setShape q).host = s.host := rfl
@[simp] theorem Block.setShape_net (s : Block) (q : ShapeSt) : (s.setShape q).net = { s.net with shape := q } := rfl
@[simp] theorem Block.setShape_sec (s : Block) (q : ShapeSt) : (s.setShape q).sec = s.sec := rfl
@[simp] theorem Block.setShape_pwr (s : Block) (q : ShapeSt) : (s.setShape q).pwr = s.pwr := rfl
@[simp] theorem Block.setShape_boot (s : Block) (q : ShapeSt) : (s.setShape q).boot = s.boot := rfl
@[simp] theorem Block.setShape_ras (s : Block) (q : ShapeSt) : (s.setShape q).ras = s.ras := rfl
@[simp] theorem Block.setShape_dbg (s : Block) (q : ShapeSt) : (s.setShape q).dbg = s.dbg := rfl
@[simp] theorem Block.setShape_bus (s : Block) (q : ShapeSt) : (s.setShape q).bus = s.bus := rfl
@[simp] theorem Block.setShape_out (s : Block) (q : ShapeSt) : (s.setShape q).out = s.out := rfl
@[simp] theorem Block.setShape_now (s : Block) (q : ShapeSt) : (s.setShape q).now = s.now := rfl
@[simp] theorem Block.setShape_free (s : Block) (q : ShapeSt) : (s.setShape q).free = s.free := rfl

/-! `setRing` changes `ctl` alone. -/

@[simp] theorem Block.setRing_regs (s : Block) (r : Nat) (v : RingSt) : (s.setRing r v).regs = s.regs := rfl
@[simp] theorem Block.setRing_mem (s : Block) (r : Nat) (v : RingSt) : (s.setRing r v).mem = s.mem := rfl
@[simp] theorem Block.setRing_pool (s : Block) (r : Nat) (v : RingSt) : (s.setRing r v).pool = s.pool := rfl
@[simp] theorem Block.setRing_eng (s : Block) (r : Nat) (v : RingSt) : (s.setRing r v).eng = s.eng := rfl
@[simp] theorem Block.setRing_xlt (s : Block) (r : Nat) (v : RingSt) : (s.setRing r v).xlt = s.xlt := rfl
@[simp] theorem Block.setRing_host (s : Block) (r : Nat) (v : RingSt) : (s.setRing r v).host = s.host := rfl
@[simp] theorem Block.setRing_net (s : Block) (r : Nat) (v : RingSt) : (s.setRing r v).net = s.net := rfl
@[simp] theorem Block.setRing_sec (s : Block) (r : Nat) (v : RingSt) : (s.setRing r v).sec = s.sec := rfl
@[simp] theorem Block.setRing_pwr (s : Block) (r : Nat) (v : RingSt) : (s.setRing r v).pwr = s.pwr := rfl
@[simp] theorem Block.setRing_boot (s : Block) (r : Nat) (v : RingSt) : (s.setRing r v).boot = s.boot := rfl
@[simp] theorem Block.setRing_ras (s : Block) (r : Nat) (v : RingSt) : (s.setRing r v).ras = s.ras := rfl
@[simp] theorem Block.setRing_dbg (s : Block) (r : Nat) (v : RingSt) : (s.setRing r v).dbg = s.dbg := rfl
@[simp] theorem Block.setRing_bus (s : Block) (r : Nat) (v : RingSt) : (s.setRing r v).bus = s.bus := rfl
@[simp] theorem Block.setRing_out (s : Block) (r : Nat) (v : RingSt) : (s.setRing r v).out = s.out := rfl
@[simp] theorem Block.setRing_now (s : Block) (r : Nat) (v : RingSt) : (s.setRing r v).now = s.now := rfl
@[simp] theorem Block.setRing_free (s : Block) (r : Nat) (v : RingSt) : (s.setRing r v).free = s.free := rfl

/-! `setMbx` changes `ctl` alone. -/

@[simp] theorem Block.setMbx_regs (s : Block) (c : Nat) (v : MbxCh) : (s.setMbx c v).regs = s.regs := rfl
@[simp] theorem Block.setMbx_mem (s : Block) (c : Nat) (v : MbxCh) : (s.setMbx c v).mem = s.mem := rfl
@[simp] theorem Block.setMbx_pool (s : Block) (c : Nat) (v : MbxCh) : (s.setMbx c v).pool = s.pool := rfl
@[simp] theorem Block.setMbx_eng (s : Block) (c : Nat) (v : MbxCh) : (s.setMbx c v).eng = s.eng := rfl
@[simp] theorem Block.setMbx_xlt (s : Block) (c : Nat) (v : MbxCh) : (s.setMbx c v).xlt = s.xlt := rfl
@[simp] theorem Block.setMbx_host (s : Block) (c : Nat) (v : MbxCh) : (s.setMbx c v).host = s.host := rfl
@[simp] theorem Block.setMbx_net (s : Block) (c : Nat) (v : MbxCh) : (s.setMbx c v).net = s.net := rfl
@[simp] theorem Block.setMbx_sec (s : Block) (c : Nat) (v : MbxCh) : (s.setMbx c v).sec = s.sec := rfl
@[simp] theorem Block.setMbx_pwr (s : Block) (c : Nat) (v : MbxCh) : (s.setMbx c v).pwr = s.pwr := rfl
@[simp] theorem Block.setMbx_boot (s : Block) (c : Nat) (v : MbxCh) : (s.setMbx c v).boot = s.boot := rfl
@[simp] theorem Block.setMbx_ras (s : Block) (c : Nat) (v : MbxCh) : (s.setMbx c v).ras = s.ras := rfl
@[simp] theorem Block.setMbx_dbg (s : Block) (c : Nat) (v : MbxCh) : (s.setMbx c v).dbg = s.dbg := rfl
@[simp] theorem Block.setMbx_bus (s : Block) (c : Nat) (v : MbxCh) : (s.setMbx c v).bus = s.bus := rfl
@[simp] theorem Block.setMbx_out (s : Block) (c : Nat) (v : MbxCh) : (s.setMbx c v).out = s.out := rfl
@[simp] theorem Block.setMbx_now (s : Block) (c : Nat) (v : MbxCh) : (s.setMbx c v).now = s.now := rfl
@[simp] theorem Block.setMbx_free (s : Block) (c : Nat) (v : MbxCh) : (s.setMbx c v).free = s.free := rfl

/-! `setLatch` changes `bus` alone. -/

@[simp] theorem Block.setLatch_regs (s : Block) (k : Nat) (v : Latches) : (s.setLatch k v).regs = s.regs := rfl
@[simp] theorem Block.setLatch_mem (s : Block) (k : Nat) (v : Latches) : (s.setLatch k v).mem = s.mem := rfl
@[simp] theorem Block.setLatch_pool (s : Block) (k : Nat) (v : Latches) : (s.setLatch k v).pool = s.pool := rfl
@[simp] theorem Block.setLatch_ctl (s : Block) (k : Nat) (v : Latches) : (s.setLatch k v).ctl = s.ctl := rfl
@[simp] theorem Block.setLatch_eng (s : Block) (k : Nat) (v : Latches) : (s.setLatch k v).eng = s.eng := rfl
@[simp] theorem Block.setLatch_xlt (s : Block) (k : Nat) (v : Latches) : (s.setLatch k v).xlt = s.xlt := rfl
@[simp] theorem Block.setLatch_host (s : Block) (k : Nat) (v : Latches) : (s.setLatch k v).host = s.host := rfl
@[simp] theorem Block.setLatch_net (s : Block) (k : Nat) (v : Latches) : (s.setLatch k v).net = s.net := rfl
@[simp] theorem Block.setLatch_sec (s : Block) (k : Nat) (v : Latches) : (s.setLatch k v).sec = s.sec := rfl
@[simp] theorem Block.setLatch_pwr (s : Block) (k : Nat) (v : Latches) : (s.setLatch k v).pwr = s.pwr := rfl
@[simp] theorem Block.setLatch_boot (s : Block) (k : Nat) (v : Latches) : (s.setLatch k v).boot = s.boot := rfl
@[simp] theorem Block.setLatch_ras (s : Block) (k : Nat) (v : Latches) : (s.setLatch k v).ras = s.ras := rfl
@[simp] theorem Block.setLatch_dbg (s : Block) (k : Nat) (v : Latches) : (s.setLatch k v).dbg = s.dbg := rfl
@[simp] theorem Block.setLatch_out (s : Block) (k : Nat) (v : Latches) : (s.setLatch k v).out = s.out := rfl
@[simp] theorem Block.setLatch_now (s : Block) (k : Nat) (v : Latches) : (s.setLatch k v).now = s.now := rfl
@[simp] theorem Block.setLatch_free (s : Block) (k : Nat) (v : Latches) : (s.setLatch k v).free = s.free := rfl

/-! `setStk` changes `pool` alone. -/

@[simp] theorem Block.setStk_regs (s : Block) (k : Nat) (v : StackSt) : (s.setStk k v).regs = s.regs := rfl
@[simp] theorem Block.setStk_mem (s : Block) (k : Nat) (v : StackSt) : (s.setStk k v).mem = s.mem := rfl
@[simp] theorem Block.setStk_ctl (s : Block) (k : Nat) (v : StackSt) : (s.setStk k v).ctl = s.ctl := rfl
@[simp] theorem Block.setStk_eng (s : Block) (k : Nat) (v : StackSt) : (s.setStk k v).eng = s.eng := rfl
@[simp] theorem Block.setStk_xlt (s : Block) (k : Nat) (v : StackSt) : (s.setStk k v).xlt = s.xlt := rfl
@[simp] theorem Block.setStk_host (s : Block) (k : Nat) (v : StackSt) : (s.setStk k v).host = s.host := rfl
@[simp] theorem Block.setStk_net (s : Block) (k : Nat) (v : StackSt) : (s.setStk k v).net = s.net := rfl
@[simp] theorem Block.setStk_sec (s : Block) (k : Nat) (v : StackSt) : (s.setStk k v).sec = s.sec := rfl
@[simp] theorem Block.setStk_pwr (s : Block) (k : Nat) (v : StackSt) : (s.setStk k v).pwr = s.pwr := rfl
@[simp] theorem Block.setStk_boot (s : Block) (k : Nat) (v : StackSt) : (s.setStk k v).boot = s.boot := rfl
@[simp] theorem Block.setStk_ras (s : Block) (k : Nat) (v : StackSt) : (s.setStk k v).ras = s.ras := rfl
@[simp] theorem Block.setStk_dbg (s : Block) (k : Nat) (v : StackSt) : (s.setStk k v).dbg = s.dbg := rfl
@[simp] theorem Block.setStk_bus (s : Block) (k : Nat) (v : StackSt) : (s.setStk k v).bus = s.bus := rfl
@[simp] theorem Block.setStk_out (s : Block) (k : Nat) (v : StackSt) : (s.setStk k v).out = s.out := rfl
@[simp] theorem Block.setStk_now (s : Block) (k : Nat) (v : StackSt) : (s.setStk k v).now = s.now := rfl
@[simp] theorem Block.setStk_free (s : Block) (k : Nat) (v : StackSt) : (s.setStk k v).free = s.free := rfl

/-! `setTwin` changes `pool` alone. -/

@[simp] theorem Block.setTwin_regs (s : Block) (k : Nat) (v : TwinSt) : (s.setTwin k v).regs = s.regs := rfl
@[simp] theorem Block.setTwin_mem (s : Block) (k : Nat) (v : TwinSt) : (s.setTwin k v).mem = s.mem := rfl
@[simp] theorem Block.setTwin_ctl (s : Block) (k : Nat) (v : TwinSt) : (s.setTwin k v).ctl = s.ctl := rfl
@[simp] theorem Block.setTwin_eng (s : Block) (k : Nat) (v : TwinSt) : (s.setTwin k v).eng = s.eng := rfl
@[simp] theorem Block.setTwin_xlt (s : Block) (k : Nat) (v : TwinSt) : (s.setTwin k v).xlt = s.xlt := rfl
@[simp] theorem Block.setTwin_host (s : Block) (k : Nat) (v : TwinSt) : (s.setTwin k v).host = s.host := rfl
@[simp] theorem Block.setTwin_net (s : Block) (k : Nat) (v : TwinSt) : (s.setTwin k v).net = s.net := rfl
@[simp] theorem Block.setTwin_sec (s : Block) (k : Nat) (v : TwinSt) : (s.setTwin k v).sec = s.sec := rfl
@[simp] theorem Block.setTwin_pwr (s : Block) (k : Nat) (v : TwinSt) : (s.setTwin k v).pwr = s.pwr := rfl
@[simp] theorem Block.setTwin_boot (s : Block) (k : Nat) (v : TwinSt) : (s.setTwin k v).boot = s.boot := rfl
@[simp] theorem Block.setTwin_ras (s : Block) (k : Nat) (v : TwinSt) : (s.setTwin k v).ras = s.ras := rfl
@[simp] theorem Block.setTwin_dbg (s : Block) (k : Nat) (v : TwinSt) : (s.setTwin k v).dbg = s.dbg := rfl
@[simp] theorem Block.setTwin_bus (s : Block) (k : Nat) (v : TwinSt) : (s.setTwin k v).bus = s.bus := rfl
@[simp] theorem Block.setTwin_out (s : Block) (k : Nat) (v : TwinSt) : (s.setTwin k v).out = s.out := rfl
@[simp] theorem Block.setTwin_now (s : Block) (k : Nat) (v : TwinSt) : (s.setTwin k v).now = s.now := rfl
@[simp] theorem Block.setTwin_free (s : Block) (k : Nat) (v : TwinSt) : (s.setTwin k v).free = s.free := rfl

/-! `setPc` changes `pool` alone. -/

@[simp] theorem Block.setPc_regs (s : Block) (k : Nat) (v : PseudoChannel) : (s.setPc k v).regs = s.regs := rfl
@[simp] theorem Block.setPc_mem (s : Block) (k : Nat) (v : PseudoChannel) : (s.setPc k v).mem = s.mem := rfl
@[simp] theorem Block.setPc_ctl (s : Block) (k : Nat) (v : PseudoChannel) : (s.setPc k v).ctl = s.ctl := rfl
@[simp] theorem Block.setPc_eng (s : Block) (k : Nat) (v : PseudoChannel) : (s.setPc k v).eng = s.eng := rfl
@[simp] theorem Block.setPc_xlt (s : Block) (k : Nat) (v : PseudoChannel) : (s.setPc k v).xlt = s.xlt := rfl
@[simp] theorem Block.setPc_host (s : Block) (k : Nat) (v : PseudoChannel) : (s.setPc k v).host = s.host := rfl
@[simp] theorem Block.setPc_net (s : Block) (k : Nat) (v : PseudoChannel) : (s.setPc k v).net = s.net := rfl
@[simp] theorem Block.setPc_sec (s : Block) (k : Nat) (v : PseudoChannel) : (s.setPc k v).sec = s.sec := rfl
@[simp] theorem Block.setPc_pwr (s : Block) (k : Nat) (v : PseudoChannel) : (s.setPc k v).pwr = s.pwr := rfl
@[simp] theorem Block.setPc_boot (s : Block) (k : Nat) (v : PseudoChannel) : (s.setPc k v).boot = s.boot := rfl
@[simp] theorem Block.setPc_ras (s : Block) (k : Nat) (v : PseudoChannel) : (s.setPc k v).ras = s.ras := rfl
@[simp] theorem Block.setPc_dbg (s : Block) (k : Nat) (v : PseudoChannel) : (s.setPc k v).dbg = s.dbg := rfl
@[simp] theorem Block.setPc_bus (s : Block) (k : Nat) (v : PseudoChannel) : (s.setPc k v).bus = s.bus := rfl
@[simp] theorem Block.setPc_out (s : Block) (k : Nat) (v : PseudoChannel) : (s.setPc k v).out = s.out := rfl
@[simp] theorem Block.setPc_now (s : Block) (k : Nat) (v : PseudoChannel) : (s.setPc k v).now = s.now := rfl
@[simp] theorem Block.setPc_free (s : Block) (k : Nat) (v : PseudoChannel) : (s.setPc k v).free = s.free := rfl

/-! `setFrame` changes `pool` alone. -/

@[simp] theorem Block.setFrame_regs (s : Block) (k : Nat) (v : Frame) : (s.setFrame k v).regs = s.regs := rfl
@[simp] theorem Block.setFrame_mem (s : Block) (k : Nat) (v : Frame) : (s.setFrame k v).mem = s.mem := rfl
@[simp] theorem Block.setFrame_ctl (s : Block) (k : Nat) (v : Frame) : (s.setFrame k v).ctl = s.ctl := rfl
@[simp] theorem Block.setFrame_eng (s : Block) (k : Nat) (v : Frame) : (s.setFrame k v).eng = s.eng := rfl
@[simp] theorem Block.setFrame_xlt (s : Block) (k : Nat) (v : Frame) : (s.setFrame k v).xlt = s.xlt := rfl
@[simp] theorem Block.setFrame_host (s : Block) (k : Nat) (v : Frame) : (s.setFrame k v).host = s.host := rfl
@[simp] theorem Block.setFrame_net (s : Block) (k : Nat) (v : Frame) : (s.setFrame k v).net = s.net := rfl
@[simp] theorem Block.setFrame_sec (s : Block) (k : Nat) (v : Frame) : (s.setFrame k v).sec = s.sec := rfl
@[simp] theorem Block.setFrame_pwr (s : Block) (k : Nat) (v : Frame) : (s.setFrame k v).pwr = s.pwr := rfl
@[simp] theorem Block.setFrame_boot (s : Block) (k : Nat) (v : Frame) : (s.setFrame k v).boot = s.boot := rfl
@[simp] theorem Block.setFrame_ras (s : Block) (k : Nat) (v : Frame) : (s.setFrame k v).ras = s.ras := rfl
@[simp] theorem Block.setFrame_dbg (s : Block) (k : Nat) (v : Frame) : (s.setFrame k v).dbg = s.dbg := rfl
@[simp] theorem Block.setFrame_bus (s : Block) (k : Nat) (v : Frame) : (s.setFrame k v).bus = s.bus := rfl
@[simp] theorem Block.setFrame_out (s : Block) (k : Nat) (v : Frame) : (s.setFrame k v).out = s.out := rfl
@[simp] theorem Block.setFrame_now (s : Block) (k : Nat) (v : Frame) : (s.setFrame k v).now = s.now := rfl
@[simp] theorem Block.setFrame_free (s : Block) (k : Nat) (v : Frame) : (s.setFrame k v).free = s.free := rfl

/-! `setObj` changes `eng` alone. -/

@[simp] theorem Block.setObj_regs (s : Block) (o : Nat) (v : SyncObj) : (s.setObj o v).regs = s.regs := rfl
@[simp] theorem Block.setObj_mem (s : Block) (o : Nat) (v : SyncObj) : (s.setObj o v).mem = s.mem := rfl
@[simp] theorem Block.setObj_pool (s : Block) (o : Nat) (v : SyncObj) : (s.setObj o v).pool = s.pool := rfl
@[simp] theorem Block.setObj_ctl (s : Block) (o : Nat) (v : SyncObj) : (s.setObj o v).ctl = s.ctl := rfl
@[simp] theorem Block.setObj_xlt (s : Block) (o : Nat) (v : SyncObj) : (s.setObj o v).xlt = s.xlt := rfl
@[simp] theorem Block.setObj_host (s : Block) (o : Nat) (v : SyncObj) : (s.setObj o v).host = s.host := rfl
@[simp] theorem Block.setObj_net (s : Block) (o : Nat) (v : SyncObj) : (s.setObj o v).net = s.net := rfl
@[simp] theorem Block.setObj_sec (s : Block) (o : Nat) (v : SyncObj) : (s.setObj o v).sec = s.sec := rfl
@[simp] theorem Block.setObj_pwr (s : Block) (o : Nat) (v : SyncObj) : (s.setObj o v).pwr = s.pwr := rfl
@[simp] theorem Block.setObj_boot (s : Block) (o : Nat) (v : SyncObj) : (s.setObj o v).boot = s.boot := rfl
@[simp] theorem Block.setObj_ras (s : Block) (o : Nat) (v : SyncObj) : (s.setObj o v).ras = s.ras := rfl
@[simp] theorem Block.setObj_dbg (s : Block) (o : Nat) (v : SyncObj) : (s.setObj o v).dbg = s.dbg := rfl
@[simp] theorem Block.setObj_bus (s : Block) (o : Nat) (v : SyncObj) : (s.setObj o v).bus = s.bus := rfl
@[simp] theorem Block.setObj_out (s : Block) (o : Nat) (v : SyncObj) : (s.setObj o v).out = s.out := rfl
@[simp] theorem Block.setObj_now (s : Block) (o : Nat) (v : SyncObj) : (s.setObj o v).now = s.now := rfl
@[simp] theorem Block.setObj_free (s : Block) (o : Nat) (v : SyncObj) : (s.setObj o v).free = s.free := rfl

/-! `setChrono` changes `net` alone. -/

@[simp] theorem Block.setChrono_regs (s : Block) (c : Chrono) : (s.setChrono c).regs = s.regs := rfl
@[simp] theorem Block.setChrono_mem (s : Block) (c : Chrono) : (s.setChrono c).mem = s.mem := rfl
@[simp] theorem Block.setChrono_pool (s : Block) (c : Chrono) : (s.setChrono c).pool = s.pool := rfl
@[simp] theorem Block.setChrono_ctl (s : Block) (c : Chrono) : (s.setChrono c).ctl = s.ctl := rfl
@[simp] theorem Block.setChrono_eng (s : Block) (c : Chrono) : (s.setChrono c).eng = s.eng := rfl
@[simp] theorem Block.setChrono_xlt (s : Block) (c : Chrono) : (s.setChrono c).xlt = s.xlt := rfl
@[simp] theorem Block.setChrono_host (s : Block) (c : Chrono) : (s.setChrono c).host = s.host := rfl
@[simp] theorem Block.setChrono_sec (s : Block) (c : Chrono) : (s.setChrono c).sec = s.sec := rfl
@[simp] theorem Block.setChrono_pwr (s : Block) (c : Chrono) : (s.setChrono c).pwr = s.pwr := rfl
@[simp] theorem Block.setChrono_boot (s : Block) (c : Chrono) : (s.setChrono c).boot = s.boot := rfl
@[simp] theorem Block.setChrono_ras (s : Block) (c : Chrono) : (s.setChrono c).ras = s.ras := rfl
@[simp] theorem Block.setChrono_dbg (s : Block) (c : Chrono) : (s.setChrono c).dbg = s.dbg := rfl
@[simp] theorem Block.setChrono_bus (s : Block) (c : Chrono) : (s.setChrono c).bus = s.bus := rfl
@[simp] theorem Block.setChrono_out (s : Block) (c : Chrono) : (s.setChrono c).out = s.out := rfl
@[simp] theorem Block.setChrono_now (s : Block) (c : Chrono) : (s.setChrono c).now = s.now := rfl
@[simp] theorem Block.setChrono_free (s : Block) (c : Chrono) : (s.setChrono c).free = s.free := rfl

/-! `setLink` changes `net` alone. -/

@[simp] theorem Block.setLink_regs (s : Block) (l : Nat) (v : LinkSt) : (s.setLink l v).regs = s.regs := rfl
@[simp] theorem Block.setLink_mem (s : Block) (l : Nat) (v : LinkSt) : (s.setLink l v).mem = s.mem := rfl
@[simp] theorem Block.setLink_pool (s : Block) (l : Nat) (v : LinkSt) : (s.setLink l v).pool = s.pool := rfl
@[simp] theorem Block.setLink_ctl (s : Block) (l : Nat) (v : LinkSt) : (s.setLink l v).ctl = s.ctl := rfl
@[simp] theorem Block.setLink_eng (s : Block) (l : Nat) (v : LinkSt) : (s.setLink l v).eng = s.eng := rfl
@[simp] theorem Block.setLink_xlt (s : Block) (l : Nat) (v : LinkSt) : (s.setLink l v).xlt = s.xlt := rfl
@[simp] theorem Block.setLink_host (s : Block) (l : Nat) (v : LinkSt) : (s.setLink l v).host = s.host := rfl
@[simp] theorem Block.setLink_sec (s : Block) (l : Nat) (v : LinkSt) : (s.setLink l v).sec = s.sec := rfl
@[simp] theorem Block.setLink_pwr (s : Block) (l : Nat) (v : LinkSt) : (s.setLink l v).pwr = s.pwr := rfl
@[simp] theorem Block.setLink_boot (s : Block) (l : Nat) (v : LinkSt) : (s.setLink l v).boot = s.boot := rfl
@[simp] theorem Block.setLink_ras (s : Block) (l : Nat) (v : LinkSt) : (s.setLink l v).ras = s.ras := rfl
@[simp] theorem Block.setLink_dbg (s : Block) (l : Nat) (v : LinkSt) : (s.setLink l v).dbg = s.dbg := rfl
@[simp] theorem Block.setLink_bus (s : Block) (l : Nat) (v : LinkSt) : (s.setLink l v).bus = s.bus := rfl
@[simp] theorem Block.setLink_out (s : Block) (l : Nat) (v : LinkSt) : (s.setLink l v).out = s.out := rfl
@[simp] theorem Block.setLink_now (s : Block) (l : Nat) (v : LinkSt) : (s.setLink l v).now = s.now := rfl
@[simp] theorem Block.setLink_free (s : Block) (l : Nat) (v : LinkSt) : (s.setLink l v).free = s.free := rfl

/-! `scopeViol` changes `regs` alone. -/

@[simp] theorem Block.scopeViol_mem (s : Block) : (s.scopeViol).mem = s.mem := Block.bump_mem s _ _
@[simp] theorem Block.scopeViol_pool (s : Block) : (s.scopeViol).pool = s.pool := Block.bump_pool s _ _
@[simp] theorem Block.scopeViol_ctl (s : Block) : (s.scopeViol).ctl = s.ctl := Block.bump_ctl s _ _
@[simp] theorem Block.scopeViol_eng (s : Block) : (s.scopeViol).eng = s.eng := Block.bump_eng s _ _
@[simp] theorem Block.scopeViol_xlt (s : Block) : (s.scopeViol).xlt = s.xlt := Block.bump_xlt s _ _
@[simp] theorem Block.scopeViol_host (s : Block) : (s.scopeViol).host = s.host := Block.bump_host s _ _
@[simp] theorem Block.scopeViol_net (s : Block) : (s.scopeViol).net = s.net := Block.bump_net s _ _
@[simp] theorem Block.scopeViol_sec (s : Block) : (s.scopeViol).sec = s.sec := Block.bump_sec s _ _
@[simp] theorem Block.scopeViol_pwr (s : Block) : (s.scopeViol).pwr = s.pwr := Block.bump_pwr s _ _
@[simp] theorem Block.scopeViol_boot (s : Block) : (s.scopeViol).boot = s.boot := Block.bump_boot s _ _
@[simp] theorem Block.scopeViol_ras (s : Block) : (s.scopeViol).ras = s.ras := Block.bump_ras s _ _
@[simp] theorem Block.scopeViol_dbg (s : Block) : (s.scopeViol).dbg = s.dbg := Block.bump_dbg s _ _
@[simp] theorem Block.scopeViol_bus (s : Block) : (s.scopeViol).bus = s.bus := Block.bump_bus s _ _
@[simp] theorem Block.scopeViol_out (s : Block) : (s.scopeViol).out = s.out := Block.bump_out s _ _
@[simp] theorem Block.scopeViol_now (s : Block) : (s.scopeViol).now = s.now := Block.bump_now s _ _
@[simp] theorem Block.scopeViol_free (s : Block) : (s.scopeViol).free = s.free := Block.bump_free s _ _

/-! `State.act` changes the block alone; the state after reset. -/

@[simp] theorem reset_pending : State.reset.pending = [] := rfl
@[simp] theorem reset_regs : State.reset.blk.regs = [] := rfl
@[simp] theorem reset_mem : State.reset.blk.mem = {} := rfl
@[simp] theorem reset_out : State.reset.blk.out = [] := rfl

end Sys2Proof.Machine
end

