-- ==== Sys2Proof/Tests/Slice0.lean ====
section
/-! SUPPORT.  Tests of single steps and operations on small states, with values from the spec's tables and worked examples,
and witnesses that the statements' hypotheses can be met. -/

namespace Sys2Proof.Tests

open Sys2Proof Sys2Proof.Machine

/-! ## Well-formed commands -/

theorem test_wf_cache_mask : (Instr.cacheLookup .firmware 0 true [] (List.replicate 64 0) false).wellFormed = false := by decide
theorem test_wf_cache_bytes : (Instr.cacheLookup .firmware 0 true (List.replicate 64 true) [] false).wellFormed = false := by
  decide
theorem test_wf_twin_bytes : (Instr.twinWrite .firmware 0 [] false).wellFormed = false := by decide
theorem test_wf_cave_mask : (Instr.caveAccess .firmware 0 0 true [] (List.replicate 64 0) false).wellFormed = false := by
  decide
theorem test_wf_dram_bytes :
    (Instr.dramRequestEnqueue 0 .firmware 0 true none (List.replicate 64 true) [] false).wellFormed = false := by decide
theorem test_wf_good : (Instr.twinWrite .firmware 0 (List.replicate 64 0) false).wellFormed = true := by decide

/-! ## Small states -/

/-- The reset state with its block changed. -/
def on (f : Block → Block) : State := { State.reset with blk := f State.reset.blk }

/-- What the block is after a command; `d` where there is no next state. -/
def blkAfter (c : Instr) (s : State) : Block :=
  match exec c s with
  | .next t => t.blk
  | _ => s.blk

/-- A block whose port 0 is up and presents logical devices 0 to 3, of which device 0 is a full function, device 1 is scoped
to the ACTIVE partition 5, and device 2 is ungranted. -/
def withHost (s : Block) : Block :=
  let t : Block := { s with host := { s.host with lds := [(0, 4)] } }
  (((t.setFld (F.HPT_PORT_STATUS_UP 0) 1).setReg (R.PTN_FN_GRANT 0) 0x80000000).setReg (R.PTN_FN_GRANT 1) 0x85).setFld
    (F.PTN_STATE_STATE 5) ptnActive

/-- The state in which a host accesses the setup registers. -/
def hosted : State := on withHost

/-! ## Setup registers -/

/-- Table 1-7: GID_IDENT. -/
theorem test_ident : State.reset.blk.reg R.GID_IDENT = 0x64807A1B := by decide +kernel

/-- Reset values that differ by index: Tables 5-7 (with 1-2) and 9-7. -/
theorem test_reset_by_index : State.reset.blk.reg (R.DRC_STACK_ID 5) = 0x00050005 ∧ State.reset.blk.reg (R.DRC_HOME 2) = 0x240 ∧
    State.reset.blk.reg (R.HPT_HOME_MAP 0 0) = 0x76543210 := by decide +kernel

/-- R33: the three kinds of function. -/
theorem test_kinds : hosted.blk.fnKind (.ld 0) = .full ∧ hosted.blk.fnKind (.ld 1) = .scoped 5 ∧
    hosted.blk.fnKind (.ld 2) = .ungranted ∧ hosted.blk.barUp (.ld 2) = true := by decide +kernel

/-- R32: an unassigned offset of GID reads 0 and is counted. -/
theorem test_unassigned : (blkAfter (.loHalfRead (.ld 0) 0x30) hosted).out = [.regRead (.fn (.ld 0)) 0x30 0] ∧
    (blkAfter (.loHalfRead (.ld 0) 0x30) hosted).fld F.GID_BAD_ACCESS_COUNT_COUNT = 1 := by decide +kernel

/-- R32: an access that is not aligned to 4 bytes. -/
theorem test_unaligned :
    (blkAfter (.registerWrite (.ld 0) 0x22 1) hosted).out = [.unsupportedRequest (.fn (.ld 0))] := by decide +kernel

/-- W1S: SETUP_LOCK is set by a full function's write, and stays when 0 is written. -/
theorem test_setup_lock : (blkAfter (.registerWrite (.ld 0) 0x20 1) hosted).isSet F.GID_SETUP_LOCK_SETUP_LOCK = true := by
  decide +kernel

/-- R33: an ungranted function's write is dropped and counted. -/
theorem test_ungranted : (blkAfter (.registerWrite (.ld 2) 0x20 1) hosted).isSet F.GID_SETUP_LOCK_SETUP_LOCK = false ∧
    (blkAfter (.registerWrite (.ld 2) 0x20 1) hosted).fld F.GID_SCOPE_VIOL_COUNT_COUNT = 1 := by decide +kernel

/-! ## Addresses: the worked example of chapter 5 -/

theorem test_address_example :
    (State.reset.blk.locOf 5 0xB53C9E17C0).pc = 43 ∧ (State.reset.blk.locOf 5 0xB53C9E17C0).bank = 34 ∧
      (State.reset.blk.locOf 5 0xB53C9E17C0).row = 10131 ∧ lstackOf 0xB53C9E17C0 = 5 := by decide +kernel

/-! ## The line code (Tables 6-2 and 6-3) -/

theorem test_mask_syndromes : rsSyndrome (zeroLine maskK) 0 = 0x66 ∧ rsSyndrome (zeroLine maskV) 0 = 0x05 := by decide +kernel
theorem test_one_bad_symbol :
    classify ((rsEncode (List.replicate 64 7)).set 5 0xF0) = .corrected (List.replicate 64 7) [(5, 0xF7)] := by decide +kernel
theorem test_dirty_poison : classify ((zeroLine maskK).set 9 1) = .poison true := by decide +kernel

/-! ## Numbers: the worked examples of chapter 10 -/

/-- Four FP32 terms: 2^24, 1, −2^24 and 1 sum to 2.0 in one accumulator. -/
theorem test_four_terms :
    (((((({} : Acc).addVal (num32 0x4B800000)).addVal (num32 0x3F800000)).addVal (num32 0xCB800000)).addVal
      (num32 0x3F800000)).round 0 rne false) = some 0x40000000 := by decide +kernel

/-- One MXFP4 block: 11.0, −2.25, 0.3125, 0.5625, 10.0 and 27 zeros. -/
theorem test_mxfp4_block :
    let v (neg : Bool) (n d : Nat) : OutVal := .exact (some { neg := neg, num := n, den := d })
    let b := roundMx 7 rne ([v false 11 1, v true 9 4, v false 5 16, v false 9 16, v false 10 1]
      ++ List.replicate 27 (.exact none))
    b.scale = 0x80 ∧ b.codes.take 6 = [0x7, 0xA, 0x0, 0x1, 0x6, 0x0] := by decide +kernel

/-- EXP2(−2.0) is 0x3E80_0000. -/
theorem test_exp2 : exp2Of rup 0xC0000000 = 0x3E800000 := by decide +kernel

/-! ## Shaping: the test-bench meter of chapter 15 -/

/-- The registers of the example for function 293, its buckets full. -/
def meterBench : Block :=
  (((State.reset.blk.setReg (R.SHP_FN_RATE_LO 293) 0x40020000).setReg (R.SHP_FN_RATE_HI 293) 0x40000).setReg
    (R.SHP_FN_BURST_LO 293) 4).setReg (R.SHP_FN_BURST_HI 293) 8

/-- Sixteen cells, one each tick. -/
def sixteenCells : List Bool := (List.range 32).map fun i => decide (i % 2 = 0)

/-- Five cells are green, six yellow and five red; afterwards tc is 0.875 and tp is 0.75. -/
theorem test_meter_example :
    let r := meterBench.metered 293 sixteenCells
    r.1 = 5 ∧ r.2.1 = 11 ∧ r.2.2.bucketT (bkTc 293) = 7 * 2 ^ 17 ∧ r.2.2.bucketT (bkTp 293) = 3 * 2 ^ 18 ∧
      r.2.2.fld (F.SHP_FN_YELLOW_COUNT 293) = 6 ∧ r.2.2.fld (F.SHP_FN_RED_COUNT 293) = 5 := by decide +kernel

/-! ## Objects (Table 11-16) -/

theorem test_semaphore_saturates :
    ({ kind := 2, value := 2 ^ 63 - 1 } : SyncObj).apply opSignal 0 0 = some { kind := 2, value := 2 ^ 63 - 1 } := by
  decide +kernel
theorem test_barrier_turns :
    ({ kind := 3, value := 1, parties := 2 } : SyncObj).apply opSignal 0 0 = some { kind := 3, value := 2 ^ 32, parties := 2 } := by
  decide +kernel
theorem test_semaphore_range :
    ({ kind := 2, value := 3 } : SyncObj).apply opAdd (2 ^ 64 - 4) 0 = some { kind := 2, value := 3 } := by decide +kernel

/-! ## Programs -/

/-- A running task of one program: s1 = 7, s2 = 0, at one instruction word. -/
def running (w : Nat) : State :=
  on fun s => { s with
    ctl := { s.ctl with
      stopped := false
      logbook := [{ ring := 0, seq := 0, slot := 0, bytes := [], bodySlots := 0, state := .started }] }
    eng := { s.eng with
      tasks := [{ ring := 0, seq := 0, idx := 0, stream := 0, state := .running,
                  prog := some { core := { regs := [(1, 7)] }, text := [w] } }] } }

/-- The program of that task. -/
def progAfter (s : Block) : Option Prog := (s.task 0 0 0).bind (·.prog)

/-- DIVU s3 = s1 / s2 by zero gives all ones (R362); the word is op 0x01, d 3, a 1, b 2, func 0x0C. -/
theorem test_divu_zero :
    ((progAfter (blkAfter (.aluDivu 0 0 0) (running (0x01 * 2 ^ 26 + 3 * 2 ^ 21 + 1 * 2 ^ 16 + 2 * 2 ^ 11 + 0x0C)))).map
      fun p => (p.core.reg 3, p.core.pc)) = some ((2 ^ 64 - 1, false), 4) := by decide +kernel

/-- REMU by zero gives the dividend. -/
theorem test_remu_zero :
    ((progAfter (blkAfter (.aluRemu 0 0 0) (running (0x01 * 2 ^ 26 + 3 * 2 ^ 21 + 1 * 2 ^ 16 + 2 * 2 ^ 11 + 0x0D)))).map
      fun p => p.core.reg 3) = some (7, false) := by decide +kernel

/-- A row of another instruction does nothing. -/
theorem test_other_word : progAfter (blkAfter (.aluAdd 0 0 0) (running 0)) = progAfter (running 0).blk := by decide +kernel

/-! ## Partitions, counters, JTAG -/

theorem test_define : (blkAfter (.define .firmware 7) State.reset).ptnState 7 = ptnDefined := by decide +kernel

/-- R461: a reserved OP comes first, then a command outside the partition's row. -/
theorem test_refusal_order : State.reset.blk.ptnRefusal 9 0 (some 0) = some 0x01 ∧
    State.reset.blk.ptnRefusal opActivate 3 none = some 0x02 := by decide +kernel

theorem test_counter_wraps : (({ counts := [(4, 2 ^ 48 - 1)] } : DbgSt).count 4 1).ovf = [4] := by decide +kernel

/-- R523: the identification register. -/
theorem test_idcode : (idcodeBits.zipIdx.map fun x => if x.1 then 2 ^ x.2 else 0).sum = 0x16480B4F := by decide +kernel

/-! ## The statements' hypotheses can be met -/

theorem witness_StepTakesFront :
    ({ State.reset with pending := [.powerOn] } : State).pending = Instr.powerOn :: [] := rfl
theorem witness_IdleTick : State.reset.pending = [] ∧ State.reset.blk.boot.clusterResets = [] := ⟨rfl, rfl⟩
theorem witness_JtagPortApart : ∃ t, exec .jtagIdcode State.reset = .next t := ⟨_, rfl⟩
theorem witness_EveryStepKeeps : State.reset.kept ∧ ∃ t, step State.reset = .next t :=
  ⟨⟨fun h => (by simp [State.reset] at h), fun c h => (by simp [State.reset] at h)⟩, _, rfl⟩
theorem witness_ResetState : (regAt 0x000).isSome = true := by decide +kernel
theorem witness_RegisterReadsBack : F.GID_IDENT_VENDOR.lo ≤ F.GID_IDENT_VENDOR.hi ∧ F.GID_IDENT_VENDOR.hi < 32 ∧
    F.GID_IDENT_PART.lo ≤ F.GID_IDENT_PART.hi ∧ F.GID_IDENT_VENDOR.hi < F.GID_IDENT_PART.lo ∧
    F.GID_SETUP_LOCK_SETUP_LOCK.addr ≠ F.GID_IDENT_PART.addr := by decide
theorem witness_WriteMergesFields : ∀ r ∈ regsGid, tidyFields r.fields = true := by decide +kernel
theorem witness_ResetClassRestores :
    (regAt 0x20).map (fun x => (tidyFields x.1.fields, x.1.fields.map fun f => f.cls.contains .warm)) = some (true, [true]) := by
  decide +kernel
theorem witness_UnassignedAccess : hosted.blk.barUp (.ld 0) = true ∧ (0x22 : BitVec 24).toNat % 4 ≠ 0 ∧
    regAt (0x30 : BitVec 24).toNat = none ∧ (0x30 : BitVec 24).toNat % 4 = 0 := by decide +kernel
theorem witness_UngrantedReachesNothing : hosted.blk.barUp (.ld 2) = true ∧ hosted.blk.fnKind (.ld 2) = .ungranted ∧
    (regAt (0x010000 : BitVec 24).toNat).isSome = true := by decide +kernel
theorem witness_ScopedWritesNoGlobals : hosted.blk.barUp (.ld 1) = true ∧ hosted.blk.fnKind (.ld 1) = .scoped 5 ∧
    (regAt (0x030000 : BitVec 24).toNat).isSome = true := by decide +kernel
theorem witness_RegisterReadFrame : inMbx (0x20 : BitVec 24).toNat = false ∧ ∃ t, exec (.loHalfRead (.ld 0) 0x20) hosted = .next t :=
  ⟨by decide, _, rfl⟩
theorem witness_HighHalfIsLatched :
    ((regAt R.RNG_ACCEPT_LO).map fun x => isLoHalf x.1.base && !isHiHalf x.1.base) = some true ∧
    ((regAt (R.RNG_ACCEPT_LO + 4)).map fun x => isHiHalf x.1.base) = some true ∧
    (State.reset.blk.latch 0).read = [] := by decide +kernel
theorem witness_FirmwareTwinsDropWrites : R.INT_TWIN_BASE_LO 0 ≤ R.INT_TWIN_CFG 15 ∧ R.INT_TWIN_CFG 15 < R.INT_TWIN_PATROL := by
  decide
theorem witness_SetupLockByFullFunctions : hosted.blk.actsFull (.fn (.ld 0)) = true ∧ hosted.blk.actsFull (.fn (.ld 1)) = false := by
  decide +kernel

/-- Channel 3 opened by device 0. -/
def channel3 : Block := blkAfter (.mbxOpen (.fn (.ld 0)) 3) hosted

theorem witness_MailboxSend : channel3.mbxReach (.fn (.ld 0)) = true ∧ channel3.ownsCh (.fn (.ld 0)) 3 = true ∧
    channel3.isSet (F.MBX_CH_STATUS_BUSY 3) = false ∧
    (channel3.setFld (F.MBX_CH_STATUS_BUSY 3) 1).isSet (F.MBX_CH_STATUS_BUSY 3) = true ∧
    (channel3.setFld (F.MBX_CH_STATUS_BUSY 3) 1).ownsCh (.fn (.ld 0)) 3 = true := by decide +kernel
theorem witness_MailboxOwnerOnly : channel3.mbxReach (.node 9) = true ∧ channel3.ownsCh (.node 9) 3 = false := by decide +kernel
theorem witness_LineCodeTellsClasses : (List.replicate 64 0).length = 64 := by decide
theorem witness_StoredLineReadsBack : State.reset.blk.injectionAt 0 = false ∧ LineVal.wellSized .poison = true ∧
    LineVal.wellSized (.data (List.replicate 64 0)) = true := by decide +kernel
theorem witness_MemoryKeepsForm : ({} : Memory).wf = true := rfl
theorem witness_BucketRules : meterBench.holdsToken (bkTc 293) = true ∧ meterBench.tokenRate (bkSub 0) = 0 ∧
    meterBench.tokenRate (bkTc 293) ≠ 0 ∧ meterBench.shaperReady (bkTc 293) = true := by decide +kernel
theorem witness_MeterColours_green : meterBench.isSet (F.SHP_FN_RATE_LO_EN 293) = true ∧ 2 ^ 20 ≤ meterBench.bucketT (bkTp 293) ∧
    2 ^ 20 ≤ meterBench.bucketT (bkTc 293) := by decide +kernel
theorem witness_MeterColours_yellow : 2 ^ 20 ≤ (meterBench.fillBucket (bkTc 293) false).bucketT (bkTp 293) ∧
    (meterBench.fillBucket (bkTc 293) false).bucketT (bkTc 293) < 2 ^ 20 := by decide +kernel
theorem witness_MeterColours_red : (meterBench.fillBucket (bkTp 293) false).bucketT (bkTp 293) < 2 ^ 20 := by decide +kernel
theorem witness_ObjectsStayInRange :
    ({ kind := 2, value := 5 } : SyncObj).apply opSwap 9 0 = some { kind := 2, value := 9 } ∧
    ({ kind := 1, value := 2 ^ 64 - 1 } : SyncObj).apply opAdd 1 0 = some { kind := 1, value := 0 } ∧
    ({} : SyncObj).kind = objNone := by decide +kernel
theorem witness_DefineFreePartition : State.reset.blk.actsFull .firmware = true ∧
    State.reset.blk.isSet F.PTN_CMD_STATUS_BUSY = false ∧ State.reset.blk.ptnState 7 = ptnFree ∧
    (State.reset.blk.ldsOf 7).any State.reset.blk.tspIsLocked = false := by decide +kernel
theorem witness_CountersSaturate : F.GID_BAD_ACCESS_COUNT_COUNT.lo ≤ F.GID_BAD_ACCESS_COUNT_COUNT.hi ∧
    F.GID_BAD_ACCESS_COUNT_COUNT.hi < 32 ∧ R.GID_IDENT ≠ F.GID_BAD_ACCESS_COUNT_COUNT.addr := by decide
theorem witness_CountersWrap : 2 ^ 48 ≤ Assoc.get 0 4 ({ counts := [(4, 2 ^ 48 - 1)] } : DbgSt).counts + 1 := by decide
theorem witness_CounterCommandsFrame : ∃ t, exec (.counterFreeze .firmware true) State.reset = .next t := ⟨_, rfl⟩

/-! ### Programs: each clause's instruction word, and its conditions on the state

`word op d a low` is an instruction word; s1 holds 2, every other scalar register 0. -/

def word (op d a low : Nat) : Nat := op * 2 ^ 26 + d * 2 ^ 21 + a * 2 ^ 16 + low

/-- A running task of one program, changed by `f` and `g`, at one instruction word. -/
def atWord (f : Block → Block) (g : Prog → Prog) (w : Nat) : State :=
  on fun s => f { s with
    ctl := { s.ctl with
      stopped := false
      logbook := [{ ring := 0, seq := 0, slot := 0, bytes := [], bodySlots := 0, state := .started }] }
    eng := { s.eng with
      tasks := [{ ring := 0, seq := 0, idx := 0, stream := 0, state := .running, core := some 0,
                  prog := some (g { core := { regs := [(1, 2)] }, text := [w] }) }] } }

/-- The word that the task executes next. -/
def wordAt (s : State) : Option Nat := (s.blk.bexaAt 0 0 0).map fun x => x.2.2.2

/-- What the task's instruction runs on, and what `m` gives there. -/
def runOf {α : Type} (m : Bx α) (s : State) : Option α :=
  (s.blk.bexaAt 0 0 0).bind fun x =>
    match m (s.bexaRun x.1 x.2.1 x.2.2.1) with
    | .ok (v, _) => some v
    | .error _ => none

/-- Context 0 maps its first page to the DPAs from 0, in a channel block of partition 0. -/
def mapped (s : Block) : Block :=
  (((s.setFld (F.XLT_CTX_CFG_ENABLE 0) 1).setCtx 0
    { segs := [{ valid := true, rights := 7, caBase := 0, pages := 16 }] }).fillPage
      { ctx := 0, page := 0, frame := 0, rights := 7 }).setReg (R.PTN_BLOCK_OWN 0) 0x80

/-- The same, with data in the line at DPA 0. -/
def filled (s : Block) : Block := (mapped s).store 0 0 (rsEncode (List.replicate 64 7))

/-- Object 2 is a semaphore of partition 0 that holds 2. -/
def semaphore (s : Block) : Block :=
  { s.setReg (R.ENG_SYNC_OWN 0) 0x80000000 with eng := { s.eng with objs := [(2, { kind := 2, value := 2 })] } }

def inplace (p : Prog) : Prog := { p with inplace := true }
def windowed (n : Nat) (p : Prog) : Prog := { p with window := List.replicate n 0 }

theorem witness_AluResults :
    let low := [word 0x02 3 1 5, word 0x03 3 1 5, word 0x04 3 1 5, word 0x05 3 1 5, word 0x06 3 1 0x04, word 0x06 3 1 0x44,
      word 0x06 3 1 0x84, word 0x07 3 0 5, word 0x12 1 2 0, word 0x13 1 2 0, word 0x14 1 2 0, word 0x15 1 2 0,
      word 0x16 1 2 0, word 0x17 1 2 0, word 0x18 0 0 0, word 0x19 3 0 0, word 0x1A 3 0 0x0008, word 0x1A 3 1 0x8008,
      word 0x1A 3 1 0x8009, word 0x1B 0 0 6]
    ((List.range 16).map (word 0x01 3 1) ++ low).all (fun w => decide (wordAt (atWord id id w) = some w)) = true := by
  decide +kernel
theorem witness_AluResults_registers :
    let c : ProgCore := { regs := [(1, 2)] }
    c.reg 1 = (2, false) ∧ c.reg 2 = (0, false) ∧ (0 < 4 * [word 0x19 3 0 0].length) ∧
      runOf (do let r ← get; pure (r.csr 0x008)) (atWord id id 0) = some (some 1) := by decide +kernel

theorem witness_ScalarCommands_memory :
    runOf (Bx.readMem 0 8) (atWord filled id (word 0x0B 3 0 0)) =
      some { bytes := List.replicate 8 7, poison := false, addrErr := false } ∧
    (runOf (Bx.readMem 0 1) (atWord mapped id (word 0x08 3 0 0))).map (·.poison) = some true ∧
    runOf (Bx.store 0 (leBytes 8 2) false) (atWord mapped id (word 0x0F 1 0 0)) = some () ∧
    wordAt (atWord filled id (word 0x09 3 0 0)) = some (word 0x09 3 0 0) ∧
    wordAt (atWord filled id (word 0x0A 3 0 0)) = some (word 0x0A 3 0 0) ∧
    wordAt (atWord mapped id (word 0x0C 1 0 0)) = some (word 0x0C 1 0 0) ∧
    wordAt (atWord mapped id (word 0x0D 1 0 0)) = some (word 0x0D 1 0 0) ∧
    wordAt (atWord mapped id (word 0x0E 1 0 0)) = some (word 0x0E 1 0 0) := by decide +kernel
theorem witness_ScalarCommands_window :
    wordAt (atWord id (windowed 64) (word 0x10 3 0 8)) = some (word 0x10 3 0 8) ∧
    wordAt (atWord id (windowed 64) (word 0x11 1 0 56)) = some (word 0x11 1 0 56) ∧ 56 + 8 ≤ (windowed 64 {}).window.length ∧
    56 / 64 ∉ (windowed 64 {}).wpoison := by decide +kernel
theorem witness_ScalarCommands_system :
    ([1, 2, 3].map (word 0x1B 0 0)).all (fun w => decide (wordAt (atWord id id w) = some w)) = true ∧
    wordAt (atWord id inplace (word 0x1B 0 0 4)) = some (word 0x1B 0 0 4) ∧
    (runOf (bxTranslate [lineOut 0 [1] false])
      (atWord mapped (fun p => { p with inplace := true, unit := some [lineOut 0 [1] false] }) (word 0x1B 0 0 5))).isSome = true ∧
    (atWord mapped id 0).blk.stagingUsed < (atWord mapped id 0).blk.stagingSize := by decide +kernel
theorem witness_ScalarCommands_objects :
    let s := atWord semaphore inplace (word 0x1C 3 1 1)
    wordAt s = some (word 0x1C 3 1 1) ∧ s.blk.objOwner 2 = some (s.blk.ringPtn 0) ∧ (s.blk.obj 2).reserved = none ∧
    (s.blk.obj 2).kind ≠ objNone ∧ s.blk.stagingUsed < s.blk.stagingSize ∧
    ([(opAdd, 1, 0), (opSwap, 9, 0), (opCas, 7, 2), (opSignal, 0, 0)].all fun x =>
      ((s.blk.obj 2).apply x.1 x.2.1 x.2.2).isSome) = true ∧
    ([0, 2, 3, 4].map (word 0x1C 3 1)).all (fun w => decide (wordAt (atWord semaphore inplace w) = some w)) = true ∧
    wordAt (atWord semaphore id (word 0x1D 0 1 0)) = some (word 0x1D 0 1 0) := by decide +kernel

/-- A window that holds a linear pattern of one line from CA 0, and the binding it gives. -/
def lineBind : PfBind := { fmt := 0, pattern := .linear 0 64 1, scaleBase := 0 }
def patterned (p : Prog) : Prog := { p with window := leBytes 8 1 ++ leBytes 8 0 ++ leBytes 8 64 ++ leBytes 8 1 ++ List.replicate 32 0 }

theorem witness_VectorCommands_streams :
    wordAt (atWord id patterned (word 0x1E 0 0 0)) = some (word 0x1E 0 0 0) ∧
    parsePattern (patterned {}).window = some (0, .linear 0 64 1, 0) ∧ (PfPattern.linear 0 64 1).misaligned = none ∧
    (let f : Prefetcher := { ring := 0, seq := 0, stream := 0, ctx := 0, ptn := 0, pattern := lineBind.pattern
                             staged := [{ idx := 0, page := 0, val := .data (List.replicate 64 7) }] }
     let s := atWord (fun s => s.setPrefetcher 0 0 f) (fun p => { p with core := { p.core with binds := [(0, lineBind)] } })
       (word 0x20 0 0 0)
     wordAt s = some (word 0x20 0 0 0) ∧ s.blk.prefetcher 0 0 = some f ∧ lineBind.taken < 64 * lineBind.pattern.lines ∧
       runOf (Bx.eachEngine fun n => bxTake f 0 0 n) s = some ()) := by decide +kernel
theorem witness_VectorCommands_window :
    wordAt (atWord id (windowed 272) (word 0x21 0 0 (3 * 2 ^ 10))) = some (word 0x21 0 0 (3 * 2 ^ 10)) ∧
    runOf (Bx.eachEngine fun k => do
        let q ← Bx.prog
        Bx.winWrite 0 ((q.vec k 0).bytes ++ if isMx (q.vec k 0).fmt then (q.vec k 0).scales else []) fun _ => false)
      (atWord id (windowed 272) (word 0x21 0 0 1)) = some () ∧
    runOf (Bx.eachEngine fun k => do
        let q ← Bx.prog
        Bx.storeLines 0 ((q.vec k 0).bytes.take (vecBytes (q.vec k 0).fmt)) fun _ => false)
      (atWord id (fun p => { p with inplace := true, unit := some [] }) (word 0x22 0 0 0)) = some () ∧
    wordAt (atWord id id (word 0x22 0 0 1)) = some (word 0x22 0 0 1) ∧ vecBlocks (({} : Prog).vec 0 0).fmt = 0 ∧
    ({} : ProgCore).engines = [0] ∧ 0 % vecBlocks 3 = 0 := by decide +kernel
theorem witness_VectorCommands_lanes :
    ((List.range 12).map (word 0x23 0 0) ++ (List.range 5).map (word 0x24 0 0) ++ [word 0x25 0 0 0, word 0x26 0 0 0,
      word 0x27 0 0 0, word 0x28 0 0 0, word 0x29 0 0 0, word 0x29 0 0 6]).all
        (fun w => decide (wordAt (atWord id id w) = some w)) = true := by decide +kernel
theorem witness_VectorCommands_sums :
    ([1, 2, 3].map (word 0x29 0 0)).all (fun w => decide (wordAt (atWord id (windowed 96) w) = some w)) = true ∧
    ([4, 5].map (word 0x29 0 0)).all (fun w => decide (wordAt (atWord id id w) = some w)) = true ∧
    ((({} : Prog).acc 0 0).out.round 0 0 false).isSome = true ∧
    (((({} : Prog).acc 0 0).div (({} : Prog).acc 0 0)).round 0 0 false).isSome = true ∧
    wordAt (atWord id (windowed 3072) (word 0x2A 0 0 (3 * 2 ^ 10))) = some (word 0x2A 0 0 (3 * 2 ^ 10)) ∧ 0 < vecBlocks 3 := by
  decide +kernel

end Sys2Proof.Tests
end

section
/-! PROOFS.  The setup register space (R31): the offsets that a register array reaches, the ranges of Table 1-6 that
nothing is assigned in, and where every register lies. -/

namespace Sys2Proof.Machine

/-- The distance from the first entry of an array with strides and counts `ds` to its last. -/
def dimSpan : List (Nat × Nat) → Nat
  | [] => 0
  | (stride, count) :: ds => stride * (count - 1) + dimSpan ds

/-- The offset of a register's last entry. -/
def RegDef.last (r : RegDef) : Nat := r.base + dimSpan r.dims

/-- An array names no offset past its last entry: each index is below its count, and what the wider strides leave over is
named by the narrower ones. -/
theorem le_dimSpan_of_dimIndices {ds : List (Nat × Nat)} {rem : Nat} {ix : List Nat} (h : dimIndices ds rem = some ix) :
    rem ≤ dimSpan ds := by
  induction ds generalizing rem ix with
  | nil =>
    unfold dimIndices at h
    split at h
    case isTrue hzero => exact hzero.le
    case isFalse => cases h
  | cons d ds ih =>
    obtain ⟨stride, count⟩ := d
    unfold dimIndices at h
    split at h
    case isFalse => cases h
    case isTrue hlt =>
      obtain ⟨_, hix', -⟩ := Option.map_eq_some_iff.mp h
      calc rem = stride * (rem / stride) + rem % stride := (Nat.div_add_mod rem stride).symm
        _ ≤ stride * (count - 1) + dimSpan ds :=
          Nat.add_le_add (Nat.mul_le_mul_left _ (Nat.le_sub_one_of_lt hlt)) (ih hix')

/-- A register is found under no offset past its last entry. -/
theorem RegDef.indicesAt_eq_none_of_last_lt {r : RegDef} {a : Nat} (h : r.last < a) : r.indicesAt a = none := by
  unfold RegDef.last at h
  unfold RegDef.indicesAt
  split
  · rfl
  · cases hix : dimIndices r.dims (a - r.base) with
    | none => rfl
    | some ix => have := le_dimSpan_of_dimIndices hix; omega

/-- An offset names no register when every register of the block it lies in ends before it. -/
theorem regAt_eq_none_of_past {a : Nat} (h : ∀ b ∈ regBlocks, b.1 ≤ a → a < b.2.1 → ∀ r ∈ b.2.2, r.last < a) :
    regAt a = none := by
  unfold regAt
  split
  next => rfl
  next b hb =>
    have hin := List.find?_some hb
    simp only [Bool.and_eq_true, decide_eq_true_eq] at hin
    refine List.findSome?_eq_none_iff.mpr fun r hr => ?_
    rw [RegDef.indicesAt_eq_none_of_last_lt (h b (List.mem_of_find?_eq_some hb) hin.1 hin.2 r hr), Option.map_none]

/-- Nothing is assigned past the last block of Table 1-6. -/
theorem regAt_eq_none_of_ge_end {a : Nat} (ha : 0x680000 ≤ a) : regAt a = none := by
  have hend : ∀ b ∈ regBlocks, b.2.1 ≤ 0x680000 := by decide +kernel
  exact regAt_eq_none_of_past fun b hb _ hlt => absurd hlt (Nat.not_lt.mpr ((hend b hb).trans ha))

/-- Nothing is assigned in a range that every block either stays out of or has all its registers before. -/
theorem regAt_eq_none_of_mem_gap {lo hi a : Nat}
    (h : ∀ b ∈ regBlocks, b.2.1 ≤ lo ∨ hi ≤ b.1 ∨ ∀ r ∈ b.2.2, r.last < lo) (hlo : lo ≤ a) (hhi : a < hi) :
    regAt a = none := by
  refine regAt_eq_none_of_past fun b hb hfirst hend r hr => ?_
  obtain hbefore | hafter | hlast := h b hb
  · omega
  · omega
  · exact (hlast r hr).trans_le hlo

/-- Past the array of 18 stacks nothing of the DRC block is assigned. -/
theorem drcGap_clear : ∀ b ∈ regBlocks, b.2.1 ≤ 0x148000 ∨ 0x180000 ≤ b.1 ∨ ∀ r ∈ b.2.2, r.last < 0x148000 := by
  decide +kernel

/-- Past the array of 96 ports nothing of the PFL block is assigned. -/
theorem pflGap_clear : ∀ b ∈ regBlocks, b.2.1 ≤ 0x3E0000 ∨ 0x400000 ≤ b.1 ∨ ∀ r ∈ b.2.2, r.last < 0x3E0000 := by
  decide +kernel

/-- Every register of the map starts in its block, aligned to 4 bytes (R12, R32), with strides of whole registers and with
fields that lie in 32 bits and share none. -/
theorem regBlocks_tidy : ∀ b ∈ regBlocks, ∀ r ∈ b.2.2, r.base % 4 = 0 ∧ b.1 ≤ r.base ∧ r.base < b.2.1 ∧
    (∀ d ∈ r.dims, d.1 % 4 = 0) ∧ tidyFields r.fields = true := by
  decide +kernel

/-- Settles O8: the blocks stand in the model as Table 1-6 lists them, the last entry of every array bounds what it is found
under, and the rest is a check of the finite map. -/
theorem registerMap : Obligations.RegisterMap :=
  ⟨rfl, rfl, fun _ ha => regAt_eq_none_of_ge_end ha, fun _ hlo hhi => regAt_eq_none_of_mem_gap drcGap_clear hlo hhi,
    fun _ hlo hhi => regAt_eq_none_of_mem_gap pflGap_clear hlo hhi, regBlocks_tidy⟩

end Sys2Proof.Machine
end

section
/-! PROOFS.  Accesses of a wrong width, alignment or offset (R32). -/

namespace Sys2Proof.Machine

/-- A read of an offset that no chapter assigns answers 0 and is counted. -/
theorem Block.fnRead_unassigned {s : Block} {f : Fn} {a : Nat} (h : regAt a = none) : s.fnRead f a = (0, s.badAccess) := by
  unfold Block.fnRead
  rw [h]

/-- A write to an offset that no chapter assigns is ignored and counted. -/
theorem Block.fnWrite_unassigned {s : Block} {f : Fn} {a v : Nat} (h : regAt a = none) : s.fnWrite f a v = s.badAccess := by
  unfold Block.fnWrite
  rw [h]

section
variable {f : Fn} {s : State} (hbar : s.blk.barUp f = true)
include hbar

/-- An access of another width, or not aligned, is an Unsupported Request and counted. -/
theorem exec_badRegisterAccess_counted {off : BitVec 24} {width : BitVec 4} (h : width ≠ 4 ∨ off.toNat % 4 ≠ 0) :
    exec (.badRegisterAccess f off width) s =
      .next { s with blk := s.blk.badAccess.emit (.unsupportedRequest (.fn f)) } := by
  change execBadRegisterAccess f off width s = _
  have hbad : (decide (width ≠ 4) || decide (off.toNat % 4 ≠ 0)) = true := by simpa using h
  simp only [execBadRegisterAccess, State.act_eq, hbar, hbad, Bool.and_self, if_true]

/-- A write that is not aligned is an Unsupported Request and counted. -/
theorem exec_registerWrite_unaligned {a : BitVec 24} {v : BitVec 32} (h : a.toNat % 4 ≠ 0) :
    exec (.registerWrite f a v) s = .next { s with blk := s.blk.badAccess.emit (.unsupportedRequest (.fn f)) } := by
  change execRegisterWrite f a v s = _
  simp [execRegisterWrite, State.act_eq, hbar, h]

/-- A read that is not aligned is an Unsupported Request and counted. -/
theorem exec_loHalfRead_unaligned {a : BitVec 24} (h : a.toNat % 4 ≠ 0) :
    exec (.loHalfRead f a) s = .next { s with blk := s.blk.badAccess.emit (.unsupportedRequest (.fn f)) } := by
  change execLoHalfRead f a s = _
  simp [execLoHalfRead, State.act_eq, hbar, h]

/-- An aligned write is the write of the register that the offset names. -/
theorem exec_registerWrite_aligned {a : BitVec 24} {v : BitVec 32} (h : a.toNat % 4 = 0) :
    exec (.registerWrite f a v) s = .next { s with blk := s.blk.fnWrite f a.toNat v.toNat } := by
  change execRegisterWrite f a v s = _
  simp [execRegisterWrite, State.act_eq, hbar, h]

/-- An aligned read sends out what the register that the offset names answers. -/
theorem exec_loHalfRead_aligned {a : BitVec 24} (h : a.toNat % 4 = 0) :
    exec (.loHalfRead f a) s = .next { s with
      blk := (s.blk.fnRead f a.toNat).2.emit (.regRead (.fn f) a.toNat (s.blk.fnRead f a.toNat).1) } := by
  change execLoHalfRead f a s = _
  simp [execLoHalfRead, State.act_eq, hbar, h]

end

/-- Settles O12: the count comes with the Unsupported Request where width or alignment is wrong, and with a completion where
the offset names no register. -/
theorem unassignedAccess : Obligations.UnassignedAccess := by
  intro f s hbar
  refine ⟨fun off width h => exec_badRegisterAccess_counted hbar h,
    fun a v h => ⟨exec_registerWrite_unaligned hbar h, exec_loHalfRead_unaligned hbar h⟩, fun a v h hnone => ⟨?_, ?_⟩⟩
  · rw [exec_loHalfRead_aligned hbar h, Block.fnRead_unassigned hnone]
    rfl
  · rw [exec_registerWrite_aligned hbar h, Block.fnWrite_unassigned hnone]
    rfl

end Sys2Proof.Machine
end

section
/-! PROOFS.  The token buckets under a charge and under a meter's counters (R450), and the colours of a meter (R456). -/

namespace Sys2Proof.Machine

/-! ## One bucket charged -/

/-- What a bucket lacks is no part of any bucket's BURST. -/
@[simp] theorem Block.burstSize_setLack (s : Block) (k lack j : Nat) : (s.setLack k lack).burstSize j = s.burstSize j := rfl

/-- T of a bucket whose lack is set. -/
theorem Block.bucketT_setLack_same (s : Block) (k lack : Nat) :
    (s.setLack k lack).bucketT k = s.burstSize k * oneCell - lack := by
  change (s.setLack k lack).burstSize k * oneCell - Assoc.get 0 k (Assoc.put 0 k lack s.net.shape.lacks) = _
  rw [Assoc.get_put_same, Block.burstSize_setLack]

/-- The other buckets keep T. -/
theorem Block.bucketT_setLack_ne {s : Block} {k lack j : Nat} (h : j ≠ k) :
    (s.setLack k lack).bucketT j = s.bucketT j := by
  change (s.setLack k lack).burstSize j * oneCell - Assoc.get 0 j (Assoc.put 0 k lack s.net.shape.lacks) = _
  rw [Assoc.get_put_ne _ h, Block.burstSize_setLack, Block.bucketT]

/-- T is at most BURST. -/
theorem Block.bucketT_le_burstSize (s : Block) (k : Nat) : s.bucketT k ≤ s.burstSize k * oneCell := Nat.sub_le _ _

/-- A charge takes one cell from its bucket. -/
theorem Block.bucketT_charge_same (s : Block) (k : Nat) : (s.charge k).bucketT k = s.bucketT k - oneCell := by
  unfold Block.charge
  rw [Block.bucketT_setLack_same, Nat.sub_sub_self ((Nat.sub_le _ _).trans (s.bucketT_le_burstSize k))]

/-- A charge takes nothing from another bucket. -/
theorem Block.bucketT_charge_ne {s : Block} {k j : Nat} (h : j ≠ k) : (s.charge k).bucketT j = s.bucketT j :=
  Block.bucketT_setLack_ne h

/-- A bucket holds a token when T is a whole cell. -/
theorem Block.holdsToken_iff {s : Block} {k : Nat} : s.holdsToken k = true ↔ oneCell ≤ s.bucketT k := decide_eq_true_iff

/-- A bucket holds no token when T is less than a cell. -/
theorem Block.holdsToken_eq_false_iff {s : Block} {k : Nat} : s.holdsToken k = false ↔ s.bucketT k < oneCell := by
  rw [← Bool.not_eq_true, Block.holdsToken_iff, Nat.not_le]

/-! ## A meter's counters -/

/-- A counter raised keeps the fields of every other register. -/
theorem Block.fld_bump_addr {s : Block} {f g : Fld} {n : Nat} (h : g.addr ≠ f.addr) : (s.bump f n).fld g = s.fld g :=
  Block.fld_setFld_addr h

/-- Every BURST is a field of a register in the first 0x18 bytes of an aligned 0x20 (R459). -/
theorem exists_burstField (k : Nat) : ∃ g : Fld, g.addr % 32 < 24 ∧ ∀ s : Block, s.burstSize k = s.fld g := by
  unfold Block.burstSize
  split_ifs
  · exact ⟨F.SHP_SUB_CFG_HI_BURST k, by simp only [F.SHP_SUB_CFG_HI_BURST, R.SHP_SUB_CFG_HI]; omega, fun _ => rfl⟩
  · exact ⟨F.SHP_SVC_CFG_HI_BURST (k - 0x4000), by simp only [F.SHP_SVC_CFG_HI_BURST, R.SHP_SVC_CFG_HI]; omega, fun _ => rfl⟩
  · exact ⟨F.SHP_FN_BURST_LO_CBS ((k - 0x5000) / 2), by simp only [F.SHP_FN_BURST_LO_CBS, R.SHP_FN_BURST_LO]; omega,
      fun _ => rfl⟩
  · exact ⟨F.SHP_FN_BURST_HI_PBS ((k - 0x5000) / 2), by simp only [F.SHP_FN_BURST_HI_PBS, R.SHP_FN_BURST_HI]; omega,
      fun _ => rfl⟩
  · exact ⟨F.SHP_PORT_FWD_HI_BURST (k - 0x6000), by simp only [F.SHP_PORT_FWD_HI_BURST, R.SHP_PORT_FWD_HI]; omega,
      fun _ => rfl⟩

/-- A counter past those bytes is raised without a change of T. -/
theorem Block.bucketT_bump {s : Block} {g : Fld} {n : Nat} (h : 24 ≤ g.addr % 32) (k : Nat) :
    (s.bump g n).bucketT k = s.bucketT k := by
  obtain ⟨b, hb, hburst⟩ := exists_burstField k
  have hne : b.addr ≠ g.addr := fun heq => by omega
  unfold Block.bucketT
  rw [hburst, hburst, Block.fld_bump_addr hne, Block.bump_net]

/-- A function's red counter lies past the BURSTs. -/
theorem redCount_past_bursts (f : Nat) : 24 ≤ (F.SHP_FN_RED_COUNT f).addr % 32 := by
  simp only [F.SHP_FN_RED_COUNT, R.SHP_FN_RED]
  omega

/-- A function's yellow counter lies past the BURSTs. -/
theorem yellowCount_past_bursts (f : Nat) : 24 ≤ (F.SHP_FN_YELLOW_COUNT f).addr % 32 := by
  simp only [F.SHP_FN_YELLOW_COUNT, R.SHP_FN_YELLOW]
  omega

/-! ## The colours -/

/-- The two buckets of a meter are not the same. -/
theorem bkTc_ne_bkTp (f : Nat) : bkTc f ≠ bkTp f := by
  unfold bkTc bkTp
  omega

section
variable {s : Block} {f : Nat} (hen : s.isSet (F.SHP_FN_RATE_LO_EN f) = true)
include hen

/-- With less than a cell in tp the cell is red and counted. -/
theorem Block.meter_red (htp : s.bucketT (bkTp f) < oneCell) : s.meter f = (2, s.bump (F.SHP_FN_RED_COUNT f)) := by
  simp [Block.meter, hen, Block.holdsToken_eq_false_iff.mpr htp]

/-- With a cell in tp and less than one in tc the cell is yellow, charged to tp and counted. -/
theorem Block.meter_yellow (htp : oneCell ≤ s.bucketT (bkTp f)) (htc : s.bucketT (bkTc f) < oneCell) :
    s.meter f = (1, (s.charge (bkTp f)).bump (F.SHP_FN_YELLOW_COUNT f)) := by
  simp [Block.meter, hen, Block.holdsToken_iff.mpr htp, Block.holdsToken_eq_false_iff.mpr htc]

/-- With a cell in each the cell is green and charged to both. -/
theorem Block.meter_green (htp : oneCell ≤ s.bucketT (bkTp f)) (htc : oneCell ≤ s.bucketT (bkTc f)) :
    s.meter f = (0, (s.charge (bkTc f)).charge (bkTp f)) := by
  simp [Block.meter, hen, Block.holdsToken_iff.mpr htp, Block.holdsToken_iff.mpr htc]

end

/-- Settles O26: in each colour the counters leave both buckets, and a charge of the one leaves the other. -/
theorem meterColours : Obligations.MeterColours := by
  intro s f hen
  have hne := bkTc_ne_bkTp f.val
  refine ⟨fun htp => ?red, fun htp htc => ?yellow, fun htp htc => ?green⟩
  case red =>
    rw [Block.meter_red hen htp]
    have hcount := Block.bucketT_bump (s := s) (n := 1) (redCount_past_bursts f.val)
    exact ⟨rfl, hcount _, hcount _⟩
  case yellow =>
    rw [Block.meter_yellow hen htp htc]
    have hcount := Block.bucketT_bump (s := s.charge (bkTp f.val)) (n := 1) (yellowCount_past_bursts f.val)
    exact ⟨rfl, (hcount _).trans (Block.bucketT_charge_same _ _), (hcount _).trans (Block.bucketT_charge_ne hne)⟩
  case green =>
    rw [Block.meter_green hen htp htc]
    refine ⟨rfl, ?_, ?_⟩
    · rw [Block.bucketT_charge_same, Block.bucketT_charge_ne hne.symm]
      rfl
    · rw [Block.bucketT_charge_ne hne, Block.bucketT_charge_same]
      rfl

end Sys2Proof.Machine
end

section
/-! PROOFS.  Token buckets over time (R450, R456): what a tick adds, the rules of a shaper, and what a meter lets pass over a
history of ticks and cells. -/

namespace Sys2Proof.Machine

/-! ## A table mapped and filtered -/

/-- A table mapped entry by entry reads mapped at every key. -/
theorem Assoc.get_map {α β : Type} (f : Nat → α → β) (d : α) (k : Nat) (t : Assoc α) :
    Assoc.get (f k d) k (t.map fun e => (e.1, f e.1 e.2)) = f k (Assoc.get d k t) := by
  induction t with
  | nil => rfl
  | cons e t ih =>
    simp only [List.map_cons, Assoc.get]
    split
    · next h => rw [h]
    · exact ih

/-- A table whose entries are kept or left out by their keys reads as before at a key that is kept. -/
theorem Assoc.get_filter_kept {α : Type} {p : Nat → Bool} {d : α} {k : Nat} (h : p k = true) (t : Assoc α) :
    Assoc.get d k (t.filter fun e => p e.1) = Assoc.get d k t := by
  induction t with
  | nil => rfl
  | cons e t ih =>
    by_cases hk : e.1 = k
    · rw [List.filter_cons_of_pos (by rw [hk]; exact h)]
      simp [Assoc.get, hk]
    · rw [List.filter_cons]
      split <;> simp [Assoc.get, hk, ih]

/-- A key that is left out reads as unlisted. -/
theorem Assoc.get_filter_left_out {α : Type} {p : Nat → Bool} {d : α} {k : Nat} (h : p k = false) (t : Assoc α) :
    Assoc.get d k (t.filter fun e => p e.1) = d := by
  induction t with
  | nil => rfl
  | cons e t ih =>
    rw [List.filter_cons]
    split
    next hp =>
      have hk : e.1 ≠ k := fun hk => by rw [hk, h] at hp; cases hp
      simp [Assoc.get, hk, ih]
    next => exact ih

/-- Entries left out because their keys read 0 change no reading. -/
theorem Assoc.get_filter_nonzero (k : Nat) (t : Assoc Nat) :
    Assoc.get 0 k (t.filter fun e => decide (Assoc.get 0 e.1 t ≠ 0)) = Assoc.get 0 k t := by
  by_cases h : Assoc.get 0 k t = 0
  · rw [Assoc.get_filter_left_out (p := fun j => decide (Assoc.get 0 j t ≠ 0)) (by simp [h]), h]
  · exact Assoc.get_filter_kept (p := fun j => decide (Assoc.get 0 j t ≠ 0)) (by simp [h]) t

/-! ## A tick -/

/-- A tick changes no register. -/
@[simp] theorem Block.accrue_regs (s : Block) : s.accrue.regs = s.regs := rfl

/-- A tick leaves every field. -/
@[simp] theorem Block.fld_accrue (s : Block) (g : Fld) : s.accrue.fld g = s.fld g := rfl

/-- What a bucket lacks after a tick. -/
theorem Block.lack_accrue (s : Block) (k : Nat) :
    Assoc.get 0 k s.accrue.net.shape.lacks =
      min (Assoc.get 0 k s.net.shape.lacks) (s.burstSize k * oneCell) - s.tokenRate k := by
  have hmap := Assoc.get_map (fun j lack => min lack (s.burstSize j * oneCell) - s.tokenRate j) 0 k s.net.shape.lacks
  simp only [Nat.zero_min, Nat.zero_sub] at hmap
  exact (Assoc.get_filter_nonzero k _).trans hmap

/-- T after a tick: RATE is added, held at BURST. -/
theorem Block.bucketT_accrue (s : Block) (k : Nat) :
    s.accrue.bucketT k = min (s.bucketT k + s.tokenRate k) (s.burstSize k * oneCell) := by
  have hburst : s.accrue.burstSize k = s.burstSize k := rfl
  unfold Block.bucketT
  rw [hburst, Block.lack_accrue]
  omega

/-! ## A shaper -/

/-- A shaper of RATE 0 is always ready. -/
theorem Block.shaperReady_unshaped {s : Block} {k : Nat} (h : s.tokenRate k = 0) : s.shaperReady k = true := by
  simp [Block.shaperReady, h]

/-- A shaper of RATE 0 charges nothing. -/
theorem Block.takeToken_unshaped {s : Block} {k : Nat} (h : s.tokenRate k = 0) : s.takeToken k = s := by
  simp [Block.takeToken, h]

/-- A shaper of another RATE charges its bucket. -/
theorem Block.takeToken_shaped {s : Block} {k : Nat} (h : s.tokenRate k ≠ 0) : s.takeToken k = s.charge k := by
  simp [Block.takeToken, h]

/-- Settles O25: accrual and charge as the lemmas on one bucket give them; a shaper charges by its RATE. -/
theorem bucketRules : Obligations.BucketRules := by
  refine ⟨Block.bucketT_accrue, fun s k => Block.holdsToken_iff, fun s k _ => ⟨Block.bucketT_charge_same s k, ?other⟩,
    fun s k h => ⟨Block.shaperReady_unshaped h, Block.takeToken_unshaped h⟩, fun s k h _ => ?shaped⟩
  case other => exact fun j hj => Block.bucketT_charge_ne hj
  case shaped =>
    rw [Block.takeToken_shaped h]
    exact Block.bucketT_charge_same s k

/-! ## A meter over a history -/

/-- A charge changes no register. -/
@[simp] theorem Block.charge_regs (s : Block) (k : Nat) : (s.charge k).regs = s.regs := by
  rw [Block.charge, Block.setLack, Block.setShape_regs]

/-- A charge leaves every field. -/
@[simp] theorem Block.fld_charge (s : Block) (k : Nat) (g : Fld) : (s.charge k).fld g = s.fld g := by
  simp only [Block.fld, Block.reg, Block.charge_regs]

/-- Metering a cell leaves the fields of the first 0x18 bytes of every aligned 0x20: a meter's configuration lies there. -/
theorem Block.fld_meter {s : Block} {f : Nat} {g : Fld} (h : g.addr % 32 < 24) : (s.meter f).2.fld g = s.fld g := by
  have hred : g.addr ≠ (F.SHP_FN_RED_COUNT f).addr := fun heq => by have := redCount_past_bursts f; omega
  have hyellow : g.addr ≠ (F.SHP_FN_YELLOW_COUNT f).addr := fun heq => by have := yellowCount_past_bursts f; omega
  unfold Block.meter
  split_ifs
  · rfl
  · exact Block.fld_bump_addr hred
  · exact (Block.fld_bump_addr hyellow).trans (Block.fld_charge s _ g)
  · rw [Block.fld_charge, Block.fld_charge]

/-- Metering a cell leaves the meter enabled. -/
theorem Block.isSet_en_meter (s : Block) (f : Nat) :
    (s.meter f).2.isSet (F.SHP_FN_RATE_LO_EN f) = s.isSet (F.SHP_FN_RATE_LO_EN f) := by
  have hen : (F.SHP_FN_RATE_LO_EN f).addr % 32 < 24 := by simp only [F.SHP_FN_RATE_LO_EN, R.SHP_FN_RATE_LO]; omega
  unfold Block.isSet
  rw [Block.fld_meter hen]

/-- Metering a cell leaves CIR. -/
theorem Block.cir_meter (s : Block) (f : Nat) :
    (s.meter f).2.fld (F.SHP_FN_RATE_LO_CIR f) = s.fld (F.SHP_FN_RATE_LO_CIR f) :=
  Block.fld_meter (by simp only [F.SHP_FN_RATE_LO_CIR, R.SHP_FN_RATE_LO]; omega)

/-- Metering a cell leaves PIR. -/
theorem Block.pir_meter (s : Block) (f : Nat) :
    (s.meter f).2.fld (F.SHP_FN_RATE_HI_PIR f) = s.fld (F.SHP_FN_RATE_HI_PIR f) :=
  Block.fld_meter (by simp only [F.SHP_FN_RATE_HI_PIR, R.SHP_FN_RATE_HI]; omega)

/-- A green cell costs tc one cell, another colour nothing; a cell that is not red costs tp one. -/
theorem Block.meter_cost {s : Block} (f : Fin 512) (hen : s.isSet (F.SHP_FN_RATE_LO_EN f.val) = true) :
    (s.meter f.val).2.bucketT (bkTc f.val) + (if (s.meter f.val).1 = 0 then oneCell else 0) = s.bucketT (bkTc f.val) ∧
    (s.meter f.val).2.bucketT (bkTp f.val) + (if (s.meter f.val).1 ≤ 1 then oneCell else 0) = s.bucketT (bkTp f.val) := by
  obtain ⟨hred, hyellow, hgreen⟩ := meterColours s f hen
  rw [← oneCell] at hred hyellow hgreen
  rcases Nat.lt_or_ge (s.bucketT (bkTp f.val)) oneCell with htp | htp
  · obtain ⟨hc, hp, htc⟩ := hred htp
    simp [hc, hp, htc]
  rcases Nat.lt_or_ge (s.bucketT (bkTc f.val)) oneCell with htc | htc
  · obtain ⟨hc, hp, hkept⟩ := hyellow htp htc
    simp [hc, hp, hkept, Nat.sub_add_cancel htp]
  · obtain ⟨hc, hp, hspent⟩ := hgreen htp htc
    simp [hc, hp, hspent, Nat.sub_add_cancel htp, Nat.sub_add_cancel htc]

/-- A function's tc earns CIR a tick. -/
theorem Block.tokenRate_bkTc (s : Block) (f : Fin 512) : s.tokenRate (bkTc f.val) = s.fld (F.SHP_FN_RATE_LO_CIR f.val) := by
  have hlo : ¬ bkTc f.val < 0x4000 := by unfold bkTc; omega
  have hmid : ¬ bkTc f.val < 0x5000 := by unfold bkTc; omega
  have hhi : bkTc f.val < 0x6000 := by unfold bkTc; omega
  have heven : bkTc f.val % 2 = 0 := by unfold bkTc; omega
  have hidx : (bkTc f.val - 0x5000) / 2 = f.val := by unfold bkTc; omega
  rw [Block.tokenRate, if_neg hlo, if_neg hmid, if_pos hhi, if_pos heven, hidx]

/-- A function's tp earns PIR a tick. -/
theorem Block.tokenRate_bkTp (s : Block) (f : Fin 512) : s.tokenRate (bkTp f.val) = s.fld (F.SHP_FN_RATE_HI_PIR f.val) := by
  have hlo : ¬ bkTp f.val < 0x4000 := by unfold bkTp; omega
  have hmid : ¬ bkTp f.val < 0x5000 := by unfold bkTp; omega
  have hhi : bkTp f.val < 0x6000 := by unfold bkTp; omega
  have hodd : ¬ bkTp f.val % 2 = 0 := by unfold bkTp; omega
  have hidx : (bkTp f.val - 0x5000) / 2 = f.val := by unfold bkTp; omega
  rw [Block.tokenRate, if_neg hlo, if_neg hmid, if_pos hhi, if_neg hodd, hidx]

/-- The green cells of a history that begins with a metered one. -/
theorem Block.metered_cell_green (s : Block) (f : Nat) (evs : List Bool) :
    (s.metered f (false :: evs)).1 = ((s.meter f).2.metered f evs).1 + (if (s.meter f).1 = 0 then 1 else 0) := rfl

/-- The green and yellow cells of a history that begins with a metered one. -/
theorem Block.metered_cell_passed (s : Block) (f : Nat) (evs : List Bool) :
    (s.metered f (false :: evs)).2.1 = ((s.meter f).2.metered f evs).2.1 + (if (s.meter f).1 ≤ 1 then 1 else 0) := rfl

/-- A tick is counted in a history. -/
theorem ticksIn_tick (evs : List Bool) : ticksIn (true :: evs) = ticksIn evs + 1 := List.count_cons_self

/-- A cell is no tick. -/
theorem ticksIn_cell (evs : List Bool) : ticksIn (false :: evs) = ticksIn evs := List.count_cons_of_ne (by decide)

/-- A count that rises by one on a condition, in the units of the buckets. -/
theorem countIf_mul_oneCell (n : Nat) (P : Prop) [Decidable P] :
    (n + (if P then 1 else 0)) * oneCell = n * oneCell + (if P then oneCell else 0) := by
  rw [Nat.add_mul, ite_mul, Nat.one_mul, Nat.zero_mul]

/-- Settles O27, by induction on the history: a tick adds no more to a bucket than its rate, and a cell that passes costs its
bucket as much as the count rises. -/
theorem meterConforms : Obligations.MeterConforms := by
  intro s f evs
  rw [← oneCell]
  induction evs generalizing s with
  | nil => intro _; simp [Block.metered]
  | cons ev evs ih =>
    intro hen
    cases ev with
    | true =>
      obtain ⟨hgreen, hpassed⟩ := ih s.accrue hen
      rw [Block.bucketT_accrue, Block.tokenRate_bkTc, Block.fld_accrue] at hgreen
      rw [Block.bucketT_accrue, Block.tokenRate_bkTp, Block.fld_accrue] at hpassed
      rw [ticksIn_tick, Nat.succ_mul, Nat.succ_mul, Block.metered]
      omega
    | false =>
      obtain ⟨hgreen, hpassed⟩ := ih (s.meter f.val).2 (by rw [Block.isSet_en_meter]; exact hen)
      obtain ⟨htc, htp⟩ := Block.meter_cost f hen
      rw [Block.cir_meter] at hgreen
      rw [Block.pir_meter] at hpassed
      rw [ticksIn_cell, Block.metered_cell_green, Block.metered_cell_passed, countIf_mul_oneCell, countIf_mul_oneCell,
        ← htc, ← htp]
      omega

end Sys2Proof.Machine
end

section
/-! PROOFS.  What each command does, family by family: the arm that `exec` has for a row acts on the block by the operation that
the row's clause gives, so that a clause holds once the arm is unfolded.  Only EXTEST branches in another order than its clause. -/

namespace Sys2Proof.Machine

/-- Settles O34: the rows of register accesses, each by its arm. -/
theorem registerCommands : Obligations.RegisterCommands := by
  unfold Obligations.RegisterCommands
  refine ⟨?registerWrite, ?loHalfRead, ?badRegisterAccess, ?setupLockSet, ?mgmtRegRead, ?mgmtRegWrite, ?mctpRegRead,
    ?mctpRegWrite⟩
  all_goals intros; rfl

/-- Settles O35: the rows of power, clocks and temperatures, each by its arm. -/
theorem powerCommands : Obligations.PowerCommands := by
  unfold Obligations.PowerCommands
  refine ⟨?powerOn, ?undervoltageShutdown, ?overvoltageShutdown, ?inputLow, ?inputHigh, ?peakPowerLimit,
    ?powerExcursionTimeout, ?setPowerLimit, ?powerStageFail, ?pwrFailAssert, ?flushComplete, ?pwrFailRelease,
    ?pwrFailResume, ?pwrFailStuck, ?vcoreDroop, ?thermalSample, ?throttleStep, ?vcoreRaiseStep, ?bnXinLoss,
    ?crossingInbound, ?crossingOutbound, ?beatRateUpdate, ?pldmSensorRead, ?vbkRetentionLoss⟩
  all_goals intros; rfl

/-- Settles O36: the rows of the Cold and Warm resets and the almanac, each by its arm. -/
theorem resetCommands : Obligations.ResetCommands := by
  unfold Obligations.ResetCommands
  refine ⟨?rstNAssert, ?resetCmdCold, ?coldArmExpiry, ?resetCmdWarm, ?binnacleWatchdog, ?trialBootExpiry,
    ?resetEntryDone, ?railOffEnd, ?logbookReplay, ?portsRelease, ?thermalHoldClear, ?rwpWrite, ?rwpPersist,
    ?almCommitGo, ?almCommitDone, ?almRecheck, ?almScrub, ?rindSecurityReset⟩
  all_goals intros; rfl

/-- Settles O37: the rows of the boot, each by its arm. -/
theorem bootCommands : Obligations.BootCommands := by
  unfold Obligations.BootCommands
  refine ⟨?mainStagesStart, ?binnacleRelease, ?backupDomainCheck, ?configSelect, ?firmwareVerify, ?helmRelease,
    ?dramTrain, ?dramRetrain, ?poolDieRelease, ?firmwareUpdateHeld, ?trialConfirm⟩
  all_goals intros; rfl

/-- Settles O38: the rows of the Die, cluster, Port and Link resets, each by its arm. -/
theorem localResetCommands : Obligations.LocalResetCommands := by
  unfold Obligations.LocalResetCommands
  refine ⟨?resetCmdDie, ?resetCmdCluster, ?resetCmdPort, ?resetCmdLink, ?helmWatchdog, ?hpPerstAssert, ?cxlHotReset,
    ?hostLinkTrain, ?hpRefclkLoss, ?hpPerstRelease⟩
  all_goals intros; rfl

/-- Settles O39: the rows of rings, each by its arm. -/
theorem ringCommands : Obligations.RingCommands := by
  unfold Obligations.RingCommands
  refine ⟨?watchHit, ?ringService, ?descriptorReread, ?seqStuckTimeout, ?checkRetryTimeout, ?logbookWaitResume,
    ?acceptDescriptor, ?descriptorDone, ?completionWrite, ?resumeRing, ?restartRing, ?disableFn, ?enableFn,
    ?ringEnable, ?ringDisable, ?logbookLimitUpdate⟩
  all_goals intros; rfl

/-- Settles O40: the rows of engines, tasks and objects, each by its arm. -/
theorem engineCommands : Obligations.EngineCommands := by
  unfold Obligations.EngineCommands
  refine ⟨?runLimitExpiry, ?commitUnitBegin, ?commitUnitEnd, ?taskDispatch, ?arbGrant, ?tileBoundary, ?backoffExpiry,
    ?quotaWindowRoll, ?holdMaxCutoff, ?streamEnable, ?streamDisable, ?nop, ?gatherReduce, ?attnDecode,
    ?attnMaxCombined, ?logitSlotFree, ?kvAppend, ?burstIdleTimeout, ?press, ?unpress, ?topk, ?reduce, ?broadcast,
    ?copy, ?fillPattern, ?fillPoison, ?bexaRun, ?syncOpInit, ?syncOpRead, ?syncOpAdd, ?syncOpSwap, ?syncOpCas,
    ?syncOpSignal, ?syncOpAcquire, ?acquireWake, ?waitMet, ?syncBlockDisable, ?burstRecordExpiry⟩
  all_goals intros; rfl

/-- Settles O41: the rows of mailboxes, each by its arm. -/
theorem mailboxCommands : Obligations.MailboxCommands := by
  unfold Obligations.MailboxCommands
  refine ⟨?mbxAllocRead, ?mbxOpen, ?mbxClose, ?mbxForceClose, ?mbxSend, ?mbxTake, ?mbxCancel, ?mbxReply,
    ?mbxReplyClear, ?mbxEvent, ?echo, ?ringQuery, ?fnDisable, ?fnEnable⟩
  all_goals intros; rfl

/-- Settles O42: the rows of DRAM, each by its arm. -/
theorem dramCommands : Obligations.DramCommands := by
  unfold Obligations.DramCommands
  refine ⟨?dramRequestEnqueue, ?schedSlot, ?errorRecordWindowClose, ?refreshTick, ?selfRefreshEnter, ?selfRefreshExit,
    ?panicRaise, ?panicClear, ?panicWindowRoll, ?recalTrigger, ?recalSliceStart, ?recalSliceEnd,
    ?interfaceParityError, ?pprSoft, ?pprDone, ?hardenAll, ?moveToAlt, ?moveToPri, ?homeMoveComplete,
    ?baseDieSelfRefresh, ?spareFillDone, ?replace, ?spareSwitchDone, ?copyInStep, ?demandFill, ?copyInDone⟩
  case spareFillDone =>
    -- Both sides ask for the same waiting replacement; what is found is opaque to them.
    intro spare s
    change execSpareFillDone spare s = _
    unfold execSpareFillDone
    refine (State.act_eq s _).trans ?_
    dsimp only <;> generalize List.find? _ (List.range 8) = found <;> cases found <;> rfl
  all_goals intros; rfl

/-- Settles O43: the rows of service, each by its arm. -/
theorem serviceCommands : Obligations.ServiceCommands := by
  unfold Obligations.ServiceCommands
  refine ⟨?sramSingleError, ?sramDoubleError, ?coreFail, ?quiesce, ?quiesceComplete, ?rasReturn, ?returnComplete,
    ?dieLoss, ?helmCoreLoss, ?recoveryPhaseStart, ?recoveryPhaseEnd, ?twinPlacementCheck, ?healthUpdate, ?dieOutHour⟩
  all_goals intros; rfl

/-- Settles O44: the rows of the cache, the tiers and the cave, each by its arm. -/
theorem tierCommands : Obligations.TierCommands := by
  unfold Obligations.TierCommands
  refine ⟨?wayRetire, ?cacheLookup, ?flushPtn, ?flushAll, ?blockSet, ?extentEnable, ?extentPinDone, ?extentDisable,
    ?caveAccess, ?cavePageStaged, ?frameWaitResume, ?caveClean, ?syncPtn, ?frameEvict, ?caveWearLimit, ?flashTimeout,
    ?flashReadUncorrectable, ?flashProgramFail, ?flashEraseFail, ?channelFail, ?channelRebuildDone, ?flushRegionErase,
    ?caveWriteBackDone⟩
  all_goals intros; rfl

/-- Settles O45: the rows of integrity and twins, each by its arm. -/
theorem integrityCommands : Obligations.IntegrityCommands := by
  unfold Obligations.IntegrityCommands
  refine ⟨?turnerRowRead, ?turnerLag, ?ceLogClear, ?injectArm, ?twinWrite, ?twinEnable, ?twinDisable, ?twinWalkStep,
    ?twinWalkDone, ?twinCopyUnreadable, ?twinStackReturn, ?twinPatrolRead, ?twinPatrolPassEnd⟩
  all_goals intros; rfl

/-- Settles O46: the rows of prefetching, each by its arm. -/
theorem prefetchCommands : Obligations.PrefetchCommands := by
  unfold Obligations.PrefetchCommands
  refine ⟨?prefetchIssue, ?prefetchLineArrive, ?prefetchDepthDouble, ?prefetchDepthHalve⟩
  all_goals intros; rfl

/-- Settles O47: the rows of translation, each by its arm. -/
theorem translationCommands : Obligations.TranslationCommands := by
  unfold Obligations.TranslationCommands
  refine ⟨?translationWalk, ?translationFault, ?faultRecordWaitResume, ?faultQueueWrite, ?faultQueueSpace,
    ?faultLimitExpiry, ?xltCtxEnable, ?xltCtxDisable, ?xltFqEnable, ?xltFqDisable, ?xltInvalNone, ?xltInvalPages,
    ?xltInvalSegment, ?xltInvalContext, ?xltInvalDrained, ?drainWarn⟩
  all_goals intros; rfl

/-- Settles O48: the rows of host ports and BAR2, each by its arm. -/
theorem hostPortCommands : Obligations.HostPortCommands := by
  unfold Obligations.HostPortCommands
  refine ⟨?fnDisableDone, ?cxlFlr, ?cxlMemRequest, ?cxlMemComplete, ?bisnpSend, ?birsp, ?bisnpTimeout, ?hostLost,
    ?bar2Read, ?bar2Write, ?bar2Fetchadd, ?bar2Swap, ?bar2Cas⟩
  all_goals intros; rfl

/-- Settles O49: the rows of gates and extents, each by its arm. -/
theorem gateCommands : Obligations.GateCommands := by
  unfold Obligations.GateCommands
  refine ⟨?gateEnable, ?gateDisable, ?initiateDynamicCapacityAdd, ?addDynamicCapacityResponse, ?extentOfferExpiry,
    ?releaseDynamicCapacity, ?initiateDynamicCapacityRelease, ?extentClosed, ?extentScrubDone, ?identifyMemoryDevice,
    ?getEventRecords, ?clearEventRecords, ?getDynamicCapacityConfiguration, ?getDynamicCapacityExtentList, ?getLdInfo,
    ?getLdAllocations, ?setLdAllocations, ?unsupportedCxlCommand, ?ideKmKeyProg⟩
  all_goals intros; rfl

/-- Settles O50: the rows of the rose ring and commons, each by its arm. -/
theorem coherenceCommands : Obligations.CoherenceCommands := by
  unfold Obligations.CoherenceCommands
  refine ⟨?roseRequest, ?roseRetry, ?roseSnoop, ?roseSnoopDone, ?roseWriteback, ?slotRehome, ?commonsEnable, ?publish,
    ?publishCopyDone, ?publishDrainDone⟩
  all_goals intros; rfl

/-- Settles O53: the rows of links, each by its arm. -/
theorem linkCommands : Obligations.LinkCommands := by
  unfold Obligations.LinkCommands
  refine ⟨?linkSlot, ?codewordReceive, ?nakRepeat, ?replayTimerExpiry, ?trainingFrameReceive, ?trainDetect,
    ?trainCdrLock, ?trainFfeDone, ?trainAdaptDone, ?trainAlignDone, ?trainCodewordCheckDone, ?trainStepTimeout,
    ?sessionExchangeDone, ?sessionTimeout, ?retrainDone, ?retrainTimeout, ?laneDegraded, ?offStuck,
    ?partnerLossSignal, ?partnerLossDecode, ?downRetryExpiry, ?pflFenceWrite, ?pflRetrain, ?pflDown, ?pflUp,
    ?linkEnable, ?linkDisable, ?pfRefclkLoss, ?pfRefclkReturn⟩
  all_goals intros; rfl

/-- Settles O54: the rows of the router and the fabric manager, each by its arm. -/
theorem routerCommands : Obligations.RouterCommands := by
  unfold Obligations.RouterCommands
  refine ⟨?cellForward, ?parkedRelease, ?cellRead, ?cellWrite, ?cellWdata, ?writeReassemblyTimeout, ?writeShort,
    ?atomicRead, ?atomicAdd, ?atomicSwap, ?atomicCas, ?atomicSignal, ?launch, ?burst, ?notify, ?fabricReset,
    ?fabricState, ?rdata, ?rsp, ?requestTimeout, ?quarantineExpiry, ?busyLedgerSend, ?owedRspSend, ?routeTableWrite,
    ?bufferUncorrectable⟩
  all_goals intros; rfl

/-- Settles O55: the rows of the chronometer and charts, each by its arm. -/
theorem chartCommands : Obligations.ChartCommands := by
  unfold Obligations.ChartCommands
  refine ⟨?time, ?timeSyncTimer, ?holdoverExpiry, ?ppsInEdge, ?ppsOutPulse, ?arm, ?disarm, ?stop, ?chartSwitch⟩
  all_goals intros; rfl

/-- Settles O56: the rows of shaping, each by its arm. -/
theorem shapingCommands : Obligations.ShapingCommands := by
  unfold Obligations.ShapingCommands
  refine ⟨?tokenTick, ?subscriberRelease, ?hostSlot, ?shaperConfigWrite, ?meterColour⟩
  all_goals intros; rfl

/-- Settles O57: the rows of partitions, each by its arm. -/
theorem partitionCommands : Obligations.PartitionCommands := by
  unfold Obligations.PartitionCommands
  refine ⟨?define, ?activate, ?teardown, ?teardownSettled, ?washStep, ?washDone, ?ownerByteWrite, ?commonsEnWrite,
    ?ptnAdminState⟩
  all_goals intros; rfl

/-- Settles O58: the rows of the rind and the device set, each by its arm. -/
theorem trustCommands : Obligations.TrustCommands := by
  unfold Obligations.TrustCommands
  refine ⟨?debugUnlock, ?svnCommit, ?getVersion, ?getCapabilities, ?negotiateAlgorithms, ?getDigests, ?getCertificate,
    ?challenge, ?getMeasurements, ?keyExchange, ?finish, ?heartbeat, ?keyUpdate, ?endSession, ?respondIfReady,
    ?vendorDefinedRequest, ?unsupportedSpdmRequest, ?tspLock, ?setEnrol, ?raiseEpoch, ?setRevoke, ?bindLoad⟩
  all_goals intros; rfl

/-- Settles O59: the rows of firmware update and activation, each by its arm. -/
theorem activationCommands : Obligations.ActivationCommands := by
  unfold Obligations.ActivationCommands
  refine ⟨?pldmFwUpdateTransfer, ?verifyComplete, ?activateFirmware, ?activationHelmHandover,
    ?activationBinnacleSwitch, ?activationMicrocodeLoad, ?activationPhyStage, ?activationExtend, ?activationAbandon,
    ?phyImageApply⟩
  all_goals intros; rfl

/-- EXTEST drives the boundary lands or loads as BYPASS, and does neither while the part is unpowered. -/
theorem exec_extest (rstLow : Bool) (s : State) :
    exec (.extest rstLow) s =
      if rstLow && s.blk.warmEntered then s.jtag { s.tap with ir := .extest, driven := true } s.tap.boundary
      else s.jtag { s.tap with ir := .bypass, driven := false } [false] := rfl

/-- Settles O60: the rows of counters, traces, steps, plots and the JTAG port, each by its arm. -/
theorem debugCommands : Obligations.DebugCommands := by
  unfold Obligations.DebugCommands
  refine ⟨?counterConfigure, ?counterClear, ?counterFreeze, ?traceEnable, ?traceRecordWrite, ?traceMark, ?stepPause,
    ?stepCmdStep, ?stepCmdRun, ?capture, ?plotHangTrigger, ?plotSampleDone, ?plotWritten, ?regionRead,
    ?mctpPlotCapture, ?jtagIdcode, ?jtagBypass, ?samplePreload, ?extest⟩
  case extest =>
    intro rstLow s
    rw [exec_extest]
    unfold State.jtag
    split_ifs <;> rfl
  all_goals intros; rfl

end Sys2Proof.Machine
end

section
/-! PROOFS.  The machine as a whole: every command completes, on the block or on the JTAG port (R523); what that gives for a
step, for a run, and for the invariant of the boundary lands. -/

namespace Sys2Proof.Machine

/-! ## What a command can do -/

/-- A command that is no row of the JTAG port answers a next state with another block alone. -/
theorem exec_eq_block {c : Instr} (s : State) (h : isJtag c = false) : ∃ b, exec c s = .next { s with blk := b } := by
  cases c
  case jtagIdcode => cases h
  case jtagBypass => cases h
  case samplePreload => cases h
  case extest => cases h
  all_goals exact ⟨_, rfl⟩

/-- The JTAG port drives the boundary lands only under EXTEST (R523). -/
def TapSt.safe (tap : TapSt) : Prop := tap.driven = true → tap.ir = .extest

/-- A port that does not drive is safe. -/
theorem TapSt.safe_of_not_driven {tap : TapSt} (h : tap.driven = false) : tap.safe :=
  fun hd => absurd hd (by rw [h]; exact Bool.false_ne_true)

/-- A row of the JTAG port loads an instruction under which the port is safe, and sends bits out. -/
theorem exec_eq_jtag {c : Instr} (s : State) (h : isJtag c = true) : ∃ tap bits, exec c s = s.jtag tap bits ∧ tap.safe := by
  cases c
  case jtagIdcode => exact ⟨_, _, rfl, TapSt.safe_of_not_driven rfl⟩
  case jtagBypass => exact ⟨_, _, rfl, TapSt.safe_of_not_driven rfl⟩
  case samplePreload => exact ⟨_, _, rfl, TapSt.safe_of_not_driven rfl⟩
  case extest rstLow =>
    rw [exec_extest]
    split
    · exact ⟨_, _, rfl, fun _ => rfl⟩
    · exact ⟨_, _, rfl, TapSt.safe_of_not_driven rfl⟩
  all_goals cases h

/-- Every command completes, keeps the queue, and keeps the JTAG port safe. -/
theorem exec_next (c : Instr) (s : State) :
    ∃ t, exec c s = .next t ∧ t.pending = s.pending ∧ (s.tap.safe → t.tap.safe) := by
  cases h : isJtag c with
  | false =>
    obtain ⟨b, hb⟩ := exec_eq_block s h
    exact ⟨_, hb, rfl, id⟩
  | true =>
    obtain ⟨tap, bits, heq, htap⟩ := exec_eq_jtag s h
    refine ⟨_, heq, ?_, fun hs => ?_⟩ <;> split
    · rfl
    · rfl
    · exact hs
    · exact htap

/-! ## A step -/

/-- A step on a queue with a command in front. -/
theorem step_cons {s : State} {c : Instr} {rest : List Instr} (h : s.pending = c :: rest) :
    step s = exec c { s with pending := rest } := by
  unfold step
  rw [h]

/-- A step on an empty queue. -/
theorem step_nil {s : State} (h : s.pending = []) : step s = .next (idle s) := by
  unfold step
  rw [h]

/-- Every step answers a next state whose queue has lost its front, and keeps the JTAG port safe. -/
theorem step_next (s : State) : ∃ t, step s = .next t ∧ t.pending = s.pending.drop 1 ∧ (s.tap.safe → t.tap.safe) := by
  cases h : s.pending with
  | nil => exact ⟨_, step_nil h, h, id⟩
  | cons c rest =>
    obtain ⟨t, ht, hpending, htap⟩ := exec_next c { s with pending := rest }
    exact ⟨t, (step_cons h).trans ht, hpending, htap⟩

/-- Settles O1: the queue's front decides the branch of `step`. -/
theorem stepTakesFront : Obligations.StepTakesFront := fun _ _ _ h => step_cons h

/-- Settles O2: the empty queue gives the idle tick, which with no cluster reset changes the time alone. -/
theorem idleTick : Obligations.IdleTick :=
  fun _ h => ⟨step_nil h, fun hreset => congrArg State.blk (idle_of_noReset hreset)⟩

/-- Settles O3, by induction on the number of steps: each takes the front and answers a next state. -/
theorem everyRunCompletes : Obligations.EveryRunCompletes := by
  intro n
  induction n with
  | zero => exact fun s => ⟨s, rfl, rfl⟩
  | succ n ih =>
    intro s
    obtain ⟨t, ht, hpending, -⟩ := step_next s
    obtain ⟨u, hu, hrest⟩ := ih t
    refine ⟨u, ?_, ?_⟩
    · have hcore : Sys2Proof.core.step s = .next t := ht
      simp only [Host.Core.run, hcore]
      exact hu
    · rw [hrest, hpending, List.drop_drop, Nat.add_comm]

/-! ## The invariant -/

/-- Settles O5: a step keeps the JTAG port safe, and the queue only loses its front. -/
theorem everyStepKeeps : Obligations.EveryStepKeeps := by
  intro s t ⟨htap, hwell⟩ hstep
  obtain ⟨u, hu, hpending, hsafe⟩ := step_next s
  obtain rfl : u = t := Host.Outcome.next.inj (hu.symm.trans hstep)
  exact ⟨hsafe htap, fun c hc => hwell c (List.mem_of_mem_drop (hpending ▸ hc))⟩

/-- Settles O6: at reset the port does not drive and no command waits. -/
theorem resetIsKept : Obligations.ResetIsKept :=
  ⟨TapSt.safe_of_not_driven rfl, fun _ hc => absurd hc (by rw [reset_pending]; exact List.not_mem_nil)⟩

end Sys2Proof.Machine
end

section
/-! PROOFS.  Registers, fields and tables as they read after a change (R15, R16, R361, R507), and what R13, R33, R139 and R200
make of single accesses. -/

namespace Sys2Proof.Machine

/-! ## Registers and fields -/

/-- Setting a field leaves every other register. -/
theorem Block.reg_setFld_ne {s : Block} {f : Fld} {v b : Nat} (h : b ≠ f.addr) : (s.setFld f v).reg b = s.reg b :=
  Block.reg_setReg_ne h

/-- Raising a counter leaves every other register. -/
theorem Block.reg_bump_ne {s : Block} {f : Fld} {n b : Nat} (h : b ≠ f.addr) : (s.bump f n).reg b = s.reg b :=
  Block.reg_setFld_ne h

/-- Setting a field leaves every field that shares no bit with it. -/
theorem Block.fld_setFld_disjoint {s : Block} {f g : Fld} {v : Nat} (hf : f.fits) (hg : g.lo ≤ g.hi)
    (h : g.addr ≠ f.addr ∨ f.hi < g.lo ∨ g.hi < f.lo) : (s.setFld f v).fld g = s.fld g := by
  by_cases haddr : g.addr = f.addr
  · exact Block.fld_setFld_apart hf (Nat.le_succ_of_le hg) haddr (h.resolve_left fun hne => hne haddr)
  · exact Block.fld_setFld_addr haddr

/-- A field from `lo` up to `hi` within 32 bits fits a register. -/
theorem Fld.fits_of_le {f : Fld} (hlo : f.lo ≤ f.hi) (hhi : f.hi < 32) : f.fits := ⟨Nat.le_succ_of_le hlo, hhi⟩

/-- Settles O9: the laws of reading after a write, for registers and for fields. -/
theorem registerReadsBack : Obligations.RegisterReadsBack :=
  ⟨Block.reg_setReg_same, fun _ _ _ _ h => Block.reg_setReg_ne h,
    fun _ _ _ hlo hhi => Block.fld_setFld_same (Fld.fits_of_le hlo hhi),
    fun _ _ _ _ hlo hhi hg h => Block.fld_setFld_disjoint (Fld.fits_of_le hlo hhi) hg h⟩

/-- Settles O13: a counter is raised as `satAdd` says, which holds it at its largest value. -/
theorem countersSaturate : Obligations.CountersSaturate :=
  fun _ _ _ hlo hhi => ⟨Block.fld_bump_same (Fld.fits_of_le hlo hhi), fun _ hb => Block.reg_bump_ne hb⟩

/-- A register of the map that nothing has written reads as its reset value. -/
theorem reg_of_empty {s : Block} (h : s.regs = []) {a : Nat} {r : RegDef} {ix : List Nat} (hat : regAt a = some (r, ix)) :
    s.reg a = r.resetVal ix := by
  rw [Block.reg, h]
  change regDefault a = _
  rw [regDefault, hat]

/-- Settles O7: the empty register file reads as the map's reset values, of which Table 1-7's are evaluated. -/
theorem resetState : Obligations.ResetState :=
  ⟨fun _ _ _ hat => reg_of_empty reset_regs hat, ⟨Memory.wf_empty, RegFile.wf_nil⟩, reset_regs, reset_mem, reset_pending,
    reset_out, by decide +kernel, by decide +kernel⟩

/-- Settles O24: the laws of the canonical form, one for each operation. -/
theorem memoryKeepsForm : Obligations.MemoryKeepsForm :=
  fun _ h => ⟨fun _ _ => Memory.wf_setSym h, fun _ _ _ => Memory.wf_setLine h, fun _ _ => Memory.wf_blankStack h,
    fun _ _ _ => Memory.wf_poisonRange h⟩

/-! ## Scalar registers and event counters -/

/-- s0 reads 0. -/
@[simp] theorem ProgCore.reg_zero (c : ProgCore) : c.reg 0 = (0, false) := rfl

/-- s0 ignores writes. -/
@[simp] theorem ProgCore.setReg_zero (c : ProgCore) (v : Nat) (p : Bool) : c.setReg 0 v p = c := rfl

/-- A scalar register that is written reads as written, modulo 2^64, with its poison bit. -/
theorem ProgCore.reg_setReg_same {n : Nat} (h : n ≠ 0) (c : ProgCore) (v : Nat) (p : Bool) :
    (c.setReg n v p).reg n = (v % 2 ^ 64, p) := by
  rw [ProgCore.setReg, if_neg h, ProgCore.reg, if_neg h]
  refine Prod.ext ?val ?mark
  case val => rw [Assoc.get_put_same, BitVec.toNat_ofNat]
  case mark =>
    cases p with
    | false => simp
    | true =>
      by_cases hmem : n ∈ c.rpoison <;> simp [hmem]

/-- A scalar register that is written leaves the others. -/
theorem ProgCore.reg_setReg_ne {n m : Nat} (h : m ≠ n) (c : ProgCore) (v : Nat) (p : Bool) :
    (c.setReg n v p).reg m = c.reg m := by
  by_cases hn : n = 0
  · rw [hn, ProgCore.setReg_zero]
  by_cases hm : m = 0
  · rw [hm, ProgCore.reg_zero, ProgCore.reg_zero]
  rw [ProgCore.setReg, if_neg hn, ProgCore.reg, if_neg hm, ProgCore.reg, if_neg hm]
  refine Prod.ext ?val ?mark
  case val => rw [Assoc.get_put_ne _ h]
  case mark =>
    cases p with
    | false => simp [h]
    | true => by_cases hmem : n ∈ c.rpoison <;> simp [hmem, h]

/-- Settles O29: the laws of the scalar registers. -/
theorem scalarRegisters : Obligations.ScalarRegisters :=
  fun c _ _ v p => ⟨ProgCore.reg_zero c, ProgCore.setReg_zero c v p, fun h => ProgCore.reg_setReg_same h c v p,
    fun h => ProgCore.reg_setReg_ne h c v p⟩

/-- A counter that passes 2^48 has OVF. -/
theorem DbgSt.mem_ovf_count_same {d : DbgSt} {n k : Nat} (h : 2 ^ 48 ≤ Assoc.get 0 n d.counts + k) :
    n ∈ (d.count n k).ovf := by
  unfold DbgSt.count
  dsimp only
  split
  next hstay => exact List.contains_iff_mem.mp (hstay.resolve_left (Nat.not_lt.mpr h))
  next => exact List.mem_cons_self

/-- OVF of the other counters stays. -/
theorem DbgSt.mem_ovf_count_ne {d : DbgSt} {n m : Nat} (h : m ≠ n) (k : Nat) : m ∈ (d.count n k).ovf ↔ m ∈ d.ovf := by
  unfold DbgSt.count
  dsimp only
  split
  · rfl
  · exact ⟨fun hmem => (List.mem_cons.mp hmem).resolve_left h, List.mem_cons_of_mem n⟩

/-- Settles O32: the value modulo 2^48 and OVF, of the counter and of the others. -/
theorem countersWrap : Obligations.CountersWrap :=
  fun d n k => ⟨Assoc.get_put_same 0 n _ d.counts, DbgSt.mem_ovf_count_same,
    fun _ hm => ⟨Assoc.get_put_ne d.counts hm, DbgSt.mem_ovf_count_ne hm k⟩⟩

/-! ## Accesses outside a function's reach (R33) -/

/-- A write outside a function's reach is dropped and counted. -/
theorem Block.fnWrite_unreached {s : Block} {f : Fn} {a v : Nat} (hat : (regAt a).isSome = true)
    (h : ∀ base i, s.reachesReg f base i a true v = false) : s.fnWrite f a v = s.scopeViol := by
  obtain ⟨⟨r, ix⟩, hr⟩ := Option.isSome_iff_exists.mp hat
  simp [Block.fnWrite, hr, h]

/-- A read outside a function's reach answers 0 and is counted. -/
theorem Block.fnRead_unreached {s : Block} {f : Fn} {a : Nat} (hat : (regAt a).isSome = true)
    (h : ∀ base i, s.reachesReg f base i a false 0 = false) : s.fnRead f a = (0, s.scopeViol) := by
  obtain ⟨⟨r, ix⟩, hr⟩ := Option.isSome_iff_exists.mp hat
  simp [Block.fnRead, hr, h]

/-- A register below the twin table is of no twin entry. -/
theorem firmwareTwin_below {i a : Nat} (h : a < 0x1A0000) : firmwareTwin i a = false := by
  have hbase : ¬ R.INT_TWIN_BASE_LO 0 ≤ a := by simp only [R.INT_TWIN_BASE_LO]; omega
  simp [firmwareTwin, hbase]

/-- A scoped function reaches no register of the GID, RBT and ALM blocks for a write. -/
theorem Block.reachesReg_scoped_write {s : Block} {f : Fn} {p : Nat} (hkind : s.fnKind f = .scoped p) {a : Nat}
    (ha : a < 0x040000) (base i v : Nat) : s.reachesReg f base i a true v = false := by
  simp [Block.reachesReg, hkind, ha]

/-- A scoped function does not reach the almanac window for a read. -/
theorem Block.reachesReg_scoped_window {s : Block} {f : Fn} {p : Nat} (hkind : s.fnKind f = .scoped p) {a : Nat}
    (hlo : 0x030000 ≤ a) (ha : a < 0x040000) (base i : Nat) : s.reachesReg f base i a false 0 = false := by
  have htwin : firmwareTwin i a = false := firmwareTwin_below (by omega)
  simp [Block.reachesReg, hkind, ha, htwin, hlo]

/-- Settles O15: neither access is within the reach of a scoped function. -/
theorem scopedWritesNoGlobals : Obligations.ScopedWritesNoGlobals := by
  intro f p a v s hbar hkind halign hat hlt
  refine ⟨?write, fun hlo => ?read⟩
  case write =>
    rw [exec_registerWrite_aligned hbar halign,
      Block.fnWrite_unreached hat fun base i => Block.reachesReg_scoped_write hkind hlt base i _]
  case read =>
    rw [exec_loHalfRead_aligned hbar halign, Block.fnRead_unreached hat (Block.reachesReg_scoped_window hkind hlo hlt)]

/-! ## Latched halves (R13) -/

/-- A _HI half shows what the function's last read of a _LO half latched. -/
theorem Block.readReg_hi {s : Block} {r : RegDef} (h : isHiHalf r.base = true) (f : Fn) (key i a : Nat) :
    s.readReg f key r i a = ((Assoc.get 0 a (s.latch key).read).toNat, s) := if_pos h

/-- A latch that is set is read. -/
theorem Block.latch_setLatch (s : Block) (key : Nat) (v : Latches) : (s.setLatch key v).latch key = v :=
  Assoc.get_put_same ({} : Latches) key v s.bus.latches

/-- A read of a _LO half latches its _HI half as it then shows. -/
theorem Block.latch_readReg_lo {s : Block} {r hi : RegDef} {a : Nat} {ix : List Nat} (hlo : isLoHalf r.base = true)
    (hnot : isHiHalf r.base = false) (hat : regAt (a + 4) = some (hi, ix)) (f : Fn) (key i : Nat) :
    Assoc.get 0 (a + 4) (((s.readReg f key r i a).2.latch key).read) =
      BitVec.ofNat 32 ((s.shown f r i a).2.shown f hi i (a + 4)).1 := by
  simp only [Block.readReg, hnot, hlo, hat, Bool.false_eq_true, if_false, if_true]
  rw [Block.latch_setLatch]
  exact Assoc.get_put_same 0 (a + 4) _ _

/-- Latches that are the same hold the same for each key. -/
theorem Block.latch_congr {s u : Block} (h : u.bus.latches = s.bus.latches) (key : Nat) : u.latch key = s.latch key := by
  rw [Block.latch, h, Block.latch]

/-- Settles O17: the _LO half's read latches the _HI half, and the _HI half's read shows the latch. -/
theorem highHalfIsLatched : Obligations.HighHalfIsLatched := by
  intro s u f key a r hi i j ix hlo hnot hhi hat
  rw [Block.readReg_hi hhi]
  refine ⟨fun hlatch => ?_, fun hnone => ?_⟩
  · rw [Block.latch_congr hlatch, Block.latch_readReg_lo hlo hnot hat, BitVec.toNat_ofNat]
  · rw [hnone]
    rfl

/-! ## Single registers -/

/-- A write to a twin entry of firmware's is refused before anything is done (R200). -/
theorem Block.frozen_firmwareTwin {s : Block} {base i a : Nat} (hi : i < 16) (hlo : R.INT_TWIN_BASE_LO 0 ≤ a)
    (hhi : a < R.INT_TWIN_PATROL) : s.frozen base i a = some s := by
  have hring : ¬ a < R.RNG_CMD := by simp only [R.INT_TWIN_BASE_LO, R.RNG_CMD] at hlo ⊢; omega
  simp [Block.frozen, hring, hlo, hhi, hi]

/-- Settles O18: the refusal leaves the block as it is. -/
theorem firmwareTwinsDropWrites : Obligations.FirmwareTwinsDropWrites := by
  intro s f key i a v r hi hlo hhi
  rw [Block.writeReg, Block.frozen_firmwareTwin hi hlo hhi]

/-- SETUP_LOCK reads as set once it is. -/
theorem isSet_setupLock (s : Block) : (s.setFld F.GID_SETUP_LOCK_SETUP_LOCK 1).isSet F.GID_SETUP_LOCK_SETUP_LOCK = true := by
  rw [Block.isSet, Block.fld_setFld_same (Fld.fits_of_le (by decide) (by decide))]
  rfl

/-- Settles O19: the write for full functions sets the field, or is dropped and counted. -/
theorem setupLockByFullFunctions : Obligations.SetupLockByFullFunctions := by
  intro by_ s
  have hexec : exec (.setupLockSet by_) s =
      .next { s with blk := s.blk.byFull by_ fun t => t.setFld F.GID_SETUP_LOCK_SETUP_LOCK 1 } := rfl
  refine ⟨fun hfull => ?full, fun hother => ?other⟩
  case full =>
    rw [Block.byFull_full hfull] at hexec
    exact ⟨_, hexec, isSet_setupLock s.blk, fun b hb => Block.reg_setFld_ne hb, rfl⟩
  case other => rw [hexec, Block.byFull_other hother]

/-- The use of a channel by one who reaches the mailboxes and does not own it is dropped and counted (R139). -/
theorem Block.asOwner_other {s : Block} {who : Sender} {c : Nat} (hreach : s.mbxReach who = true)
    (hown : s.ownsCh who c = false) (act : Block → Block) : s.asOwner who c act = s.bump F.MBX_DENIED_COUNT_COUNT := by
  simp [Block.asOwner, hreach, hown, Block.mbxDenied]

/-- Settles O21: each of the four is an owner's use of its channel. -/
theorem mailboxOwnerOnly : Obligations.MailboxOwnerOnly := by
  intro who ch s hreach hown
  have hdenied (act : Block → Block) : Host.Outcome.next { s with blk := s.blk.asOwner who ch.val act } =
      (Host.Outcome.next { s with blk := s.blk.bump F.MBX_DENIED_COUNT_COUNT } : Out) := by
    rw [Block.asOwner_other hreach hown]
  exact ⟨hdenied _, hdenied _, hdenied _, hdenied _⟩

end Sys2Proof.Machine
end

section
/-! PROOFS.  DEFINE of a free partition (R460, R461), and what the commands of the event counters leave (R507 to R510). -/

namespace Sys2Proof.Machine

/-! ## DEFINE -/

/-- DEFINE is accepted while no command is busy, of a free partition of which no logical device is TSP locked (R461). -/
theorem Block.ptnRefusal_define {s : Block} {p : Nat} (hbusy : s.isSet F.PTN_CMD_STATUS_BUSY = false)
    (hfree : s.ptnState p = ptnFree) (hlds : (s.ldsOf p).any s.tspIsLocked = false) :
    s.ptnRefusal opDefine p none = none := by
  simp [Block.ptnRefusal, opDefine, opTeardown, inRow, hbusy, hfree, hlds]

/-- DEFINE that is accepted: CODE 0, the partition DEFINED, DONE. -/
theorem Block.ptnCommand_define {s : Block} {p : Nat} (h : s.ptnRefusal opDefine p none = none) :
    (s.ptnCommand opDefine p none).2 =
      ((s.setFld F.PTN_CMD_STATUS_CODE 0).setPtn p ptnDefined).setFld F.PTN_CMD_STATUS_DONE 1 := by
  rw [Block.ptnCommand, h]
  rfl

/-- The command status is not the state register of a partition. -/
theorem ptnState_addr_ne (p : Nat) : (F.PTN_STATE_STATE p).addr ≠ R.PTN_CMD_STATUS := by
  simp only [F.PTN_STATE_STATE, R.PTN_STATE, R.PTN_CMD_STATUS]
  omega

/-- Two partitions have their states in two registers. -/
theorem ptnState_addr_injective {p q : Nat} (h : q ≠ p) : (F.PTN_STATE_STATE q).addr ≠ (F.PTN_STATE_STATE p).addr := by
  simp only [F.PTN_STATE_STATE, R.PTN_STATE]
  omega

/-- The STATE field of a partition fits its register. -/
theorem ptnState_fits (p : Nat) : (F.PTN_STATE_STATE p).fits := ⟨(by decide : 28 ≤ 31 + 1), (by decide : 31 < 32)⟩

/-- A partition put in a state of Table 16-1 is in it. -/
theorem Block.ptnState_setPtn {s : Block} {p st : Nat} (h : st < 16) : (s.setPtn p st).ptnState p = st :=
  (Block.fld_setFld_same (ptnState_fits p)).trans (Nat.mod_eq_of_lt h)

/-- A partition put in a state leaves the others in theirs. -/
theorem Block.ptnState_setPtn_ne {s : Block} {p q : Nat} (h : q ≠ p) (st : Nat) : (s.setPtn p st).ptnState q = s.ptnState q :=
  Block.fld_setFld_addr (ptnState_addr_injective h)

/-- Setting a field of the command status leaves every partition's state. -/
theorem Block.ptnState_setFld {s : Block} {f : Fld} {v : Nat} (hf : f.addr = R.PTN_CMD_STATUS) (p : Nat) :
    (s.setFld f v).ptnState p = s.ptnState p :=
  Block.fld_setFld_addr (hf ▸ ptnState_addr_ne p)

/-- A block that differs from another in its registers alone still does when a field of it is set. -/
theorem Block.setFld_eq_withRegs {s t : Block} (h : t = { s with regs := t.regs }) (f : Fld) (v : Nat) :
    t.setFld f v = { s with regs := (t.setFld f v).regs } := by
  rw [h]
  rfl

/-- Settles O31: the accepted DEFINE sets CODE, the partition's STATE and DONE, three fields that share no bit. -/
theorem defineFreePartition : Obligations.DefineFreePartition := by
  intro by_ p s hfull hbusy hfree hlds
  have hexec : exec (.define by_ p) s =
      .next { s with blk := s.blk.byFull by_ fun t => (t.ptnCommand opDefine p.val none).2 } := rfl
  rw [Block.byFull_full hfull, Block.ptnCommand_define (Block.ptnRefusal_define hbusy hfree hlds)] at hexec
  refine ⟨_, hexec, ?defined, fun q hq => ?others, ?code, ?done, ?rest⟩
  case defined => exact (Block.ptnState_setFld rfl _).trans (Block.ptnState_setPtn (by decide))
  case others =>
    have hne : q.val ≠ p.val := fun h => hq (Fin.ext h)
    rw [Block.ptnState_setFld rfl, Block.ptnState_setPtn_ne hne, Block.ptnState_setFld rfl]
  case code =>
    rw [Block.fld_setFld_disjoint (Fld.fits_of_le (by decide) (by decide)) (by decide) (by decide),
      Block.setPtn, Block.fld_setFld_addr (ptnState_addr_ne p.val).symm,
      Block.fld_setFld_same (Fld.fits_of_le (by decide) (by decide)), Nat.zero_mod]
  case done =>
    rw [Block.isSet, Block.fld_setFld_same (Fld.fits_of_le (by decide) (by decide))]
    rfl
  case rest =>
    have hcode := Block.setFld_eq_withRegs (s := s.blk) (t := s.blk) rfl F.PTN_CMD_STATUS_CODE 0
    have hstate := Block.setFld_eq_withRegs hcode (F.PTN_STATE_STATE p.val) ptnDefined
    exact congrArg (fun b => { s with blk := b }) (Block.setFld_eq_withRegs hstate F.PTN_CMD_STATUS_DONE 1)

/-! ## The event counters -/

/-- What a write for full functions keeps, the made and the dropped write keep. -/
theorem Block.byFull_keeps {P : Block → Prop} {s : Block} {act : Block → Block} (hact : P (act s)) (hdrop : P s.scopeViol)
    (a : Actor) : P (s.byFull a act) := by
  cases h : s.actsFull a with
  | true => rwa [Block.byFull_full h]
  | false => rwa [Block.byFull_other h]

/-- A block that differs from another in registers among those listed, and in the debug unit, alone. -/
def Block.onlyRegs (s : Block) (as : List Nat) (t : Block) : Prop :=
  (∀ a, a ∉ as → t.reg a = s.reg a) ∧ t = { s with regs := t.regs, dbg := t.dbg }

/-- Setting a listed field keeps that. -/
theorem Block.onlyRegs_setFld {s t : Block} {as : List Nat} (h : s.onlyRegs as t) {f : Fld} (hf : f.addr ∈ as) (v : Nat) :
    s.onlyRegs as (t.setFld f v) := by
  obtain ⟨hreg, hrest⟩ := h
  refine ⟨fun a ha => ?_, ?_⟩
  · have hne : a ≠ f.addr := fun heq => ha (heq ▸ hf)
    rw [Block.reg_setFld_ne hne]
    exact hreg a ha
  · rw [hrest]
    rfl

/-- Setting a listed register and the debug unit gives that. -/
theorem Block.onlyRegs_setReg_setDbg (s : Block) {as : List Nat} {a : Nat} (ha : a ∈ as) (v : Word) (d : DbgSt) :
    s.onlyRegs as ((s.setReg a v).setDbg d) :=
  ⟨fun b hb => Block.reg_setReg_ne (s := s) (b := b) fun heq => hb (by rw [heq]; exact ha), rfl⟩

/-- The block itself differs in nothing. -/
theorem Block.onlyRegs_refl (s : Block) (as : List Nat) : s.onlyRegs as s := ⟨fun _ _ => rfl, rfl⟩

/-- What the commands of counter `n` may write. -/
def counterRegs (n : Nat) : List Nat :=
  [R.DBG_CNT_CTL n, R.DBG_CNT_GLOBAL, R.DBG_CMD_STATUS, R.GID_SCOPE_VIOL_COUNT]

/-- An access outside the reach is counted in one of them. -/
theorem Block.onlyRegs_scopeViol (s : Block) (n : Nat) : s.onlyRegs (counterRegs n) s.scopeViol :=
  Block.onlyRegs_setFld (s.onlyRegs_refl _) (by simp [counterRegs, F.GID_SCOPE_VIOL_COUNT_COUNT]) _

/-- A write of a counter's CTL writes CTL, and on a refusal the command status. -/
theorem Block.onlyRegs_writeCtl (s : Block) (a : Actor) (n value : Nat) :
    s.onlyRegs (counterRegs n) (s.writeCtl a n value) := by
  unfold Block.writeCtl
  split
  · exact s.onlyRegs_scopeViol n
  · refine Block.when_keeps (fun u hu => ?_) _ (s.onlyRegs_setReg_setDbg (by simp [counterRegs]) _ _)
    exact Block.onlyRegs_setFld (Block.onlyRegs_setFld hu (by simp [counterRegs, F.DBG_CMD_STATUS_CODE]) _)
      (by simp [counterRegs, F.DBG_CMD_STATUS_ERR]) _

/-- A write of FREEZE writes its register. -/
theorem Block.onlyRegs_freeze (s : Block) (a : Actor) (n : Nat) (b : Bool) :
    s.onlyRegs (counterRegs n) (s.byFull a fun t => t.setBit F.DBG_CNT_GLOBAL_FREEZE b) :=
  Block.byFull_keeps (Block.onlyRegs_setFld (s.onlyRegs_refl _) (by simp [counterRegs, F.DBG_CNT_GLOBAL_FREEZE]) _)
    (s.onlyRegs_scopeViol n) a

/-- Settles O33: each of the three commands writes only registers of its counter's list and the debug unit. -/
theorem counterCommandsFrame : Obligations.CounterCommandsFrame := by
  intro by_ n v b s t h
  obtain ⟨u, honly, rfl⟩ : ∃ u, s.blk.onlyRegs (counterRegs n.toNat) u ∧ t = { s with blk := u } := by
    rcases h with h | h | h
    · exact ⟨_, s.blk.onlyRegs_writeCtl by_ n.toNat v.toNat, (Host.Outcome.next.inj h).symm⟩
    · exact ⟨_, s.blk.onlyRegs_writeCtl by_ n.toNat _, (Host.Outcome.next.inj h).symm⟩
    · exact ⟨_, s.blk.onlyRegs_freeze by_ n.toNat b, (Host.Outcome.next.inj h).symm⟩
  obtain ⟨hreg, hrest⟩ := honly
  refine ⟨fun a hctl hglobal hstatus hviol => hreg a ?_, fun st ln => ?_, hrest, rfl⟩
  · simp [counterRegs, hctl, hglobal, hstatus, hviol]
  · have hmem : u.mem = s.blk.mem := (congrArg Block.mem hrest).trans rfl
    rw [hmem]

end Sys2Proof.Machine
end

section
/-! PROOFS.  Two statements that say more than the model: a read of firmware's twin entries by an ungranted function, and SYNC
READ while a counter counts it.  Each is refuted by a state in which the model answers otherwise. -/

namespace Sys2Proof.Machine

/-! ## An ungranted function reads firmware's twin entries (R200) -/

/-- Host port 0 is up and presents logical device 0, which is granted to nothing. -/
def ungrantedHost : State :=
  { State.reset with
    blk := { Block.reset with host := { lds := [(0, 1)] } }.setFld (F.HPT_PORT_STATUS_UP 0) 1 }

/-- Refutes O14: every function reads the twin entries that firmware holds (R200), so that the ungranted device's read of
INT_TWIN_BASE_LO of entry 0 is answered and not counted. -/
theorem not_ungrantedReachesNothing : ¬ Obligations.UngrantedReachesNothing := by
  intro h
  have hbar : ungrantedHost.blk.barUp (.ld 0) = true := by decide +kernel
  have hkind : ungrantedHost.blk.fnKind (.ld 0) = .ungranted := by decide +kernel
  have hat : (regAt (0x1A0000 : BitVec 24).toNat).isSome = true := by decide +kernel
  obtain ⟨-, hread⟩ := h (.ld 0) 0x1A0000 0 ungrantedHost hbar hkind (by decide) hat
  have hnext := (exec_loHalfRead_aligned hbar (by decide)).symm.trans (hread (by decide))
  have hcount := congrArg (fun t : State => t.blk.fld F.GID_SCOPE_VIOL_COUNT_COUNT) (Host.Outcome.next.inj hnext)
  exact absurd hcount (by decide +kernel)

/-! ## SYNC READ is an event of Table 18-1 -/

/-- The entry of a program that runs. -/
def syncEntry : LogEntry := { ring := 0, seq := 0, slot := 0, bytes := [], bodySlots := 0, state := .started }

/-- A program of one word, SYNC READ of object 0 into s3. -/
def syncProg : Prog := { text := [0x1C * 2 ^ 26 + 3 * 2 ^ 21 + opRead] }

/-- The task that runs it. -/
def syncTask : Task := { ring := 0, seq := 0, idx := 0, stream := 0, state := .running, core := some 0, prog := some syncProg }

/-- That task in a block whose object 0 is a counter of partition 0, while event counter 0 counts events of group 11, code 0. -/
def countedSync : State :=
  { State.reset with
    blk := ({ Block.reset with
      ctl := { stopped := false, logbook := [syncEntry] }
      eng := { tasks := [syncTask], objs := [(0, { kind := 1 })] } }.setReg (R.ENG_SYNC_OWN 0) 0x80000000).setReg
        (R.DBG_CNT_CTL 0) 0x8B000000 }

/-- What the event counters hold after a command. -/
def countsAfter : Out → Assoc Nat
  | .next t => t.blk.dbg.counts
  | _ => []

/-- Refutes O51: its clause of SYNC READ leaves the event counters, but the instruction is an event (group 11, code 0), which a
counter set for it counts. -/
theorem not_scalarCommands : ¬ Obligations.ScalarCommands := by
  intro h
  obtain ⟨-, -, -, -, -, -, -, -, -, -, -, -, -, -, -, -, -, -, -, -, -, -, -, -, -, -, -, -, -, -, -, -, -, -, -, -, -, -, -, -, -,
    -, -, -, -, -, -, -, -, -, -, -, -, -, -, -, hown⟩ := h
  have hat : countedSync.blk.bexaAt 0 0 0 = some (syncEntry, syncTask, syncProg, 0x1C * 2 ^ 26 + 3 * 2 ^ 21 + opRead) := by
    decide +kernel
  obtain ⟨-, -, -, -, -, -, -, -, -, -, -, hsync, -⟩ := hown 0 0 0 countedSync _ _ _ _ hat
  obtain ⟨hread, -⟩ := hsync (by decide)
  have hends := hread (by decide) (by decide +kernel) (by decide) (by decide +kernel) (by decide +kernel)
  exact absurd (congrArg countsAfter hends) (by decide +kernel)

end Sys2Proof.Machine
end

section
/-! PROOFS.  The line code: what the check bytes of an encoded, a poisoned and a vacant line differ by from those of their data
(R179 to R182); and what a store drops besides (R184, R185). -/

namespace Sys2Proof.Machine

/-! ## Symbols XORed -/

/-- Symbols XORed with themselves leave nothing. -/
theorem xorList_self (a : List Nat) : xorList a a = List.replicate a.length 0 := by
  induction a with
  | nil => rfl
  | cons x a ih =>
    rw [xorList, List.zipWith_cons_cons, Nat.xor_self]
    exact congrArg (0 :: ·) ih

/-- What was XORed onto symbols is what they differ by. -/
theorem xorList_cancel {a b : List Nat} (h : b.length ≤ a.length) : xorList a (xorList a b) = b := by
  induction a generalizing b with
  | nil => exact (List.eq_nil_of_length_eq_zero (Nat.le_zero.mp h)).symm
  | cons x a ih =>
    cases b with
    | nil => rfl
    | cons y b =>
      rw [xorList, xorList, List.zipWith_cons_cons, List.zipWith_cons_cons, ← Nat.xor_assoc, Nat.xor_self, Nat.zero_xor]
      exact congrArg (y :: ·) (ih (Nat.le_of_succ_le_succ h))

/-- A step of the division keeps the eight symbols of the remainder. -/
theorem length_rsFeed {r : List Nat} (h : r.length = 8) (d : Nat) : (rsFeed r d).length = 8 := by
  simp [rsFeed, rsGen, h]

/-- There are eight check bytes. -/
theorem length_rsCheck (d : List Nat) : (rsCheck d).length = 8 := by
  have hfold : ∀ (d r : List Nat), r.length = 8 → (d.foldl rsFeed r).length = 8 := by
    intro d
    induction d with
    | nil => exact fun _ h => h
    | cons x d ih => exact fun r h => ih _ (length_rsFeed h x)
  exact hfold d _ rfl

/-! ## Classes -/

/-- A line whose check bytes are those of its data is clean. -/
theorem classify_of_diff_zero {d chk : List Nat} (hd : d.length = 64)
    (h : xorList (rsCheck d) chk = List.replicate 8 0) : classify (d ++ chk) = .clean d := by
  simp only [classify, List.take_left' hd, List.drop_left' hd, h, if_true]

/-- A line whose check bytes differ by K from those of its data is poison. -/
theorem classify_of_diff_maskK {d chk : List Nat} (hd : d.length = 64) (h : xorList (rsCheck d) chk = maskK) :
    classify (d ++ chk) = .poison false := by
  have hne : maskK ≠ List.replicate 8 0 := by decide
  simp only [classify, List.take_left' hd, List.drop_left' hd, h, if_neg hne, if_true]

/-- An encoded line is clean. -/
theorem classify_rsEncode {d : List Nat} (hd : d.length = 64) : classify (rsEncode d) = .clean d :=
  classify_of_diff_zero hd (by rw [xorList_self, length_rsCheck])

/-- A line poisoned over its data is poison. -/
theorem classify_poisonOver {d : List Nat} (hd : d.length = 64) : classify (poisonOver d) = .poison false :=
  classify_of_diff_maskK hd (xorList_cancel (by rw [length_rsCheck]; decide))

/-- Settles O22: encoding and poisoning by what the check bytes differ by, the two zero lines evaluated. -/
theorem lineCodeTellsClasses : Obligations.LineCodeTellsClasses :=
  ⟨fun _ => classify_rsEncode, fun _ => classify_poisonOver, by decide +kernel, by decide +kernel⟩

/-! ## A store drops what waits at rank 8 to write its line -/

/-- A block in which a rewrite of line 0 of stack 0 waits. -/
def rewriteWaits : Block :=
  { Block.reset with pool := { pcs := [(0, { back := [{ dpa := 0, src := .turner, work := .writeBack [] }] })] } }

/-- Refutes O23: the rewrite that waits for the line is dropped when the line is stored (R184), which changes the scheduler's
queue and not DRAM alone. -/
theorem not_storedLineReadsBack : ¬ Obligations.StoredLineReadsBack := by
  intro h
  obtain ⟨-, -, m, hm⟩ := h rewriteWaits 0 0 .poison (by decide +kernel) rfl
  have hpool : (rewriteWaits.store 0 0 LineVal.poison.symbols).pool = rewriteWaits.pool := by rw [hm]
  exact absurd hpool (by decide +kernel)

end Sys2Proof.Machine
end

section
/-! PROOFS.  Registers as lists of fields that share no bit (R14): what a pass over the fields leaves in each of them and beside
them, for a merged write (R15, R33, R525) and for a reset of a class (R16, R17). -/

namespace Sys2Proof.Machine

/-! ## One field put -/

/-- `y` is `x` with value `w` in field `f`: put there, or there already. -/
def FieldDef.Puts (f : FieldDef) (w x y : Nat) : Prop :=
  w < 2 ^ (f.hi + 1 - f.lo) ∧ (y = setBits x f.hi f.lo w ∨ y = x ∧ getBits x f.hi f.lo = w)

/-- A field that fits lies in 32 bits. -/
theorem FieldDef.fits_iff {f : FieldDef} : f.fits = true ↔ f.lo ≤ f.hi ∧ f.hi < 32 := by
  simp [FieldDef.fits]

/-- The field reads as what was put. -/
theorem FieldDef.Puts.getBits_same {f : FieldDef} {w x y : Nat} (h : f.Puts w x y) (hf : f.fits = true) :
    getBits y f.hi f.lo = w := by
  obtain ⟨hlo, -⟩ := FieldDef.fits_iff.mp hf
  obtain ⟨hw, rfl | ⟨rfl, heq⟩⟩ := h
  · rw [getBits_setBits_same (Nat.le_succ_of_le hlo), Nat.mod_eq_of_lt hw]
  · exact heq

/-- Bits outside the field stay. -/
theorem FieldDef.Puts.getBits_apart {f : FieldDef} {w x y : Nat} (h : f.Puts w x y) (hf : f.fits = true) {hi lo : Nat}
    (hle : lo ≤ hi) (hapart : f.hi < lo ∨ hi < f.lo) : getBits y hi lo = getBits x hi lo := by
  obtain ⟨hlo, -⟩ := FieldDef.fits_iff.mp hf
  obtain ⟨-, rfl | ⟨rfl, -⟩⟩ := h
  · rcases hapart with habove | hbelow
    · exact getBits_setBits_above (Nat.le_succ_of_le hlo) habove
    · exact getBits_setBits_below (Nat.le_succ_of_le hlo) hbelow (Nat.le_succ_of_le hle)
  · rfl

/-- A word stays one. -/
theorem FieldDef.Puts.lt {f : FieldDef} {w x y : Nat} (h : f.Puts w x y) (hf : f.fits = true) (hx : x < 2 ^ 32) :
    y < 2 ^ 32 := by
  obtain ⟨hlo, hhi⟩ := FieldDef.fits_iff.mp hf
  obtain ⟨-, rfl | ⟨rfl, -⟩⟩ := h
  · exact setBits_lt hx (Nat.le_succ_of_le hlo) hhi
  · exact hx

/-! ## A pass over the fields -/

/-- The fields of a tidy list: the first fits, shares no bit with the rest, and the rest is tidy. -/
theorem tidyFields_cons {f : FieldDef} {fs : List FieldDef} (h : tidyFields (f :: fs) = true) :
    f.fits = true ∧ (∀ g ∈ fs, f.hi < g.lo ∨ g.hi < f.lo) ∧ tidyFields fs = true := by
  simp only [tidyFields, Bool.and_eq_true, List.all_eq_true, FieldDef.apart, Bool.or_eq_true, decide_eq_true_eq] at h
  obtain ⟨⟨hfits, hapart⟩, htidy⟩ := h
  exact ⟨hfits, hapart, htidy⟩

/-- The fields of a tidy list fit. -/
theorem fits_of_tidyFields {fs : List FieldDef} (h : tidyFields fs = true) {g : FieldDef} (hg : g ∈ fs) : g.fits = true := by
  induction fs with
  | nil => cases hg
  | cons f fs ih =>
    obtain ⟨hfits, -, htidy⟩ := tidyFields_cons h
    rcases List.mem_cons.mp hg with rfl | hg
    · exact hfits
    · exact ih htidy hg

/-- Putting a value in the first field of a tidy list leaves what the others hold. -/
theorem FieldDef.Puts.getBits_rest {f : FieldDef} {fs : List FieldDef} {w x y : Nat} {was : FieldDef → Nat} (h : f.Puts w x y)
    (htidy : tidyFields (f :: fs) = true) (hx : ∀ g ∈ f :: fs, getBits x g.hi g.lo = was g) :
    ∀ g ∈ fs, getBits y g.hi g.lo = was g := by
  obtain ⟨hfits, hrest, htail⟩ := tidyFields_cons htidy
  intro g hg
  obtain ⟨hglo, -⟩ := FieldDef.fits_iff.mp (fits_of_tidyFields htail hg)
  rw [h.getBits_apart hfits hglo (hrest g hg)]
  exact hx g (List.mem_cons_of_mem f hg)

section
variable {β : Type} {val : β → Nat} {step : β → FieldDef → β} {was new : FieldDef → Nat}
  (hstep : ∀ b f, getBits (val b) f.hi f.lo = was f → f.Puts (new f) (val b) (val (step b f)))
include hstep

/-- A pass that puts a value in each field of a tidy list leaves the bits outside them. -/
theorem getBits_foldl_apart {fs : List FieldDef} (htidy : tidyFields fs = true) {hi lo : Nat} (hle : lo ≤ hi)
    (hapart : ∀ f ∈ fs, f.hi < lo ∨ hi < f.lo) {b : β} (hb : ∀ f ∈ fs, getBits (val b) f.hi f.lo = was f) :
    getBits (val (fs.foldl step b)) hi lo = getBits (val b) hi lo := by
  induction fs generalizing b with
  | nil => rfl
  | cons f fs ih =>
    obtain ⟨hfits, -, htail⟩ := tidyFields_cons htidy
    have hput := hstep b f (hb f List.mem_cons_self)
    rw [List.foldl_cons, ih htail (fun g hg => hapart g (List.mem_cons_of_mem f hg)) (hput.getBits_rest htidy hb)]
    exact hput.getBits_apart hfits hle (hapart f List.mem_cons_self)

/-- A pass that puts a value in each field of a tidy list leaves each field with its value. -/
theorem getBits_foldl_field {fs : List FieldDef} (htidy : tidyFields fs = true) {b : β}
    (hb : ∀ f ∈ fs, getBits (val b) f.hi f.lo = was f) {g : FieldDef} (hg : g ∈ fs) :
    getBits (val (fs.foldl step b)) g.hi g.lo = new g := by
  induction fs generalizing b with
  | nil => cases hg
  | cons f fs ih =>
    obtain ⟨hfits, hrest, htail⟩ := tidyFields_cons htidy
    obtain ⟨hlo, -⟩ := FieldDef.fits_iff.mp hfits
    have hput := hstep b f (hb f List.mem_cons_self)
    have hkept := hput.getBits_rest htidy hb
    rcases List.mem_cons.mp hg with heq | hg
    · rw [heq, List.foldl_cons, getBits_foldl_apart hstep htail hlo (fun k hk => (hrest k hk).symm) hkept]
      exact hput.getBits_same hfits
    · exact ih htail hkept hg

/-- A pass that puts a value in each field of a tidy list keeps a word one. -/
theorem foldl_fields_lt {fs : List FieldDef} (htidy : tidyFields fs = true) {b : β}
    (hb : ∀ f ∈ fs, getBits (val b) f.hi f.lo = was f) (hlt : val b < 2 ^ 32) : val (fs.foldl step b) < 2 ^ 32 := by
  induction fs generalizing b with
  | nil => exact hlt
  | cons f fs ih =>
    obtain ⟨hfits, -, htail⟩ := tidyFields_cons htidy
    have hput := hstep b f (hb f List.mem_cons_self)
    exact ih htail (hput.getBits_rest htidy hb) (hput.lt hfits hlt)

end

/-! ## A merged write -/

/-- What a write gives a field fits it. -/
theorem FieldDef.written_lt {f : FieldDef} {full lock : Bool} {was new n : Nat} (hwas : was < 2 ^ n) (hnew : new < 2 ^ n) :
    f.written full lock was new < 2 ^ n := by
  have hrw1c : was - (was &&& new) < 2 ^ n := (Nat.sub_le _ _).trans_lt hwas
  have hw1s : was ||| new < 2 ^ n := Nat.or_lt_two_pow hwas hnew
  unfold FieldDef.written
  cases f.acc
  case ro => exact hwas
  case wo => exact hwas
  case rw1c => exact hrw1c
  case w1s => exact hw1s
  case rw => dsimp only; split <;> assumption
  case rwl => dsimp only; split <;> assumption
  case rwp => dsimp only; split <;> assumption

/-- One field merged holds what its access type, the scope rule and the lock rule give it. -/
theorem Merged.puts_field {full lock : Bool} {old v : Nat} {m : Merged} {f : FieldDef}
    (h : getBits m.value f.hi f.lo = getBits old f.hi f.lo) :
    f.Puts (f.written full lock (getBits old f.hi f.lo) (getBits v f.hi f.lo)) m.value
      (Merged.field full lock old v m f).value := by
  refine ⟨FieldDef.written_lt (getBits_lt _ _ _) (getBits_lt _ _ _), ?_⟩
  unfold Merged.field FieldDef.written
  cases f.acc
  case ro => exact .inr ⟨rfl, h⟩
  case wo => exact .inr ⟨rfl, h⟩
  case rw1c => exact .inl rfl
  case w1s => exact .inl rfl
  case rw =>
    cases f.full <;> cases full <;> simp [h]
  case rwp =>
    cases f.full <;> cases full <;> simp [h]
  case rwl =>
    cases f.full <;> cases full <;> cases lock <;> simp [h]

/-- Whether a write would change a field that is for full functions only (R33), written by another. -/
def FieldDef.outOfScope (f : FieldDef) (full : Bool) (old v : Nat) : Bool :=
  f.settable && f.full && !full && decide (getBits v f.hi f.lo ≠ getBits old f.hi f.lo)

/-- Whether a write would change a field behind SETUP_LOCK (R525) that it is in scope of. -/
def FieldDef.lockedOut (f : FieldDef) (full lock : Bool) (old v : Nat) : Bool :=
  decide (f.acc = .rwl) && (!f.full || full) && lock && decide (getBits v f.hi f.lo ≠ getBits old f.hi f.lo)

/-- One field merged notes whether it was out of scope. -/
theorem Merged.viol_field (full lock : Bool) (old v : Nat) (m : Merged) (f : FieldDef) :
    (Merged.field full lock old v m f).viol = (m.viol || f.outOfScope full old v) := by
  unfold Merged.field FieldDef.outOfScope FieldDef.settable
  cases f.acc <;> cases f.full <;> cases full <;> cases lock <;> simp

/-- One field merged notes whether it was locked. -/
theorem Merged.locked_field (full lock : Bool) (old v : Nat) (m : Merged) (f : FieldDef) :
    (Merged.field full lock old v m f).locked = (m.locked || f.lockedOut full lock old v) := by
  unfold Merged.field FieldDef.lockedOut
  cases f.acc <;> cases f.full <;> cases full <;> cases lock <;> simp

/-- A note that each step of a pass may only add is the first one or that of some step. -/
theorem foldl_note {α β : Type} {note : β → Bool} {step : β → α → β} {adds : α → Bool}
    (h : ∀ b x, note (step b x) = (note b || adds x)) (xs : List α) (b : β) :
    note (xs.foldl step b) = (note b || xs.any adds) := by
  induction xs generalizing b with
  | nil => simp
  | cons x xs ih => rw [List.foldl_cons, ih, h, List.any_cons, Bool.or_assoc]

/-- Settles O10: the merge is a pass over fields that share no bit; each holds what `FieldDef.written` gives it, and the two
notes are those of the fields. -/
theorem writeMergesFields : Obligations.WriteMergesFields := by
  intro s f r a v htidy old m lock
  have hstep : ∀ (b : Merged) (fd : FieldDef), getBits b.value fd.hi fd.lo = getBits old fd.hi fd.lo →
      fd.Puts (fd.written (s.isFull f) lock (getBits old fd.hi fd.lo) (getBits v fd.hi fd.lo)) b.value
        (Merged.field (s.isFull f) lock old v b fd).value := fun _ _ h => Merged.puts_field h
  refine ⟨fun fd hfd => ?fields, fun i hi => ?reserved, ?viol, ?locked⟩
  case fields =>
    exact getBits_foldl_field (val := Merged.value) (was := fun fd => getBits old fd.hi fd.lo) hstep htidy
      (fun _ _ => rfl) hfd
  case reserved =>
    simp only [RegDef.reservedBit, List.all_eq_true, Bool.or_eq_true, decide_eq_true_eq] at hi
    exact getBits_foldl_apart (val := Merged.value) (was := fun fd => getBits old fd.hi fd.lo) hstep htidy le_rfl
      (fun fd hfd => (hi fd hfd).symm) fun _ _ => rfl
  case viol =>
    have hviol : m.viol = r.fields.any fun fd => fd.outOfScope (s.isFull f) old v :=
      foldl_note (note := Merged.viol) (Merged.viol_field (s.isFull f) lock old v) r.fields { value := old }
    simp [hviol, FieldDef.outOfScope, and_assoc]
  case locked =>
    have hlocked : m.locked = r.fields.any fun fd => fd.lockedOut (s.isFull f) lock old v :=
      foldl_note (note := Merged.locked) (Merged.locked_field (s.isFull f) lock old v) r.fields { value := old }
    simp [hlocked, FieldDef.lockedOut, and_assoc]

/-! ## A reset of a class -/

/-- A register after a reset of a class: the class's fields hold their reset values, the others what they held. -/
theorem RegDef.getBits_afterReset {r : RegDef} (htidy : tidyFields r.fields = true) (ix : List Nat) (c : ResetClass) (v : Word)
    {fd : FieldDef} (hfd : fd ∈ r.fields) :
    getBits (r.afterReset ix c v).toNat fd.hi fd.lo =
      if fd.cls.contains c then getBits (r.resetVal ix).toNat fd.hi fd.lo else getBits v.toNat fd.hi fd.lo := by
  have hstep : ∀ (x : Nat) (f : FieldDef), getBits (id x) f.hi f.lo = getBits v.toNat f.hi f.lo →
      f.Puts (if f.cls.contains c then getBits (r.resetVal ix).toNat f.hi f.lo else getBits v.toNat f.hi f.lo) (id x)
        (id (if f.cls.contains c then setBits x f.hi f.lo (getBits (r.resetVal ix).toNat f.hi f.lo) else x)) := by
    intro x f h
    split
    · exact ⟨getBits_lt _ _ _, .inl rfl⟩
    · exact ⟨getBits_lt _ _ _, .inr ⟨rfl, h⟩⟩
  have hword := foldl_fields_lt hstep htidy (b := v.toNat) (fun _ _ => rfl) v.isLt
  have hfield := getBits_foldl_field hstep htidy (b := v.toNat) (fun _ _ => rfl) hfd
  rw [← Nat.mod_eq_of_lt hword] at hfield
  rw [RegDef.afterReset, BitVec.toNat_ofNat]
  exact hfield

/-- A register with no field of a class is left by a reset of it. -/
theorem RegDef.afterReset_of_noField {r : RegDef} {c : ResetClass} (h : ∀ fd ∈ r.fields, c ∉ fd.cls) (ix : List Nat)
    (v : Word) :
    r.afterReset ix c v = v := by
  have hpass : ∀ fresh : Nat, r.fields.foldl
      (fun x f => if f.cls.contains c then setBits x f.hi f.lo (getBits fresh f.hi f.lo) else x) v.toNat = v.toNat := by
    intro fresh
    rw [List.foldl_ext _ (fun x _ => x) _ fun x f hf => by simp [h f hf], List.foldl_fixed]
  rw [RegDef.afterReset, hpass, BitVec.ofNat_toNat, BitVec.setWidth_eq]

/-- A key that is not listed reads as unlisted. -/
theorem Assoc.get_unlisted {α : Type} {d : α} {k : Nat} {t : Assoc α} (h : k ∉ t.map Prod.fst) : Assoc.get d k t = d := by
  induction t with
  | nil => rfl
  | cons e t ih =>
    rw [List.map_cons, List.mem_cons, not_or] at h
    rw [Assoc.get, if_neg (Ne.symm h.1), ih h.2]

/-- A register that the register file lists, reset if it is in reach. -/
def RegFile.resetEntry (c : ResetClass) (p : Nat → Bool) (rf : RegFile) (e : Nat × Word) : RegFile :=
  if p e.1 then
    match regAt e.1 with
    | some (r, ix) => rf.write e.1 (r.afterReset ix c (rf.read e.1))
    | none => rf
  else rf

/-- A reset is a pass over the listed registers. -/
theorem RegFile.reset_eq_foldl (c : ResetClass) (p : Nat → Bool) (rf : RegFile) :
    rf.reset c p = List.foldl (RegFile.resetEntry c p) rf rf := rfl

section
variable {c : ResetClass} {p : Nat → Bool} {a : Nat} {r : RegDef} {ix : List Nat} (hat : regAt a = some (r, ix))
include hat

/-- The entry of a register resets it, if it is in reach. -/
theorem RegFile.read_resetEntry_same (rf : RegFile) (v : Word) :
    (rf.resetEntry c p (a, v)).read a = if p a then r.afterReset ix c (rf.read a) else rf.read a := by
  cases hp : p a <;> simp [RegFile.resetEntry, hp, hat, RegFile.read_write_same]

omit hat in
/-- The entry of another register leaves it. -/
theorem RegFile.read_resetEntry_ne {e : Nat × Word} (h : a ≠ e.1) (rf : RegFile) : (rf.resetEntry c p e).read a = rf.read a := by
  unfold RegFile.resetEntry
  split
  · split
    · exact RegFile.read_write_ne rf h
    · rfl
  · rfl

/-- A pass over listed registers resets a register as often as it is listed, if it is in reach. -/
theorem RegFile.read_foldl_resetEntry (es : List (Nat × Word)) (rf : RegFile) :
    RegFile.read (es.foldl (RegFile.resetEntry c p) rf) a =
      (r.afterReset ix c)^[if p a then (es.map Prod.fst).count a else 0] (rf.read a) := by
  induction es generalizing rf with
  | nil => simp
  | cons e es ih =>
    rw [List.foldl_cons, ih, List.map_cons]
    by_cases hkey : a = e.1
    · obtain ⟨k, v⟩ := e
      obtain rfl : a = k := hkey
      rw [RegFile.read_resetEntry_same hat, List.count_cons_self]
      cases p a <;> rfl
    · rw [RegFile.read_resetEntry_ne hkey, List.count_cons_of_ne (Ne.symm hkey)]

/-- A reset leaves a register out of its reach, and resets one in reach that is listed; one that is not listed has its reset
value before and after. -/
theorem RegFile.read_reset (rf : RegFile) :
    ∃ n, (rf.reset c p).read a = (r.afterReset ix c)^[n] (rf.read a) ∧ (p a = false → n = 0) ∧
      (p a = true → n = 0 → rf.read a = r.resetVal ix) := by
  refine ⟨_, RegFile.read_foldl_resetEntry hat rf rf, fun hp => by simp [hp], fun hp hn => ?_⟩
  rw [if_pos hp, List.count_eq_zero] at hn
  rw [RegFile.read, Assoc.get_unlisted hn, regDefault, hat]

end

/-- A register reset any number of times: the fields outside the class stay. -/
theorem RegDef.getBits_afterReset_iterate_other {r : RegDef} (htidy : tidyFields r.fields = true) {ix : List Nat}
    {c : ResetClass} {fd : FieldDef} (hfd : fd ∈ r.fields) (hcls : fd.cls.contains c = false) (n : Nat) (v : Word) :
    getBits ((r.afterReset ix c)^[n] v).toNat fd.hi fd.lo = getBits v.toNat fd.hi fd.lo := by
  induction n generalizing v with
  | zero => rfl
  | succ n ih => rw [Function.iterate_succ_apply, ih, RegDef.getBits_afterReset htidy ix c v hfd, hcls]; rfl

/-- A register reset at least once: the fields of the class hold their reset values. -/
theorem RegDef.getBits_afterReset_iterate_class {r : RegDef} (htidy : tidyFields r.fields = true) {ix : List Nat}
    {c : ResetClass} {fd : FieldDef} (hfd : fd ∈ r.fields) (hcls : fd.cls.contains c = true) (n : Nat) (v : Word) :
    getBits ((r.afterReset ix c)^[n + 1] v).toNat fd.hi fd.lo = getBits (r.resetVal ix).toNat fd.hi fd.lo := by
  rw [Function.iterate_succ_apply', RegDef.getBits_afterReset htidy ix c _ hfd, if_pos hcls]

/-- Settles O11: a register is reset as often as the register file lists it, which changes the class's fields alone; one that
is not listed already has its reset value. -/
theorem resetClassRestores : Obligations.ResetClassRestores := by
  intro rf c p a r ix hat htidy
  obtain ⟨n, hread, hout, hunlisted⟩ := RegFile.read_reset (c := c) (p := p) hat rf
  rw [hread]
  refine ⟨fun hp => ?out, fun hp fd hfd => ?fields, fun hnone => ?none⟩
  case out => rw [hout hp]; rfl
  case fields =>
    cases hcls : fd.cls.contains c with
    | false => exact RegDef.getBits_afterReset_iterate_other htidy hfd hcls n _
    | true =>
      cases n with
      | zero => rw [hunlisted hp rfl]; rfl
      | succ n => exact RegDef.getBits_afterReset_iterate_class htidy hfd hcls n _
  case none => exact Function.iterate_fixed (RegDef.afterReset_of_noField hnone ix _) n

end Sys2Proof.Machine
end

section
/-! PROOFS.  Instructions that compute in the scalar registers (R362, R364 to R366): what an instruction's action does where
nothing stops it, and that its command then completes with it. -/

namespace Sys2Proof.Machine

/-! ## Actions of instructions -/

/-- An action goes on from what the one before it left. -/
theorem Bx.bind_ok {α β : Type} {m : Bx α} {k : α → Bx β} {r r1 : BxRun} {x : α} (h : m r = .ok (x, r1)) :
    (m >>= k) r = k x r1 := by
  change (m r >>= fun y => k y.1 y.2) = _
  rw [h]
  rfl

/-- A register that is not poisoned may steer the task. -/
theorem Bx.ctl_ok {r : BxRun} {n : Nat} (h : (r.p.core.reg n).2 = false) : Bx.ctl n r = .ok ((r.p.core.reg n).1, r) := by
  have hreg : Bx.reg n r = .ok (r.p.core.reg n, r) := rfl
  rw [Bx.ctl, Bx.bind_ok hreg]
  generalize r.p.core.reg n = x at h ⊢
  obtain ⟨v, poison⟩ := x
  obtain rfl : poison = false := h
  rfl

/-- Values that agree modulo 2^64 are the same to a scalar register. -/
theorem ProgCore.setReg_congr {v v' : Nat} (h : v % 2 ^ 64 = v' % 2 ^ 64) (c : ProgCore) (n : Nat) (poison : Bool) :
    c.setReg n v poison = c.setReg n v' poison := by
  have hword : BitVec.ofNat 64 v = BitVec.ofNat 64 v' := BitVec.eq_of_toNat_eq (by simpa using h)
  rw [ProgCore.setReg, ProgCore.setReg, hword]

/-! ## Commands that complete -/

section
variable {ring : Fin 4096} {seq : BitVec 64} {idx : BitVec 16} {s : State} {e : LogEntry} {t : Task} {p : Prog} {w : Insn}
  (hat : s.blk.bexaAt ring.val seq.toNat idx.toNat = some (e, t, p, w))
include hat

/-- A command whose row is an instruction completes as that instruction's action does. -/
theorem State.ends_of_act {c : Instr} {i : BxInsn} (hexec : exec c s = s.act fun b => b.bexa ring seq idx i)
    (his : i.is w = true) {how : BxEnd} {r : BxRun} (hact : i.act w (s.bexaRun e t p) = .ok (how, r)) : s.ends c r how := by
  have hbexa : s.blk.bexa ring seq idx i = (Block.bexaEnd r how).offWork := by
    have hact' : i.act w { s := s.blk.setDbg { s.blk.dbg with work := some (e.ring, e.seq) }, e := e, t := t, p := p } =
      .ok (how, r) := hact
    simp only [Block.bexa, hat, his, Bool.not_true, Bool.false_eq_true, if_false, Block.forWork, hact', Block.offWork]
  rw [State.ends, hexec, State.act_eq, hbexa]

/-- A row of ALU. -/
theorem State.ends_alu {c : Instr} {fn : Nat} {f : Nat → Nat → Nat} (i : BxInsn) (hi : i = alu fn f)
    (hexec : exec c s = s.act fun b => b.bexa ring seq idx i) (hop : w.op = 0x01) (hfn : w.func = fn) {v : Nat}
    (hv : v % 2 ^ 64 = f (p.core.reg w.a).1 (p.core.reg w.b).1 % 2 ^ 64) :
    s.ends c ((s.bexaRun e t p).withCore (p.core.setReg w.d v ((p.core.reg w.a).2 || (p.core.reg w.b).2))) .next := by
  subst hi
  rw [ProgCore.setReg_congr hv]
  exact State.ends_of_act hat hexec (by simp [alu, isFn, hop, hfn]) rfl

/-- A row of form I that computes with an immediate. -/
theorem State.ends_aluImm {c : Instr} {op : Nat} {f : Nat → Insn → Nat} (i : BxInsn) (hi : i = aluImm op f)
    (hexec : exec c s = s.act fun b => b.bexa ring seq idx i) (hop : w.op = op) {v : Nat}
    (hv : v % 2 ^ 64 = f (p.core.reg w.a).1 w % 2 ^ 64) :
    s.ends c ((s.bexaRun e t p).withCore (p.core.setReg w.d v (p.core.reg w.a).2)) .next := by
  subst hi
  rw [ProgCore.setReg_congr hv]
  exact State.ends_of_act hat hexec (by simp [aluImm, isOp, hop]) rfl

/-- A row of SHI. -/
theorem State.ends_shi {c : Instr} {sub : Nat} {f : Nat → Nat → Nat} (i : BxInsn) (hi : i = shi sub f)
    (hexec : exec c s = s.act fun b => b.bexa ring seq idx i) (hop : w.op = 0x06) (hsub : getBits w 7 6 = sub) {v : Nat}
    (hv : v % 2 ^ 64 = f (p.core.reg w.a).1 (getBits w 5 0) % 2 ^ 64) :
    s.ends c ((s.bexaRun e t p).withCore (p.core.setReg w.d v (p.core.reg w.a).2)) .next := by
  subst hi
  rw [ProgCore.setReg_congr hv]
  exact State.ends_of_act hat hexec (by simp [shi, isOp, hop, hsub]) rfl

/-- A branch on registers that are not poisoned. -/
theorem State.ends_branch {c : Instr} {op : Nat} {f : Nat → Nat → Bool} (i : BxInsn) (hi : i = branch op f)
    (hexec : exec c s = s.act fun b => b.bexa ring seq idx i) (hop : w.op = op)
    (hx : (p.core.reg (getBits w 25 21)).2 = false) (hy : (p.core.reg (getBits w 20 16)).2 = false) {how : BxEnd}
    (hhow : how = if f (p.core.reg (getBits w 25 21)).1 (p.core.reg (getBits w 20 16)).1 = true
      then .jump (4 * w.target (p.core.pc / 4)).toNat else .next) : s.ends c (s.bexaRun e t p) how := by
  subst hi
  refine State.ends_of_act hat hexec (by simp [branch, isOp, hop]) ?_
  have hctlx := Bx.ctl_ok (r := s.bexaRun e t p) hx
  have hctly := Bx.ctl_ok (r := s.bexaRun e t p) hy
  change (Bx.ctl (getBits w 25 21) >>= _) _ = _
  rw [Bx.bind_ok hctlx, Bx.bind_ok hctly, hhow]
  rfl

/-- JR to a place in the text. -/
theorem State.ends_jr (hop : w.op = 0x19) (hclean : (p.core.reg w.a).2 = false) (halign : (p.core.reg w.a).1 % 4 = 0)
    (htext : (p.core.reg w.a).1 < 4 * p.text.length) :
    s.ends (.jr ring seq idx) ((s.bexaRun e t p).withCore (p.core.setReg w.d (p.core.pc + 4) false))
      (.jump (p.core.reg w.a).1) := by
  refine State.ends_of_act hat (i := insnJr) rfl (by simp [insnJr, isOp, hop]) ?_
  have hctl := Bx.ctl_ok (r := s.bexaRun e t p) hclean
  have hin : ¬ ((p.core.reg w.a).1 % 4 ≠ 0 ∨ 4 * (s.bexaRun e t p).p.text.length ≤ (p.core.reg w.a).1) :=
    not_or.mpr ⟨not_not.mpr halign, Nat.not_le.mpr htext⟩
  change (get >>= _ : Bx BxEnd) _ = _
  rw [Bx.bind_ok (r1 := s.bexaRun e t p) (x := s.bexaRun e t p) rfl, Bx.bind_ok hctl]
  exact congrFun (if_neg hin) _

/-- CSR with imm[15] clear only reads. -/
theorem State.ends_csrRead (hop : w.op = 0x1A) (hkind : getBits w 15 15 = 0) {old : Nat}
    (hold : (s.bexaRun e t p).csr (getBits w 11 0) = some old) :
    s.ends (.csrRead ring seq idx) ((s.bexaRun e t p).withCore (p.core.setReg w.d old false)) .next := by
  refine State.ends_of_act hat (i := insnCsrRead) rfl (by simp [insnCsrRead, isOp, hop, hkind]) ?_
  change bxCsr w _ = _
  rw [bxCsr, Bx.bind_ok (r1 := s.bexaRun e t p) (x := s.bexaRun e t p) rfl]
  dsimp only
  rw [hold]
  exact congrFun (if_neg (by rw [hkind]; decide)) _

/-- A write of ESEL. -/
theorem State.ends_csrWrite_esel (hop : w.op = 0x1A) (hkind : getBits w 15 15 = 1) (hclean : (p.core.reg w.a).2 = false)
    (hn : getBits w 11 0 = 0x008) (hlo : 1 ≤ (p.core.reg w.a).1) (hhi : (p.core.reg w.a).1 < 16) :
    s.ends (.csrWrite ring seq idx) ((s.bexaRun e t p).withCore
      (({ p.core with esel := (p.core.reg w.a).1 } : ProgCore).setReg w.d p.core.esel false)) .next := by
  refine State.ends_of_act hat (i := insnCsrWrite) rfl (by simp [insnCsrWrite, isOp, hop, hkind]) ?_
  have hold : (s.bexaRun e t p).csr 0x008 = some p.core.esel := rfl
  have hctl := Bx.ctl_ok (r := s.bexaRun e t p) hclean
  have hrange : ¬ ((p.core.reg w.a).1 = 0 ∨ 16 ≤ (p.core.reg w.a).1) := by omega
  change bxCsr w _ = _
  rw [bxCsr, Bx.bind_ok (r1 := s.bexaRun e t p) (x := s.bexaRun e t p) rfl]
  dsimp only
  rw [hn, hold]
  refine (congrFun (if_pos hkind) _).trans ((congrFun (if_neg (by decide)) _).trans ?_)
  rw [Bx.bind_ok hctl]
  exact (congrFun (if_pos rfl) _).trans (congrFun (if_neg hrange) _)

/-- A write of RMODE. -/
theorem State.ends_csrWrite_rmode (hop : w.op = 0x1A) (hkind : getBits w 15 15 = 1) (hclean : (p.core.reg w.a).2 = false)
    (hn : getBits w 11 0 = 0x009) (hhi : (p.core.reg w.a).1 < 16) (hmode : (p.core.reg w.a).1 % 8 < 5) :
    s.ends (.csrWrite ring seq idx) ((s.bexaRun e t p).withCore
      (({ p.core with rmode := (p.core.reg w.a).1 } : ProgCore).setReg w.d p.core.rmode false)) .next := by
  refine State.ends_of_act hat (i := insnCsrWrite) rfl (by simp [insnCsrWrite, isOp, hop, hkind]) ?_
  have hold : (s.bexaRun e t p).csr 0x009 = some p.core.rmode := rfl
  have hctl := Bx.ctl_ok (r := s.bexaRun e t p) hclean
  have hrange : ¬ (16 ≤ (p.core.reg w.a).1 ∨ 5 ≤ (p.core.reg w.a).1 % 8) := by omega
  change bxCsr w _ = _
  rw [bxCsr, Bx.bind_ok (r1 := s.bexaRun e t p) (x := s.bexaRun e t p) rfl]
  dsimp only
  rw [hn, hold]
  refine (congrFun (if_pos hkind) _).trans ((congrFun (if_neg (by decide)) _).trans ?_)
  rw [Bx.bind_ok hctl]
  exact (congrFun (if_neg (by decide)) _).trans (congrFun (if_neg hrange) _)

/-- LUI. -/
theorem State.ends_lui (hop : w.op = 0x07) :
    s.ends (.lui ring seq idx) ((s.bexaRun e t p).withCore (p.core.setReg w.d (w.simm * 2 ^ 16 % 2 ^ 64) false)) .next := by
  rw [ProgCore.setReg_congr (Nat.mod_mod _ _)]
  exact State.ends_of_act hat (i := insnLui) rfl (by simp [insnLui, isOp, hop]) rfl

/-- JAL. -/
theorem State.ends_jal (hop : w.op = 0x18) :
    s.ends (.jal ring seq idx) ((s.bexaRun e t p).withCore (p.core.setReg 31 (p.core.pc + 4) false))
      (.jump (4 * w.target (p.core.pc / 4)).toNat) :=
  State.ends_of_act hat (i := insnJal) rfl (by simp [insnJal, isOp, hop]) rfl

/-- FENCE. -/
theorem State.ends_sysFence (hop : w.op = 0x1B) (hfn : w.func = 6) :
    s.ends (.sysFence ring seq idx) (s.bexaRun e t p) .next :=
  State.ends_of_act hat (i := insnSysFence) rfl (by simp [insnSysFence, sys, isFn, hop, hfn]) rfl

end

/-! ## What the rows compute -/

/-- A truth value as SLT and SLTU give it. -/
theorem toNat_decide_eq_ite (P : Prop) [Decidable P] : (if P then 1 else 0) = (decide P).toNat := by
  by_cases h : P <;> simp [h]

/-- A remainder by zero is the dividend. -/
theorem mod_eq_ite (a b : Nat) : (if b = 0 then a else a % b) = a % b := by
  split
  next h => rw [h, Nat.mod_zero]
  next => rfl

/-- Settles O30: each row has the shape of one of the lemmas above, with its own result. -/
theorem aluResults : Obligations.AluResults := by
  intro ring seq idx s e t p w hat r core a b bad gives x y clean there
  refine ⟨fun hop => ?alu, fun hop => ?addi, fun hop => ?andi, fun hop => ?ori, fun hop => ?xori, fun hop => ?shi,
    State.ends_lui hat, fun hclean => ?branches, State.ends_jal hat, State.ends_jr hat,
    fun hop hkind _ => State.ends_csrRead hat hop hkind,
    fun hop hkind hclean => ⟨State.ends_csrWrite_esel hat hop hkind hclean, State.ends_csrWrite_rmode hat hop hkind hclean⟩,
    State.ends_sysFence hat⟩
  case alu =>
    refine ⟨fun hfn => ?add, fun hfn => ?sub, fun hfn => ?and, fun hfn => ?or, fun hfn => ?xor, fun hfn => ?sll,
      fun hfn => ?srl, fun hfn => ?sra, fun hfn => ?slt, fun hfn => ?sltu, fun hfn => ?mul, fun hfn => ?mulhu,
      fun hfn => ?divu, fun hfn => ?remu, fun hfn => ?min, fun hfn => ?max⟩
    case add => exact State.ends_alu hat insnAluAdd rfl rfl hop hfn (Nat.mod_mod _ _)
    case sub => exact State.ends_alu hat insnAluSub rfl rfl hop hfn (Nat.mod_mod _ _)
    case and => exact State.ends_alu hat insnAluAnd rfl rfl hop hfn rfl
    case or => exact State.ends_alu hat insnAluOr rfl rfl hop hfn rfl
    case xor => exact State.ends_alu hat insnAluXor rfl rfl hop hfn rfl
    case sll => exact State.ends_alu hat insnAluSll rfl rfl hop hfn (Nat.mod_mod _ _)
    case srl => exact State.ends_alu hat insnAluSrl rfl rfl hop hfn rfl
    case sra => exact State.ends_alu hat insnAluSra rfl rfl hop hfn rfl
    case slt => exact State.ends_alu hat insnAluSlt rfl rfl hop hfn (congrArg (· % 2 ^ 64) (toNat_decide_eq_ite _))
    case sltu => exact State.ends_alu hat insnAluSltu rfl rfl hop hfn (congrArg (· % 2 ^ 64) (toNat_decide_eq_ite _))
    case mul => exact State.ends_alu hat insnAluMul rfl rfl hop hfn (Nat.mod_mod _ _)
    case mulhu => exact State.ends_alu hat insnAluMulhu rfl rfl hop hfn rfl
    case divu => exact State.ends_alu hat insnAluDivu rfl rfl hop hfn rfl
    case remu => exact State.ends_alu hat insnAluRemu rfl rfl hop hfn (congrArg (· % 2 ^ 64) (mod_eq_ite _ _))
    case min => exact State.ends_alu hat insnAluMin rfl rfl hop hfn rfl
    case max => exact State.ends_alu hat insnAluMax rfl rfl hop hfn rfl
  case addi => exact State.ends_aluImm hat insnAddi rfl rfl hop (Nat.mod_mod _ _)
  case andi => exact State.ends_aluImm hat insnAndi rfl rfl hop rfl
  case ori => exact State.ends_aluImm hat insnOri rfl rfl hop rfl
  case xori => exact State.ends_aluImm hat insnXori rfl rfl hop rfl
  case shi =>
    refine ⟨fun hsub => ?sll, fun hsub => ?srl, fun hsub => ?sra⟩
    case sll => exact State.ends_shi hat insnShiSll rfl rfl hop hsub (Nat.mod_mod _ _)
    case srl => exact State.ends_shi hat insnShiSrl rfl rfl hop hsub rfl
    case sra =>
      have hamount : getBits w 5 0 % 64 = getBits w 5 0 := Nat.mod_eq_of_lt (getBits_lt w 5 0)
      refine State.ends_shi hat insnShiSra rfl rfl hop hsub ?_
      rw [shiftRightA, hamount]
  case branches =>
    obtain ⟨hx, hy⟩ := hclean
    refine ⟨fun hop => ?beq, fun hop => ?bne, fun hop => ?blt, fun hop => ?bge, fun hop => ?bltu, fun hop => ?bgeu⟩
    case beq => exact State.ends_branch hat insnBeq rfl rfl hop hx hy (by simp only [decide_eq_true_eq]; rfl)
    case bne => exact State.ends_branch hat insnBne rfl rfl hop hx hy (by simp only [decide_eq_true_eq, ite_not]; rfl)
    case blt => exact State.ends_branch hat insnBlt rfl rfl hop hx hy (by simp only [decide_eq_true_eq]; rfl)
    case bge =>
      exact State.ends_branch hat insnBge rfl rfl hop hx hy (by simp only [decide_eq_true_eq, ← not_lt, ite_not]; rfl)
    case bltu => exact State.ends_branch hat insnBltu rfl rfl hop hx hy (by simp only [decide_eq_true_eq]; rfl)
    case bgeu =>
      exact State.ends_branch hat insnBgeu rfl rfl hop hx hy (by simp only [decide_eq_true_eq, ← not_lt, ite_not]; rfl)

end Sys2Proof.Machine
end
